-- ==== Sys2Proof/Word.lean ====
section
/-! DEFINITION. The word types of the BX2448 and the names of its instances.
Every register is 16 bits wide, addressed by an 8-bit page and an 8-bit offset (R1). -/

namespace Sys2Proof

/-- A register word (R1). -/
abbrev Word := BitVec 16
/-- One byte of the storeroom or of a two-wire transaction. -/
abbrev Byte := BitVec 8
/-- A converter word before truncation: a slice's decimator result, two's complement (R259). -/
abbrev Raw := BitVec 24

/-- Legs LEG0 to LEG23 (R52). -/
abbrev Leg := Fin 24
/-- Trains TRAIN0 to TRAIN7. -/
abbrev Train := Fin 8
/-- Battery ports BAT0 to BAT3. -/
abbrev BPort := Fin 4
/-- Sources SRC0 to SRC3. -/
abbrev Src := Fin 4
/-- Loops LOOP0 to LOOP15. -/
abbrev LoopIx := Fin 16
/-- Section slots 0 to 95. -/
abbrev Slot := Fin 96
/-- Oscillators 0 to 3. -/
abbrev OscIx := Fin 4
/-- Measured inputs and slices S0 to S15. -/
abbrev Slice := Fin 16
/-- The eighteen converters: S0 to S15, 16 the spare SP, 17 the auxiliary AX (R255). -/
abbrev Conv := Fin 18
/-- Clerks CK0 to CK7. -/
abbrev ClerkIx := Fin 8
/-- Tally timers TL0 to TL15. -/
abbrev TallyIx := Fin 16
/-- Ring positions 0 to 7. -/
abbrev Pos := Fin 8

/-- Replace one entry of a fixed family of units. -/
def upd {α : Type} {n : Nat} (v : Vector α n) (i : Fin n) (x : α) : Vector α n := v.set i.val x i.isLt

/-- The entry of every unit of a family, by its number. -/
def tab {α : Type} {n : Nat} (f : Fin n → α) : Vector α n := Vector.ofFn f

end Sys2Proof
end

