-- ==== Sys2Proof/Command.lean ====
section
/-! DEFINITION. The operands of the commands that are neither numbers nor words (log entry 2). -/

namespace Sys2Proof

/-- The two host ports that have banks of their own (R22, R30). -/
inductive Port where
  | spi | twm
  deriving DecidableEq, Repr, Inhabited

/-- The fence units of R392. Converter 16 is the spare, 17 the auxiliary. -/
inductive FenceUnit where
  | leg (n : Leg)
  | train (t : Train)
  | conv (i : Conv)
  | loop (l : LoopIx)
  | clerk (c : ClerkIx)
  | supv
  | ringE
  | ringW
  | spi
  | twm
  | twp
  | store
  deriving DecidableEq, Repr

/-- What a checker or the overrun detector reports of a scheduled step (R7, R36, R139, R398). The physical cause is outside
the model, so it is an operand. `cyc` is the tick cycle of the trip. -/
inductive CheckFault where
  | none
  | parity (cyc : Nat)
  | ecc1
  | ecc2 (cyc : Nat)
  | selfCheck (cyc : Nat)
  | overrun (cyc : Nat)
  deriving DecidableEq, Repr

/-- What the checkers find over cycles 776-783, and where: the train being processed (R402) and the slot recorded (R139). -/
structure TrainCheck where
  train : Train
  slot : Slot
  fault : CheckFault
  deriving DecidableEq, Repr

/-- The levels of the strap pins that BOOT samples: `SAFE_Ss`, `SAFE_Bp`, `ADDR3`-`ADDR0` (R175, R209, R463, R512), and
whether `CLKIN` shows its 64 edges (R517). -/
structure Straps where
  src : Vector Bool 4 := Vector.replicate 4 false
  bat : Vector Bool 4 := Vector.replicate 4 false
  addr : Fin 16 := 0
  clkin : Bool := false
  deriving DecidableEq, Repr, Inhabited

/-- What the analogue world gives at a cycle 0: the raw 24-bit results of converters S0-S15 and SP (R259; in pair mode the
odd converter's comes with PAIR_ODD_WORD_PRODUCED), the levels of the presence contacts (R206), and those of the strap pins, which matter
to a reset in this cycle 0 alone (R175). -/
structure TickInputs where
  raw : Vector Raw 17
  pres : Vector Bool 4
  straps : Straps
  deriving DecidableEq, Repr

/-- What a tap calibration run measured, pass by pass (R361-R364): for a train five results per leg (the cell counts of the four edges,
then t_m) in leg order, for a source UV and OV t_m, for the ring line its cell count. -/
structure CalResults where
  first : List Int
  second : List Int
  deriving DecidableEq, Repr

/-- What the reading of a storeroom word meets: good, one bit corrected, or uncorrectable with its raw word (R492). -/
inductive StoreEcc where
  | good
  | corrected
  | bad (raw : Word)
  deriving DecidableEq, Repr

/-- What the device finds as it reads back what it has programmed, or blank-checks a sector (R492): the words, by offset, that read
otherwise than they should; how many single-bit errors were corrected; whether a word was uncorrectable. -/
structure ArrayRead where
  bad : List (Nat × Word) := []
  corrected : Nat := 0
  uncorrectable : Bool := false
  deriving DecidableEq, Repr

/-- What a calibration save finds (R375, R492): in the blank check of its sector, where it erases one, and in the read-back of its record. -/
structure SaveRead where
  erase : ArrayRead := {}
  prog : ArrayRead := {}
  deriving DecidableEq, Repr

/-- What a readmission self-check finds (R392): passed or failed; of the storeroom, what its read-back and its blank check of the
device-reserved sector find (R505). -/
inductive SelfTest where
  | pass
  | fail
  | store (prog erase : ArrayRead)
  deriving DecidableEq, Repr

/-- How a pack-bus transaction ended on the wire (R476-R481): whole, with the bytes that the target sent after addr+R, the PEC byte among
them; or with a NACK of the address or of a data byte. -/
inductive PbWire where
  | whole (rx : List Byte)
  | nackAddr
  | nackData
  deriving DecidableEq, Repr

/-- How a two-wire transaction on the management target ends (R464-R468): with a STOP, with a repeated START, with Sr or P at an
acknowledge or within a byte, or with P before the offset byte of a pointer. -/
inductive TwmEnd where
  | stop
  | restart
  | atAck
  | inByte
  | shortPointer
  deriving DecidableEq, Repr

/-- Which part of a bus frame a command carries, where cycle 0 of a tick cuts the frame (R10, R12): all of it, or its beginning, a piece
between two cuts, or its end. -/
inductive FramePart where
  | whole | first | middle | last
  deriving DecidableEq, Repr

/-- Does the frame begin in this part? -/
def FramePart.begins (g : FramePart) : Bool := g = .whole || g = .first
/-- Does the frame end in this part? -/
def FramePart.ends (g : FramePart) : Bool := g = .whole || g = .last

/-- How an SPI frame, or a part of one, stops: CS# rises inside a further word (and CRC byte) or not (R455); which part it is; and whether CS#
rises before its header is whole, then inside one of the header's words or its CRC byte by `inWord` (R460). -/
structure SpiCut where
  inWord : Bool
  piece : FramePart
  short : Bool := false
  deriving DecidableEq, Repr

/-- How a two-wire read, or a part of one, stops: its end on the wire, and which part it is (R464). -/
structure TwmCut where
  stop : TwmEnd
  piece : FramePart
  deriving DecidableEq, Repr

/-- The bytes of a peer's read, or of a part of one (R482). -/
structure PeerBytes where
  n : Nat
  piece : FramePart
  deriving DecidableEq, Repr

/-- A fine conversion that completes: its raw result and the cycle of the tick at which it completes (R263, R264). -/
structure FineDone where
  raw : Raw
  cyc : Fin 960
  deriving DecidableEq, Repr

/-- An instant of a leg's period: cycles since the control switch last changed, and CSP - CSN then in 10 nV (R60-R63, R78). -/
structure LegInstant where
  cyc : Nat
  v : Int
  deriving DecidableEq, Repr

/-- An event of a Tally and the cycle of the tick at which it falls: a count edge (R330), or the actions of a match or wrap (R339). -/
structure TallyEdge where
  tally : TallyIx
  cyc : Nat
  deriving DecidableEq, Repr

/-- A level change of pin `TINm` as the filter setting `filt` passes it, and the cycle of the tick at which it is detected (R331). -/
structure TinEdge where
  pin : Fin 4
  filt : Fin 16
  cyc : Nat
  deriving DecidableEq, Repr

/-- A high half that loads a count or compare, and the cycle of the load (R337). -/
structure TallyLoad where
  val : Word
  cyc : Nat
  deriving DecidableEq, Repr

/-- A data word of an SPI write: its two bytes as a word, the CRC byte received after it (ignored without CRC), the cycle at which
it completes (R454, R459). -/
structure SpiWord where
  data : Word
  crc : Byte
  cyc : Nat
  deriving DecidableEq, Repr

/-- The pointer bytes of a two-wire transaction: CMD, page, offset (R464). -/
structure TwmPtr where
  cmd : Byte
  page : Byte
  off : Byte
  deriving DecidableEq, Repr

/-- What ends a loop-back (R532): its measured value, its error count, and whether the rest of its pass condition holds, which neither of them
shows (the words echoed to the host, the levels of pads, the zero of a slice, each of the periods). -/
structure LoopResult where
  rest : Bool
  errors : Nat
  meas : Word
  deriving DecidableEq, Repr

/-- A wake source (R521): the pin at a level for 2 slow cycles, the two-wire address match, source s, window comparator w. -/
inductive WakeSource where
  | pin (high : Bool)
  | twm
  | src (i : Src)
  | axw (w : Fin 4)
  deriving DecidableEq, Repr

/-- An announce block (R413, R417): position, priority, ring state code, READY. -/
structure Announce where
  pos : Pos
  mprio : Fin 16
  state : Fin 16
  ready : Bool
  deriving DecidableEq, Repr

/-- One train in a slot: legs mapped, available, switching (R417). -/
structure SlotTrain where
  mapped : Nat := 0
  avail : Nat := 0
  on : Nat := 0
  iest : Int := 0
  deriving DecidableEq, Repr, Inhabited

/-- A slot of the tick frame (R417). `good`: its check word is right. -/
structure RingSlot where
  good : Bool := true
  valid : Bool := true
  late : Bool := false
  leave : Bool := false
  dev : Nat := 0
  calHold : Nat := 0
  tick : Word := 0
  faults : BitVec 32 := 0
  alert : Option (Nat × Nat) := none
  trains : Vector SlotTrain 8 := Vector.replicate 8 {}
  digest : Nat := 0
  east : Option Announce := none
  west : Option Announce := none
  deriving DecidableEq, Repr

/-- One entry of a batch: a register and its value (R416). -/
structure BatchEntry where
  page : Nat
  off : Nat
  val : Word
  deriving DecidableEq, Repr

/-- A tick frame as it reaches or leaves the device (R416). `markerOk`, `batchOk`: the check words are right. `east`: it
arrives on port E. `pherr` is the phase error of its marker in taps (R423). -/
structure TickFrame where
  east : Bool
  markerOk : Bool
  hop : Nat
  mpos : Pos
  line : Bool
  num : Nat
  memb : Nat
  ready : Nat
  batchOk : Bool
  entries : List BatchEntry
  join : Option (Pos × Word)
  drop : Nat
  heal : Option Word
  digest : Nat
  slots : Vector (Option RingSlot) 8
  pherr : Int
  deriving DecidableEq, Repr

/-- One train of a demand frame (R418). -/
structure DemandTrain where
  d : Int := 0
  share : Nat := 0
  code : Nat := 0
  state : Nat := 0
  dir : Bool := false
  de : Bool := false
  duty : Bool := false
  ipred : Bool := false
  ceil : Bool := false
  navail : Nat := 0
  non : Nat := 0
  deriving DecidableEq, Repr, Inhabited

/-- A demand frame (R418). `ok`: its check word is right. -/
structure DemandFrame where
  ok : Bool
  mpos : Pos
  num : Word
  held : Bool
  span : Nat
  trains : Vector DemandTrain 8
  deriving DecidableEq, Repr

/-- An image frame (R413, R446): whether its check words are right, what it carries of the configuration image (register
writes, and AUTORUN of its header) or of the cascade scope, and whether it is the last of its transfer. -/
structure ImageFrame where
  ok : Bool
  scope : Bool
  entries : List BatchEntry
  auto : Bool
  last : Bool
  deriving DecidableEq, Repr

/-- The operand of a clerk instruction in operand form: an immediate or a register A to D (R304). -/
inductive CkOp where
  | imm (v : Word)
  | reg (r : Fin 4)
  deriving DecidableEq, Repr

end Sys2Proof
end

