-- ==== Sys2Proof/Syntax.lean ====
section
/-! DEFINITION. The commands: one constructor per row of the opcode table, in its order, with its operands. What the outside world
or the analogue side decides is an operand (log entry 2). -/

namespace Sys2Proof

/-- The commands of the BX2448. -/
inductive Instr where
  /-- TICK_BOUNDARY: At cycle 0 of every tick the device latches samples, applies staged commits and swaps the published
  snapshot (R6). -/
  | tickBoundary (inp : TickInputs)
  /-- CE_SECTION_SLOT: In each eight-cycle slot the CE evaluates one section of an active loop and updates its states (R108).
  -/
  | ceSectionSlot (i : Slot) (f : CheckFault)
  /-- SUPERVISOR_MODEL_RUN: The supervisor runs every train model on the latched samples and evaluates its residuals (R146).
  -/
  | supervisorModelRun (f : CheckFault)
  /-- TRAIN_PROCESSING: At cycles 776–783 each train takes its selector result, applies overrides, fold-back, ceiling and
  shedding, and computes leg shares (R73). -/
  | trainProcessing (f : TrainCheck)
  /-- DEMAND_SHADOW_WRITE: At cycle 784 the leg shares are written to the shadows and TR_DEM and TR_CEIL are set (R73). -/
  | demandShadowWrite
  /-- CLERK_SLOT: Each clerk runs up to four instructions in its 12-cycle slot (R302). -/
  | clerkSlot (c : ClerkIx) (pass : Bool) (f : CheckFault)
  /-- NOP: The clerk does nothing for one instruction (R305). -/
  | nop (c : ClerkIx)
  /-- LD: The clerk loads a register from the published snapshot (R305). -/
  | ld (c : ClerkIx) (sx : Bool) (d : Fin 4) (page : Byte) (x : Bool) (off : Byte)
  /-- LDI: The clerk loads an immediate into a register (R305). -/
  | ldi (c : ClerkIx) (d : Fin 4) (hi : Bool) (i : Word)
  /-- ST: The clerk stages a write of a register into its commit unit (R312). -/
  | st (c : ClerkIx) (r : Fin 4) (page : Byte) (x : Bool) (off : Byte)
  /-- ADD: The clerk adds an operand to a register (R305). -/
  | add (c : ClerkIx) (d : Fin 4) (o : CkOp)
  /-- SUB: The clerk subtracts an operand from a register (R305). -/
  | sub (c : ClerkIx) (d : Fin 4) (o : CkOp)
  /-- AND: The clerk ands an operand into a register (R305). -/
  | and (c : ClerkIx) (d : Fin 4) (o : CkOp)
  /-- OR: The clerk ors an operand into a register (R305). -/
  | or (c : ClerkIx) (d : Fin 4) (o : CkOp)
  /-- SH: The clerk shifts a register by a signed amount (R306). -/
  | sh (c : ClerkIx) (a : Bool) (d : Fin 4) (o : CkOp)
  /-- CMP: The clerk compares a register with an operand and sets the flags (R305). -/
  | cmp (c : ClerkIx) (d : Fin 4) (o : CkOp)
  /-- BR: The clerk branches when its condition holds (R307). -/
  | br (c : ClerkIx) (k : Fin 8) (target : Nat)
  /-- WAIT: The clerk ends its tick and waits a number of ticks (R308). -/
  | wait (c : ClerkIx) (o : CkOp)
  /-- WAITC: The clerk waits for a snapshot bit or a timer condition (R309). -/
  | waitc (c : ClerkIx) (p : Bool) (t : Fin 4) (page : Byte) (b : Fin 16) (mode : Fin 3) (off : Byte)
  /-- WAITC_RETEST: A waiting WAITC re-tests its condition as the first instruction of its slot (R309). -/
  | waitcRetest (c : ClerkIx)
  /-- WAIT_END: A clerk's wait count reaches 0 and it resumes from the next slot (R308). -/
  | waitEnd (c : ClerkIx)
  /-- EVT: The clerk posts an event record to the queue and optionally the ledger (R315). -/
  | evt (c : ClerkIx) (r : Fin 4) (l : Bool) (code : Word)
  /-- TSTART: The clerk loads one of its tick timers (R310). -/
  | tstart (c : ClerkIx) (t : Fin 4) (unit : Fin 3) (o : CkOp)
  /-- TCHK: The clerk tests whether a timer has expired (R305). -/
  | tchk (c : ClerkIx) (t : Fin 4)
  /-- PBR: The clerk requests a pack-bus read (R318). -/
  | pbr (c : ClerkIx) (w : Bool) (a : BitVec 7) (cmd : Byte)
  /-- PBW: The clerk requests a pack-bus write (R318). -/
  | pbw (c : ClerkIx) (w : Bool) (r : Fin 4) (a : BitVec 7) (cmd : Byte)
  /-- HALT: The clerk stops in HALTED (R301). -/
  | halt (c : ClerkIx)
  /-- ILLEGAL_INSTRUCTION: An illegal instruction stops the clerk, discards its unit with cause ILLEGAL and fences it (R323).
  -/
  | illegalInstruction (c : ClerkIx) (w : BitVec 32)
  /-- FAULT_DECISION: At cycles 896–899 the collector decides the reactions and fences of the newly latched bits (R387). -/
  | faultDecision (f : CheckFault)
  /-- COMMIT_DECISION: At cycles 900–943 the master validates cascade-scope units and fills the batch (R427). -/
  | commitDecision (f : CheckFault)
  /-- COMMIT_VALIDATION: At cycles 944–959 every commit unit is validated and a failing unit is discarded whole (R17). -/
  | commitValidation (f : CheckFault)
  /-- LARDER_RECORD: At cycle 959 the larder writes the tick record (R502). -/
  | larderRecord (f : CheckFault)
  /-- SPANNING_DEMAND_APPLY: At cycle 240 every device writes the master's demand frame into the shadows of its spanning legs
  (R433). -/
  | spanningDemandApply
  /-- LEG_VALLEY: At its valley a leg moves its shadow values to active and begins a period (R56). -/
  | legValley (n : Leg) (v : Int)
  /-- BOOTSTRAP_RELEASE: At every crest a held-on high-side switch is released for 16 cycles (R71). -/
  | bootstrapRelease (n : Leg)
  /-- DEAD_TIME_END: After the dead time the next switch of the leg turns on (R59). -/
  | deadTimeEnd (n : Leg)
  /-- BLANKING_END: After L_BLANK cycles the peak and zero-cross comparators are armed (R60). -/
  | blankingEnd (n : Leg) (v : Int)
  /-- PEAK_COMPARATOR_TRIP: An unblanked peak trip drives the control switch low within 12 ns (R62). -/
  | peakComparatorTrip (n : Leg) (ton : LegInstant)
  /-- ZERO_CROSS_TRIP: In diode emulation the zero-cross trip turns the rectifier off until the next valley (R63). -/
  | zeroCrossTrip (n : Leg) (tzc : LegInstant)
  /-- TONMAX_END: The control switch is turned off at TR_TONMAX if it has not tripped (R66). -/
  | tonmaxEnd (n : Leg)
  /-- DUTY_ON_TIME_END: In DUTY mode the control switch turns off at the end of its centred on-time (R68). -/
  | dutyOnTimeEnd (n : Leg)
  /-- SENSE_TEST_END: The open-wire sense test currents stop at cycle 240 of the PREBIAS tick (R64). -/
  | senseTestEnd
  /-- DRIVER_FAULT: DFLT_n low for 2 cycles with DFLT_EN = 1 sets DFLT of the leg (R96). -/
  | driverFault (n : Leg)
  /-- TRAIN_STOP_END: After TR_STOP_TK ticks of ramp the train enters OFF (R88). -/
  | trainStopEnd (t : Train)
  /-- TRAIN_REVERSE_COMPLETE: Two ticks after a reversal began the train writes the new signed demand and returns to RUN
  (R89). -/
  | trainReverseComplete (t : Train)
  /-- TRAIN_SHED: When the shed delay counter reaches TR_SHED_DLY the train ramps out its highest on leg (R92). -/
  | trainShed (t : Train)
  /-- SHED_OFF_STEP: One tick after the ramp-out the leaving leg is switched off (R92). -/
  | shedOffStep (t : Train)
  /-- SHARE_DEVIATION: A leg estimate that deviates beyond TR_SHARE_TH for 64 ticks sets SHARE_DEV (R80). -/
  | shareDeviation (n : Leg)
  /-- PENDING_CONFIG_ADOPT: Pending P fields are adopted once every train they concern is in OFF (R57). -/
  | pendingConfigAdopt
  /-- OSCILLATOR_STOP: A stopping oscillator reaches a zero crossing and its output becomes 0 (R138). -/
  | oscillatorStop (o : OscIx)
  /-- PULSE_SETPOINT_TIMEOUT: With no edge for LP_SP_TMO ticks a pulse set-point falls back to LP_SP_FALLBACK (R119). -/
  | pulseSetpointTimeout (l : LoopIx)
  /-- SUBSTITUTION_TIMEOUT: When SVt_SUBTK reaches SUB_MAX the train enters HOLD (R165). -/
  | substitutionTimeout (t : Train)
  /-- SPARE_CONNECT: The spare is connected to a blamed slice's input once its state allows (R159). -/
  | spareConnect
  /-- ALTERNATIVE_ACCEPT: An alternative that agrees through its whole window is accepted and the train runs degraded (R161).
  -/
  | alternativeAccept (i : Slice)
  /-- SOURCE_UV_FIRE: The UV comparator of a source fires when its pin falls below threshold (R179). -/
  | sourceUvFire (i : Src)
  /-- SOURCE_OV_FIRE: The OV comparator fires and drives SRC_EN_s inactive within 8 cycles, setting OVOFF (R181). -/
  | sourceOvFire (i : Src)
  /-- SOURCE_COMPARATOR_CLEAR: A source comparator clears when the pin passes back beyond its hysteresis (R179). -/
  | sourceComparatorClear (i : Src) (ov : Bool)
  /-- NODE_RAMP_START: After SRC_NODE_RET ticks with an enabled source in window the node enters RAMP (R183). -/
  | nodeRampStart (k : Fin 2)
  /-- NODE_LIVE: When the ramp value reaches 32767 the node enters LIVE (R183). -/
  | nodeLive (k : Fin 2)
  /-- SOURCE_LIST_STALL: With PASS unchanged for 64 ticks the device sets LISTSTALL (R187). -/
  | sourceListStall
  /-- RIDE_THROUGH_TAKEOVER: The CE takes over the preset trains at cycle 784 of the next tick with the supplement loop
  preloaded (R200). -/
  | rideThroughTakeover
  /-- GUARD_TRIP: A guard condition that holds for its count trips and inhibits, releases or forces FAULT (R232). -/
  | guardTrip (p : BPort)
  /-- CHARGE_TIMEOUT: The charge timer reaches its limit and forces FAULT with cause TIMEOUT (R237). -/
  | chargeTimeout (p : BPort)
  /-- PRECHARGE_TIMEOUT: The pre-charge timer reaches its limit and forces FAULT with cause PRE_TIMEOUT (R237). -/
  | prechargeTimeout (p : BPort)
  /-- REMOVAL_OVC: The OVC comparator detects a string removal and stops the port's legs within 40 cycles (R239). -/
  | removalOvc (p : BPort)
  /-- PRESENCE_LOST: PRES_p at its absent level for 16 cycles detects a removal (R239). -/
  | presenceLost (p : BPort)
  /-- REINSERTION: After presence holds for BP_INS_DB × 256 ticks an ABSENT port returns to QUAL (R242). -/
  | reinsertion (p : BPort)
  /-- BP_RESTART: A RESTART moves a FAULT port to QUAL unless a latched trip condition persists (R226). -/
  | bpRestart (p : BPort)
  /-- BP_ZLEARN: A ZLEARN request arms the learning of the impedance temperature reference (R251). -/
  | bpZlearn (p : BPort)
  /-- PROBE_RESULT: At the end of the probe window the device computes and publishes the impedance magnitude and phase
  (R247). -/
  | probeResult (p : BPort)
  /-- GUARD_LOCK_SET: A write of 1 to GUARD_LOCK.LOCK locks the guard until reset (R229). -/
  | guardLockSet
  /-- FINE_CONVERSION_DONE: A fine conversion completes and its result is latched at the next cycle 0 (R263). -/
  | fineConversionDone (i : Slice) (r : FineDone)
  /-- SL_START: SL_CTRL.START triggers a one-shot fine conversion at the boundary (R264). -/
  | slStart (i : Slice)
  /-- SL_OVR_CLR: SL_CTRL.OVR_CLR clears SL_OVR (R295). -/
  | slOvrClr (i : Slice)
  /-- OPEN_WIRE_DETECT: A fast word beyond the open-wire threshold for N ticks sets or clears the open-wire flag (R270). -/
  | openWireDetect (i : Slice)
  /-- CONVERTER_FAULT: A constant bitstream or decimator parity error marks a converter fault and freezes its delivered words
  (R271). -/
  | converterFault (c : Conv) (parity : Bool)
  /-- PAIR_SETTLE_END: Two ticks after a pair-mode change the odd converter's words stop settling (R267). -/
  | pairSettleEnd (k : Fin 8)
  /-- AX_SLOT_RESULT: The auxiliary slice completes the conversion of one input and latches the result (R276). -/
  | axSlotResult (raw : Raw)
  /-- AX_WINDOW_FIRE: An AX window comparator fires asynchronously and may wake the device (R278). -/
  | axWindowFire (w : Fin 4) (hi : Bool)
  /-- SYSCAL_ZERO: A ZERO command starts a system offset calibration of a slice (R281). -/
  | syscalZero (i : Slice)
  /-- SYSCAL_FULL: A FULL command starts a system gain calibration of a slice (R281). -/
  | syscalFull (i : Slice)
  /-- SYSCAL_ABORT: CMD = 0 aborts a system calibration run in progress (R282). -/
  | syscalAbort (i : Slice)
  /-- SYSCAL_DONE: After 2^NAVG ticks the run writes its offset or gain, or sets RANGE (R281). -/
  | syscalDone (i : Slice)
  /-- AX_SYSCAL_ZERO: A ZERO command starts a system offset calibration of an AX input (R283). -/
  | axSyscalZero
  /-- AX_SYSCAL_FULL: A FULL command starts a system gain calibration of an AX input (R283). -/
  | axSyscalFull
  /-- AX_SYSCAL_ABORT: CMD = 0 aborts an AX system calibration in progress (R283). -/
  | axSyscalAbort
  /-- AX_SYSCAL_DONE: After the last averaged result the AX calibration writes its value (R283). -/
  | axSyscalDone
  /-- BG_CAL_START: A background calibration cycle starts when it falls due and the spare is idle (R285). -/
  | bgCalStart
  /-- BG_CAL_STEP: At each scheduled tick of the cycle a converter switches input or the spare takes over or returns the
  slice (R286). -/
  | bgCalStep
  /-- BG_CAL_UPDATE: At the end of the slice measurement the new offset and gain take effect or are rejected (R287). -/
  | bgCalUpdate
  /-- BG_CAL_LATE: A privileged slice not calibrated within twice the period sets BG_LATE (R285). -/
  | bgCalLate (i : Slice)
  /-- REF_TRACE_REQUEST: TRACE = 1 requests a reference trace (R291). -/
  | refTraceRequest
  /-- REF_TRACE_BEGIN: The trace starts at the first cycle 0 at which the spare is idle (R291). -/
  | refTraceBegin
  /-- REF_TRACE_TO_CALV: After its zero measurement the spare switches to CALV (R291). -/
  | refTraceToCalv
  /-- REF_TRACE_DONE: The trace writes ADC_REF_ERR 131,078 ticks after its start (R291). -/
  | refTraceDone
  /-- REF_TRACE_ABORT: TRACE = 0 aborts a trace and keeps the old value (R292). -/
  | refTraceAbort
  /-- CLERK_RUN: RUN = 1 starts a stopped clerk with cleared state (R301). -/
  | clerkRun (c : ClerkIx)
  /-- CLERK_STOP: RUN = 0 stops a clerk (R301). -/
  | clerkStop (c : ClerkIx)
  /-- CLERK_LIST_SELECT: LISTSEL chooses the factory or user list of a stopped clerk (R321). -/
  | clerkListSelect (c : ClerkIx) (user : Bool)
  /-- EVENT_POP: POP removes the head record of the event queue (R317). -/
  | eventPop
  /-- EQ_LOST_CLR: LOST_CLR clears the dropped-record count (R327). -/
  | eqLostClr
  /-- PACK_BUS_DONE: At the end of a pack-bus transaction the result, error and cause are published and the request flag
  clears (R319). -/
  | packBusDone (w : PbWire)
  /-- TALLY_MATCH: A count edge reaches the compare and the match actions run (R339). -/
  | tallyMatch (n : TallyEdge)
  /-- TALLY_WRAP: A count edge wraps the count and the wrap actions run (R339). -/
  | tallyWrap (n : TallyEdge)
  /-- TALLY_CAPTURE_RISE: A filtered rising edge moves CAPR to CAPP and captures the count (R335). -/
  | tallyCaptureRise (e : TinEdge)
  /-- TALLY_CAPTURE_FALL: A filtered falling edge captures the count into CAPF (R335). -/
  | tallyCaptureFall (e : TinEdge)
  /-- TALLY_GATE_CHANGE: A detected gate level change governs the following count edges (R333). -/
  | tallyGateChange (e : TinEdge) (level : Bool)
  /-- TALLY_SYNC_START: TL_SYNC sets EN of several Tallies at one boundary (R334). -/
  | tallySyncStart (mask : Word)
  /-- TALLY_CNT_L_WRITE: A write to TLn_CNT_L is held for the next high write (R337). -/
  | tallyCntLWrite (n : TallyIx) (v : Word)
  /-- TALLY_CNT_H_WRITE: A write to TLn_CNT_H loads the count 2 cycles after completion (R337). -/
  | tallyCntHWrite (n : TallyIx) (v : TallyLoad)
  /-- TALLY_CMP_L_WRITE: A write to TLn_CMP_L is held for the next high write (R337). -/
  | tallyCmpLWrite (n : TallyIx) (v : Word)
  /-- TALLY_CMP_H_WRITE: A write to TLn_CMP_H loads the compare 2 cycles after completion (R338). -/
  | tallyCmpHWrite (n : TallyIx) (v : TallyLoad)
  /-- TALLY_PARITY_ERROR: A parity error in a Tally register sets PARITY and SUSPECT (R351). -/
  | tallyParityError (n : TallyIx)
  /-- CAL_TRAIN: KIND = TRAIN starts a tap calibration run of a train or is refused (R357). -/
  | calTrain (t : Train)
  /-- CAL_SRC: KIND = SRC starts a calibration run of a source's comparators or is refused (R357). -/
  | calSrc (i : Fin 8)
  /-- CAL_RING: KIND = RING starts a calibration run of the ring alignment line or is refused (R357). -/
  | calRing
  /-- CAL_ABORT: KIND = 0 aborts a calibration run and keeps the old values (R370). -/
  | calAbort
  /-- CAL_VERDICT: At the end of a run the results are judged and written together or all kept (R368). -/
  | calVerdict (m : CalResults)
  /-- CAL_SAVE: SAVE = 1 requests a calibration record save (R375). -/
  | calSave
  /-- CAL_SAVE_DONE: A save completes with its CRC words written, or ends with an error (R375). -/
  | calSaveDone (r : SaveRead)
  /-- UNFENCE_REQUEST: UNFENCE_REQ starts the readmission self-check of a fenced unit or is refused (R394). -/
  | unfenceRequest (page : Nat)
  /-- READMISSION: At the end of the self-check the unit is readmitted or stays fenced (R394). -/
  | readmission (u : FenceUnit) (found : SelfTest)
  /-- HOST_PORT_AUTO_READMIT: A fenced host port is readmitted after 4096 ticks without bus activity addressed to the device
  (R397). -/
  | hostPortAutoReadmit (p : Port)
  /-- DEVICE_RESUME: A held device returns to RUN after the quiet time of FLT_RESUME (R389). -/
  | deviceResume
  /-- FAULT_WORD_CLEAR: A W1C write clears a FAULT_WORD bit whose line is deasserted at the boundary (R379). -/
  | faultWordClear (hi : Bool) (m : Word)
  /-- FAULT_WORD_L_READ: A read of FAULT_WORD_L latches FAULT_WORD_H for the reading port (R381). -/
  | faultWordLRead (p : Port)
  /-- TK_NUM_L_READ: A read of TK_NUM_L latches TK_NUM_M and TK_NUM_H for the reading port (R49). -/
  | tkNumLRead (p : Port)
  /-- TK_CNT_CLR: CNT_CLR clears the rollback count at the boundary (R49). -/
  | tkCntClr
  /-- CE_CNT_CLR: CNT_CLR clears CE_ECC_CNT at the boundary (R141). -/
  | ceCntClr
  /-- TXN_CLEAR: CLEAR clears TXN_STAT bits 9:1 (R50). -/
  | txnClear (p : Port)
  /-- TXN_OPEN: OPEN opens a transaction that holds later RW writes of the port (R23). -/
  | txnOpen (p : Port)
  /-- TXN_COMMIT: COMMIT makes the open transaction one commit unit (R25). -/
  | txnCommit (p : Port) (cyc : Nat)
  /-- TXN_COMMIT_AT: COMMIT_AT makes the transaction a unit for a target tick or rejects it as LATE (R26). -/
  | txnCommitAt (p : Port) (cyc : Nat)
  /-- TXN_ABORT: ABORT discards the open or pending transaction unless it loses to the commit (R28). -/
  | txnAbort (p : Port) (cyc : Nat)
  /-- TXN_UNDEFINED_CMD: Command codes 5–7 set BADCMD and do nothing else (R567). -/
  | txnUndefinedCmd (p : Port)
  /-- TXN_TGT_WRITE: A write of TXN_TGT latches the COMMIT_AT target in the bank (R50). -/
  | txnTgtWrite (p : Port) (v : Word)
  /-- TXN_TIMEOUT: A transaction open for 65,536 ticks is discarded with TMO (R29). -/
  | txnTimeout (p : Port)
  /-- SNAP_HOLD: HOLD = 1 freezes the port's published view at the boundary (R30). -/
  | snapHold (p : Port)
  /-- SNAP_RELEASE: HOLD = 0 unfreezes the port's published view (R32). -/
  | snapRelease (p : Port)
  /-- SNAP_HOLD_EXPIRY: A hold ends after 4096 ticks and sets EXPIRED (R32). -/
  | snapHoldExpiry (p : Port)
  /-- REGISTER_WRITE: A write to a staged register without its own row takes effect at the next commit boundary (R13). -/
  | registerWrite (p : Port) (page : Nat) (off : Nat) (v : Word) (cyc : Nat)
  /-- HOST_PORT_CONFIG_WRITE: A write to a host-port configuration register takes effect at the end of its transaction (R34).
  -/
  | hostPortConfigWrite (page : Nat) (off : Nat) (v : Word)
  /-- RING_TRAINING_DONE: A ring port completes link training and goes up (R408). -/
  | ringTrainingDone (east : Bool) (flight : Nat)
  /-- RING_PORT_DOWN: A ring port goes DOWN on bad sync headers or signal loss (R409). -/
  | ringPortDown (east : Bool)
  /-- MASTER_ELECTION: A listening device with the lowest priority becomes MASTER after 64 ticks without a marker (R412). -/
  | masterElection
  /-- TICK_FRAME_RECEIVE: A device receives the tick frame, takes the marker and batch and writes its slot (R416). -/
  | tickFrameReceive (f : TickFrame)
  /-- DEMAND_FRAME_RECEIVE: A device receives and forwards the master's demand frame (R418). -/
  | demandFrameReceive (east : Bool) (f : DemandFrame)
  /-- IMAGE_FRAME_RECEIVE: A loading device receives a configuration image frame (R446). -/
  | imageFrameReceive (east : Bool) (f : ImageFrame)
  /-- ANNOUNCE_BLOCK: A device receives and relays an announce block (R413). -/
  | announceBlock (east : Bool) (hops : Fin 8) (a : Announce)
  /-- MARKER_MISSED: A member that has no valid marker 64 cycles after its expected time enters HOLDOVER (R438). -/
  | markerMissed
  /-- MASTER_SUCCESSION: The next device in the successor order becomes MASTER at its turn (R439). -/
  | masterSuccession
  /-- MASTER_DROP: A master with both ports DOWN for 2 ticks enters DROPPED (R411). -/
  | masterDrop
  /-- TICK_ALIGN: A device in ALIGN aligns its tick and adopts the master's TICKNUM (R421). -/
  | tickAlign (num : Nat)
  /-- ALIGN_TIMEOUT: A joining device that loses the marker for 64 ticks returns to LISTEN (R411). -/
  | alignTimeout
  /-- RING_ENTRY: A READY device becomes MEMBER from the tick frame of its entry tick (R446). -/
  | ringEntry
  /-- RING_REJOIN: A dropped device returns to LISTEN after 256 ticks with REJOIN = 1 (R411). -/
  | ringRejoin
  /-- RING_LEAVE: LEAVE = 1 sets LEAVE in the device's slot so that the master drops it (R448). -/
  | ringLeave
  /-- RG_CNT_CLR: CNT_CLR clears the ring CRC counts (R452). -/
  | rgCntClr
  /-- SPI_READ: An SPI read frame returns register words from the selected view (R455). -/
  | spiRead (cmd : Word) (ad : Word) (crc : Byte) (n : Nat) (part : SpiCut) (e : List StoreEcc) (f : CheckFault)
  /-- SPI_WRITE: An SPI write frame writes data words, each completing at its last bit (R455). -/
  | spiWrite (cmd : Word) (ad : Word) (crc : Byte) (l : List SpiWord) (part : SpiCut) (f : CheckFault)
  /-- SPI_CNT_CLR: CNT_CLR clears SPI_CNT and SPI_CRCCNT (R485). -/
  | spiCntClr
  /-- TWM_POINTER_WRITE: A TWM pointer write sets the command byte, page and offset (R464). -/
  | twmPointerWrite (q : TwmPtr) (pec : Option Byte) (e : TwmEnd) (f : CheckFault)
  /-- TWM_DATA_WRITE: A TWM data write takes effect at its STOP (R465). -/
  | twmDataWrite (q : TwmPtr) (data : List Byte) (pec : Option Byte) (e : TwmEnd) (cyc : Nat) (f : CheckFault)
  /-- TWM_READ: A TWM read returns words at the pointer (R466). -/
  | twmRead (n : Nat) (e : TwmCut) (ecc : List StoreEcc) (f : CheckFault)
  /-- TWM_SCL_TIMEOUT: SCL low for more than 25 ms aborts the TWM transaction (R468). -/
  | twmSclTimeout
  /-- TWM_CNT_CLR: CNT_CLR clears TWM_ERR (R486). -/
  | twmCntClr
  /-- ALERT_RESPONSE: A device with ALERT# asserted answers the alert response address and arbitrates (R472). -/
  | alertResponse (lost : Bool)
  /-- PACK_BUS_GO: GO queues the host pack-bus request (R475). -/
  | packBusGo
  /-- TWP_TRANSACTION_START: The TWP controller starts the head request once the bus is free (R477). -/
  | twpTransactionStart (f : CheckFault)
  /-- TWP_ARB_LOSS: The controller loses arbitration, releases the bus and retries (R478). -/
  | twpArbLoss (byte : Nat) (b : Fin 8)
  /-- TWP_SCL_TIMEOUT: SCL low for more than 25 ms ends the request with TIMEOUT (R480). -/
  | twpSclTimeout
  /-- TWP_BUS_BUSY_TIMEOUT: A request whose bus is not free within 100 ms ends with BUSY (R477). -/
  | twpBusBusyTimeout
  /-- TWP_PEER_WRITE: A peer controller writes TWP_TIN words, which take effect at the STOP (R482). -/
  | twpPeerWrite (ix : Byte) (data : List Byte) (stop : Bool)
  /-- TWP_PEER_READ: A peer controller reads TWP_TOUT words (R482). -/
  | twpPeerRead (ix : Byte) (n : PeerBytes)
  /-- STORE_ADDR_WRITE: A write to STORE_ADDR loads the port address at the boundary (R489). -/
  | storeAddrWrite (hi : Bool) (v : Word)
  /-- STORE_DATA_READ: A read of STORE_DATA returns the word at the address and increments it (R489). -/
  | storeDataRead (e : StoreEcc)
  /-- STORE_DATA_WRITE: A write of STORE_DATA fills a program buffer and increments the address (R490). -/
  | storeDataWrite (w : Word)
  /-- STORE_ERASE: CMD ERASE requests the erase of a sector or is refused (R494). -/
  | storeErase (sector : Fin 1024)
  /-- STORE_PROG: CMD PROG programs the current buffer (R490). -/
  | storeProg
  /-- STORE_ABORT: CMD = 0 stops a running erase (R494). -/
  | storeAbort
  /-- STORE_OP_START: The free array takes the next operation in agent priority order (R493). -/
  | storeOpStart
  /-- STORE_PROGRAM_DONE: A page program completes and is verified by read-back (R492). -/
  | storeProgramDone (r : ArrayRead)
  /-- STORE_ERASE_DONE: A sector erase completes after its blank check (R494). -/
  | storeEraseDone (r : ArrayRead)
  /-- LEDGER_APPEND: APPEND queues a ledger record of LG_KIND with its payload (R501). -/
  | ledgerAppend
  /-- LARDER_ARM: ARM moves the larder to ARMED (R503). -/
  | larderArm
  /-- LARDER_FORCE: FORCE triggers a larder capture (R503). -/
  | larderForce
  /-- LARDER_FLUSH: FLUSH starts copying the frozen window to a capture slot (R504). -/
  | larderFlush
  /-- LARDER_FREEZE: After POST records the larder freezes its window (R503). -/
  | larderFreeze
  /-- LARDER_FLUSH_DONE: The last page of a flush is programmed and the next slot's erase is queued (R504). -/
  | larderFlushDone
  /-- POWER_UP: VSTART rising above 8.5 V starts BOOT (R511). -/
  | powerUp (p : Straps)
  /-- POWER_DOWN: VSTART falling below 8.0 V turns the start regulator off (R509). -/
  | powerDown
  /-- VBIAS_GOOD: VBIAS becomes good and the core buck and PLL start (R512). -/
  | vbiasGood
  /-- BOOT_COMPLETE: The boot sequence completes and the device enters HOLD with the first tick (R512). -/
  | bootComplete
  /-- AUTORUN_ENTRY: At tick 834 an AUTORUN image takes the device to RUN unless a fault stands (R514). -/
  | autorunEntry
  /-- RESET_PIN: RESET# low for 1 µs resets the device to BOOT (R511). -/
  | resetPin
  /-- BROWN_OUT: A brown-out resets the device at once (R510). -/
  | brownOut (core : Bool)
  /-- SUPPLY_MONITOR_TRIP: A supply monitor sets its PWR.PG_ERR bit, driving SUPPLY (R510). -/
  | supplyMonitorTrip (i : Fin 5)
  /-- CLOCK_MONITOR_TRIP: A reference clock fault or PLL unlock sets its bit, driving CLOCK (R518). -/
  | clockMonitorTrip (pll : Bool)
  /-- SLOW_CLOCK_FAIL: The 32.768 kHz crystal fails and the device changes to the RC oscillator (R518). -/
  | slowClockFail
  /-- DEVICE_RUN: The RUN command takes a configured device from HOLD to RUN or is refused (R515). -/
  | deviceRun
  /-- DEVICE_HOLD: The HOLD command takes the device from RUN to HOLD (R515). -/
  | deviceHold
  /-- DEVICE_SLEEP: The SLEEP command starts the sleep entry or is refused (R515). -/
  | deviceSleep
  /-- DEVICE_RESET: The RESET command with the key resets the device (R515). -/
  | deviceReset (key : Word)
  /-- SLEEP_ENTRY: Once the array is idle the Tallies and tick stop and the device enters SLEEP (R519). -/
  | sleepEntry
  /-- WAKE: An enabled wake source fires and ends SLEEP (R521). -/
  | wake (w : WakeSource)
  /-- WAKE_COMPLETE: The PLL locks and the first tick after the wake starts in the entry state (R522). -/
  | wakeComplete (e : Nat)
  /-- WAKE_VBIAS_TIMEOUT: VBIAS not good within VTMO returns the device to SLEEP (R522). -/
  | wakeVbiasTimeout
  /-- TEST_KEY_WRITE: A TEST_KEY write advances, opens or disarms the test key sequence (R527). -/
  | testKeyWrite (p : Port) (v : Word)
  /-- TEST_GO: GO starts the selected loop-back or is refused (R530). -/
  | testGo (ext : Bool)
  /-- TEST_STOP: STOP ends a running loop-back early (R532). -/
  | testStop (cyc : Nat)
  /-- TEST_EXIT: EXIT closes test mode (R529). -/
  | testExit
  /-- LOOPBACK_DONE: A loop-back ends after its duration and reports pass or fail (R532). -/
  | loopbackDone (r : LoopResult) (cyc : Nat)
  /-- TEST_MODE_TIMEOUT: Test mode closes after 4,194,304 ticks in HOLD without a TEST write (R529). -/
  | testModeTimeout
  /-- TALLY_COUNT_EDGE: At a count edge of its selected clock a Tally steps its count up or down, or holds it when gated off
  (R332). -/
  | tallyCountEdge (n : TallyEdge)
  /-- DUTY_ON_TIME_START: In DUTY mode the synchronous rectifier turns off a dead time before the control switch's on-time,
  which is centred on the crest (R68). -/
  | dutyOnTimeStart (n : Leg)
  /-- BUCK_BOOST_TON_END: In the buck-boost region the output leg of a four-switch phase turns off TR_BB.TON cycles after the
  valley (R71). -/
  | buckBoostTonEnd (n : Leg)
  /-- AX_WINDOW_CLEAR: An AX window comparator clears when its pin passes back beyond the hysteresis, changing its level in
  AXW_STAT (R278). -/
  | axWindowClear (w : Fin 4) (hi : Bool)
  /-- PAIR_ODD_WORD_PRODUCED: In pair mode the odd converter produces its fast word at cycle 480, and the window comparator
  judges it and may trigger a one-shot at cycle 482 (R268). -/
  | pairOddWordProduced (k : Fin 8) (raw : Raw)
  deriving DecidableEq, Repr

end Sys2Proof
end

