-- ==== Sys2Proof/Decode.lean ====
section
/-! DEFINITION. The decoder over the opcode table's bits: the block takes commands, and no row of the table gives bits. -/

namespace Sys2Proof

/-- The command that a word of the opcode table spells: none. -/
def decodeTableWord (_nbits _w : Nat) : Option Instr := none

end Sys2Proof
end

