-- ==== Sys2Proof/Config.lean ====
section
/-! DEFINITION. What the spec leaves open: free values. Each is opaque, so nothing can be proved of its value. -/

namespace Sys2Proof.Config

/-- A fresh free word for each value of the state's counter (log entry 3). -/
opaque freeWord : Nat → BitVec 16
/-- The integer published for an exact value of the supervisor, whose rounding R171 leaves open (log entry 5). -/
opaque publishRound : Rat → Int
/-- The oscillator's word of amplitude a at phase p, within the error of 1 LSB that R136 allows (log entry 6). -/
opaque oscSine : Nat → Nat → Int
/-- The word in a register when the value the spec computes does not fit the register's format (log entry 4). -/
opaque overflow : Int → Int
/-- The weight of a reduced tick with a timer reference current of 0 (R236, log entry 5). -/
opaque timerWeight : Int → Int
/-- The quotient a / 0 in a supervisor model, which R145 and R146 do not state (log entry 5). -/
opaque divZero : Rat → Rat
/-- The NTC temperature in 0.1 C of a 24-bit result, pull-up and beta, within the error of 0.1 C that R212 allows (log entry 7). -/
opaque ntcTemp : Int → Nat → Nat → Int
/-- AX_DIETEMP in 0.1 C of the raw result of input 14; R279 gives only its accuracy (log entry 7). -/
opaque dieTemp : Int → Int
/-- |z| times a scale, from vc, vs, ic, is, where R247 does not say which neighbour is published (log entry 8). -/
opaque impMag : Rat → Rat → Rat → Rat → Rat → Nat
/-- arg z in 0.01 degrees, likewise. -/
opaque impPh : Rat → Rat → Rat → Rat → Int
/-- T0 + S ln(ZREF / MAG) in 0.1 C, likewise (R250, log entry 8). -/
opaque impTemp : Int → Int → Nat → Nat → Int

/-- Ticks beyond the 4 of R446 after which the master names a joining device's entry (log entry 28). -/
opaque entryDelay : Nat → Nat
/-- Ticks after which the master has the loop run as a ring again; R444 names none (log entry 28). -/
opaque healDelay : Nat → Nat
/-- The unique number in DEV_UID0 to DEV_UID3 (R525, log entry 29). -/
opaque devUid : Nat → BitVec 16
/-- The words of a factory list in ROM, by clerk and half-word; the manual does not print them (R298, R322, log entry 30). -/
opaque factoryWord : Nat → Nat → BitVec 16
/-- A word of a ring frame whose fields R416 to R418 name without their bits, by block, place and fields (log entry 120). -/
opaque ringWord : Nat → Nat → List Nat → BitVec 16

end Sys2Proof.Config
end

