-- ==== Sys2Proof/Machine/Bits.lean ====
section
/-! DEFINITION. Bit fields, signed readings and clamps shared by every block. -/

namespace Sys2Proof.Machine

/-- Bits hi..lo of a word as a number (bit 0 least significant). -/
def bits (w : Word) (hi lo : Nat) : Nat := (w.toNat >>> lo) % 2 ^ (hi - lo + 1)

/-- One bit of a word. -/
def bit (w : Word) (i : Nat) : Bool := w.getLsbD i

/-- A word from a natural number, modulo 2^16. -/
def word (n : Nat) : Word := BitVec.ofNat 16 n

/-- A word from an integer, modulo 2^16. -/
def wordI (i : Int) : Word := BitVec.ofInt 16 i

/-- The mask of bits hi..lo. -/
def maskBits (hi lo : Nat) : Word := word ((2 ^ (hi - lo + 1) - 1) <<< lo)

/-- Write bits hi..lo of a word. -/
def setBits (w : Word) (hi lo v : Nat) : Word :=
  (w &&& ~~~(maskBits hi lo)) ||| (word ((v % 2 ^ (hi - lo + 1)) <<< lo))

/-- Write one bit of a word. -/
def setBit (w : Word) (i : Nat) (b : Bool) : Word := setBits w i i b.toNat

/-- The bit b placed at position i. -/
def bitAt (b : Bool) (i : Nat) : Word := word (b.toNat <<< i)

/-- The number n placed from position lo. -/
def at_ (n lo : Nat) : Word := word (n <<< lo)

/-- The word with bit i set. -/
def oneHot (i : Nat) : Word := word (2 ^ i)

/-- A word of flags from a family, bit i for member i. -/
def maskOf {n : Nat} (v : Fin n → Bool) : Nat :=
  (List.finRange n).foldl (fun a i => if v i then a + 2 ^ i.val else a) 0

/-- A number read as two's complement over w bits. -/
def signed (w n : Nat) : Int := (BitVec.ofNat w n).toInt

/-- An integer held between two bounds. -/
def clampI (lo hi x : Int) : Int := if x < lo then lo else if hi < x then hi else x

/-- Saturation to a signed 16-bit word. -/
def sat16 (x : Int) : Int := clampI (-32768) 32767 x

/-- Division by a power of two, rounding toward minus infinity (an arithmetic right shift). -/
def asr (x : Int) (n : Nat) : Int := x.fdiv (2 ^ n : Nat)

/-- Saturating increment of a counter. -/
def satInc (limit n : Nat) : Nat := if n < limit then n + 1 else limit

/-- Bit i of a number. -/
def nbit (n i : Nat) : Bool := n.testBit i

/-- The high byte of a word. -/
def hiByte (w : Word) : Byte := BitVec.ofNat 8 (w.toNat / 256)
/-- The low byte of a word. -/
def loByte (w : Word) : Byte := BitVec.ofNat 8 w.toNat
/-- A word from its two bytes. -/
def ofBytes (hi lo : Byte) : Word := word (hi.toNat * 256 + lo.toNat)

end Sys2Proof.Machine
end

