-- ==== Sys2Proof/Machine/RegTable.lean ====
section
/-! DEFINITION. The register map: for every register the bits a write reaches and its reset value, from the register
tables of the chapters (R49-R51, R100-R102, R141-R143, R170-R172, R204-R205, R253-R254, R294-R297, R327-R329,
R352-R353, R377, R403, R452, R485-R487, R506-R507, R525-R526, R533, R561). Bits a row leaves out are RS (views of the
device's own state), RO reserved, or WO. -/

namespace Sys2Proof.Machine

/-- A family of registers on a page: first offset, members, distance between members; the RW, W1C and immediate (RWI)
bits (R2) and the reset value of the stored bits. -/
structure RegRow where
  off : Nat
  cnt : Nat
  stride : Nat
  rw : Nat
  w1c : Nat
  imm : Nat
  reset : Nat
  deriving DecidableEq, Repr

/-- TICK (R49). -/
def tickRows : List RegRow := [
  ⟨0x17, 1, 1, 0x0001, 0x0000, 0x0000, 0x0000⟩]

/-- TXN (R50). -/
def txnRows : List RegRow := [
  ]

/-- SNAP (R51). -/
def snapRows : List RegRow := [
  ⟨0x10, 1, 1, 0x0001, 0x0000, 0x0000, 0x0000⟩,
  ⟨0x11, 1, 1, 0x0000, 0x0002, 0x0000, 0x0000⟩]

/-- TRAIN (R100). -/
def trainRows : List RegRow := [
  ⟨0x10, 1, 1, 0xFFF0, 0x0000, 0x0000, 0x0000⟩,
  ⟨0x11, 1, 1, 0x0003, 0x0000, 0x0000, 0x0000⟩,
  ⟨0x14, 1, 1, 0xFFFF, 0x0000, 0x0000, 0x0000⟩,
  ⟨0x15, 1, 1, 0xFFFF, 0x0000, 0x0000, 0x0000⟩,
  ⟨0x16, 1, 1, 0x7FFF, 0x0000, 0x0000, 0x0000⟩,
  ⟨0x17, 1, 1, 0x7FFF, 0x0000, 0x0000, 0x0000⟩,
  ⟨0x18, 1, 1, 0x007F, 0x0000, 0x0000, 0x0000⟩,
  ⟨0x19, 1, 1, 0x007F, 0x0000, 0x0000, 0x0000⟩,
  ⟨0x1A, 1, 1, 0x007F, 0x0000, 0x0000, 0x0064⟩,
  ⟨0x1B, 1, 1, 0xFFFF, 0x0000, 0x0000, 0x0000⟩,
  ⟨0x1C, 1, 1, 0x00FF, 0x0000, 0x0000, 0x0000⟩,
  ⟨0x1D, 1, 1, 0x03FF, 0x0000, 0x0000, 0x0000⟩,
  ⟨0x1E, 1, 1, 0x03FF, 0x0000, 0x0000, 0x0360⟩,
  ⟨0x1F, 1, 1, 0xFFFF, 0x0000, 0x0000, 0x0100⟩,
  ⟨0x20, 1, 1, 0xFFFF, 0x0000, 0x0000, 0x0000⟩,
  ⟨0x21, 1, 1, 0x00FF, 0x0000, 0x0000, 0x0040⟩,
  ⟨0x22, 1, 1, 0x7FFF, 0x0000, 0x0000, 0x0148⟩,
  ⟨0x23, 1, 1, 0x7FFF, 0x0000, 0x0000, 0x0000⟩,
  ⟨0x24, 1, 1, 0x7FFF, 0x0000, 0x0000, 0x7FFF⟩,
  ⟨0x25, 1, 1, 0xFFFF, 0x0000, 0x0000, 0x1000⟩,
  ⟨0x26, 1, 1, 0x9F1F, 0x0000, 0x0000, 0x0101⟩,
  ⟨0x27, 1, 1, 0x7FFF, 0x0000, 0x0000, 0x0400⟩,
  ⟨0x28, 1, 1, 0x007F, 0x0000, 0x0000, 0x0000⟩,
  ⟨0x2D, 1, 1, 0x03FF, 0x0000, 0x0000, 0x01E0⟩]

/-- LEG (R101). -/
def legRows : List RegRow := [
  ⟨0x10, 1, 1, 0xE01F, 0x0000, 0x0000, 0x2000⟩,
  ⟨0x12, 1, 1, 0xFFFF, 0x0000, 0x0000, 0x0000⟩,
  ⟨0x13, 1, 1, 0x0FFF, 0x0000, 0x0000, 0x0200⟩,
  ⟨0x14, 1, 1, 0x0FFF, 0x0000, 0x0000, 0x0200⟩,
  ⟨0x15, 1, 1, 0x00FF, 0x0000, 0x0000, 0x0028⟩,
  ⟨0x16, 1, 1, 0x001F, 0x0000, 0x0000, 0x0000⟩]

/-- LEGPOOL (R102). -/
def legpoolRows : List RegRow := [
  ⟨0x10, 6, 1, 0xFFFF, 0x0000, 0x0000, 0xFFFF⟩,
  ⟨0x16, 1, 1, 0x0FFF, 0x0000, 0x0000, 0x0000⟩]

/-- CE (R141). -/
def ceRows : List RegRow := [
  ⟨0x11, 1, 1, 0x0000, 0x0003, 0x0000, 0x0000⟩,
  ⟨0x15, 1, 1, 0x0001, 0x0000, 0x0000, 0x0000⟩,
  ⟨0x20, 4, 4, 0xC7FF, 0x0000, 0x0000, 0x0000⟩,
  ⟨0x21, 4, 4, 0x7FFF, 0x0000, 0x0000, 0x0000⟩]

/-- LOOP (R142). -/
def loopRows : List RegRow := [
  ⟨0x10, 1, 1, 0xFE3F, 0x0000, 0x0000, 0x2000⟩,
  ⟨0x11, 1, 1, 0x007F, 0x0000, 0x0000, 0x0000⟩,
  ⟨0x12, 1, 1, 0x007F, 0x0000, 0x0000, 0x0001⟩,
  ⟨0x13, 1, 1, 0xF00F, 0x0000, 0x0000, 0x0000⟩,
  ⟨0x14, 1, 1, 0xFFFF, 0x0000, 0x0000, 0x0000⟩,
  ⟨0x15, 1, 1, 0xFFFF, 0x0000, 0x0000, 0x1000⟩,
  ⟨0x16, 1, 1, 0xFFFF, 0x0000, 0x0000, 0x0000⟩,
  ⟨0x17, 1, 1, 0xFFFF, 0x0000, 0x0000, 0x0000⟩,
  ⟨0x18, 1, 1, 0xFFFF, 0x0000, 0x0000, 0x0000⟩,
  ⟨0x19, 1, 1, 0xFFFF, 0x0000, 0x0000, 0x0000⟩,
  ⟨0x1A, 1, 1, 0xF00F, 0x0000, 0x0000, 0x0000⟩,
  ⟨0x1B, 1, 1, 0x01FF, 0x0000, 0x0000, 0x0000⟩,
  ⟨0x1C, 1, 1, 0xFFFF, 0x0000, 0x0000, 0x8000⟩,
  ⟨0x1D, 1, 1, 0xFFFF, 0x0000, 0x0000, 0x7FFF⟩,
  ⟨0x1E, 1, 1, 0xFFFF, 0x0000, 0x0000, 0x0000⟩]

/-- SECT (R143). -/
def sectRows : List RegRow := [
  ⟨0x10, 30, 8, 0xFFFF, 0x0000, 0x0000, 0x0000⟩,
  ⟨0x11, 30, 8, 0xFFFF, 0x0000, 0x0000, 0x0000⟩,
  ⟨0x12, 30, 8, 0xFFFF, 0x0000, 0x0000, 0x0000⟩,
  ⟨0x13, 30, 8, 0xFFFF, 0x0000, 0x0000, 0x0000⟩,
  ⟨0x14, 30, 8, 0xFFFF, 0x0000, 0x0000, 0x0000⟩,
  ⟨0x15, 30, 8, 0x0007, 0x0000, 0x0000, 0x0000⟩,
  ⟨0x16, 30, 8, 0xFFFF, 0x0000, 0x0000, 0x0000⟩,
  ⟨0x17, 30, 8, 0xFFFF, 0x0000, 0x0000, 0x0000⟩]

/-- SUPV (R170, R171, R172). -/
def supvRows : List RegRow := [
  ⟨0x10, 8, 16, 0xFFFF, 0x0000, 0x0000, 0x0000⟩,
  ⟨0x11, 8, 16, 0xFFFF, 0x0000, 0x0000, 0x0000⟩,
  ⟨0x12, 8, 16, 0xFFFF, 0x0000, 0x0000, 0x0000⟩,
  ⟨0x13, 8, 16, 0x0FFF, 0x0000, 0x0000, 0x0463⟩,
  ⟨0x14, 8, 16, 0x7FFF, 0x0000, 0x0000, 0x0000⟩,
  ⟨0x15, 8, 16, 0x00FF, 0x0000, 0x0000, 0x0000⟩,
  ⟨0x16, 8, 16, 0x7FFF, 0x0000, 0x0000, 0x0000⟩,
  ⟨0x17, 8, 16, 0x7FFF, 0x0000, 0x0000, 0x0000⟩,
  ⟨0x18, 8, 16, 0x00FF, 0x0000, 0x0000, 0x0004⟩,
  ⟨0x19, 8, 16, 0x7FFF, 0x0000, 0x0000, 0x2000⟩,
  ⟨0x1A, 8, 16, 0xFFFF, 0x0000, 0x0000, 0x0100⟩,
  ⟨0x1B, 8, 16, 0xFFFF, 0x0000, 0x0000, 0x0000⟩,
  ⟨0x1C, 8, 16, 0xFFFF, 0x0000, 0x0000, 0x1000⟩,
  ⟨0x1D, 8, 16, 0xFFFF, 0x0000, 0x0000, 0x0000⟩,
  ⟨0xD0, 1, 1, 0xFFFF, 0x0000, 0x0000, 0xFFFF⟩,
  ⟨0xD1, 1, 1, 0x00FF, 0x0000, 0x0000, 0x0008⟩,
  ⟨0xD2, 1, 1, 0x001F, 0x0000, 0x0000, 0x0010⟩,
  ⟨0xD3, 1, 1, 0x00FF, 0x0000, 0x0000, 0x0010⟩]

/-- SRC (R204, R205). -/
def srcRows : List RegRow := [
  ⟨0x10, 1, 1, 0x800F, 0x0000, 0x0000, 0x8000⟩,
  ⟨0x13, 1, 1, 0x80FF, 0x0000, 0x0000, 0x0000⟩,
  ⟨0x14, 1, 1, 0x7FFF, 0x0000, 0x0000, 0x0000⟩,
  ⟨0x15, 1, 1, 0x7FFF, 0x0000, 0x0000, 0x0000⟩,
  ⟨0x16, 1, 1, 0xFFFF, 0x0000, 0x0000, 0x01A1⟩,
  ⟨0x17, 1, 1, 0x7FFF, 0x0000, 0x0000, 0x0148⟩,
  ⟨0x18, 1, 1, 0xFFFF, 0x0000, 0x0000, 0x7FFF⟩,
  ⟨0x19, 1, 1, 0xFFFF, 0x0000, 0x0000, 0x7FFF⟩,
  ⟨0x1A, 1, 1, 0xBFF0, 0x0000, 0x0000, 0x8000⟩,
  ⟨0x1B, 1, 1, 0xFFFF, 0x0000, 0x0000, 0x00C8⟩,
  ⟨0x1C, 1, 1, 0x00FF, 0x0000, 0x0000, 0x0050⟩,
  ⟨0x1D, 1, 1, 0x00FF, 0x0000, 0x0000, 0x002A⟩,
  ⟨0x1E, 1, 1, 0x00FF, 0x0000, 0x0000, 0x0015⟩,
  ⟨0x1F, 1, 1, 0xBBFF, 0x0000, 0x0000, 0x0000⟩,
  ⟨0x30, 4, 8, 0xE70F, 0x0000, 0x0000, 0x0000⟩,
  ⟨0x31, 4, 8, 0x00FF, 0x0000, 0x0000, 0x0040⟩,
  ⟨0x32, 4, 8, 0x00FF, 0x0000, 0x0000, 0x007F⟩,
  ⟨0x33, 4, 8, 0xFFFF, 0x0000, 0x0000, 0x0000⟩,
  ⟨0x35, 4, 8, 0xFFFF, 0x0000, 0x0000, 0x0000⟩]

/-- BAT (R253). -/
def batRows : List RegRow := [
  ⟨0x10, 1, 1, 0xFE3F, 0x0000, 0x0000, 0xA010⟩,
  ⟨0x11, 1, 1, 0x00FF, 0x0000, 0x0000, 0x0000⟩,
  ⟨0x12, 1, 1, 0xF800, 0x0000, 0x0000, 0x0000⟩,
  ⟨0x13, 1, 1, 0x000F, 0x0000, 0x0000, 0x0000⟩,
  ⟨0x1C, 1, 1, 0xFFFF, 0x0000, 0x0000, 0x0D6B⟩,
  ⟨0x1D, 1, 1, 0xFFFF, 0x0000, 0x0000, 0x1000⟩,
  ⟨0x1E, 4, 1, 0xFFFF, 0x0000, 0x0000, 0x0000⟩,
  ⟨0x22, 1, 1, 0xFFFF, 0x0000, 0x0000, 0x3232⟩,
  ⟨0x23, 1, 1, 0x03FF, 0x0000, 0x0000, 0x0064⟩,
  ⟨0x24, 4, 1, 0xFFFF, 0x0000, 0x0000, 0x0000⟩,
  ⟨0x28, 5, 1, 0xFFFF, 0x0000, 0x0000, 0x0000⟩,
  ⟨0x2D, 1, 1, 0xFFFF, 0x0000, 0x0000, 0x0258⟩,
  ⟨0x2E, 1, 1, 0xFFFF, 0x0000, 0x0000, 0x003C⟩,
  ⟨0x2F, 1, 1, 0xFFFF, 0x0000, 0x0000, 0x01A1⟩,
  ⟨0x30, 1, 1, 0xFFFF, 0x0000, 0x0000, 0x01A1⟩,
  ⟨0x31, 1, 1, 0xFFFF, 0x0000, 0x0000, 0x0000⟩,
  ⟨0x32, 1, 1, 0x00FF, 0x0000, 0x0000, 0x0000⟩,
  ⟨0x33, 1, 1, 0xFFFF, 0x0000, 0x0000, 0x0010⟩,
  ⟨0x34, 1, 1, 0xFFFF, 0x0000, 0x0000, 0x1000⟩,
  ⟨0x3C, 1, 1, 0xFFBF, 0x0000, 0x0000, 0x3504⟩,
  ⟨0x40, 1, 1, 0xF0FF, 0x0000, 0x0000, 0xA01E⟩,
  ⟨0x41, 1, 1, 0xFFFF, 0x0000, 0x0000, 0x0000⟩,
  ⟨0x42, 1, 1, 0xFFFF, 0x0000, 0x0000, 0x00FA⟩,
  ⟨0x43, 1, 1, 0xFFFF, 0x0000, 0x0000, 0x0000⟩]

/-- GUARD (R254). -/
def guardRows : List RegRow := [
  ⟨0x10, 1, 1, 0x0001, 0x0000, 0x0000, 0x0000⟩,
  ⟨0x20, 4, 16, 0x8FFF, 0x0000, 0x0000, 0x0400⟩,
  ⟨0x21, 4, 16, 0xFFFF, 0x0000, 0x0000, 0x0000⟩,
  ⟨0x22, 4, 16, 0xFFFF, 0x0000, 0x0000, 0x0000⟩,
  ⟨0x23, 4, 16, 0xFFFF, 0x0000, 0x0000, 0x0000⟩,
  ⟨0x24, 4, 16, 0xFFFF, 0x0000, 0x0000, 0x0000⟩,
  ⟨0x25, 4, 16, 0xFFFF, 0x0000, 0x0000, 0x0000⟩,
  ⟨0x26, 4, 16, 0xFFFF, 0x0000, 0x0000, 0x0000⟩,
  ⟨0x27, 4, 16, 0xFFFF, 0x0000, 0x0000, 0x0000⟩,
  ⟨0x28, 4, 16, 0xFFFF, 0x0000, 0x0000, 0x0000⟩,
  ⟨0x29, 4, 16, 0xFFFF, 0x0000, 0x0000, 0x0000⟩,
  ⟨0x2A, 4, 16, 0xFFFF, 0x0000, 0x0000, 0x0000⟩,
  ⟨0x2B, 4, 16, 0xFFFF, 0x0000, 0x0000, 0xFFFF⟩,
  ⟨0x2C, 4, 16, 0xFFFF, 0x0000, 0x0000, 0x0000⟩,
  ⟨0x2D, 4, 16, 0xFFFF, 0x0000, 0x0000, 0x0000⟩,
  ⟨0x2E, 4, 16, 0xFFFF, 0x0000, 0x0000, 0x0000⟩]

/-- ADC (R294). -/
def adcRows : List RegRow := [
  ⟨0x10, 1, 1, 0xFFFF, 0x0000, 0x0000, 0x0000⟩,
  ⟨0x11, 1, 1, 0x00FF, 0x0000, 0x0000, 0x0000⟩,
  ⟨0x12, 1, 1, 0x8F1F, 0x0000, 0x0000, 0x8908⟩,
  ⟨0x13, 1, 1, 0xFFFF, 0x0000, 0x0000, 0x032E⟩,
  ⟨0x14, 1, 1, 0x00FF, 0x0000, 0x0000, 0x0010⟩,
  ⟨0x15, 1, 1, 0xFFFF, 0x0000, 0x0000, 0x0810⟩,
  ⟨0x18, 1, 1, 0xFFFF, 0x0000, 0x0000, 0x0000⟩,
  ⟨0x19, 1, 1, 0x0001, 0x0000, 0x0000, 0x0000⟩]

/-- SLICE (R295). -/
def sliceRows : List RegRow := [
  ⟨0x10, 1, 1, 0xFE00, 0x0000, 0x0000, 0x8000⟩,
  ⟨0x11, 1, 1, 0xFF80, 0x0000, 0x0000, 0x0400⟩,
  ⟨0x12, 1, 1, 0xFFFF, 0x0000, 0x0000, 0x7000⟩,
  ⟨0x13, 1, 1, 0xF0FF, 0x0000, 0x0000, 0x0000⟩,
  ⟨0x14, 1, 1, 0xFFFF, 0x0000, 0x0000, 0x8000⟩,
  ⟨0x15, 1, 1, 0xFFFF, 0x0000, 0x0000, 0x7FFF⟩,
  ⟨0x16, 1, 1, 0xFFFF, 0x0000, 0x0000, 0x0000⟩,
  ⟨0x17, 1, 1, 0xFFFF, 0x0000, 0x0000, 0x0000⟩,
  ⟨0x18, 1, 1, 0x0F03, 0x0000, 0x0000, 0x0800⟩,
  ⟨0x19, 1, 1, 0xFFFF, 0x0000, 0x0000, 0x6666⟩,
  ⟨0x1B, 1, 1, 0x0003, 0x0000, 0x0000, 0x0000⟩]

/-- SPARE (R296). -/
def spareRows : List RegRow := [
  ]

/-- AUX (R297). -/
def auxRows : List RegRow := [
  ⟨0x10, 1, 1, 0x8000, 0x0000, 0x0000, 0x8000⟩,
  ⟨0x11, 1, 1, 0xFFFF, 0x0000, 0x0000, 0x3210⟩,
  ⟨0x12, 1, 1, 0x00FF, 0x0000, 0x0000, 0x0054⟩,
  ⟨0x13, 1, 1, 0x3FFF, 0x0000, 0x0000, 0x0000⟩,
  ⟨0x14, 1, 1, 0xFF00, 0x0000, 0x0000, 0x0200⟩,
  ⟨0x15, 1, 1, 0xFFFF, 0x0000, 0x0000, 0x7000⟩,
  ⟨0x18, 1, 1, 0xFF03, 0x0000, 0x0000, 0x0200⟩,
  ⟨0x19, 1, 1, 0xFFFF, 0x0000, 0x0000, 0x6666⟩,
  ⟨0x20, 4, 4, 0xCFC0, 0x0000, 0x0000, 0x0040⟩,
  ⟨0x21, 4, 4, 0x003F, 0x0000, 0x0000, 0x0000⟩,
  ⟨0x22, 4, 4, 0x003F, 0x0000, 0x0000, 0x003F⟩,
  ⟨0x60, 14, 2, 0xFFFF, 0x0000, 0x0000, 0x0000⟩,
  ⟨0x61, 14, 2, 0xFFFF, 0x0000, 0x0000, 0x0000⟩]

/-- CLERK (R327). -/
def clerkRows : List RegRow := [
  ⟨0x11, 1, 1, 0x0000, 0x0000, 0x0000, 0x0100⟩,
  ⟨0x17, 1, 1, 0x0003, 0x0000, 0x0000, 0x0000⟩]

/-- CK (R328). -/
def ckRows : List RegRow := [
  ⟨0x10, 1, 1, 0x0007, 0x0000, 0x0000, 0x0000⟩,
  ⟨0x11, 1, 1, 0x0000, 0x1C00, 0x0000, 0x0000⟩,
  ⟨0x14, 8, 1, 0xFFFF, 0x0000, 0x0000, 0x0000⟩,
  ⟨0x24, 4, 1, 0xFFFF, 0x0000, 0x0000, 0x0000⟩]

/-- LIST (R329). -/
def listRows : List RegRow := [
  ⟨0x10, 120, 2, 0xFFFF, 0x0000, 0x0000, 0x0000⟩,
  ⟨0x11, 120, 2, 0xFFFF, 0x0000, 0x0000, 0x0000⟩]

/-- TALLY (R352). -/
def tallyRows : List RegRow := [
  ⟨0x10, 1, 1, 0xFFFF, 0x0000, 0x0000, 0x0000⟩,
  ⟨0x13, 1, 1, 0xFFFF, 0x0000, 0x0000, 0x3210⟩]

/-- TL (R353). -/
def tlRows : List RegRow := [
  ⟨0x10, 1, 1, 0xFFEF, 0x0000, 0x0000, 0x0020⟩,
  ⟨0x11, 1, 1, 0x0000, 0x1800, 0x0000, 0x0000⟩,
  ⟨0x12, 1, 1, 0x0000, 0x0000, 0xFFFF, 0x0000⟩,
  ⟨0x13, 1, 1, 0x0000, 0x0000, 0xFFFF, 0x0000⟩,
  ⟨0x14, 1, 1, 0x0000, 0x0000, 0xFFFF, 0xFFFF⟩,
  ⟨0x15, 1, 1, 0x0000, 0x0000, 0xFFFF, 0xFFFF⟩,
  ⟨0x16, 1, 1, 0xFFFF, 0x0000, 0x0000, 0xFFFF⟩,
  ⟨0x17, 1, 1, 0xFFFF, 0x0000, 0x0000, 0xFFFF⟩,
  ⟨0x20, 1, 1, 0xFFFF, 0x0000, 0x0000, 0x0000⟩,
  ⟨0x21, 1, 1, 0xF800, 0x0000, 0x0000, 0x0000⟩]

/-- CAL (R377). -/
def calRows : List RegRow := [
  ⟨0x10, 1, 1, 0xC700, 0x0000, 0x0000, 0x0000⟩,
  ⟨0x11, 1, 1, 0xFFFF, 0x0000, 0x0000, 0x4240⟩,
  ⟨0x12, 1, 1, 0x001F, 0x0000, 0x0000, 0x000F⟩,
  ⟨0x13, 1, 1, 0x000F, 0x0000, 0x0000, 0x0002⟩,
  ⟨0x14, 1, 1, 0x000F, 0x0000, 0x0000, 0x0004⟩,
  ⟨0x15, 1, 1, 0x7F7F, 0x0000, 0x0000, 0x7848⟩,
  ⟨0x16, 1, 1, 0x00FF, 0x0000, 0x0000, 0x006C⟩,
  ⟨0x17, 1, 1, 0x0003, 0x0000, 0x0000, 0x0001⟩,
  ⟨0x40, 24, 2, 0x7F7F, 0x0000, 0x0000, 0x4040⟩,
  ⟨0x41, 24, 2, 0x7F7F, 0x0000, 0x0000, 0x4040⟩,
  ⟨0x70, 4, 1, 0x0F0F, 0x0000, 0x0000, 0x0000⟩,
  ⟨0x74, 1, 1, 0x007F, 0x0000, 0x0000, 0x0040⟩]

/-- FAULT (R403). -/
def faultRows : List RegRow := [
  ⟨0x10, 1, 1, 0x0000, 0xFFFF, 0x0000, 0x0000⟩,
  ⟨0x11, 1, 1, 0x0000, 0xFFFF, 0x0000, 0x0000⟩,
  ⟨0x14, 1, 1, 0xFFFF, 0x0000, 0x0000, 0xFFFF⟩,
  ⟨0x15, 1, 1, 0xFFFF, 0x0000, 0x0000, 0xFFFF⟩,
  ⟨0x16, 1, 1, 0xFFFF, 0x0000, 0x0000, 0xFFFF⟩,
  ⟨0x17, 1, 1, 0xFFFF, 0x0000, 0x0000, 0xFFFF⟩,
  ⟨0x18, 1, 1, 0xFFFF, 0x0000, 0x0000, 0xFFFF⟩,
  ⟨0x19, 1, 1, 0xFFFF, 0x0000, 0x0000, 0xFFFF⟩,
  ⟨0x1A, 1, 1, 0x0000, 0x007F, 0x0000, 0x0000⟩,
  ⟨0x1B, 1, 1, 0xFFFF, 0x0000, 0x0000, 0x0514⟩,
  ⟨0x1C, 1, 1, 0xFFFF, 0x0000, 0x0000, 0x0000⟩,
  ⟨0x20, 8, 1, 0xFFFF, 0x0000, 0x0000, 0x0000⟩,
  ⟨0x28, 1, 1, 0x0000, 0x000F, 0x0000, 0x0000⟩,
  ⟨0x2A, 1, 1, 0x0000, 0x8000, 0x0000, 0x0000⟩]

/-- RING (R452). -/
def ringRows : List RegRow := [
  ⟨0x10, 1, 1, 0xFFF8, 0x0000, 0x0000, 0xF0E8⟩,
  ⟨0x11, 1, 1, 0x0003, 0x0000, 0x0000, 0x0000⟩,
  ⟨0x19, 1, 1, 0x00FF, 0x0000, 0x0000, 0x0000⟩,
  ⟨0x1A, 1, 1, 0xFFFF, 0x0000, 0x0000, 0x0000⟩,
  ⟨0x20, 8, 1, 0x00FF, 0x0000, 0x0000, 0x0000⟩]

/-- SPI (R485). -/
def spiRows : List RegRow := [
  ⟨0x10, 1, 1, 0x0000, 0x0000, 0xF800, 0x0800⟩,
  ⟨0x13, 1, 1, 0x0001, 0x0000, 0x0000, 0x0000⟩]

/-- TWM (R486). -/
def twmRows : List RegRow := [
  ⟨0x10, 1, 1, 0x0000, 0x0000, 0xF800, 0x2800⟩,
  ⟨0x13, 1, 1, 0x0001, 0x0000, 0x0000, 0x0000⟩]

/-- TWP (R487). -/
def twpRows : List RegRow := [
  ⟨0x10, 1, 1, 0x0000, 0x0000, 0xFE00, 0x0400⟩,
  ⟨0x11, 1, 1, 0x0000, 0x0000, 0x007F, 0x0030⟩,
  ⟨0x12, 1, 1, 0x0000, 0x0000, 0x000F, 0x0003⟩,
  ⟨0x13, 1, 1, 0x0000, 0x8000, 0x0000, 0x0000⟩,
  ⟨0x18, 1, 1, 0xC07F, 0x0000, 0x0000, 0x4000⟩,
  ⟨0x19, 1, 1, 0x00FF, 0x0000, 0x0000, 0x0000⟩,
  ⟨0x1A, 1, 1, 0xFFFF, 0x0000, 0x0000, 0x0000⟩,
  ⟨0x1B, 1, 1, 0x0001, 0x0000, 0x0000, 0x0000⟩,
  ⟨0x20, 16, 1, 0xFFFF, 0x0000, 0x0000, 0x0000⟩]

/-- STORE (R506). -/
def storeRows : List RegRow := [
  ⟨0x10, 1, 1, 0xFFFF, 0x0000, 0x0000, 0x0000⟩,
  ⟨0x11, 1, 1, 0x01FF, 0x0000, 0x0000, 0x0000⟩,
  ⟨0x12, 1, 1, 0x0000, 0x0000, 0xFFFF, 0x0000⟩,
  ⟨0x13, 1, 1, 0xC3FF, 0x0000, 0x0000, 0x0000⟩,
  ⟨0x15, 1, 1, 0x0000, 0xE000, 0x0000, 0x0000⟩,
  ⟨0x20, 1, 1, 0xFF00, 0x0000, 0x0000, 0x0000⟩,
  ⟨0x21, 7, 1, 0xFFFF, 0x0000, 0x0000, 0x0000⟩,
  ⟨0x28, 1, 1, 0x0001, 0x0000, 0x0000, 0x0000⟩]

/-- LARDER (R507). -/
def larderRows : List RegRow := [
  ⟨0x10, 1, 1, 0xCFFF, 0x0000, 0x0000, 0xC400⟩,
  ⟨0x11, 1, 1, 0xFFFF, 0x0000, 0x0000, 0x0000⟩,
  ⟨0x12, 1, 1, 0xFFFF, 0x0000, 0x0000, 0x8C00⟩,
  ⟨0x13, 1, 1, 0x0007, 0x0000, 0x0000, 0x0000⟩,
  ⟨0x19, 4, 1, 0xFFFF, 0x0000, 0x0000, 0x0000⟩]

/-- DEV (R525). -/
def devRows : List RegRow := [
  ⟨0x10, 1, 1, 0x0000, 0x0000, 0x0000, 0x2448⟩,
  ⟨0x11, 1, 1, 0x0000, 0x0000, 0x0000, 0x00B0⟩,
  ⟨0x17, 1, 1, 0x0007, 0x0000, 0x0000, 0x0000⟩,
  ⟨0x18, 1, 1, 0xFFFF, 0x0000, 0x0000, 0x0000⟩]

/-- PWR (R526). -/
def pwrRows : List RegRow := [
  ⟨0x11, 1, 1, 0xC00F, 0x0000, 0x0000, 0xC00F⟩,
  ⟨0x12, 1, 1, 0x80FF, 0x0000, 0x0000, 0x8064⟩]

/-- TEST (R533). -/
def testRows : List RegRow := [
  ⟨0x11, 1, 1, 0x0000, 0x0000, 0xFFC0, 0x0000⟩,
  ⟨0x12, 1, 1, 0x0000, 0x0000, 0xFC1F, 0x0000⟩,
  ⟨0x14, 1, 1, 0x0000, 0x0000, 0xFFFF, 0x01E0⟩,
  ⟨0x15, 1, 1, 0x0000, 0x0000, 0xFFFF, 0x0000⟩,
  ⟨0x16, 1, 1, 0x0000, 0x0000, 0xFFFF, 0x0000⟩,
  ⟨0x17, 1, 1, 0x0000, 0x0000, 0x0001, 0x0000⟩,
  ⟨0x18, 1, 1, 0x0000, 0x0000, 0xFFFF, 0x0000⟩]

/-- HEADER (R561). -/
def headerRows : List RegRow := [
  ⟨0x01, 1, 1, 0x0000, 0x0000, 0x0000, 0x0001⟩,
  ⟨0x03, 1, 1, 0x0003, 0x0000, 0x0000, 0x0001⟩,
  ⟨0x04, 1, 1, 0x0000, 0xFFFF, 0x0000, 0x0000⟩,
  ⟨0x05, 1, 1, 0xFFFF, 0x0000, 0x0000, 0x0000⟩,
  ⟨0x06, 1, 1, 0x0000, 0xFFFF, 0x0000, 0x0000⟩,
  ⟨0x07, 1, 1, 0xFFFF, 0x0000, 0x0000, 0x0000⟩]

/-- The registers from offset 0x10 of the block that owns a page (R566). -/
def pageRows (page : Nat) : List RegRow :=
  if page == 0x00 then devRows else
  if page == 0x01 then tickRows else
  if page == 0x02 then txnRows else
  if page == 0x03 then snapRows else
  if 0x08 ≤ page && page ≤ 0x0F then trainRows else
  if 0x10 ≤ page && page ≤ 0x27 then legRows else
  if page == 0x28 then legpoolRows else
  if page == 0x30 then srcRows else
  if 0x34 ≤ page && page ≤ 0x37 then batRows else
  if page == 0x38 then guardRows else
  if page == 0x40 then adcRows else
  if 0x41 ≤ page && page ≤ 0x50 then sliceRows else
  if page == 0x51 then spareRows else
  if page == 0x52 then auxRows else
  if page == 0x58 then calRows else
  if page == 0x60 then ceRows else
  if 0x61 ≤ page && page ≤ 0x70 then loopRows else
  if 0x74 ≤ page && page ≤ 0x77 then sectRows else
  if page == 0x78 then supvRows else
  if page == 0x80 then clerkRows else
  if 0x81 ≤ page && page ≤ 0x88 then ckRows else
  if 0x90 ≤ page && page ≤ 0x9F then listRows else
  if page == 0xA0 then tallyRows else
  if 0xA1 ≤ page && page ≤ 0xB0 then tlRows else
  if page == 0xB8 then faultRows else
  if page == 0xC0 then storeRows else
  if page == 0xC1 then larderRows else
  if page == 0xC8 then ringRows else
  if page == 0xD0 then spiRows else
  if page == 0xD1 then twmRows else
  if page == 0xD2 then twpRows else
  if page == 0xE0 then pwrRows else
  if page == 0xF0 then testRows else
  []

/-- The lowest page of the block that owns a page; none on a page the index does not assign (R565, R566). -/
def blockBase (page : Nat) : Option Nat :=
  if page == 0x00 then some 0x00 else
  if page == 0x01 then some 0x01 else
  if page == 0x02 then some 0x02 else
  if page == 0x03 then some 0x03 else
  if 0x08 ≤ page && page ≤ 0x0F then some 0x08 else
  if 0x10 ≤ page && page ≤ 0x27 then some 0x10 else
  if page == 0x28 then some 0x28 else
  if page == 0x30 then some 0x30 else
  if 0x34 ≤ page && page ≤ 0x37 then some 0x34 else
  if page == 0x38 then some 0x38 else
  if page == 0x40 then some 0x40 else
  if 0x41 ≤ page && page ≤ 0x50 then some 0x41 else
  if page == 0x51 then some 0x51 else
  if page == 0x52 then some 0x52 else
  if page == 0x58 then some 0x58 else
  if page == 0x60 then some 0x60 else
  if 0x61 ≤ page && page ≤ 0x70 then some 0x61 else
  if 0x74 ≤ page && page ≤ 0x77 then some 0x74 else
  if page == 0x78 then some 0x78 else
  if page == 0x80 then some 0x80 else
  if 0x81 ≤ page && page ≤ 0x88 then some 0x81 else
  if 0x90 ≤ page && page ≤ 0x9F then some 0x90 else
  if page == 0xA0 then some 0xA0 else
  if 0xA1 ≤ page && page ≤ 0xB0 then some 0xA1 else
  if page == 0xB8 then some 0xB8 else
  if page == 0xC0 then some 0xC0 else
  if page == 0xC1 then some 0xC1 else
  if page == 0xC8 then some 0xC8 else
  if page == 0xD0 then some 0xD0 else
  if page == 0xD1 then some 0xD1 else
  if page == 0xD2 then some 0xD2 else
  if page == 0xE0 then some 0xE0 else
  if page == 0xF0 then some 0xF0 else
  none

/-- Whether the index assigns the page (R565). -/
def assigned (page : Nat) : Bool := (blockBase page).isSome

/-- Does a family hold this offset? -/
def RegRow.has (r : RegRow) (off : Nat) : Bool :=
  r.off ≤ off && (off - r.off) % r.stride == 0 && (off - r.off) / r.stride < r.cnt

/-- The section pages: SECT3 holds slots 90 to 95 only, its offsets from 0x40 are reserved (R143). -/
def reservedSect (page off : Nat) : Bool := page == 0x77 && 0x40 ≤ off

/-- The row of a register; none at a reserved offset (R3). -/
def findReg (page off : Nat) : Option RegRow :=
  if !(assigned page) || reservedSect page off then none
  else if off < 0x10 then headerRows.find? (·.has off)
  else (pageRows page).find? (·.has off)

/-- A register address as one number, 256 times the page plus the offset (R1). -/
def addr (page off : Nat) : Nat := page * 256 + off

/-- The RW bits of a register. -/
def rwMask (a : Nat) : Word := word (((findReg (a / 256) (a % 256)).map (·.rw)).getD 0)
/-- The W1C bits of a register. -/
def w1cMask (a : Nat) : Word := word (((findReg (a / 256) (a % 256)).map (·.w1c)).getD 0)
/-- The immediate-domain bits of a register (R34). -/
def immMask (a : Nat) : Word := word (((findReg (a / 256) (a % 256)).map (·.imm)).getD 0)

/-- The permission masks of the clerks at reset (R313): CK0 page group 0 ..., by clerk and mask register. -/
def permReset (c k : Nat) : Nat :=
  match c, k with
  | 0, 0 => 0x100C
  | 1, 0 => 0x200C
  | 2, 0 => 0x200C
  | 3, 0 => 0x200C
  | 4, 0 => 0x200C
  | 1, 1 => 0x1F00
  | 2, 1 => 0x1F00
  | 3, 1 => 0x1F00
  | 4, 1 => 0x1F00
  | 5, 3 => 0x0001
  | 6, 1 => 0x0001
  | _, _ => 0

/-- The thresholds BP_T1 to BP_T4 at reset (R253). -/
def bpThreshReset (k : Nat) : Nat := [0, 100, 450, 550].getD k 0

/-- FLT_REACT0 to FLT_REACT7 at reset (R403). -/
def reactReset (r : Nat) : Nat := [0, 0, 0, 0, 0x0001, 0x0111, 0x3400, 0x4303].getD r 0

/-- The stored bits of a register at reset. Registers whose reset value is a strap hold 0 here; the reset operation
writes the strap (R177, R452, R486). PG_ID is fixed by the page (R561). -/
def resetWord (a : Nat) : Word :=
  let page := a / 256
  let off := a % 256
  if off == 0 then
    match blockBase page with
    | some b => word (b * 256 + (page - b))
    | none => 0
  else if 0x10 ≤ page && page ≤ 0x27 && off == 0x12 then word (((40 * (page - 0x10)) % 960) * 64)
  else if 0x34 ≤ page && page ≤ 0x37 && 0x1E ≤ off && off ≤ 0x21 then word (bpThreshReset (off - 0x1E))
  else if 0x81 ≤ page && page ≤ 0x88 && 0x24 ≤ off && off ≤ 0x27 then word (permReset (page - 0x81) (off - 0x24))
  else if page == 0xB8 && 0x20 ≤ off && off ≤ 0x27 then word (reactReset (off - 0x20))
  else word (((findReg page off).map (·.reset)).getD 0)

end Sys2Proof.Machine
end

