-- ==== Sys2Proof/Machine/Units.lean ====
section
/-! DEFINITION. The parts of the state, block by block: plain data, named as the manual names them. -/

namespace Sys2Proof.Machine

/-- Stored register words, sparse: addresses strictly rising, no entry equal to the register's reset value. -/
structure Regs where
  cells : List (Nat × Word)
  deriving DecidableEq, Repr, Inhabited

/-- The device states of "Device states at a glance" (R511). -/
inductive DevState where
  | off | boot | hold | run | sleep | safe
  deriving DecidableEq, Repr, Inhabited

/-! ### Legs and trains (02) -/

/-- Train states (R83). -/
inductive TrState where
  | off | prebias | softstart | run | stop | reverse | hold | fenced
  deriving DecidableEq, Repr, Inhabited

/-- What the train asks of a leg in its shadow: nothing, full share, the ramp-out step or the off step of a shed (R92). -/
inductive LegStep where
  | idle | on | rampOut | shedOff
  deriving DecidableEq, Repr, Inhabited

/-- The regions of a four-switch phase (R71). -/
inductive Region where
  | buck | boost | buckBoost
  deriving DecidableEq, Repr, Inhabited

/-- The shadow of a leg, written at cycle 784 and moved to active at its valley (R56): the share p, the threshold code
(in DUTY mode the protective code), the DUTY on-time in taps, mode, direction (true: discharge), diode emulation, step. -/
structure LegShadow where
  share : Nat := 0
  code : Nat := 0
  duty : Bool := false
  ton : Nat := 0
  disch : Bool := false
  de : Bool := false
  step : LegStep := .idle
  deriving DecidableEq, Repr, Inhabited

/-- What remains of a leg between ticks in the checkpoint: its shadow, whether its train has it on (the set N_ON counts),
and the consecutive ticks of the share test (R80). -/
structure LegCp where
  shadow : LegShadow := {}
  on : Bool := false
  devCnt : Nat := 0
  deriving DecidableEq, Repr, Inhabited

/-- Where a leg stands in its period (R66, R68): before the control switch, control on, between control and rectifier,
rectifier on, rectifier off until the next valley. -/
inductive LegPhase where
  | idle | preCtl | ctl | preRect | rect | done
  deriving DecidableEq, Repr, Inhabited

/-- A leg's own switching hardware, outside the checkpoint: active values, outputs, the running period, its captures and
flags, the counts of R96, and the estimate of R78 (none: invalid). `fresh`: the running period began in this tick;
`iestNext`: the estimate of such a period, published a tick later (R79). `boot`: a held-on switch is released (R71). -/
structure LegHw where
  active : LegShadow := {}
  pwmH : Bool := false
  pwmL : Bool := false
  phase : LegPhase := .idle
  fresh : Bool := false
  armed : Bool := false
  zcSeen : Bool := false
  tripped : Bool := false
  zc : Bool := false
  tonmax : Bool := false
  ton : Nat := 0
  iest : Option Int := none
  iestNext : Option (Option Int) := none
  noTrip : Nat := 0
  stuckBlank : Nat := 0
  stuckValley : Nat := 0
  region : Region := .buck
  boot : Bool := false
  deriving DecidableEq, Repr, Inhabited

/-- What the sample latch takes of a leg (R6): the on-time, the estimate, and whether its period ended with a zero-cross trip. -/
structure LegLat where
  ton : Nat := 0
  est : Option Int := none
  zc : Bool := false
  deriving DecidableEq, Repr, Inhabited

/-- A train in the checkpoint (R83-R99). `ssRef` counts 1/256 codes; `rev` is the reversal step (0 none); `leaving` the leg
being shed; `sel` the selector result of the tick; `foldLim` the limit L; `one`: the tick ran with ONELEG;
`want`: the demand after the clamps of R73 step 2; `deSoft`: a node ramp asks for diode emulation (R185); `refused` holds PG_EVT.REFUSED back while RUN
stays 1 (R84). -/
structure TrainSt where
  state : TrState := .off
  dir : Bool := false
  sel : Int := 0
  dem : Int := 0
  ceil : Int := 0
  foldLim : Int := 0
  fold : Bool := false
  ceilAct : Bool := false
  shedding : Bool := false
  leaving : Option Leg := none
  rampWritten : Bool := false
  shedCnt : Nat := 0
  ssRef : Int := 0
  released : Bool := false
  preDem : Int := 0
  preDuty : Int := 0
  stopN : Nat := 0
  dEntry : Int := 0
  rev : Nat := 0
  iest : Int := 0
  one : Bool := false
  want : Int := 0
  deSoft : Bool := false
  refused : Bool := false
  deriving DecidableEq, Repr, Inhabited

/-! ### Control engine (03) -/

/-- The first output a loop is to give at its next update (R130, R132, R395, R200). -/
inductive Preset where
  | none
  | exact (y : Int)
  | preDemand (t : Train)
  | consumerFb (t : Train) (l : LoopIx)
  deriving DecidableEq, Repr, Inhabited

/-- A loop in the checkpoint. Codes are signed 16-bit values as integers. `out` is the delivered output; `yu`, `yp` the
outputs of this and the previous update (R115); `held` the output of the last closed tick (R129); `err` the error e,
`chain` the input of the loop's next slot; `div` the divider count; `fbHist` the feedback values of the ticks before,
newest first (R114); `defX`, `defV` the deferred update of the last section (R124); `idleTicks` counts ticks without an edge, `edgeMark`
the edges seen at the timeout, `edgesSeen` those up to the last tick (R119). -/
structure LoopSt where
  out : Int := 0
  yu : Int := 0
  yp : Int := 0
  held : Int := 0
  slPrev : Int := 0
  sl : Int := 0
  spv : Int := 0
  fbv : Int := 0
  errv : Int := 0
  err : Int := 0
  chain : Int := 0
  div : Nat := 0
  divHold : Bool := false
  updating : Bool := false
  fbHist : List Int := []
  preset : Preset := .none
  deferred : Bool := false
  defX : Int := 0
  defV : Int := 0
  defY : Int := 0
  active : Bool := false
  sat : Bool := false
  clamp : Bool := false
  sel : Bool := false
  tracked : Bool := false
  fallback : Bool := false
  subst : Bool := false
  ss : Bool := false
  idleTicks : Nat := 0
  edgeMark : Nat := 0
  edgesSeen : Nat := 0
  deriving DecidableEq, Repr, Inhabited

/-- A section's state words, Q2.30 as integers (R106), and SC_CTRL.SATD. -/
structure SectSt where
  w1 : Int := 0
  w2 : Int := 0
  satd : Bool := false
  deriving DecidableEq, Repr, Inhabited

/-- An oscillator (R135-R138): `next` is o of this tick's slot, applied in the next tick; `applied` and `appliedPh` what is
applied in this tick; destination latched at the start (R137); `done` once a zero crossing is reached. -/
structure OscSt where
  run : Bool := false
  stopping : Bool := false
  done : Bool := false
  ctx : LoopIx := 0
  slot : Slot := 0
  phase : Nat := 0
  next : Int := 0
  nextPh : Nat := 0
  applied : Int := 0
  appliedPh : Nat := 0
  dest : Bool := false
  train : Train := 0
  loop : LoopIx := 0
  deriving DecidableEq, Repr, Inhabited

/-- CE_SELt: the winner of a train's selector (R123). -/
structure CeSel where
  valid : Bool := false
  maxGroup : Bool := false
  osc : Bool := false
  loop : LoopIx := 0
  deriving DecidableEq, Repr, Inhabited

/-- The CE page's status: the last dropped write (R127), the last capacity cause (R133), corrected errors (R139). -/
structure CeSt where
  lockKind : Bool := false
  lockLoop : LoopIx := 0
  lockSlot : Slot := 0
  capCause : Nat := 0
  eccCnt : Nat := 0
  deriving DecidableEq, Repr, Inhabited

/-- CE_FLT: the last trip of a CE checker (R139). -/
structure CeFlt where
  ecc : Bool := false
  loop : LoopIx := 0
  slot : Slot := 0
  deriving DecidableEq, Repr, Inhabited

/-! ### Tick, staging and host banks (01) -/

/-- One value for each host port. -/
structure PerPort (α : Type) where
  spi : α
  twm : α
  deriving DecidableEq, Repr, Inhabited

/-- A staged write and the moment it completed: tick count and cycle (R12, R19). -/
structure StagedWrite where
  page : Nat
  off : Nat
  val : Word
  tick : Nat
  cyc : Nat
  deriving DecidableEq, Repr, Inhabited

/-- Where a commit unit comes from (R16): a clerk, the non-transaction writes of a port, a port's transaction, or the
master's batch of a formed ring (R42, R428). -/
inductive UnitSrc where
  | clerk (c : ClerkIx)
  | host (p : Port)
  | txn (p : Port)
  | batch
  deriving DecidableEq, Repr, Inhabited

/-- A commit unit: its source, the tick count of its boundary, its writes, its completion (for a transaction, of its
COMMIT), whether the master has decided its cascade-scope writes (R427), the cause it is rejected with once that is known
(R17, R18), and the value of TXN_TGT of a COMMIT_AT (R26). -/
structure CommitUnit where
  src : UnitSrc
  due : Nat
  writes : List StagedWrite
  tick : Nat
  cyc : Nat
  decided : Bool := false
  reject : Option Nat := none
  tgt : Option Nat := none
  deriving DecidableEq, Repr, Inhabited

/-- What a TXN bank is doing: a transaction is open; a COMMIT_AT waits for its target (`pending`); a COMMIT waits for its
boundary (`waiting`). -/
inductive TxnPhase where
  | idle | opened | waiting | pending
  deriving DecidableEq, Repr, Inhabited

/-- A TXN bank (R22-R29, R50): the held writes; ticks since OPEN; the status bits 9:1 and causes; the tick count at whose
cycle 0 the last transaction took effect (R28). -/
structure TxnBank where
  opened : Bool := false
  writes : List StagedWrite := []
  full : Bool := false
  since : Nat := 0
  tgt : Word := 0
  badcmd : Bool := false
  aborted : Bool := false
  abortIgnored : Bool := false
  tmo : Bool := false
  fullBit : Bool := false
  late : Bool := false
  collide : Bool := false
  reject : Bool := false
  done : Bool := false
  rejCause : Nat := 0
  last : Word := 0
  doneAt : Option Nat := none
  deriving DecidableEq, Repr, Inhabited

/-- A SNAP bank (R30-R33, R51). -/
structure SnapBank where
  hold : Bool := false
  held : Bool := false
  expired : Bool := false
  tnum : Word := 0
  left : Nat := 0
  deriving DecidableEq, Repr, Inhabited

/-- A checker trip of this tick (R36): checker code, the unit it names, the cycle. -/
structure Trip where
  checker : Nat
  unit : List FenceUnit
  cyc : Nat
  deriving DecidableEq, Repr, Inhabited

/-- The tick (R6-R8, R40, R49): the count of boundaries since the first tick (which orders commits, and never jumps),
TICKNUM, the rollback record, this tick's trips, and the latches of TK_NUM_M/H per port (R49). -/
structure TickSt where
  count : Nat := 0
  num : Nat := 0
  skipped : Bool := false
  rbCnt : Nat := 0
  rbTick : Word := 0
  rbChecker : Nat := 7
  rbCyc : Nat := 0
  trips : List Trip := []
  prevRolled : Bool := false
  written : Bool := false
  latch : PerPort (Option (Word × Word)) := ⟨none, none⟩
  deriving DecidableEq, Repr, Inhabited

/-! ### Faults (11) -/

/-- The collector (R378-R399): FAULT_WORD, the bits latched and not yet decided with the causes that stood since they were latched (pages
and unmasked PG_ERR bits, R386, R387), the first record with the mark that the word read 0 as the cycle began (R384), what the last
decision ordered for the next cycle 0 (`holdConf`: CONFIG among its holds, R389), the pins (`strapsOn`: the enables stand at their
straps since a code 4, R385), whether a line of code 3 or 4 was up since the last cycle 0 (`grave`, R389), and the records. -/
structure Collector where
  word : BitVec 32 := 0
  newly : BitVec 32 := 0
  causes : List (Nat × Word) := []
  opened : Bool := false
  first : Option Nat := none
  firstTk : Word := 0
  fencePend : List FenceUnit := []
  inherent : List FenceUnit := []
  holdPend : Bool := false
  holdConf : Bool := false
  safePend : Option Nat := none
  actCode : Nat := 0
  actBit : Nat := 0
  fltLow : Bool := false
  pinsOff : Bool := false
  strapsOn : Bool := false
  grave : Bool := false
  heldByReaction : Bool := false
  heldByConfig : Bool := false
  quiet : Nat := 0
  resumeCnt : Nat := 0
  unfDone : Bool := false
  unfFail : Bool := false
  unfPage : Nat := 0
  stickyTk : Word := 0
  safeBit : Nat := 0
  safeTk : Word := 0
  diet : Bool := false
  latchH : PerPort (Option Word) := ⟨none, none⟩
  deriving DecidableEq, Repr, Inhabited

/-- A readmission self-check that is running (R394): the unit, the tick count of tick a, and whether the unit has set an error since
(R396). -/
structure SelfCheck where
  unit : FenceUnit
  since : Nat
  bad : Bool
  deriving DecidableEq, Repr

/-! ### Supervisor (04) -/

/-- A train model (R144-R156): exact values, in codes and 50 mA units. `onTimes`: the mean control-switch on-times of the
last ticks in which the train switched, newest first, with the count of ticks ago; `dutyMean`: their mean over the 8 ticks before the
last verdict on a slice that concerns the train (R155); `anew`: such a verdict stands, and SUBTK restarts (R156); `tkBefore`: SUBTK
before this tick was counted; `frozen`: SVt_STAT
while the supervisor is fenced (R168). -/
structure ModelSt where
  running : Bool := false
  fresh : Bool := true
  suspended : Bool := false
  quiet : Nat := 0
  vc : Rat := 0
  ihat : Rat := 0
  lhat : Rat := 0
  vhat : Rat := 0
  rv : Rat := 0
  ri : Rat := 0
  rf : Rat := 0
  rvOver : Bool := false
  riOver : Bool := false
  rfOver : Bool := false
  rcnt : Nat := 0
  dhi : Rat := 0
  inSubst : Bool := false
  subTk : Nat := 0
  tkBefore : Nat := 0
  anew : Bool := false
  held : Bool := false
  degraded : Bool := false
  dutyHold : Bool := false
  dutyMean : Option Nat := none
  frozen : Option Word := none
  onTimes : List (Option Rat) := []
  deriving DecidableEq, Repr, Inhabited

/-- Verdict causes (R147). -/
inductive Blame where
  | none | lost | frozen | implausible
  deriving DecidableEq, Repr, Inhabited

/-- The states of an alternative's test (R157-R164): waiting for the spare, settling, in its window, serving, rejected or
none to be had. -/
inductive AltState where
  | none | waiting | settle | agree | serving | rejected
  deriving DecidableEq, Repr, Inhabited

/-- Which converter stands as the alternative (R157). -/
inductive AltKind where
  | spare | partner | own
  deriving DecidableEq, Repr, Inhabited

/-- A supervised slice (R147-R164): the counts of LOST and FROZEN, the last words, the blame, the words held for R152's last
row, the estimate, and its alternative. `fenceDue`: a verdict of this tick fences it at the next cycle 0 (R151); `back`: the boundaries
from which a readmitted slice's alternative still delivers (R166, R289). -/
structure SliceSup where
  lostCnt : Nat := 0
  frzCnt : Nat := 0
  lastWord : Option (Int × Int) := none
  cause : Blame := .none
  fenceDue : Bool := false
  subst : Bool := false
  est : Option Int := none
  heldFast : Int := 0
  heldExt : Nat := 0
  heldFine : Int := 0
  alt : AltState := .none
  altKind : AltKind := .spare
  altSettle : Nat := 0
  altCnt : Nat := 0
  altLast : Option Int := none
  acceptDue : Bool := false
  back : Nat := 0
  deriving DecidableEq, Repr, Inhabited

/-! ### Larder (14) -/

/-- Larder states (R503). -/
inductive LarState where
  | off | armed | post | frozen | flush
  deriving DecidableEq, Repr, Inhabited

/-- A record of the larder: its number k mod 4096, whether it was written before the last arming, its words 0-123. -/
structure LarRec where
  ix : Nat
  old : Bool
  words : List Word
  deriving DecidableEq, Repr, Inhabited

/-- The larder (R502-R505): its state, the trigger (source code of LAR_TRIG_SRC, index, tick), whether the trigger record
is written, the records left, the triggers ignored, the flush's progress, and the records written since power-on, oldest
first, at most one of each number. -/
structure LarderSt where
  state : LarState := .armed
  trigSrc : Nat := 0
  trigIdx : Nat := 0
  trigTk : Word := 0
  recorded : Bool := false
  left : Nat := 0
  missed : Nat := 0
  flushed : Bool := false
  err : Bool := false
  prog : Nat := 0
  recs : List LarRec := []
  deriving DecidableEq, Repr, Inhabited

/-! ### Conversion (07), part one -/

/-- What a logical slice delivers in the tick: its fast word (in pair mode the later of its two words, with the earlier in
`fast0`), extension bits, the word that stands as the mean of R118, and the latest fine result. -/
structure Delivered where
  fast : Int := 0
  fast0 : Int := 0
  ext : Nat := 0
  ext0 : Nat := 0
  mean : Int := 0
  fine : Int := 0
  deriving DecidableEq, Repr, Inhabited

/-- The spare's states (SV_ALT.STATE, R157-R164, R296). -/
inductive SpareState where
  | idle | calib | ret | settle | agree | serving | rejected | fenced
  deriving DecidableEq, Repr, Inhabited

/-- The spare slice: its state and the slice whose input it serves, tests or calibrates. -/
structure SpareSt where
  state : SpareState := .idle
  slice : Slice := 0
  retLeft : Nat := 0
  deriving DecidableEq, Repr, Inhabited

/-- A converter's latched words of the tick (R257-R271): the calibrated fast word with its extension bits, the raw 24-bit
word, the odd word of pair mode produced at cycle 480 (R266), and whether a converter fault stands (R271). -/
structure ConvSt where
  fast : Int := 0
  ext : Nat := 0
  raw : Int := 0
  odd : Option (Int × Int) := none
  fault : Bool := false
  deriving DecidableEq, Repr, Inhabited

/-- A slice's open-wire flag and counts (R270), window condition (R268), and fine path (R262-R265): busy, a held trigger,
results since the restart, the count of ignored triggers, the result, its tick, the one to be latched, FNEW, and the cycles, counted from
reset and rising, of the triggers not taken yet. -/
structure SliceSt where
  ow : Bool := false
  owHit : Nat := 0
  owMiss : Nat := 0
  win : Bool := false
  busy : Bool := false
  held : Bool := false
  results : Nat := 0
  ovr : Nat := 0
  fine : Int := 0
  fineTk : Word := 0
  next : Option Int := none
  fnew : Bool := false
  trigs : List Nat := []
  deriving DecidableEq, Repr, Inhabited

/-- A system calibration run (R281-R283): kind 1 ZERO, 2 FULL, 0 none; its start tick, length, sum, and the status bits. -/
structure SysCal where
  kind : Nat := 0
  since : Nat := 0
  len : Nat := 0
  n : Nat := 0
  sum : Int := 0
  input : Nat := 0
  done : Bool := false
  aborted : Bool := false
  ignored : Bool := false
  refused : Bool := false
  range : Bool := false
  deriving DecidableEq, Repr, Inhabited

/-- Background calibration (R284-R290): the step of ADC_BG_STAT, the slice, the tick counts of the start and of an early
return, Z and V, the four sums, the spare's offset and gain, ADC_BG_CNT; per slice the tick of its last calibration, its
consecutive rejections, and whether a first cycle has been made. -/
structure BgSt where
  step : Nat := 0
  slice : Slice := 0
  since : Nat := 0
  endAt : Option Nat := none
  z : Nat := 0
  v : Nat := 0
  sz : Int := 0
  sr : Int := 0
  cz : Int := 0
  cr : Int := 0
  standIn : Bool := false
  spOffs : Word := 0
  spGain : Word := 0
  count : Nat := 0
  lastStart : Nat := 0
  lastSlice : Option Slice := none
  lastCal : Vector Nat 16 := Vector.replicate 16 0
  rejects : Vector Nat 16 := Vector.replicate 16 0
  made : Vector Bool 16 := Vector.replicate 16 false
  deriving DecidableEq, Repr, Inhabited

/-- Reference tracing (R291, R292): waiting, running with its start, the CALV half begun, the two sums, the status bits. -/
structure TraceSt where
  waiting : Bool := false
  running : Bool := false
  calv : Bool := false
  since : Nat := 0
  sz : Int := 0
  sc : Int := 0
  done : Bool := false
  aborted : Bool := false
  ignored : Bool := false
  refused : Bool := false
  range : Bool := false
  deriving DecidableEq, Repr, Inhabited

/-- The auxiliary slice (R276-R280): the input of the present slot, the results to be latched, the last raw results delivered, AX_NEW, the open-wire flags and
counts, the die temperature, the check reference, the window comparator levels, and whether the scan was enabled. -/
structure AxSt where
  input : Fin 16 := 0
  next : Vector (Option Int) 16 := Vector.replicate 16 none
  raws : Vector Int 16 := Vector.replicate 16 0
  new : Word := 0
  ow : Word := 0
  owHit : Vector Nat 14 := Vector.replicate 14 0
  owMiss : Vector Nat 14 := Vector.replicate 14 0
  dieTemp : Option Int := none
  refDev : Option Int := some 0
  refBad : Nat := 0
  axw : Word := 0
  en : Bool := true
  cal : SysCal := {}
  deriving DecidableEq, Repr, Inhabited

/-! ### Tally timers (09) -/

/-- The level of a `TIN` pin behind one filter setting, as last detected, and the cycle, counted from reset, of that (R331, R333). -/
structure TinLevel where
  level : Bool := false
  since : Option Nat := none
  deriving DecidableEq, Repr, Inhabited

/-- A Tally (R330-R351): count, compare, held halves, direction, chain run state, captures, the edges of the
tick and of the last tick, the flags of an edge whose actions are still to run, SUSPECT, the snapshot copy, the sleep
remainder, the TLn_CFG last in force; for R119 the edges since reset, the number of the last rising edge, whether a falling edge
followed it, and the last complete pulse, live and as of cycle 0; for R341 the cycle of the last event, counted from reset, what stood
before it (running, count, direction), and whether that cycle has a stop, a reload, a load. -/
structure TallySt where
  cnt : Nat := 0
  cmp : Nat := 4294967295
  heldL : Word := 0
  heldH : Word := 0
  cmpL : Word := 0
  cmpH : Word := 0
  down : Bool := false
  run : Bool := false
  capR : Nat := 0
  capF : Nat := 0
  capP : Nat := 0
  rNow : Bool := false
  fNow : Bool := false
  eNow : Nat := 0
  rNew : Bool := false
  fNew : Bool := false
  edges : Nat := 0
  lastFall : Bool := false
  matchDue : Bool := false
  wrapDue : Bool := false
  suspect : Bool := false
  snap : Nat := 0
  rem : Nat := 0
  cfg : Word := 0x0020
  total : Nat := 0
  riseNo : Option Nat := none
  fell : Bool := false
  duty : Option (Int × Nat) := none
  dutyPub : Option (Int × Nat) := none
  actAt : Option Nat := none
  ran : Bool := false
  pre : Nat := 0
  preDown : Bool := false
  halted : Bool := false
  reloaded : Bool := false
  loaded : Bool := false
  deriving DecidableEq, Repr, Inhabited

/-! ### Tap calibration (10) -/

/-- Tap calibration (R357-R376), no part of the checkpoint: the run (kind 0 none) with its target, start tick, length, legs
and passes; the bits of CAL_STAT, CAL_FAIL and CAL_VALID; which targets failed last (trains 0-7, sources 8-11, ring 12);
which entries hold accepted values, with HIRANGE at the calibration; the save: busy, requested again, status, sequence, slot. -/
structure CalSt where
  kind : Nat := 0
  target : Nat := 0
  since : Nat := 0
  len : Nat := 0
  legs : List Leg := []
  two : Bool := false
  done : Bool := false
  aborted : Bool := false
  ignored : Bool := false
  refused : Bool := false
  fail : Bool := false
  lastKind : Nat := 0
  refCause : Nat := 0
  abortCause : Nat := 0
  endedAt : Nat := 0
  failTest : Nat := 0
  failValue : Nat := 0
  failItem : Nat := 0
  valid : Word := 0
  last : Word := 0
  failed : Vector Bool 13 := Vector.replicate 13 false
  legOk : Vector Bool 24 := Vector.replicate 24 false
  legHi : Vector Bool 24 := Vector.replicate 24 false
  srcOk : Vector Bool 4 := Vector.replicate 4 false
  ringOk : Bool := false
  saveDue : Bool := false
  saveBusy : Bool := false
  saveAgain : Nat := 0
  saveDone : Bool := false
  saveErr : Bool := false
  seq : Nat := 0
  slot : Nat := 0
  ldH : Vector Word 24 := Vector.replicate 24 0x4040
  ldL : Vector Word 24 := Vector.replicate 24 0x4040
  ring : Nat := 64
  deriving DecidableEq, Repr, Inhabited

/-! ### Power path (05) -/

/-- Intake node states (R183). -/
inductive NodeState where
  | none | live | lost | ramp
  deriving DecidableEq, Repr, Inhabited

/-- An intake node: its state and ramp value (R183, R185). -/
structure NodeSt where
  state : NodeState := .none
  ramp : Nat := 0
  deriving DecidableEq, Repr, Inhabited

/-- A source's hardware: comparator levels, OVOFF, the measured voltage, and the ticks it has been enabled and in window
(R179-R183). -/
structure SrcSt where
  uv : Bool := false
  ov : Bool := false
  ovOff : Bool := false
  v : Nat := 0
  winTicks : Nat := 0
  enPrev : Bool := false
  deriving DecidableEq, Repr, Inhabited

/-- The ride-through preset (R197-R202): the trains it holds before the CE takeover, the demand of each, the tick count of
the last firing, and the trains preset at the last loss. -/
structure RideSt where
  held : Vector Bool 8 := Vector.replicate 8 false
  dem : Vector Nat 8 := Vector.replicate 8 0
  taken : Vector Bool 8 := Vector.replicate 8 false
  fired : Nat := 0
  last : Nat := 0
  deriving DecidableEq, Repr, Inhabited

/-! ### Battery ports (06) -/

/-- Temperature windows (R215). -/
inductive Window where
  | cold | cool | normal | warm | hot
  deriving DecidableEq, Repr, Inhabited

/-- One thermistor: whether a result has come, whether it is valid, whether it reads open, its temperature (R212, R213). -/
structure NtcSt where
  seen : Bool := false
  valid : Bool := false
  isOpen : Bool := false
  temp : Int := 0
  deriving DecidableEq, Repr, Inhabited

/-- The standing guard trips of a port (R232). -/
structure Trips where
  v : Bool := false
  i : Bool := false
  t : Bool := false
  td : Bool := false
  vd : Bool := false
  timeout : Bool := false
  preTimeout : Bool := false
  deriving DecidableEq, Repr, Inhabited

/-- The impedance probe of a port (R246-R248): the window, the phase before, completed wraps, the exact accumulators, the
phase and window of its first tick, the oscillator's frequency then, and the last result. -/
structure ProbeSt where
  run : Bool := false
  ended : Bool := false
  wraps : Nat := 0
  lastPh : Nat := 0
  n : Nat := 0
  sv : Int := 0
  si : Int := 0
  svc : Rat := 0
  svs : Rat := 0
  sic : Rat := 0
  sis : Rat := 0
  sc : Rat := 0
  ss : Rat := 0
  phase0 : Nat := 0
  window0 : Window := .normal
  freq0 : Nat := 0
  valid : Bool := false
  cause : Nat := 0
  freq : Nat := 0
  mag : Nat := 0
  ph : Int := 0
  deriving DecidableEq, Repr, Inhabited

/-- A battery port in the checkpoint (R208-R252). Timers: the weighted charge timer in 1/4096 ticks, its ticks of accrual,
the reduced ones, the pre-charge timer. `snap`: the window is set without hysteresis at the next
temperature (R215). `force`: the FAULT cause the hardware forces at the next cycle 0;
`releaseDue`: it releases BAT_EN then. -/
structure BatSt where
  v : Int := 0
  i : Int := 0
  window : Window := .normal
  snap : Bool := true
  ntcA : NtcSt := {}
  ntcB : NtcSt := {}
  tempImp : Option Int := none
  impAge : Nat := 0
  trips : Trips := {}
  vCnt : Nat := 0
  iCnt : Nat := 0
  vdCnt : Nat := 0
  inhibit : Bool := true
  dinhibit : Bool := false
  reduced : Bool := false
  tmrRun : Bool := false
  ptmrRun : Bool := false
  tmrCc : Nat := 0
  tmrElap : Nat := 0
  tmrRed : Nat := 0
  tmrPre : Nat := 0
  cause : Nat := 0
  causeRed : Bool := false
  force : Option Nat := none
  releaseDue : Bool := false
  ichEff : Int := 0
  vcvEff : Int := 0
  amp : Int := 0
  bias : Int := 0
  eIn : Nat := 0
  eOut : Nat := 0
  eInRem : Int := 0
  eOutRem : Int := 0
  cycles : Nat := 0
  insCnt : Nat := 0
  probe : ProbeSt := {}
  deriving DecidableEq, Repr, Inhabited

/-- A port's removal hardware, outside the checkpoint (R239-R243): BATREL, the presence pin's level, whether a detector other
than OVC, or OVC, fired in this tick, presence as BP_STAT shows it, and the dV/dt detector's last word with its consecutive rises. -/
structure BatHw where
  rel : Bool := false
  pin : Bool := false
  removed : Bool := false
  ovc : Bool := false
  present : Bool := false
  dvPrev : Int := 0
  dvRise : Nat := 0
  deriving DecidableEq, Repr, Inhabited

/-! ### Clerks (08) -/

/-- What a clerk is doing when it is neither paused nor fenced (R301). -/
inductive CkRun where
  | stopped | running | wait | waitc | halted
  deriving DecidableEq, Repr, Inhabited

/-- The condition of a WAITC (R309). -/
structure WaitCond where
  p : Bool
  t : Fin 4
  page : Nat
  off : Nat
  bit : Nat
  mode : Nat
  deriving DecidableEq, Repr, Inhabited

/-- A pack-bus request (R474-R476): a clerk's, or the host's (none). -/
structure PbReq where
  who : Option ClerkIx
  write : Bool
  word : Bool
  addr : Nat
  cmd : Nat
  data : Word
  deriving DecidableEq, Repr

/-- A record of the event queue (R315). -/
structure EvtRec where
  clerk : ClerkIx
  ledger : Bool
  code : Word
  data : Word
  tick : Word := 0
  deriving DecidableEq, Repr

/-- A planned switch of a node (R191): from a source to another, make-before-break or not, the tick count from which its first
write is in force. -/
structure SwPlan where
  old : Src
  new : Src
  mbb : Bool
  since : Nat
  deriving DecidableEq, Repr, Inhabited

/-- What a factory list remembers (R187-R203, R219-R244, R252, R298). All lists: the slots of the running pass, the tick count of
the last pass. Source list: by source the tick count of the first good pass, by node the active source and a planned switch, the
intake trains started. Charge list: the phase last seen, consecutive passes of its trigger, the tick count from which the QUAL
checks hold or DONE was entered, counted ticks of termination, whether `BATEN` was written, the phases before SUSPEND and
DISCHARGE, the phase it wrote itself, whether this pass first sees a phase it did not write, whether the set-up of CELLAR stands, the
step of a probe, the boundary of its start, and whether the last pass saw the oscillator on. Ledger list: windows seen open, records to write, the counters at the last append and its
tick count. Housekeeping: ticks in RUN since the last trace, whether the die is hot. -/
structure FactSt where
  ticks : Nat := 0
  last : Nat := 0
  good : Vector (Option Nat) 4 := Vector.replicate 4 none
  act : Vector (Option Src) 2 := Vector.replicate 2 none
  plan : Vector (Option SwPlan) 2 := Vector.replicate 2 none
  started : Vector Bool 8 := Vector.replicate 8 false
  phase : Nat := 0
  n : Nat := 0
  since : Option Nat := none
  term : Nat := 0
  conn : Bool := false
  susp : Nat := 4
  disch : Nat := 4
  wrote : Option Nat := none
  entry : Bool := false
  cellar : Bool := false
  probe : Nat := 0
  startAt : Nat := 0
  oscOn : Bool := false
  run : Vector Bool 4 := Vector.replicate 4 false
  imp : List BPort := []
  ctr : List BPort := []
  old : Vector (Nat × Nat × Nat) 4 := Vector.replicate 4 (0, 0, 0)
  appended : Nat := 0
  runTicks : Nat := 0
  hot : Bool := false
  lar : Bool := false
  deriving DecidableEq, Repr, Inhabited

/-- A clerk (R299-R301), all of it in the checkpoint: registers A-D, flags, PC, timers, wait count, request flag; the
instructions executed in the slot and whether the slot has ended; the condition it waits for; a request and the events of
this tick; the status and fault registers; CK_PB_STAT; the list CRC of this tick and the one published (R322). -/
structure ClerkSt where
  run : CkRun := .stopped
  paused : Bool := false
  regs : Vector (BitVec 32) 4 := Vector.replicate 4 0
  z : Bool := false
  n : Bool := false
  c : Bool := false
  pc : Nat := 0
  timers : Vector Nat 4 := Vector.replicate 4 0
  wait : Nat := 0
  req : Bool := false
  count : Nat := 0
  ended : Bool := false
  cond : WaitCond := ⟨false, 0, 0, 0, 0, 2⟩
  reqNew : Option PbReq := none
  events : List EvtRec := []
  illegal : Bool := false
  rejCause : Nat := 0
  fltCause : Nat := 0
  fltPc : Nat := 0
  denyPage : Nat := 0
  denyOff : Nat := 0
  pbBusy : Bool := false
  pbDone : Bool := false
  pbW : Bool := false
  pbErr : Bool := false
  pbCause : Nat := 0
  pbRd : Word := 0
  fact : FactSt := {}
  deriving DecidableEq, Repr, Inhabited

/-! ### Host ports and buses (13) -/

/-- What an SPI frame's data words meet (R460, R461): the registers; zeros, in BOOT; nothing, where the header makes the port ignore
the frame. -/
inductive SpiMode where
  | live | zeros | ignored
  deriving DecidableEq, Repr, Inhabited

/-- An SPI frame whose header is in (R454-R460): its direction, page, first offset, AI and view; the data words so far; whether a data
CRC was wrong; the port configuration that waits for its end (R34). -/
structure SpiFrame where
  mode : SpiMode
  read : Bool
  page : Nat
  off : Nat
  ai : Bool
  view : Bool
  k : Nat := 0
  bad : Bool := false
  cfg : List (Nat × Nat × Word) := []
  deriving DecidableEq, Repr

/-- The SPI port (R453-R461): its error counts, what the previous frame ended with (status bits 12 and 11), the bytes of
the last frame's MISO after the status word, that status word, and a frame that goes on. -/
structure SpiSt where
  hdr : Nat := 0
  part : Nat := 0
  crcCnt : Nat := 0
  prevCrc : Bool := false
  prevErr : Bool := false
  status : Word := 0
  miso : List Byte := []
  frame : Option SpiFrame := none
  deriving DecidableEq, Repr, Inhabited

/-- The management target (R463-R468): pointer, error counts, the bytes last sent, and whether that read goes on; of a transaction
that a repeated START continues, its bytes so far and the pointer before it. -/
structure TwmSt where
  cmd : Nat := 0
  page : Nat := 0
  off : Nat := 0
  errSr : Nat := 0
  errBit : Nat := 0
  errPec : Nat := 0
  errTmo : Nat := 0
  sent : List Byte := []
  reading : Bool := false
  acked : Bool := true
  sofar : List Byte := []
  before : Option (Nat × Nat × Nat) := none
  deriving DecidableEq, Repr, Inhabited

/-- The pack bus (R474-R482): the queue; whether the head is on the bus, the retries it has used, the tick count from which
it waits for the bus; results for the next cycle 0; the arbitration record; the peer target's window, the bytes last sent, and the
index of a read that goes on. -/
structure TwpSt where
  queue : List PbReq := []
  onBus : Bool := false
  tries : Nat := 0
  since : Nat := 0
  results : List (PbReq × Nat × Word) := []
  arbByte : Nat := 0
  arbBit : Nat := 0
  late : Nat := 0
  early : Nat := 0
  tin : Vector Word 8 := Vector.replicate 8 0
  wire : List Byte := []
  sent : List Byte := []
  peerIx : Option Nat := none
  acked : Bool := true
  busy : Bool := false
  done : Bool := false
  w : Bool := false
  err : Bool := false
  cause : Nat := 0
  rd : Word := 0
  deriving DecidableEq, Repr, Inhabited

/-- ALERT# and IRQ# (R462, R471-R473): the cause list as (reaction, bit, position), its head (bit, position), the pins, and the list at a winning alert
response. -/
structure AlertSt where
  list : List (Nat × Nat × Nat) := []
  head : Option (Nat × Nat) := none
  alert : Bool := false
  irq : Bool := false
  answered : Option (List (Nat × Nat × Nat)) := none
  deriving DecidableEq, Repr, Inhabited

/-! ### Cascade (12) -/

/-- Ring states (R411). -/
inductive RgState where
  | off | search | listen | align | load | ready | member | master | holdover | dropped
  deriving DecidableEq, Repr, Inhabited

/-- States of a ring port (R452). -/
inductive RgPortState where
  | down | training | up | foreign | tap | wrap
  deriving DecidableEq, Repr, Inhabited

/-- A ring port: state, flight time in taps, check-word errors with those of the 4096-tick window (R409), the ticks of a
phase error (R423); `wrapped`: the loop turns round here, also while the port shows another state (R441, R445). -/
structure RgPort where
  state : RgPortState := .down
  flight : Nat := 0
  crc : Nat := 0
  crcWin : List Nat := []
  phase : Nat := 0
  trained : Bool := false
  wrapped : Bool := false
  deriving DecidableEq, Repr, Inhabited

/-- What the master knows of a position (R432, R442, R452): member, missed, empty in the last frame, its last slots with the
tick count they report. -/
structure RgPos where
  member : Bool := false
  missed : Bool := false
  empty : Bool := false
  leaving : Bool := false
  slot : Option RingSlot := none
  slot1 : Option RingSlot := none
  slot2 : Option RingSlot := none
  deriving DecidableEq, Repr, Inhabited

/-- A frame with the ports it leaves on, E as true (R413, R414). -/
structure Sent (α : Type) where
  frame : α
  ports : List Bool
  deriving DecidableEq, Repr

/-- The cascade (R404-R450): the ring state with position and priority as adopted, master, topology, masks, flags; ticks without a
marker; announces heard in the last 64 ticks; batches by their boundary; drops by their boundary; the entry tick named for
this device; the slot assembled for the tick frame, and whether a frame passed without one (R417, R443); the positions found missed or leaving at the last decision, the tick of the last gathered frame (R442); digest
mismatches; heal tick; the demand frame held for cycle 240; the last one received; the transfer of an image (`imgBad`: the part under way
has failed, `imgAuto`: its AUTORUN); the frames last sent; by position what the master knows; the slots the master uses since the last cycle
776 (`inUse`), and whether they are those of its own frames (`ownSlots`, R419, R440); the number of the master's tick by the last marker
on the way in (`marker`, R421); ticks in DROPPED in which a rejoin was free (`rejoin`, R411); a master in SAFE has announced its drop
(`leaveSent`, R390). -/
structure RingSt where
  state : RgState := .off
  topo : Nat := 0
  mpos : Nat := 0
  pos : Nat := 0
  mprio : Nat := 14
  holdNeed : Bool := false
  dup : Bool := false
  memb : Nat := 0
  ready : Nat := 0
  e : RgPort := {}
  w : RgPort := {}
  pherr : Int := 0
  hop : Nat := 0
  evtTk : Word := 0
  quiet : Nat := 0
  since : Nat := 0
  heard : List (Announce × Nat) := []
  heardE : Option Announce := none
  heardW : Option Announce := none
  diverged : Bool := false
  memberAt : Nat := 0
  batches : List (Nat × List BatchEntry) := []
  drops : List (Nat × Nat) := []
  entry : Option Nat := none
  joinSent : Option (Nat × Word) := none
  mismatch : Nat := 0
  heal : Option Nat := none
  leave : Bool := false
  slot : Option RingSlot := none
  unwritten : Bool := false
  missed : Nat := 0
  lastMarker : Nat := 0
  aligned : Bool := false
  downTicks : Nat := 0
  frame : Option DemandFrame := none
  last : Option DemandFrame := none
  lastAt : Nat := 0
  imgBusy : Bool := false
  imgDone : Bool := false
  imgErr : Bool := false
  imgFrames : Nat := 0
  image : List BatchEntry := []
  scope : List BatchEntry := []
  gotImage : Bool := false
  gotScope : Bool := false
  formed : Bool := false
  nav : Vector (Nat × Nat) 8 := Vector.replicate 8 (0, 0)
  know : Vector RgPos 8 := Vector.replicate 8 {}
  dropNext : Nat := 0
  gathered : Nat := 0
  dropCnt : Nat := 0
  sinceMaster : Nat := 0
  txTick : Option (Sent TickFrame) := none
  txDemand : Option (Sent DemandFrame) := none
  fwdTick : Option (Sent TickFrame) := none
  fwdDemand : Option (Sent DemandFrame) := none
  fwdAnn : Option (Sent Announce) := none
  fwdImage : Option (Sent ImageFrame) := none
  inUse : Vector (Option RingSlot) 8 := Vector.replicate 8 none
  ownSlots : Bool := false
  marker : Option Nat := none
  rejoin : Nat := 0
  leaveSent : Bool := false
  imgBad : Bool := false
  imgAuto : Bool := false
  deriving DecidableEq, Repr

/-! ### Storeroom (14) -/

/-- An operation on the array (R493): the image read for a device that joins, the ledger's record or its sector erase, a calibration save, a host page or erase, a
larder record, the pre-erase of a capture slot. -/
inductive ArrOp where
  | imageRead
  | calSave
  | ledger
  | ledgerErase (sector : Nat)
  | hostProg
  | hostErase (sector : Nat)
  | flush (j : Nat)
  | preErase (slot done : Nat)
  deriving DecidableEq, Repr

/-- A program buffer: its page (word address div 128) and the words written, by offset in the page (R490). -/
structure ProgBuf where
  page : Nat
  words : List (Nat × Word)
  deriving DecidableEq, Repr, Inhabited

/-- A record waiting for the ledger: kind, sub, payload (R499-R501). -/
structure LedgerRec where
  kind : Nat
  sub : Nat
  pay : List Word
  tick : Nat
  deriving DecidableEq, Repr

/-- The ledger's own counts of a battery port (R501): totals of COUNTERS, minutes of TEMPHIST with ticks into the minute. -/
structure LedgerPort where
  eIn : Nat := 0
  eOut : Nat := 0
  cycles : Nat := 0
  minutes : Vector Nat 7 := Vector.replicate 7 0
  deriving DecidableEq, Repr, Inhabited

/-- The storeroom (R488-R501): its bytes (word a at bytes 2a, 2a+1, low byte first), sparse, an unlisted byte reading 0xFF
(erased); the port address; the buffer being filled and those waiting; the operation on the array; host command status;
the ledger queue with its head and whether the head's sector has just been erased; the newest capture; the last word
read. `eraseAfter`: the buffers that wait since before the erase command; `eraseEnd`: its blank check is over; `preErase`: the slot to
erase and its sectors done; `cut`: the page that is being programmed for a flush that has ended. -/
structure StoreSt where
  mem : List Host.Cell := []
  addr : Nat := 0
  fill : Option ProgBuf := none
  waitB : List ProgBuf := []
  op : Option ArrOp := none
  erase : Option Nat := none
  prog : Bool := false
  busy : Bool := false
  done : Bool := false
  aborted : Bool := false
  abortIgnored : Bool := false
  refused : Bool := false
  eraseAfter : Nat := 0
  eraseEnd : Bool := false
  endedAt : Nat := 0
  eccCnt : Nat := 0
  validA : Bool := false
  validB : Bool := false
  loadedB : Bool := false
  noBank : Bool := false
  boots : Nat := 0
  capSlot : Nat := 0
  capSeq : Nat := 0
  preErase : Option (Nat × Nat) := none
  cut : Option (List Word) := none
  queue : List LedgerRec := []
  lost : Nat := 0
  seq : Nat := 0
  head : Nat := 0
  fresh : Bool := false
  out : Word := 0
  ports : Vector LedgerPort 4 := Vector.replicate 4 {}
  minute : Nat := 0
  deriving DecidableEq, Repr

/-! ### Power, clocks, sleep (15) and test (16) -/

/-- Supplies, clocks and the device command status (R508-R526). `straps`: the pins' levels; `resetAt`: the tick count at the
entry into HOLD; `vbias`: VBIAS reads good, `supply`: it supplies the device (R509, R510); `bootRef`: the reference that BOOT chose
(R517); `stopped`: the tick does not run; `waking`: a wake source has fired; `autoPend`: AUTORUN is still to be decided. -/
structure PwrSt where
  vstart : Bool := true
  vbias : Bool := false
  supply : Bool := false
  core : Bool := false
  io : Bool := false
  pll : Bool := false
  ref : Nat := 0
  bootRef : Nat := 0
  slowRc : Bool := false
  wakeSrc : Nat := 0
  wakeIx : Nat := 0
  sleeps : Nat := 0
  rem : Nat := 0
  straps : Straps := {}
  addr : Fin 16 := 0
  conf : Bool := false
  autorun : Bool := false
  sleeping : Bool := false
  stopped : Bool := true
  waking : Bool := false
  autoPend : Bool := false
  refused : Bool := false
  refCause : Nat := 0
  rstCause : Nat := 1
  holdAt : Nat := 0
  sleepFrom : DevState := .hold
  deriving DecidableEq, Repr

/-- A running loop-back: interface, depth, instance (R530). -/
structure LoopBack where
  iface : Nat
  depth : Nat
  inst : Nat
  since : Nat
  deriving DecidableEq, Repr

/-- Test mode (R527-R533). `armed`: the port and tick count of the first key. -/
structure TestSt where
  isOpen : Bool := false
  armed : Option (Port × Nat) := none
  run : Option LoopBack := none
  done : Bool := false
  pass : Bool := false
  aborted : Bool := false
  abortIgnored : Bool := false
  refused : Bool := false
  denied : Bool := false
  refCause : Nat := 0
  lastWrite : Nat := 0
  errCnt : Nat := 0
  meas : Word := 0
  endTk : Word := 0
  endedAt : Option (Nat × Nat) := none
  deriving DecidableEq, Repr, Inhabited

end Sys2Proof.Machine
end

