-- ==== Sys2Proof/Machine/State.lean ====
section
/-! DEFINITION. The state of the block: plain data. `cp` is what the checkpoint covers (R34-R39), `x` what no rollback
restores. -/

namespace Sys2Proof.Machine

/-- Why the machine stops with a fault. No step does: a reserved register reads 0 (R3), a write to one is ignored (R4), and
every error of the manual is an effect on the state. -/
inductive Fault : Type
  deriving DecidableEq, Repr

/-- Why a command has no meaning. -/
inductive Refusal where
  /-- raised by an arm of exec whose meaning is not written yet: safe. -/
  | notModelled (mnemonic : String)
  deriving DecidableEq, Repr

/-- What the checkpoint C_k holds (R35). -/
structure Cp where
  regs : Regs := ⟨[]⟩
  adopted : Regs := ⟨[]⟩
  legs : Vector LegCp 24 := Vector.replicate 24 {}
  trains : Vector TrainSt 8 := Vector.replicate 8 {}
  loops : Vector LoopSt 16 := Vector.replicate 16 {}
  sects : Vector SectSt 96 := Vector.replicate 96 {}
  oscs : Vector OscSt 4 := Vector.replicate 4 {}
  ceSel : Vector CeSel 8 := Vector.replicate 8 {}
  ce : CeSt := {}
  models : Vector ModelSt 8 := Vector.replicate 8 {}
  sup : Vector SliceSup 16 := Vector.replicate 16 {}
  clerkUnits : List CommitUnit := []
  clerks : Vector ClerkSt 8 := Vector.replicate 8 {}
  eq : List EvtRec := []
  eqLost : Nat := 0
  spare : SpareSt := {}
  bat : Vector BatSt 4 := Vector.replicate 4 {}
  suppOn : Bool := false
  cutOn : Bool := false
  deriving DecidableEq, Repr

/-- What no rollback restores. -/
structure Ext where
  regs : Regs := ⟨[]⟩
  hw : Vector LegHw 24 := Vector.replicate 24 {}
  fenced : List FenceUnit := []
  checks : List SelfCheck := []
  col : Collector := {}
  tick : TickSt := {}
  txn : PerPort TxnBank := ⟨{}, {}⟩
  snap : PerPort SnapBank := ⟨{}, {}⟩
  hostUnits : List CommitUnit := []
  dev : DevState := .boot
  srcEn : Vector Bool 4 := Vector.replicate 4 false
  srcStrap : Vector Bool 4 := Vector.replicate 4 false
  batEn : Vector Bool 4 := Vector.replicate 4 false
  batStrap : Vector Bool 4 := Vector.replicate 4 false
  larder : LarderSt := {}
  spi : SpiSt := {}
  twm : TwmSt := {}
  twp : TwpSt := {}
  alert : AlertSt := {}
  idle : PerPort Nat := ⟨0, 0⟩
  ring : RingSt := {}
  store : StoreSt := {}
  pwr : PwrSt := {}
  test : TestSt := {}
  nodes : Vector NodeSt 2 := Vector.replicate 2 {}
  src : Vector SrcSt 4 := Vector.replicate 4 {}
  ride : RideSt := {}
  listPass : Nat := 0
  listStill : Nat := 0
  batHw : Vector BatHw 4 := Vector.replicate 4 {}
  deliv : Vector Delivered 16 := Vector.replicate 16 {}
  axRes : Vector Int 16 := Vector.replicate 16 0
  senseTest : Bool := false
  conv : Vector ConvSt 18 := Vector.replicate 18 {}
  slices : Vector SliceSt 16 := Vector.replicate 16 {}
  sysCal : Vector SysCal 16 := Vector.replicate 16 {}
  settle : Vector (Option Nat) 8 := Vector.replicate 8 none
  slBy : Vector Nat 16 := Vector.ofFn fun i => i.val
  pairPrev : Nat := 0
  bg : BgSt := {}
  trace : TraceSt := {}
  ax : AxSt := {}
  tally : Vector TallySt 16 := Vector.replicate 16 {}
  tout : Vector Bool 4 := Vector.replicate 4 false
  tin : Vector (Vector TinLevel 16) 4 := Vector.replicate 4 (Vector.replicate 16 {})
  sleepE : Nat := 0
  cal : CalSt := {}
  legLat : Vector LegLat 24 := Vector.replicate 24 {}
  ceFlt : CeFlt := {}
  deriving DecidableEq, Repr

/-- A published snapshot (R9). -/
structure Snap where
  cp : Cp
  x : Ext
  deriving DecidableEq, Repr

/-- The whole machine. -/
structure State where
  pending : List Instr
  cp : Cp
  x : Ext
  pub : Snap
  views : PerPort (Option Snap)
  ck : Cp
  free : Nat
  deriving DecidableEq, Repr

/-- Right after reset. -/
def State.reset : State :=
  { pending := [], cp := {}, x := {}, pub := ⟨{}, {}⟩, views := ⟨none, none⟩, ck := {}, free := 0 }

end Sys2Proof.Machine
end

