-- ==== Sys2Proof/Machine/Ops.lean ====
section
/-! DEFINITION. The named operations on registers, events, errors and fences that every block's meaning uses. -/

namespace Sys2Proof.Machine

/-! ### The sparse register store -/

/-- The word stored at an address, if any is listed. -/
def Regs.look : List (Nat × Word) → Nat → Option Word
  | [], _ => none
  | (b, v) :: t, a => if a == b then some v else Regs.look t a

/-- List a word at an address, keeping the addresses rising. -/
def Regs.insert : List (Nat × Word) → Nat → Word → List (Nat × Word)
  | [], a, w => [(a, w)]
  | (b, v) :: t, a, w =>
    if a < b then (a, w) :: (b, v) :: t
    else if a == b then (a, w) :: t
    else (b, v) :: Regs.insert t a w

/-- Take an address out of the list. -/
def Regs.erase : List (Nat × Word) → Nat → List (Nat × Word)
  | [], _ => []
  | (b, v) :: t, a => if a == b then Regs.erase t a else (b, v) :: Regs.erase t a

/-- The stored bits of a register: what was last written, else its reset value. -/
def Regs.get (r : Regs) (a : Nat) : Word := (Regs.look r.cells a).getD (resetWord a)

/-- Store a word. Storing the reset value takes the entry out, so equal stores are equal data. -/
def Regs.set (r : Regs) (a : Nat) (w : Word) : Regs :=
  if w == resetWord a then ⟨Regs.erase r.cells a⟩ else ⟨Regs.insert r.cells a w⟩

/-- The addresses are strictly rising from a bound and no entry equals its reset value. -/
def Regs.wfFrom : Nat → List (Nat × Word) → Bool
  | _, [] => true
  | lo, (a, w) :: t => decide (lo ≤ a) && !(w == resetWord a) && Regs.wfFrom (a + 1) t

/-- The canonical form of a register store. -/
def Regs.wf (r : Regs) : Bool := Regs.wfFrom 0 r.cells

/-! ### Where a register is held -/

/-- Registers that no rollback restores: the error registers of the units (a checker trip or a hardware fault must outlast
the rollback, R402; the supervisor's verdicts are restored, R39, R167), the FAULT page (R380), the immediate domain (R34),
the values of system calibration, background calibration and tracing (R293) and
of tap calibration (R372),
and the event and error registers of the blocks that are no part of the checkpoint (storeroom, larder, ring,
host ports, power, test). The staged flags of the Tallies are part of it (R348). -/
def isExt (a : Nat) : Bool :=
  let page := a / 256
  let off := a % 256
  (off == 0x04 && page != 0x78) || page == 0xB8 || page == 0xF0 || (0xB1 ≤ page && off == 0x06)
    || (0x41 ≤ page && page ≤ 0x50 && (off == 0x16 || off == 0x17)) || (page == 0x40 && (off == 0x18 || off == 0x19))
    || (page == 0x58 && (off == 0x06 || (0x40 ≤ off && off ≤ 0x74))) || (0x10 ≤ page && page ≤ 0x27 && off == 0x16)
    || (page == 0x52 && 0x60 ≤ off && off ≤ 0x7B)
    || (page == 0xC0 && off == 0x15)
    || (page == 0xD0 && off == 0x10) || (page == 0xD1 && off == 0x10)
    || (page == 0xD2 && 0x10 ≤ off && off ≤ 0x13)

/-- A stored register of the working state. -/
def State.reg (s : State) (a : Nat) : Word :=
  if isExt a then s.x.regs.get a else s.cp.regs.get a

/-- Write a stored register of the working state. -/
def State.setReg (s : State) (a : Nat) (w : Word) : State :=
  if isExt a then { s with x := { s.x with regs := s.x.regs.set a w } }
  else { s with cp := { s.cp with regs := s.cp.regs.set a w } }

/-- Set bits of a stored register. -/
def State.orReg (s : State) (a : Nat) (w : Word) : State := s.setReg a (s.reg a ||| w)

/-- What a command does at a cycle 0 is part of that boundary: the checkpoint C_k has it too (R35, R39). -/
def atCycle0 (f : State → State) (s : State) : State :=
  { f s with ck := (f { s with cp := s.ck }).cp }

/-! ### Updates of one unit -/

/-- Update one train. -/
def State.modTrain (s : State) (t : Train) (f : TrainSt → TrainSt) : State :=
  { s with cp := { s.cp with trains := upd s.cp.trains t (f s.cp.trains[t]) } }
/-- Update one leg's checkpointed part. -/
def State.modLeg (s : State) (n : Leg) (f : LegCp → LegCp) : State :=
  { s with cp := { s.cp with legs := upd s.cp.legs n (f s.cp.legs[n]) } }
/-- Update one leg's switching hardware. -/
def State.modHw (s : State) (n : Leg) (f : LegHw → LegHw) : State :=
  { s with x := { s.x with hw := upd s.x.hw n (f s.x.hw[n]) } }
/-- Update one loop. -/
def State.modLoop (s : State) (l : LoopIx) (f : LoopSt → LoopSt) : State :=
  { s with cp := { s.cp with loops := upd s.cp.loops l (f s.cp.loops[l]) } }
/-- Update one section. -/
def State.modSect (s : State) (i : Slot) (f : SectSt → SectSt) : State :=
  { s with cp := { s.cp with sects := upd s.cp.sects i (f s.cp.sects[i]) } }
/-- Update one oscillator. -/
def State.modOsc (s : State) (i : OscIx) (f : OscSt → OscSt) : State :=
  { s with cp := { s.cp with oscs := upd s.cp.oscs i (f s.cp.oscs[i]) } }
/-- Update one model. -/
def State.modModel (s : State) (t : Train) (f : ModelSt → ModelSt) : State :=
  { s with cp := { s.cp with models := upd s.cp.models t (f s.cp.models[t]) } }
/-- Update one supervised slice. -/
def State.modSup (s : State) (i : Slice) (f : SliceSup → SliceSup) : State :=
  { s with cp := { s.cp with sup := upd s.cp.sup i (f s.cp.sup[i]) } }
/-- Update one battery port. -/
def State.modBat (s : State) (p : BPort) (f : BatSt → BatSt) : State :=
  { s with cp := { s.cp with bat := upd s.cp.bat p (f s.cp.bat[p]) } }
/-- Update a battery port's removal hardware. -/
def State.modBatHw (s : State) (p : BPort) (f : BatHw → BatHw) : State :=
  { s with x := { s.x with batHw := upd s.x.batHw p (f s.x.batHw[p]) } }
/-- Update one source. -/
def State.modSrc (s : State) (i : Src) (f : SrcSt → SrcSt) : State :=
  { s with x := { s.x with src := upd s.x.src i (f s.x.src[i]) } }
/-- Update one intake node. -/
def State.modNode (s : State) (i : Fin 2) (f : NodeSt → NodeSt) : State :=
  { s with x := { s.x with nodes := upd s.x.nodes i (f s.x.nodes[i]) } }
/-- Update a slice's open-wire, window and fine state. -/
def State.modSl (s : State) (i : Slice) (f : SliceSt → SliceSt) : State :=
  { s with x := { s.x with slices := upd s.x.slices i (f s.x.slices[i]) } }
/-- Update a slice's system calibration. -/
def State.modSys (s : State) (i : Slice) (f : SysCal → SysCal) : State :=
  { s with x := { s.x with sysCal := upd s.x.sysCal i (f s.x.sysCal[i]) } }
/-- Update a converter. -/
def State.modConv (s : State) (i : Conv) (f : ConvSt → ConvSt) : State :=
  { s with x := { s.x with conv := upd s.x.conv i (f s.x.conv[i]) } }
/-- Update the background calibration. -/
def State.modBg (s : State) (f : BgSt → BgSt) : State := { s with x := { s.x with bg := f s.x.bg } }
/-- Update the reference trace. -/
def State.modTrace (s : State) (f : TraceSt → TraceSt) : State := { s with x := { s.x with trace := f s.x.trace } }
/-- Update the auxiliary slice. -/
def State.modAx (s : State) (f : AxSt → AxSt) : State := { s with x := { s.x with ax := f s.x.ax } }
/-- Update a Tally. -/
def State.modTl (s : State) (n : TallyIx) (f : TallySt → TallySt) : State :=
  { s with x := { s.x with tally := upd s.x.tally n (f s.x.tally[n]) } }
/-- Update the tap calibration. -/
def State.modCal (s : State) (f : CalSt → CalSt) : State := { s with x := { s.x with cal := f s.x.cal } }
/-- Update the storeroom. -/
def State.modStore (s : State) (f : StoreSt → StoreSt) : State := { s with x := { s.x with store := f s.x.store } }
/-- Update the larder. -/
def State.modLar (s : State) (f : LarderSt → LarderSt) : State := { s with x := { s.x with larder := f s.x.larder } }
/-- Update the spare. -/
def State.modSpare (s : State) (f : SpareSt → SpareSt) : State :=
  { s with cp := { s.cp with spare := f s.cp.spare } }
/-- Update the collector. -/
def State.modCol (s : State) (f : Collector → Collector) : State :=
  { s with x := { s.x with col := f s.x.col } }
/-- Update the tick's state. -/
def State.modTick (s : State) (f : TickSt → TickSt) : State :=
  { s with x := { s.x with tick := f s.x.tick } }

/-- One value of a pair of ports. -/
def PerPort.get {α : Type} (v : PerPort α) (p : Port) : α :=
  match p with | .spi => v.spi | .twm => v.twm
/-- Replace one value of a pair of ports. -/
def PerPort.put {α : Type} (v : PerPort α) (p : Port) (a : α) : PerPort α :=
  match p with | .spi => { v with spi := a } | .twm => { v with twm := a }

/-- Do something for every member of a family, lowest number first. -/
def forAll {n : Nat} (s : State) (f : State → Fin n → State) : State := (List.finRange n).foldl f s

/-! ### Events, errors and fences -/

/-- Bit b of PG_EVT of a page is set (R2, R561). -/
def State.evt (s : State) (page b : Nat) : State := s.orReg (addr page 0x06) (oneHot b)

/-- Is the unit fenced (R392)? -/
def State.isFenced (s : State) (u : FenceUnit) : Bool := s.x.fenced.contains u

/-- The low sixteen bits of TICKNUM. -/
def State.tickW (s : State) : Word := word s.x.tick.num

/-- A leg's outputs go low and its running period is given up; the counts of consecutive periods start anew (R96). -/
def LegHw.low (h : LegHw) : LegHw :=
  { h with
    pwmH := false, pwmL := false, phase := .idle, armed := false, active := {}, boot := false
    noTrip := 0, stuckBlank := 0, stuckValley := 0 }

/-- Every leg output low (R54, R385). -/
def State.allLegsLow (s : State) : State :=
  { s with x := { s.x with hw := tab fun n => s.x.hw[n].low } }

/-- Add a unit to the fenced units, with FAULT.PG_EVT.FENCE; a leg's outputs go low (R392, R403). -/
def State.fence (s : State) (u : FenceUnit) : State :=
  if s.isFenced u then s else
  let s := ({ s with x := { s.x with fenced := s.x.fenced ++ [u], checks := s.x.checks.filter (·.unit != u) } }).evt 0xB8 0
  match u with
  | .leg n => s.modHw n LegHw.low
  | _ => s

end Sys2Proof.Machine
end

