-- ==== Sys2Proof/Machine/Fields.lean ====
section
/-! DEFINITION. Named readings and writings of the register fields the meanings use, each with the place its register
table gives it. A name ending in _I reads the field as two's complement, in _W the whole word; set_ writes it; a_ is the register's address. -/

namespace Sys2Proof.Machine

/-- ADC_BG_CFG_EN, bits 15..15 (R294). -/
def ADC_BG_CFG_EN (s : State) : Bool := bit (s.reg (addr 0x40 0x12)) 15

/-- ADC_BG_CFG_NAVG, bits 11..8 (R294). -/
def ADC_BG_CFG_NAVG (s : State) : Nat := bits (s.reg (addr 0x40 0x12)) 11 8

/-- ADC_BG_CFG_VER, bits 4..0 (R294). -/
def ADC_BG_CFG_VER (s : State) : Nat := bits (s.reg (addr 0x40 0x12)) 4 0

/-- ADC_BG_DLIM_DGAIN, bits 7..0 (R294). -/
def ADC_BG_DLIM_DGAIN (s : State) : Nat := bits (s.reg (addr 0x40 0x15)) 7 0

/-- ADC_BG_DLIM_DOFF, bits 15..8 (R294). -/
def ADC_BG_DLIM_DOFF (s : State) : Nat := bits (s.reg (addr 0x40 0x15)) 15 8

/-- ADC_BG_PER, bits 15..0 (R294). -/
def ADC_BG_PER (s : State) : Nat := bits (s.reg (addr 0x40 0x13)) 15 0

/-- ADC_BG_TOL_TOL, bits 7..0 (R294). -/
def ADC_BG_TOL_TOL (s : State) : Nat := bits (s.reg (addr 0x40 0x14)) 7 0

/-- ADC_PAIR_PAIR, bits 7..0 (R294). -/
def ADC_PAIR_PAIR (s : State) : Nat := bits (s.reg (addr 0x40 0x11)) 7 0

/-- ADC_PRIV, bits 15..0 (R294). -/
def ADC_PRIV (s : State) : Nat := bits (s.reg (addr 0x40 0x10)) 15 0

/-- ADC_REF_ERR, bits 15..0 (R294). -/
def ADC_REF_ERR_I (s : State) : Int := signed 16 (bits (s.reg (addr 0x40 0x18)) 15 0)

/-- AXWw_CFG_EN, bits 15..15 (R297). -/
def AXWw_CFG_EN (s : State) (j : Nat) : Bool := bit (s.reg (addr 0x52 (0x20 + 4 * j))) 15

/-- AXWw_CFG_WAKE, bits 14..14 (R297). -/
def AXWw_CFG_WAKE (s : State) (j : Nat) : Bool := bit (s.reg (addr 0x52 (0x20 + 4 * j))) 14

/-- AX_CAL_REF, bits 15..0 (R297). -/
def AX_CAL_REF_I (s : State) : Int := signed 16 (bits (s.reg (addr 0x52 0x19)) 15 0)

/-- AX_CFG_EN, bits 15..15 (R297). -/
def AX_CFG_EN (s : State) : Bool := bit (s.reg (addr 0x52 0x10)) 15

/-- AX_GAINn, bits 15..0 (R297). -/
def AX_GAINn_I (s : State) (j : Nat) : Int := signed 16 (bits (s.reg (addr 0x52 (0x61 + 2 * j))) 15 0)

/-- AX_OFFSn, bits 15..0 (R297). -/
def AX_OFFSn_I (s : State) (j : Nat) : Int := signed 16 (bits (s.reg (addr 0x52 (0x60 + 2 * j))) 15 0)

/-- AX_OW_CFG_CUR, bits 15..14 (R297). -/
def AX_OW_CFG_CUR (s : State) : Nat := bits (s.reg (addr 0x52 0x14)) 15 14

/-- AX_OW_CFG_DIR, bits 13..13 (R297). -/
def AX_OW_CFG_DIR (s : State) : Bool := bit (s.reg (addr 0x52 0x14)) 13

/-- AX_OW_CFG_N, bits 12..8 (R297). -/
def AX_OW_CFG_N (s : State) : Nat := bits (s.reg (addr 0x52 0x14)) 12 8

/-- AX_OW_EN, bits 15..0 (R297). -/
def AX_OW_EN (s : State) : Nat := bits (s.reg (addr 0x52 0x13)) 15 0

/-- AX_OW_TH, bits 15..0 (R297). -/
def AX_OW_TH_I (s : State) : Int := signed 16 (bits (s.reg (addr 0x52 0x15)) 15 0)

/-- AX_SYSCAL_INPUT, bits 15..12 (R297). -/
def AX_SYSCAL_INPUT (s : State) : Nat := bits (s.reg (addr 0x52 0x18)) 15 12

/-- AX_SYSCAL_NAVG, bits 11..8 (R297). -/
def AX_SYSCAL_NAVG (s : State) : Nat := bits (s.reg (addr 0x52 0x18)) 11 8

/-- BP_CEL_DMAX, bits 15..0 (R253). -/
def BP_CEL_DMAX (s : State) (i : Nat) : Nat := bits (s.reg (addr (0x34 + i) 0x34)) 15 0

/-- BP_CEL_STEP, bits 15..0 (R253). -/
def BP_CEL_STEP (s : State) (i : Nat) : Nat := bits (s.reg (addr (0x34 + i) 0x33)) 15 0

/-- BP_CFG_CELLS, bits 5..0 (R253). -/
def BP_CFG_CELLS (s : State) (i : Nat) : Nat := bits (s.reg (addr (0x34 + i) 0x10)) 5 0

/-- BP_CFG_CHEM, bits 10..9 (R253). -/
def BP_CFG_CHEM (s : State) (i : Nat) : Nat := bits (s.reg (addr (0x34 + i) 0x10)) 10 9

/-- BP_CFG_PRES_EN, bits 15..15 (R253). -/
def BP_CFG_PRES_EN (s : State) (i : Nat) : Bool := bit (s.reg (addr (0x34 + i) 0x10)) 15

/-- BP_CFG_PRES_POL, bits 14..14 (R253). -/
def BP_CFG_PRES_POL (s : State) (i : Nat) : Bool := bit (s.reg (addr (0x34 + i) 0x10)) 14

/-- BP_CFG_RM_DVDT, bits 12..12 (R253). -/
def BP_CFG_RM_DVDT (s : State) (i : Nat) : Bool := bit (s.reg (addr (0x34 + i) 0x10)) 12

/-- BP_CFG_RM_NTC, bits 13..13 (R253). -/
def BP_CFG_RM_NTC (s : State) (i : Nat) : Bool := bit (s.reg (addr (0x34 + i) 0x10)) 13

/-- BP_CFG_TIMP, bits 11..11 (R253). -/
def BP_CFG_TIMP (s : State) (i : Nat) : Bool := bit (s.reg (addr (0x34 + i) 0x10)) 11

/-- BP_CTRL_BATEN, bits 14..14 (R253). -/
def BP_CTRL_BATEN (s : State) (i : Nat) : Bool := bit (s.reg (addr (0x34 + i) 0x12)) 14

/-- BP_CTRL_EN, bits 15..15 (R253). -/
def BP_CTRL_EN (s : State) (i : Nat) : Bool := bit (s.reg (addr (0x34 + i) 0x12)) 15

/-- BP_CTRL_PROBE, bits 12..12 (R253). -/
def BP_CTRL_PROBE (s : State) (i : Nat) : Bool := bit (s.reg (addr (0x34 + i) 0x12)) 12

/-- BP_CTRL, bits 15..0 (R253). -/
def BP_CTRL_W (s : State) (i : Nat) : Word := s.reg (addr (0x34 + i) 0x12)

/-- BP_CTRL_ZLEARN, bits 11..11 (R253). -/
def BP_CTRL_ZLEARN (s : State) (i : Nat) : Bool := bit (s.reg (addr (0x34 + i) 0x12)) 11

/-- BP_DVDT_TH, bits 15..0 (R253). -/
def BP_DVDT_TH (s : State) (i : Nat) : Nat := bits (s.reg (addr (0x34 + i) 0x31)) 15 0

/-- BP_ICC, bits 15..0 (R253). -/
def BP_ICC (s : State) (i : Nat) : Nat := bits (s.reg (addr (0x34 + i) 0x24)) 15 0

/-- BP_ICEL, bits 15..0 (R253). -/
def BP_ICEL (s : State) (i : Nat) : Nat := bits (s.reg (addr (0x34 + i) 0x26)) 15 0

/-- BP_INS_DB, bits 15..0 (R253). -/
def BP_INS_DB (s : State) (i : Nat) : Nat := bits (s.reg (addr (0x34 + i) 0x30)) 15 0

/-- BP_IPRE, bits 15..0 (R253). -/
def BP_IPRE (s : State) (i : Nat) : Nat := bits (s.reg (addr (0x34 + i) 0x25)) 15 0

/-- BP_ITERM, bits 15..0 (R253). -/
def BP_ITERM (s : State) (i : Nat) : Nat := bits (s.reg (addr (0x34 + i) 0x27)) 15 0

/-- BP_LOOPS_CV, bits 3..0 (R253). -/
def BP_LOOPS_CV (s : State) (i : Nat) : Nat := bits (s.reg (addr (0x34 + i) 0x11)) 3 0

/-- BP_LOOPS_ICH, bits 7..4 (R253). -/
def BP_LOOPS_ICH (s : State) (i : Nat) : Nat := bits (s.reg (addr (0x34 + i) 0x11)) 7 4

/-- BP_NTC_B, bits 15..0 (R253). -/
def BP_NTC_B (s : State) (i : Nat) : Nat := bits (s.reg (addr (0x34 + i) 0x1C)) 15 0

/-- BP_NTC_RPU, bits 15..0 (R253). -/
def BP_NTC_RPU (s : State) (i : Nat) : Nat := bits (s.reg (addr (0x34 + i) 0x1D)) 15 0

/-- BP_OVC_TH, bits 7..0 (R253). -/
def BP_OVC_TH (s : State) (i : Nat) : Nat := bits (s.reg (addr (0x34 + i) 0x32)) 7 0

/-- BP_PHASE_PHASE, bits 3..0 (R253). -/
def BP_PHASE_PHASE (s : State) (i : Nat) : Nat := bits (s.reg (addr (0x34 + i) 0x13)) 3 0

/-- BP_PROBE_AMP, bits 11..8 (R253). -/
def BP_PROBE_AMP (s : State) (i : Nat) : Nat := bits (s.reg (addr (0x34 + i) 0x3C)) 11 8

/-- BP_PROBE_FREQ, bits 15..12 (R253). -/
def BP_PROBE_FREQ (s : State) (i : Nat) : Nat := bits (s.reg (addr (0x34 + i) 0x3C)) 15 12

/-- BP_PROBE_NPER, bits 5..0 (R253). -/
def BP_PROBE_NPER (s : State) (i : Nat) : Nat := bits (s.reg (addr (0x34 + i) 0x3C)) 5 0

/-- BP_PROBE_ZR, bits 7..7 (R253). -/
def BP_PROBE_ZR (s : State) (i : Nat) : Bool := bit (s.reg (addr (0x34 + i) 0x3C)) 7

/-- BP_QUAL, bits 15..0 (R253). -/
def BP_QUAL (s : State) (i : Nat) : Nat := bits (s.reg (addr (0x34 + i) 0x2F)) 15 0

/-- BP_TIMP_CFG_AGE, bits 7..0 (R253). -/
def BP_TIMP_CFG_AGE (s : State) (i : Nat) : Nat := bits (s.reg (addr (0x34 + i) 0x40)) 7 0

/-- BP_TIMP_CFG_FREQ, bits 15..12 (R253). -/
def BP_TIMP_CFG_FREQ (s : State) (i : Nat) : Nat := bits (s.reg (addr (0x34 + i) 0x40)) 15 12

/-- BP_TIMP_S, bits 15..0 (R253). -/
def BP_TIMP_S_I (s : State) (i : Nat) : Int := signed 16 (bits (s.reg (addr (0x34 + i) 0x43)) 15 0)

/-- BP_TIMP_T0, bits 15..0 (R253). -/
def BP_TIMP_T0_I (s : State) (i : Nat) : Int := signed 16 (bits (s.reg (addr (0x34 + i) 0x42)) 15 0)

/-- BP_TIMP_ZREF, bits 15..0 (R253). -/
def BP_TIMP_ZREF (s : State) (i : Nat) : Nat := bits (s.reg (addr (0x34 + i) 0x41)) 15 0

/-- BP_TREST, bits 15..0 (R253). -/
def BP_TREST (s : State) (i : Nat) : Nat := bits (s.reg (addr (0x34 + i) 0x2E)) 15 0

/-- BP_TTERM, bits 15..0 (R253). -/
def BP_TTERM (s : State) (i : Nat) : Nat := bits (s.reg (addr (0x34 + i) 0x2D)) 15 0

/-- BP_T, bits 15..0 (R253). -/
def BP_T_I (s : State) (i : Nat) (j : Nat) : Int := signed 16 (bits (s.reg (addr (0x34 + i) (0x1E + j))) 15 0)

/-- BP_VCC, bits 15..0 (R253). -/
def BP_VCC (s : State) (i : Nat) : Nat := bits (s.reg (addr (0x34 + i) 0x2A)) 15 0

/-- BP_VCV, bits 15..0 (R253). -/
def BP_VCV (s : State) (i : Nat) : Nat := bits (s.reg (addr (0x34 + i) 0x28)) 15 0

/-- BP_VFLOAT, bits 15..0 (R253). -/
def BP_VFLOAT (s : State) (i : Nat) : Nat := bits (s.reg (addr (0x34 + i) 0x2C)) 15 0

/-- BP_VPRE, bits 15..0 (R253). -/
def BP_VPRE (s : State) (i : Nat) : Nat := bits (s.reg (addr (0x34 + i) 0x29)) 15 0

/-- BP_VRECHG, bits 15..0 (R253). -/
def BP_VRECHG (s : State) (i : Nat) : Nat := bits (s.reg (addr (0x34 + i) 0x2B)) 15 0

/-- BP_WARM_DV_DV, bits 9..0 (R253). -/
def BP_WARM_DV_DV (s : State) (i : Nat) : Nat := bits (s.reg (addr (0x34 + i) 0x23)) 9 0

/-- BP_WIN_PCT_COOL_PCT, bits 15..8 (R253). -/
def BP_WIN_PCT_COOL_PCT (s : State) (i : Nat) : Nat := bits (s.reg (addr (0x34 + i) 0x22)) 15 8

/-- BP_WIN_PCT_WARM_PCT, bits 7..0 (R253). -/
def BP_WIN_PCT_WARM_PCT (s : State) (i : Nat) : Nat := bits (s.reg (addr (0x34 + i) 0x22)) 7 0

/-- CAL_CELL_LIM_MAX, bits 14..8 (R377). -/
def CAL_CELL_LIM_MAX (s : State) : Nat := bits (s.reg (addr 0x58 0x15)) 14 8

/-- CAL_CELL_LIM_MIN, bits 6..0 (R377). -/
def CAL_CELL_LIM_MIN (s : State) : Nat := bits (s.reg (addr 0x58 0x15)) 6 0

/-- CAL_CTRL_AUTOSAVE, bits 0..0 (R377). -/
def CAL_CTRL_AUTOSAVE (s : State) : Bool := bit (s.reg (addr 0x58 0x17)) 0

/-- CAL_LIM_LIM, bits 3..0 (R377). -/
def CAL_LIM_LIM (s : State) : Nat := bits (s.reg (addr 0x58 0x14)) 3 0

/-- CAL_TOL_TOL, bits 3..0 (R377). -/
def CAL_TOL_TOL (s : State) : Nat := bits (s.reg (addr 0x58 0x13)) 3 0

/-- CAL_TRIM_ABS_ABS, bits 3..0 (R377). -/
def CAL_TRIM_ABS_ABS (s : State) : Nat := bits (s.reg (addr 0x58 0x16)) 3 0

/-- CAL_TRIM_ABS_SABS, bits 7..4 (R377). -/
def CAL_TRIM_ABS_SABS (s : State) : Nat := bits (s.reg (addr 0x58 0x16)) 7 4

/-- CAL_VREF_H_VREF, bits 4..0 (R377). -/
def CAL_VREF_H_VREF (s : State) : Nat := bits (s.reg (addr 0x58 0x12)) 4 0

/-- CAL_VREF_L, bits 15..0 (R377). -/
def CAL_VREF_L (s : State) : Nat := bits (s.reg (addr 0x58 0x11)) 15 0

/-- CE_OSCn_AMP_AMP, bits 14..0 (R141). -/
def CE_OSCn_AMP_AMP (s : State) (j : Nat) : Nat := bits (s.reg (addr 0x60 (0x21 + 4 * j))) 14 0

/-- CE_OSCn_CFG_DEST, bits 14..14 (R141). -/
def CE_OSCn_CFG_DEST (s : State) (j : Nat) : Bool := bit (s.reg (addr 0x60 (0x20 + 4 * j))) 14

/-- CE_OSCn_CFG_EN, bits 15..15 (R141). -/
def CE_OSCn_CFG_EN (s : State) (j : Nat) : Bool := bit (s.reg (addr 0x60 (0x20 + 4 * j))) 15

/-- CE_OSCn_CFG_FREQ, bits 3..0 (R141). -/
def CE_OSCn_CFG_FREQ (s : State) (j : Nat) : Nat := bits (s.reg (addr 0x60 (0x20 + 4 * j))) 3 0

/-- CE_OSCn_CFG_LOOP, bits 7..4 (R141). -/
def CE_OSCn_CFG_LOOP (s : State) (j : Nat) : Nat := bits (s.reg (addr 0x60 (0x20 + 4 * j))) 7 4

/-- CE_OSCn_CFG_TRAIN, bits 10..8 (R141). -/
def CE_OSCn_CFG_TRAIN (s : State) (j : Nat) : Nat := bits (s.reg (addr 0x60 (0x20 + 4 * j))) 10 8

/-- CE_OSCn_CFG, bits 15..0 (R141). -/
def CE_OSCn_CFG_W (s : State) (j : Nat) : Word := s.reg (addr 0x60 (0x20 + 4 * j))

/-- CK_CTRL_HOLDRUN, bits 1..1 (R328). -/
def CK_CTRL_HOLDRUN (s : State) (i : Nat) : Bool := bit (s.reg (addr (0x81 + i) 0x10)) 1

/-- CK_CTRL_LISTSEL, bits 2..2 (R328). -/
def CK_CTRL_LISTSEL (s : State) (i : Nat) : Bool := bit (s.reg (addr (0x81 + i) 0x10)) 2

/-- CK_CTRL_RUN, bits 0..0 (R328). -/
def CK_CTRL_RUN (s : State) (i : Nat) : Bool := bit (s.reg (addr (0x81 + i) 0x10)) 0

/-- FB_FLOOR_FLOOR, bits 6..0 (R100). -/
def FB_FLOOR_FLOOR (s : State) (i : Nat) : Nat := bits (s.reg (addr (0x08 + i) 0x19)) 6 0

/-- FB_KNEE_KNEE, bits 6..0 (R100). -/
def FB_KNEE_KNEE (s : State) (i : Nat) : Nat := bits (s.reg (addr (0x08 + i) 0x18)) 6 0

/-- FB_MIN_MIN, bits 6..0 (R100). -/
def FB_MIN_MIN (s : State) (i : Nat) : Nat := bits (s.reg (addr (0x08 + i) 0x1A)) 6 0

/-- FLT_ALRTEN_H, bits 15..0 (R403). -/
def FLT_ALRTEN_H_W (s : State) : Word := s.reg (addr 0xB8 0x19)

/-- FLT_ALRTEN_L, bits 15..0 (R403). -/
def FLT_ALRTEN_L_W (s : State) : Word := s.reg (addr 0xB8 0x18)

/-- FLT_INTICK, bits 15..0 (R403). -/
def FLT_INTICK_W (s : State) : Word := s.reg (addr 0xB8 0x1A)

/-- FLT_IRQEN_H, bits 15..0 (R403). -/
def FLT_IRQEN_H_W (s : State) : Word := s.reg (addr 0xB8 0x17)

/-- FLT_IRQEN_L, bits 15..0 (R403). -/
def FLT_IRQEN_L_W (s : State) : Word := s.reg (addr 0xB8 0x16)

/-- FLT_PINEN_H, bits 15..0 (R403). -/
def FLT_PINEN_H_W (s : State) : Word := s.reg (addr 0xB8 0x15)

/-- FLT_PINEN_L, bits 15..0 (R403). -/
def FLT_PINEN_L_W (s : State) : Word := s.reg (addr 0xB8 0x14)

/-- FLT_REACT, bits 15..0 (R403). -/
def FLT_REACT_W (s : State) (j : Nat) : Word := s.reg (addr 0xB8 (0x20 + j))

/-- FLT_RESUME_DELAY, bits 7..0 (R403). -/
def FLT_RESUME_DELAY (s : State) : Nat := bits (s.reg (addr 0xB8 0x1C)) 7 0

/-- FLT_RESUME_MAXN, bits 15..8 (R403). -/
def FLT_RESUME_MAXN (s : State) : Nat := bits (s.reg (addr 0xB8 0x1C)) 15 8

/-- FLT_TJ_LIM, bits 15..0 (R403). -/
def FLT_TJ_LIM_I (s : State) : Int := signed 16 (bits (s.reg (addr 0xB8 0x1B)) 15 0)

/-- GDp_CFG_ISL, bits 3..0 (R254). -/
def GDp_CFG_ISL (s : State) (j : Nat) : Nat := bits (s.reg (addr 0x38 (0x20 + 16 * j))) 3 0

/-- GDp_CFG_N, bits 11..8 (R254). -/
def GDp_CFG_N (s : State) (j : Nat) : Nat := bits (s.reg (addr 0x38 (0x20 + 16 * j))) 11 8

/-- GDp_CFG_VALID, bits 15..15 (R254). -/
def GDp_CFG_VALID (s : State) (j : Nat) : Bool := bit (s.reg (addr 0x38 (0x20 + 16 * j))) 15

/-- GDp_CFG_VSL, bits 7..4 (R254). -/
def GDp_CFG_VSL (s : State) (j : Nat) : Nat := bits (s.reg (addr 0x38 (0x20 + 16 * j))) 7 4

/-- GDp_IMAX, bits 15..0 (R254). -/
def GDp_IMAX (s : State) (j : Nat) : Nat := bits (s.reg (addr 0x38 (0x24 + 16 * j))) 15 0

/-- GDp_IMNT, bits 15..0 (R254). -/
def GDp_IMNT (s : State) (j : Nat) : Nat := bits (s.reg (addr 0x38 (0x26 + 16 * j))) 15 0

/-- GDp_IPRE, bits 15..0 (R254). -/
def GDp_IPRE (s : State) (j : Nat) : Nat := bits (s.reg (addr 0x38 (0x25 + 16 * j))) 15 0

/-- GDp_ISCALE, bits 15..0 (R254). -/
def GDp_ISCALE (s : State) (j : Nat) : Nat := bits (s.reg (addr 0x38 (0x22 + 16 * j))) 15 0

/-- GDp_ITMR, bits 15..0 (R254). -/
def GDp_ITMR (s : State) (j : Nat) : Nat := bits (s.reg (addr 0x38 (0x2E + 16 * j))) 15 0

/-- GDp_TDMAX, bits 15..0 (R254). -/
def GDp_TDMAX_I (s : State) (j : Nat) : Int := signed 16 (bits (s.reg (addr 0x38 (0x29 + 16 * j))) 15 0)

/-- GDp_TMAX, bits 15..0 (R254). -/
def GDp_TMAX_I (s : State) (j : Nat) : Int := signed 16 (bits (s.reg (addr 0x38 (0x28 + 16 * j))) 15 0)

/-- GDp_TMIN, bits 15..0 (R254). -/
def GDp_TMIN_I (s : State) (j : Nat) : Int := signed 16 (bits (s.reg (addr 0x38 (0x27 + 16 * j))) 15 0)

/-- GDp_TMR_CC, bits 15..0 (R254). -/
def GDp_TMR_CC (s : State) (j : Nat) : Nat := bits (s.reg (addr 0x38 (0x2C + 16 * j))) 15 0

/-- GDp_TMR_PRE, bits 15..0 (R254). -/
def GDp_TMR_PRE (s : State) (j : Nat) : Nat := bits (s.reg (addr 0x38 (0x2D + 16 * j))) 15 0

/-- GDp_VDMIN, bits 15..0 (R254). -/
def GDp_VDMIN (s : State) (j : Nat) : Nat := bits (s.reg (addr 0x38 (0x2A + 16 * j))) 15 0

/-- GDp_VMAX, bits 15..0 (R254). -/
def GDp_VMAX (s : State) (j : Nat) : Nat := bits (s.reg (addr 0x38 (0x23 + 16 * j))) 15 0

/-- GDp_VMIN_EN, bits 15..0 (R254). -/
def GDp_VMIN_EN (s : State) (j : Nat) : Nat := bits (s.reg (addr 0x38 (0x2B + 16 * j))) 15 0

/-- GDp_VSCALE, bits 15..0 (R254). -/
def GDp_VSCALE (s : State) (j : Nat) : Nat := bits (s.reg (addr 0x38 (0x21 + 16 * j))) 15 0

/-- GUARD_LOCK_LOCK, bits 0..0 (R254). -/
def GUARD_LOCK_LOCK (s : State) : Bool := bit (s.reg (addr 0x38 0x10)) 0

/-- IIN_LIM_A, bits 15..0 (R204). -/
def IIN_LIM_A_I (s : State) : Int := signed 16 (bits (s.reg (addr 0x30 0x18)) 15 0)

/-- IIN_LIM_B, bits 15..0 (R204). -/
def IIN_LIM_B_I (s : State) : Int := signed 16 (bits (s.reg (addr 0x30 0x19)) 15 0)

/-- LAR_CFG_EN, bits 15..15 (R507). -/
def LAR_CFG_EN (s : State) : Bool := bit (s.reg (addr 0xC1 0x10)) 15

/-- LAR_CFG_POST, bits 11..0 (R507). -/
def LAR_CFG_POST (s : State) : Nat := bits (s.reg (addr 0xC1 0x10)) 11 0

/-- LAR_CFG_REARM, bits 14..14 (R507). -/
def LAR_CFG_REARM (s : State) : Bool := bit (s.reg (addr 0xC1 0x10)) 14

/-- LAR_TRIG_H, bits 15..0 (R507). -/
def LAR_TRIG_H_W (s : State) : Word := s.reg (addr 0xC1 0x12)

/-- LAR_TRIG_L, bits 15..0 (R507). -/
def LAR_TRIG_L_W (s : State) : Word := s.reg (addr 0xC1 0x11)

/-- LG_KIND_KIND, bits 15..12 (R506). -/
def LG_KIND_KIND (s : State) : Nat := bits (s.reg (addr 0xC0 0x20)) 15 12

/-- LG_KIND_SUB, bits 11..8 (R506). -/
def LG_KIND_SUB (s : State) : Nat := bits (s.reg (addr 0xC0 0x20)) 11 8

/-- LP_CFG_AVG, bits 10..10 (R142). -/
def LP_CFG_AVG (s : State) (i : Nat) : Bool := bit (s.reg (addr (0x61 + i) 0x10)) 10

/-- LP_CFG_BUMPLESS, bits 13..13 (R142). -/
def LP_CFG_BUMPLESS (s : State) (i : Nat) : Bool := bit (s.reg (addr (0x61 + i) 0x10)) 13

/-- LP_CFG_CLOSED, bits 14..14 (R142). -/
def LP_CFG_CLOSED (s : State) (i : Nat) : Bool := bit (s.reg (addr (0x61 + i) 0x10)) 14

/-- LP_CFG_DIV, bits 5..0 (R142). -/
def LP_CFG_DIV (s : State) (i : Nat) : Nat := bits (s.reg (addr (0x61 + i) 0x10)) 5 0

/-- LP_CFG_EN, bits 15..15 (R142). -/
def LP_CFG_EN (s : State) (i : Nat) : Bool := bit (s.reg (addr (0x61 + i) 0x10)) 15

/-- LP_CFG_INTERP, bits 11..11 (R142). -/
def LP_CFG_INTERP (s : State) (i : Nat) : Bool := bit (s.reg (addr (0x61 + i) 0x10)) 11

/-- LP_CFG_OPEN_MODE, bits 12..12 (R142). -/
def LP_CFG_OPEN_MODE (s : State) (i : Nat) : Bool := bit (s.reg (addr (0x61 + i) 0x10)) 12

/-- LP_CFG_TRACK, bits 9..9 (R142). -/
def LP_CFG_TRACK (s : State) (i : Nat) : Bool := bit (s.reg (addr (0x61 + i) 0x10)) 9

/-- LP_CFG, bits 15..0 (R142). -/
def LP_CFG_W (s : State) (i : Nat) : Word := s.reg (addr (0x61 + i) 0x10)

/-- LP_FB_SRC_INDEX, bits 3..0 (R142). -/
def LP_FB_SRC_INDEX (s : State) (i : Nat) : Nat := bits (s.reg (addr (0x61 + i) 0x1A)) 3 0

/-- LP_FB_SRC_KIND, bits 15..12 (R142). -/
def LP_FB_SRC_KIND (s : State) (i : Nat) : Nat := bits (s.reg (addr (0x61 + i) 0x1A)) 15 12

/-- LP_FIRST_FIRST, bits 6..0 (R142). -/
def LP_FIRST_FIRST (s : State) (i : Nat) : Nat := bits (s.reg (addr (0x61 + i) 0x11)) 6 0

/-- LP_NSEC_NSEC, bits 6..0 (R142). -/
def LP_NSEC_NSEC (s : State) (i : Nat) : Nat := bits (s.reg (addr (0x61 + i) 0x12)) 6 0

/-- LP_OMAX, bits 15..0 (R142). -/
def LP_OMAX_I (s : State) (i : Nat) : Int := signed 16 (bits (s.reg (addr (0x61 + i) 0x1D)) 15 0)

/-- LP_OMIN, bits 15..0 (R142). -/
def LP_OMIN_I (s : State) (i : Nat) : Int := signed 16 (bits (s.reg (addr (0x61 + i) 0x1C)) 15 0)

/-- LP_OPEN_OUT, bits 15..0 (R142). -/
def LP_OPEN_OUT_I (s : State) (i : Nat) : Int := signed 16 (bits (s.reg (addr (0x61 + i) 0x1E)) 15 0)

/-- LP_ROUTE_GROUP, bits 8..8 (R142). -/
def LP_ROUTE_GROUP (s : State) (i : Nat) : Bool := bit (s.reg (addr (0x61 + i) 0x1B)) 8

/-- LP_ROUTE_TRAINS, bits 7..0 (R142). -/
def LP_ROUTE_TRAINS (s : State) (i : Nat) : Nat := bits (s.reg (addr (0x61 + i) 0x1B)) 7 0

/-- LP_SP_FALLBACK, bits 15..0 (R142). -/
def LP_SP_FALLBACK_I (s : State) (i : Nat) : Int := signed 16 (bits (s.reg (addr (0x61 + i) 0x19)) 15 0)

/-- LP_SP, bits 15..0 (R142). -/
def LP_SP_I (s : State) (i : Nat) : Int := signed 16 (bits (s.reg (addr (0x61 + i) 0x14)) 15 0)

/-- LP_SP_OFFS, bits 15..0 (R142). -/
def LP_SP_OFFS_I (s : State) (i : Nat) : Int := signed 16 (bits (s.reg (addr (0x61 + i) 0x16)) 15 0)

/-- LP_SP_SCALE, bits 15..0 (R142). -/
def LP_SP_SCALE_I (s : State) (i : Nat) : Int := signed 16 (bits (s.reg (addr (0x61 + i) 0x15)) 15 0)

/-- LP_SP_SLEW, bits 15..0 (R142). -/
def LP_SP_SLEW (s : State) (i : Nat) : Nat := bits (s.reg (addr (0x61 + i) 0x17)) 15 0

/-- LP_SP_SRC_INDEX, bits 3..0 (R142). -/
def LP_SP_SRC_INDEX (s : State) (i : Nat) : Nat := bits (s.reg (addr (0x61 + i) 0x13)) 3 0

/-- LP_SP_SRC_KIND, bits 15..12 (R142). -/
def LP_SP_SRC_KIND (s : State) (i : Nat) : Nat := bits (s.reg (addr (0x61 + i) 0x13)) 15 12

/-- LP_SP_TMO, bits 15..0 (R142). -/
def LP_SP_TMO (s : State) (i : Nat) : Nat := bits (s.reg (addr (0x61 + i) 0x18)) 15 0

/-- L_BLANK, bits 15..0 (R101). -/
def L_BLANK (s : State) (i : Nat) : Nat := bits (s.reg (addr (0x10 + i) 0x15)) 15 0

/-- L_CFG_DFLT_EN, bits 13..13 (R101). -/
def L_CFG_DFLT_EN (s : State) (i : Nat) : Bool := bit (s.reg (addr (0x10 + i) 0x10)) 13

/-- PB_ADDR_ADDR, bits 6..0 (R487). -/
def PB_ADDR_ADDR (s : State) : Nat := bits (s.reg (addr 0xD2 0x18)) 6 0

/-- PB_ADDR_W, bits 15..15 (R487). -/
def PB_ADDR_W (s : State) : Bool := bit (s.reg (addr 0xD2 0x18)) 15

/-- PB_ADDR_WORD, bits 14..14 (R487). -/
def PB_ADDR_WORD (s : State) : Bool := bit (s.reg (addr 0xD2 0x18)) 14

/-- PB_CMD_CMD, bits 7..0 (R487). -/
def PB_CMD_CMD (s : State) : Nat := bits (s.reg (addr 0xD2 0x19)) 7 0

/-- PB_RETRY_RETRY, bits 3..0 (R487). -/
def PB_RETRY_RETRY (s : State) : Nat := bits (s.reg (addr 0xD2 0x12)) 3 0

/-- PB_WDATA, bits 15..0 (R487). -/
def PB_WDATA_W (s : State) : Word := s.reg (addr 0xD2 0x1A)

/-- PG_ERRMASK, bits 15..0 (R561). -/
def PG_ERRMASK_W (s : State) (p : Nat) : Word := s.reg (addr p 0x05)

/-- PG_ERR, bits 15..0 (R561). -/
def PG_ERR_W (s : State) (p : Nat) : Word := s.reg (addr p 0x04)

/-- PG_EVTEN, bits 15..0 (R561). -/
def PG_EVTEN_W (s : State) (p : Nat) : Word := s.reg (addr p 0x07)

/-- PG_EVT, bits 15..0 (R561). -/
def PG_EVT_W (s : State) (p : Nat) : Word := s.reg (addr p 0x06)

/-- PL_MAP, bits 15..0 (R102). -/
def PL_MAP_W (s : State) (j : Nat) : Word := s.reg (addr 0x28 (0x10 + j))

/-- PL_PAIR, bits 15..0 (R102). -/
def PL_PAIR_W (s : State) : Word := s.reg (addr 0x28 0x16)

/-- PWR_WAKE_CFG_WPOL, bits 15..15 (R526). -/
def PWR_WAKE_CFG_WPOL (s : State) : Bool := bit (s.reg (addr 0xE0 0x12)) 15

/-- PWR_WAKE_EN_PIN, bits 15..15 (R526). -/
def PWR_WAKE_EN_PIN (s : State) : Bool := bit (s.reg (addr 0xE0 0x11)) 15

/-- PWR_WAKE_EN_SRC, bits 3..0 (R526). -/
def PWR_WAKE_EN_SRC (s : State) : Nat := bits (s.reg (addr 0xE0 0x11)) 3 0

/-- PWR_WAKE_EN_TWM, bits 14..14 (R526). -/
def PWR_WAKE_EN_TWM (s : State) : Bool := bit (s.reg (addr 0xE0 0x11)) 14

/-- RG_CFG_AUTOADMIT, bits 7..7 (R452). -/
def RG_CFG_AUTOADMIT (s : State) : Bool := bit (s.reg (addr 0xC8 0x10)) 7

/-- RG_CFG_EN, bits 15..15 (R452). -/
def RG_CFG_EN (s : State) : Bool := bit (s.reg (addr 0xC8 0x10)) 15

/-- RG_CFG_IMG, bits 4..3 (R452). -/
def RG_CFG_IMG (s : State) : Nat := bits (s.reg (addr 0xC8 0x10)) 4 3

/-- RG_CFG_MPRIO, bits 14..11 (R452). -/
def RG_CFG_MPRIO (s : State) : Nat := bits (s.reg (addr 0xC8 0x10)) 14 11

/-- RG_CFG_POS, bits 10..8 (R452). -/
def RG_CFG_POS (s : State) : Nat := bits (s.reg (addr 0xC8 0x10)) 10 8

/-- RG_CFG_REJOIN, bits 6..6 (R452). -/
def RG_CFG_REJOIN (s : State) : Bool := bit (s.reg (addr 0xC8 0x10)) 6

/-- RG_CFG_WAIT, bits 5..5 (R452). -/
def RG_CFG_WAIT (s : State) : Bool := bit (s.reg (addr 0xC8 0x10)) 5

/-- RG_CLOOP_LOOPS, bits 15..0 (R452). -/
def RG_CLOOP_LOOPS (s : State) : Nat := bits (s.reg (addr 0xC8 0x1A)) 15 0

/-- RG_NRATEDt_NRATED, bits 7..0 (R452). -/
def RG_NRATEDt_NRATED (s : State) (j : Nat) : Nat := bits (s.reg (addr 0xC8 (0x20 + j))) 7 0

/-- RG_SPAN_SPAN, bits 7..0 (R452). -/
def RG_SPAN_SPAN (s : State) : Nat := bits (s.reg (addr 0xC8 0x19)) 7 0

/-- RIDE_DEM_A_DEM, bits 14..0 (R204). -/
def RIDE_DEM_A_DEM (s : State) : Nat := bits (s.reg (addr 0x30 0x14)) 14 0

/-- RIDE_DEM_B_DEM, bits 14..0 (R204). -/
def RIDE_DEM_B_DEM (s : State) : Nat := bits (s.reg (addr 0x30 0x15)) 14 0

/-- SC_A1, bits 15..0 (R143). -/
def SC_A1_I (s : State) (i : Nat) (j : Nat) : Int := signed 16 (bits (s.reg (addr (0x74 + i) (0x13 + 8 * j))) 15 0)

/-- SC_A2, bits 15..0 (R143). -/
def SC_A2_I (s : State) (i : Nat) (j : Nat) : Int := signed 16 (bits (s.reg (addr (0x74 + i) (0x14 + 8 * j))) 15 0)

/-- SC_B0, bits 15..0 (R143). -/
def SC_B0_I (s : State) (i : Nat) (j : Nat) : Int := signed 16 (bits (s.reg (addr (0x74 + i) (0x10 + 8 * j))) 15 0)

/-- SC_B1, bits 15..0 (R143). -/
def SC_B1_I (s : State) (i : Nat) (j : Nat) : Int := signed 16 (bits (s.reg (addr (0x74 + i) (0x11 + 8 * j))) 15 0)

/-- SC_B2, bits 15..0 (R143). -/
def SC_B2_I (s : State) (i : Nat) (j : Nat) : Int := signed 16 (bits (s.reg (addr (0x74 + i) (0x12 + 8 * j))) 15 0)

/-- SC_CTRL_SHIFT, bits 2..0 (R143). -/
def SC_CTRL_SHIFT (s : State) (i : Nat) (j : Nat) : Nat := bits (s.reg (addr (0x74 + i) (0x15 + 8 * j))) 2 0

/-- SL_CAL_REF, bits 15..0 (R295). -/
def SL_CAL_REF_I (s : State) (i : Nat) : Int := signed 16 (bits (s.reg (addr (0x41 + i) 0x19)) 15 0)

/-- SL_CFG_EN, bits 15..15 (R295). -/
def SL_CFG_EN (s : State) (i : Nat) : Bool := bit (s.reg (addr (0x41 + i) 0x10)) 15

/-- SL_CFG_FMODE, bits 13..12 (R295). -/
def SL_CFG_FMODE (s : State) (i : Nat) : Nat := bits (s.reg (addr (0x41 + i) 0x10)) 13 12

/-- SL_CFG_LP, bits 14..14 (R295). -/
def SL_CFG_LP (s : State) (i : Nat) : Bool := bit (s.reg (addr (0x41 + i) 0x10)) 14

/-- SL_CFG, bits 15..0 (R295). -/
def SL_CFG_W (s : State) (i : Nat) : Word := s.reg (addr (0x41 + i) 0x10)

/-- SL_GAIN, bits 15..0 (R295). -/
def SL_GAIN_I (s : State) (i : Nat) : Int := signed 16 (bits (s.reg (addr (0x41 + i) 0x17)) 15 0)

/-- SL_OFFS, bits 15..0 (R295). -/
def SL_OFFS_I (s : State) (i : Nat) : Int := signed 16 (bits (s.reg (addr (0x41 + i) 0x16)) 15 0)

/-- SL_OW_DIR, bits 13..13 (R295). -/
def SL_OW_DIR (s : State) (i : Nat) : Bool := bit (s.reg (addr (0x41 + i) 0x11)) 13

/-- SL_OW_N, bits 12..8 (R295). -/
def SL_OW_N (s : State) (i : Nat) : Nat := bits (s.reg (addr (0x41 + i) 0x11)) 12 8

/-- SL_OW_TEN, bits 7..7 (R295). -/
def SL_OW_TEN (s : State) (i : Nat) : Bool := bit (s.reg (addr (0x41 + i) 0x11)) 7

/-- SL_OW_TH, bits 15..0 (R295). -/
def SL_OW_TH_I (s : State) (i : Nat) : Int := signed 16 (bits (s.reg (addr (0x41 + i) 0x12)) 15 0)

/-- SL_SYSCAL_NAVG, bits 11..8 (R295). -/
def SL_SYSCAL_NAVG (s : State) (i : Nat) : Nat := bits (s.reg (addr (0x41 + i) 0x18)) 11 8

/-- SL_WHI, bits 15..0 (R295). -/
def SL_WHI_I (s : State) (i : Nat) : Int := signed 16 (bits (s.reg (addr (0x41 + i) 0x15)) 15 0)

/-- SL_WIN_CFG_HYST, bits 7..0 (R295). -/
def SL_WIN_CFG_HYST (s : State) (i : Nat) : Nat := bits (s.reg (addr (0x41 + i) 0x13)) 7 0

/-- SL_WIN_CFG_MODE, bits 15..13 (R295). -/
def SL_WIN_CFG_MODE (s : State) (i : Nat) : Nat := bits (s.reg (addr (0x41 + i) 0x13)) 15 13

/-- SL_WIN_CFG_TRIG, bits 12..12 (R295). -/
def SL_WIN_CFG_TRIG (s : State) (i : Nat) : Bool := bit (s.reg (addr (0x41 + i) 0x13)) 12

/-- SL_WLO, bits 15..0 (R295). -/
def SL_WLO_I (s : State) (i : Nat) : Int := signed 16 (bits (s.reg (addr (0x41 + i) 0x14)) 15 0)

/-- SPI_CFG_CRC, bits 15..15 (R485). -/
def SPI_CFG_CRC (s : State) : Bool := bit (s.reg (addr 0xD0 0x10)) 15

/-- SPI_CFG_DUMMY, bits 14..14 (R485). -/
def SPI_CFG_DUMMY (s : State) : Bool := bit (s.reg (addr 0xD0 0x10)) 14

/-- SRC_CTRL_AUTO, bits 15..15 (R204). -/
def SRC_CTRL_AUTO (s : State) : Bool := bit (s.reg (addr 0x30 0x10)) 15

/-- SRC_CTRL_EN, bits 3..0 (R204). -/
def SRC_CTRL_EN (s : State) : Nat := bits (s.reg (addr 0x30 0x10)) 3 0

/-- SRC_CTRL, bits 15..0 (R204). -/
def SRC_CTRL_W (s : State) : Word := s.reg (addr 0x30 0x10)

/-- SRC_DV, bits 15..0 (R204). -/
def SRC_DV (s : State) : Nat := bits (s.reg (addr 0x30 0x1B)) 15 0

/-- SRC_GAP_GAP, bits 7..0 (R204). -/
def SRC_GAP_GAP (s : State) : Nat := bits (s.reg (addr 0x30 0x1E)) 7 0

/-- SRC_LIST_STAT_PASS, bits 7..0 (R204). -/
def SRC_LIST_STAT_PASS (s : State) : Nat := bits (s.reg (addr 0x30 0x1F)) 7 0

/-- SRC_NODE_RAMP_STEP, bits 14..0 (R204). -/
def SRC_NODE_RAMP_STEP (s : State) : Nat := bits (s.reg (addr 0x30 0x17)) 14 0

/-- SRC_NODE_RET, bits 15..0 (R204). -/
def SRC_NODE_RET (s : State) : Nat := bits (s.reg (addr 0x30 0x16)) 15 0

/-- SRC_OVL_OVL, bits 7..0 (R204). -/
def SRC_OVL_OVL (s : State) : Nat := bits (s.reg (addr 0x30 0x1D)) 7 0

/-- SRC_PP_HR_LOOP, bits 11..8 (R204). -/
def SRC_PP_HR_LOOP (s : State) : Nat := bits (s.reg (addr 0x30 0x1A)) 11 8

/-- SRC_PP_HR_V, bits 13..13 (R204). -/
def SRC_PP_HR_V (s : State) : Bool := bit (s.reg (addr 0x30 0x1A)) 13

/-- SRC_PP_REVERT, bits 15..15 (R204). -/
def SRC_PP_REVERT (s : State) : Bool := bit (s.reg (addr 0x30 0x1A)) 15

/-- SRC_PP_SUPP_LOOP, bits 7..4 (R204). -/
def SRC_PP_SUPP_LOOP (s : State) : Nat := bits (s.reg (addr 0x30 0x1A)) 7 4

/-- SRC_PP_SUPP_V, bits 12..12 (R204). -/
def SRC_PP_SUPP_V (s : State) : Bool := bit (s.reg (addr 0x30 0x1A)) 12

/-- SRC_QUAL_QUAL, bits 7..0 (R204). -/
def SRC_QUAL_QUAL (s : State) : Nat := bits (s.reg (addr 0x30 0x1C)) 7 0

/-- SRC_RIDE_EN, bits 15..15 (R204). -/
def SRC_RIDE_EN (s : State) : Bool := bit (s.reg (addr 0x30 0x13)) 15

/-- SRC_RIDE_TRAINS, bits 7..0 (R204). -/
def SRC_RIDE_TRAINS (s : State) : Nat := bits (s.reg (addr 0x30 0x13)) 7 0

/-- SRCs_CFG_AX, bits 3..0 (R205). -/
def SRCs_CFG_AX (s : State) (j : Nat) : Nat := bits (s.reg (addr 0x30 (0x30 + 8 * j))) 3 0

/-- SRCs_CFG_NODE, bits 14..14 (R205). -/
def SRCs_CFG_NODE (s : State) (j : Nat) : Bool := bit (s.reg (addr 0x30 (0x30 + 8 * j))) 14

/-- SRCs_CFG_POL, bits 13..13 (R205). -/
def SRCs_CFG_POL (s : State) (j : Nat) : Bool := bit (s.reg (addr 0x30 (0x30 + 8 * j))) 13

/-- SRCs_CFG_PRIO, bits 10..8 (R205). -/
def SRCs_CFG_PRIO (s : State) (j : Nat) : Nat := bits (s.reg (addr 0x30 (0x30 + 8 * j))) 10 8

/-- SRCs_CFG_USE, bits 15..15 (R205). -/
def SRCs_CFG_USE (s : State) (j : Nat) : Bool := bit (s.reg (addr 0x30 (0x30 + 8 * j))) 15

/-- SRCs_ILIM, bits 15..0 (R205). -/
def SRCs_ILIM (s : State) (j : Nat) : Nat := bits (s.reg (addr 0x30 (0x35 + 8 * j))) 15 0

/-- SRCs_VSCALE, bits 15..0 (R205). -/
def SRCs_VSCALE (s : State) (j : Nat) : Nat := bits (s.reg (addr 0x30 (0x33 + 8 * j))) 15 0

/-- STORE_ADDR_H_ADDR, bits 8..0 (R506). -/
def STORE_ADDR_H_ADDR (s : State) : Nat := bits (s.reg (addr 0xC0 0x11)) 8 0

/-- STORE_ADDR_L, bits 15..0 (R506). -/
def STORE_ADDR_L (s : State) : Nat := bits (s.reg (addr 0xC0 0x10)) 15 0

/-- SV_AGREE_N_N, bits 4..0 (R172). -/
def SV_AGREE_N_N (s : State) : Nat := bits (s.reg (addr 0x78 0xD2)) 4 0

/-- SV_FRZ_N_N, bits 7..0 (R172). -/
def SV_FRZ_N_N (s : State) : Nat := bits (s.reg (addr 0x78 0xD1)) 7 0

/-- SV_QUIET_TICKS, bits 7..0 (R172). -/
def SV_QUIET_TICKS (s : State) : Nat := bits (s.reg (addr 0x78 0xD3)) 7 0

/-- SV_SLEN_SLICES, bits 15..0 (R172). -/
def SV_SLEN_SLICES (s : State) : Nat := bits (s.reg (addr 0x78 0xD0)) 15 0

/-- SVt_CFG_EN, bits 15..15 (R170). -/
def SVt_CFG_EN (s : State) (j : Nat) : Bool := bit (s.reg (addr 0x78 (0x10 + 16 * j))) 15

/-- SVt_CFG_IFB, bits 3..0 (R170). -/
def SVt_CFG_IFB (s : State) (j : Nat) : Nat := bits (s.reg (addr 0x78 (0x10 + 16 * j))) 3 0

/-- SVt_CFG_IFB_NEG, bits 10..10 (R170). -/
def SVt_CFG_IFB_NEG (s : State) (j : Nat) : Bool := bit (s.reg (addr 0x78 (0x10 + 16 * j))) 10

/-- SVt_CFG_IFB_SIDE, bits 11..11 (R170). -/
def SVt_CFG_IFB_SIDE (s : State) (j : Nat) : Bool := bit (s.reg (addr 0x78 (0x10 + 16 * j))) 11

/-- SVt_CFG_KV_SH, bits 8..4 (R170). -/
def SVt_CFG_KV_SH (s : State) (j : Nat) : Nat := bits (s.reg (addr 0x78 (0x10 + 16 * j))) 8 4

/-- SVt_CFG_RF_EN, bits 12..12 (R170). -/
def SVt_CFG_RF_EN (s : State) (j : Nat) : Bool := bit (s.reg (addr 0x78 (0x10 + 16 * j))) 12

/-- SVt_CFG_RI_EN, bits 13..13 (R170). -/
def SVt_CFG_RI_EN (s : State) (j : Nat) : Bool := bit (s.reg (addr 0x78 (0x10 + 16 * j))) 13

/-- SVt_CFG_SUBDUTY, bits 9..9 (R170). -/
def SVt_CFG_SUBDUTY (s : State) (j : Nat) : Bool := bit (s.reg (addr 0x78 (0x10 + 16 * j))) 9

/-- SVt_CFG_VNODE, bits 14..14 (R170). -/
def SVt_CFG_VNODE (s : State) (j : Nat) : Bool := bit (s.reg (addr 0x78 (0x10 + 16 * j))) 14

/-- SVt_GAIN_G, bits 11..8 (R170). -/
def SVt_GAIN_G (s : State) (j : Nat) : Nat := bits (s.reg (addr 0x78 (0x13 + 16 * j))) 11 8

/-- SVt_GAIN_H, bits 7..4 (R170). -/
def SVt_GAIN_H (s : State) (j : Nat) : Nat := bits (s.reg (addr 0x78 (0x13 + 16 * j))) 7 4

/-- SVt_GAIN_IG, bits 3..0 (R170). -/
def SVt_GAIN_IG (s : State) (j : Nat) : Nat := bits (s.reg (addr 0x78 (0x13 + 16 * j))) 3 0

/-- SVt_HL_K, bits 15..0 (R170). -/
def SVt_HL_K (s : State) (j : Nat) : Nat := bits (s.reg (addr 0x78 (0x1C + 16 * j))) 15 0

/-- SVt_IFB_K, bits 15..0 (R170). -/
def SVt_IFB_K (s : State) (j : Nat) : Nat := bits (s.reg (addr 0x78 (0x1D + 16 * j))) 15 0

/-- SVt_KV, bits 15..0 (R170). -/
def SVt_KV (s : State) (j : Nat) : Nat := bits (s.reg (addr 0x78 (0x11 + 16 * j))) 15 0

/-- SVt_LMAX_LMAX, bits 14..0 (R170). -/
def SVt_LMAX_LMAX (s : State) (j : Nat) : Nat := bits (s.reg (addr 0x78 (0x14 + 16 * j))) 14 0

/-- SVt_NODE_TRAINS, bits 7..0 (R170). -/
def SVt_NODE_TRAINS (s : State) (j : Nat) : Nat := bits (s.reg (addr 0x78 (0x15 + 16 * j))) 7 0

/-- SVt_RES_N_N, bits 7..0 (R170). -/
def SVt_RES_N_N (s : State) (j : Nat) : Nat := bits (s.reg (addr 0x78 (0x18 + 16 * j))) 7 0

/-- SVt_RES_TH_I_TH, bits 14..0 (R170). -/
def SVt_RES_TH_I_TH (s : State) (j : Nat) : Nat := bits (s.reg (addr 0x78 (0x17 + 16 * j))) 14 0

/-- SVt_RES_TH_TH, bits 14..0 (R170). -/
def SVt_RES_TH_TH (s : State) (j : Nat) : Nat := bits (s.reg (addr 0x78 (0x16 + 16 * j))) 14 0

/-- SVt_RSER, bits 15..0 (R170). -/
def SVt_RSER_I (s : State) (j : Nat) : Int := signed 16 (bits (s.reg (addr 0x78 (0x12 + 16 * j))) 15 0)

/-- SVt_SUB_CLAMP, bits 15..0 (R170). -/
def SVt_SUB_CLAMP (s : State) (j : Nat) : Nat := bits (s.reg (addr 0x78 (0x19 + 16 * j))) 15 0

/-- SVt_SUB_MAX, bits 15..0 (R170). -/
def SVt_SUB_MAX (s : State) (j : Nat) : Nat := bits (s.reg (addr 0x78 (0x1A + 16 * j))) 15 0

/-- SVt_VLSB, bits 15..0 (R170). -/
def SVt_VLSB (s : State) (j : Nat) : Nat := bits (s.reg (addr 0x78 (0x1B + 16 * j))) 15 0

/-- TEST_LB_DEPTH, bits 11..10 (R533). -/
def TEST_LB_DEPTH (s : State) : Nat := bits (s.reg (addr 0xF0 0x12)) 11 10

/-- TEST_LB_IF, bits 15..12 (R533). -/
def TEST_LB_IF (s : State) : Nat := bits (s.reg (addr 0xF0 0x12)) 15 12

/-- TEST_LB_INST, bits 4..0 (R533). -/
def TEST_LB_INST (s : State) : Nat := bits (s.reg (addr 0xF0 0x12)) 4 0

/-- TL_TOUT_SEL, bits 15..0 (R352). -/
def TL_TOUT_SEL_W (s : State) : Word := s.reg (addr 0xA0 0x13)

/-- TLn_ACT_CONV_M, bits 7..7 (R353). -/
def TLn_ACT_CONV_M (s : State) (i : Nat) : Bool := bit (s.reg (addr (0xA1 + i) 0x20)) 7

/-- TLn_ACT_CONV_W, bits 6..6 (R353). -/
def TLn_ACT_CONV_W (s : State) (i : Nat) : Bool := bit (s.reg (addr (0xA1 + i) 0x20)) 6

/-- TLn_ACT_LARD_M, bits 5..5 (R353). -/
def TLn_ACT_LARD_M (s : State) (i : Nat) : Bool := bit (s.reg (addr (0xA1 + i) 0x20)) 5

/-- TLn_ACT_LARD_W, bits 4..4 (R353). -/
def TLn_ACT_LARD_W (s : State) (i : Nat) : Bool := bit (s.reg (addr (0xA1 + i) 0x20)) 4

/-- TLn_ACT_ON_MATCH, bits 15..14 (R353). -/
def TLn_ACT_ON_MATCH (s : State) (i : Nat) : Nat := bits (s.reg (addr (0xA1 + i) 0x20)) 15 14

/-- TLn_ACT_ON_WRAP, bits 13..12 (R353). -/
def TLn_ACT_ON_WRAP (s : State) (i : Nat) : Nat := bits (s.reg (addr (0xA1 + i) 0x20)) 13 12

/-- TLn_ACT_SLICE, bits 3..0 (R353). -/
def TLn_ACT_SLICE (s : State) (i : Nat) : Nat := bits (s.reg (addr (0xA1 + i) 0x20)) 3 0

/-- TLn_ACT_TGT, bits 11..8 (R353). -/
def TLn_ACT_TGT (s : State) (i : Nat) : Nat := bits (s.reg (addr (0xA1 + i) 0x20)) 11 8

/-- TLn_CFG_CLK, bits 12..10 (R353). -/
def TLn_CFG_CLK (s : State) (i : Nat) : Nat := bits (s.reg (addr (0xA1 + i) 0x10)) 12 10

/-- TLn_CFG_EN, bits 15..15 (R353). -/
def TLn_CFG_EN (s : State) (i : Nat) : Bool := bit (s.reg (addr (0xA1 + i) 0x10)) 15

/-- TLn_CFG_FILT, bits 3..0 (R353). -/
def TLn_CFG_FILT (s : State) (i : Nat) : Nat := bits (s.reg (addr (0xA1 + i) 0x10)) 3 0

/-- TLn_CFG_GPOL, bits 5..5 (R353). -/
def TLn_CFG_GPOL (s : State) (i : Nat) : Bool := bit (s.reg (addr (0xA1 + i) 0x10)) 5

/-- TLn_CFG_IN, bits 7..6 (R353). -/
def TLn_CFG_IN (s : State) (i : Nat) : Nat := bits (s.reg (addr (0xA1 + i) 0x10)) 7 6

/-- TLn_CFG_LINK, bits 9..9 (R353). -/
def TLn_CFG_LINK (s : State) (i : Nat) : Bool := bit (s.reg (addr (0xA1 + i) 0x10)) 9

/-- TLn_CFG_MODE, bits 14..13 (R353). -/
def TLn_CFG_MODE (s : State) (i : Nat) : Nat := bits (s.reg (addr (0xA1 + i) 0x10)) 14 13

/-- TLn_CFG_TIMEBASE, bits 8..8 (R353). -/
def TLn_CFG_TIMEBASE (s : State) (i : Nat) : Bool := bit (s.reg (addr (0xA1 + i) 0x10)) 8

/-- TLn_CFG, bits 15..0 (R353). -/
def TLn_CFG_W (s : State) (i : Nat) : Word := s.reg (addr (0xA1 + i) 0x10)

/-- TLn_OUT_OINIT, bits 11..11 (R353). -/
def TLn_OUT_OINIT (s : State) (i : Nat) : Bool := bit (s.reg (addr (0xA1 + i) 0x21)) 11

/-- TLn_OUT_OMATCH, bits 15..14 (R353). -/
def TLn_OUT_OMATCH (s : State) (i : Nat) : Nat := bits (s.reg (addr (0xA1 + i) 0x21)) 15 14

/-- TLn_OUT_OWRAP, bits 13..12 (R353). -/
def TLn_OUT_OWRAP (s : State) (i : Nat) : Nat := bits (s.reg (addr (0xA1 + i) 0x21)) 13 12

/-- TLn_TOP_H, bits 15..0 (R353). -/
def TLn_TOP_H (s : State) (i : Nat) : Nat := bits (s.reg (addr (0xA1 + i) 0x17)) 15 0

/-- TLn_TOP_L, bits 15..0 (R353). -/
def TLn_TOP_L (s : State) (i : Nat) : Nat := bits (s.reg (addr (0xA1 + i) 0x16)) 15 0

/-- TR_CFG_DE_LIGHT, bits 11..11 (R100). -/
def TR_CFG_DE_LIGHT (s : State) (i : Nat) : Bool := bit (s.reg (addr (0x08 + i) 0x10)) 11

/-- TR_CFG_KIND, bits 15..14 (R100). -/
def TR_CFG_KIND (s : State) (i : Nat) : Nat := bits (s.reg (addr (0x08 + i) 0x10)) 15 14

/-- TR_CFG_MODE, bits 13..13 (R100). -/
def TR_CFG_MODE (s : State) (i : Nat) : Bool := bit (s.reg (addr (0x08 + i) 0x10)) 13

/-- TR_CFG_OLOOP, bits 7..4 (R100). -/
def TR_CFG_OLOOP (s : State) (i : Nat) : Nat := bits (s.reg (addr (0x08 + i) 0x10)) 7 4

/-- TR_CFG_ONELEG, bits 10..10 (R100). -/
def TR_CFG_ONELEG (s : State) (i : Nat) : Bool := bit (s.reg (addr (0x08 + i) 0x10)) 10

/-- TR_CFG_TERM, bits 9..8 (R100). -/
def TR_CFG_TERM (s : State) (i : Nat) : Nat := bits (s.reg (addr (0x08 + i) 0x10)) 9 8

/-- TR_CFG, bits 15..0 (R100). -/
def TR_CFG_W (s : State) (i : Nat) : Word := s.reg (addr (0x08 + i) 0x10)

/-- TR_CTRL_RUN, bits 0..0 (R100). -/
def TR_CTRL_RUN (s : State) (i : Nat) : Bool := bit (s.reg (addr (0x08 + i) 0x11)) 0

/-- TR_CTRL_SDIR, bits 1..1 (R100). -/
def TR_CTRL_SDIR (s : State) (i : Nat) : Bool := bit (s.reg (addr (0x08 + i) 0x11)) 1

/-- TR_CTRL, bits 15..0 (R100). -/
def TR_CTRL_W (s : State) (i : Nat) : Word := s.reg (addr (0x08 + i) 0x11)

/-- TR_IFS, bits 15..0 (R100). -/
def TR_IFS (s : State) (i : Nat) : Nat := bits (s.reg (addr (0x08 + i) 0x14)) 15 0

/-- TR_ILIM, bits 15..0 (R100). -/
def TR_ILIM (s : State) (i : Nat) : Nat := bits (s.reg (addr (0x08 + i) 0x16)) 15 0

/-- TR_ILIM_N_ILIM_N, bits 14..0 (R100). -/
def TR_ILIM_N_ILIM_N (s : State) (i : Nat) : Nat := bits (s.reg (addr (0x08 + i) 0x17)) 14 0

/-- TR_LIND, bits 15..0 (R100). -/
def TR_LIND (s : State) (i : Nat) : Nat := bits (s.reg (addr (0x08 + i) 0x15)) 15 0

/-- TR_OPEN_MIN, bits 15..0 (R100). -/
def TR_OPEN_MIN (s : State) (i : Nat) : Nat := bits (s.reg (addr (0x08 + i) 0x27)) 15 0

/-- TR_REV_TH_REV, bits 14..0 (R100). -/
def TR_REV_TH_REV (s : State) (i : Nat) : Nat := bits (s.reg (addr (0x08 + i) 0x22)) 14 0

/-- TR_SHARE_TH_TH, bits 6..0 (R100). -/
def TR_SHARE_TH_TH (s : State) (i : Nat) : Nat := bits (s.reg (addr (0x08 + i) 0x28)) 6 0

/-- TR_SHED_CFG_EN, bits 15..15 (R100). -/
def TR_SHED_CFG_EN (s : State) (i : Nat) : Bool := bit (s.reg (addr (0x08 + i) 0x26)) 15

/-- TR_SHED_CFG_NMIN, bits 12..8 (R100). -/
def TR_SHED_CFG_NMIN (s : State) (i : Nat) : Nat := bits (s.reg (addr (0x08 + i) 0x26)) 12 8

/-- TR_SHED_CFG_SMIN, bits 4..0 (R100). -/
def TR_SHED_CFG_SMIN (s : State) (i : Nat) : Nat := bits (s.reg (addr (0x08 + i) 0x26)) 4 0

/-- TR_SHED_DLY, bits 15..0 (R100). -/
def TR_SHED_DLY (s : State) (i : Nat) : Nat := bits (s.reg (addr (0x08 + i) 0x25)) 15 0

/-- TR_SHED_HI_HI, bits 14..0 (R100). -/
def TR_SHED_HI_HI (s : State) (i : Nat) : Nat := bits (s.reg (addr (0x08 + i) 0x24)) 14 0

/-- TR_SHED_LO_LO, bits 14..0 (R100). -/
def TR_SHED_LO_LO (s : State) (i : Nat) : Nat := bits (s.reg (addr (0x08 + i) 0x23)) 14 0

/-- TR_SLOPE, bits 15..0 (R100). -/
def TR_SLOPE (s : State) (i : Nat) : Nat := bits (s.reg (addr (0x08 + i) 0x1D)) 15 0

/-- TR_SL_HI, bits 7..4 (R100). -/
def TR_SL_HI (s : State) (i : Nat) : Nat := bits (s.reg (addr (0x08 + i) 0x1C)) 7 4

/-- TR_SL_LO, bits 3..0 (R100). -/
def TR_SL_LO (s : State) (i : Nat) : Nat := bits (s.reg (addr (0x08 + i) 0x1C)) 3 0

/-- TR_SS_RATE, bits 15..0 (R100). -/
def TR_SS_RATE (s : State) (i : Nat) : Nat := bits (s.reg (addr (0x08 + i) 0x1F)) 15 0

/-- TR_SS_SRM, bits 15..0 (R100). -/
def TR_SS_SRM (s : State) (i : Nat) : Nat := bits (s.reg (addr (0x08 + i) 0x20)) 15 0

/-- TR_STOP_TK_TK, bits 7..0 (R100). -/
def TR_STOP_TK_TK (s : State) (i : Nat) : Nat := bits (s.reg (addr (0x08 + i) 0x21)) 7 0

/-- TR_TONMAX, bits 15..0 (R100). -/
def TR_TONMAX (s : State) (i : Nat) : Nat := bits (s.reg (addr (0x08 + i) 0x1E)) 15 0

/-- TR_VTGT, bits 15..0 (R100). -/
def TR_VTGT_I (s : State) (i : Nat) : Int := signed 16 (bits (s.reg (addr (0x08 + i) 0x1B)) 15 0)

/-- TEST_PARAM, bits 15..0 (R533). -/
def TEST_PARAM_PARAM (s : State) : Nat := bits (s.reg (addr 0xF0 0x14)) 15 0

/-- TWM_CFG_PEC, bits 15..15 (R486). -/
def TWM_CFG_PEC (s : State) : Bool := bit (s.reg (addr 0xD1 0x10)) 15

/-- TWM_CFG_FALL, bits 14..13 (R486). -/
def TWM_CFG_FALL (s : State) : Nat := bits (s.reg (addr 0xD1 0x10)) 14 13

/-- TWM_CFG_TMO, bits 11..11 (R486). -/
def TWM_CFG_TMO (s : State) : Bool := bit (s.reg (addr 0xD1 0x10)) 11

/-- TWP_CFG_EN, bits 15..15 (R487). -/
def TWP_CFG_EN (s : State) : Bool := bit (s.reg (addr 0xD2 0x10)) 15

/-- TWP_CFG_FALL, bits 11..10 (R487). -/
def TWP_CFG_FALL (s : State) : Nat := bits (s.reg (addr 0xD2 0x10)) 11 10

/-- TWP_CFG_NACKRT, bits 9..9 (R487). -/
def TWP_CFG_NACKRT (s : State) : Bool := bit (s.reg (addr 0xD2 0x10)) 9

/-- TWP_CFG_PEC, bits 13..13 (R487). -/
def TWP_CFG_PEC (s : State) : Bool := bit (s.reg (addr 0xD2 0x10)) 13

/-- TWP_CFG_TEN, bits 12..12 (R487). -/
def TWP_CFG_TEN (s : State) : Bool := bit (s.reg (addr 0xD2 0x10)) 12

/-- TWP_TADDR_ADDR, bits 6..0 (R487). -/
def TWP_TADDR_ADDR (s : State) : Nat := bits (s.reg (addr 0xD2 0x11)) 6 0

/-- TWP_TOUTi, bits 15..0 (R487). -/
def TWP_TOUTi_W (s : State) (j : Nat) : Word := s.reg (addr 0xD2 (0x20 + j))

/-- The address of ADC_REF_ERR (R294). -/
def a_ADC_REF_ERR : Nat := addr 0x40 0x18

/-- The address of AX_GAINn (R297). -/
def a_AX_GAINn (j : Nat) : Nat := addr 0x52 (0x61 + 2 * j)

/-- The address of AX_OFFSn (R297). -/
def a_AX_OFFSn (j : Nat) : Nat := addr 0x52 (0x60 + 2 * j)

/-- The address of BP_TIMP_T0 (R253). -/
def a_BP_TIMP_T0 (i : Nat) : Nat := addr (0x34 + i) 0x42

/-- The address of BP_TIMP_ZREF (R253). -/
def a_BP_TIMP_ZREF (i : Nat) : Nat := addr (0x34 + i) 0x41

/-- The address of CAL_LDn_H (R377). -/
def a_CAL_LDn_H (j : Nat) : Nat := addr 0x58 (0x40 + 2 * j)

/-- The address of CAL_LDn_L (R377). -/
def a_CAL_LDn_L (j : Nat) : Nat := addr 0x58 (0x41 + 2 * j)

/-- The address of CAL_RING (R377). -/
def a_CAL_RING : Nat := addr 0x58 0x74

/-- The address of CAL_SRCs (R377). -/
def a_CAL_SRCs (j : Nat) : Nat := addr 0x58 (0x70 + j)

/-- The address of CAL_VREF_H (R377). -/
def a_CAL_VREF_H : Nat := addr 0x58 0x12

/-- The address of CAL_VREF_L (R377). -/
def a_CAL_VREF_L : Nat := addr 0x58 0x11

/-- The address of CE_ERR (R141). -/
def a_CE_ERR : Nat := addr 0x60 0x11

/-- The address of CK_STAT (R328). -/
def a_CK_STAT (i : Nat) : Nat := addr (0x81 + i) 0x11

/-- The address of FLT_INTICK (R403). -/
def a_FLT_INTICK : Nat := addr 0xB8 0x1A

/-- The address of FLT_SAFE_CAUSE (R403). -/
def a_FLT_SAFE_CAUSE : Nat := addr 0xB8 0x2A

/-- The address of FLT_STICKY (R403). -/
def a_FLT_STICKY : Nat := addr 0xB8 0x28

/-- The address of GUARD_LOCK (R254). -/
def a_GUARD_LOCK : Nat := addr 0x38 0x10

/-- The address of L_CFG (R101). -/
def a_L_CFG (i : Nat) : Nat := addr (0x10 + i) 0x10

/-- The address of L_PHASE (R101). -/
def a_L_PHASE (i : Nat) : Nat := addr (0x10 + i) 0x12

/-- The address of L_TRIM (R101). -/
def a_L_TRIM (i : Nat) : Nat := addr (0x10 + i) 0x16

/-- The address of PG_ERR (R561). -/
def a_PG_ERR (p : Nat) : Nat := addr p 0x04

/-- The address of PL_MAP (R102). -/
def a_PL_MAP (j : Nat) : Nat := addr 0x28 (0x10 + j)

/-- The address of PL_PAIR (R102). -/
def a_PL_PAIR : Nat := addr 0x28 0x16

/-- The address of RG_CLOOP (R452). -/
def a_RG_CLOOP : Nat := addr 0xC8 0x1A

/-- The address of RG_NRATEDt (R452). -/
def a_RG_NRATEDt (j : Nat) : Nat := addr 0xC8 (0x20 + j)

/-- The address of RG_SPAN (R452). -/
def a_RG_SPAN : Nat := addr 0xC8 0x19

/-- The address of SL_GAIN (R295). -/
def a_SL_GAIN (i : Nat) : Nat := addr (0x41 + i) 0x17

/-- The address of SL_OFFS (R295). -/
def a_SL_OFFS (i : Nat) : Nat := addr (0x41 + i) 0x16

/-- The address of STORE_ERR (R506). -/
def a_STORE_ERR : Nat := addr 0xC0 0x15

/-- The address of TEST_LB (R533). -/
def a_TEST_LB : Nat := addr 0xF0 0x12

/-- The address of TEST_PARAM (R533). -/
def a_TEST_PARAM : Nat := addr 0xF0 0x14

/-- The address of TLn_STAT (R353). -/
def a_TLn_STAT (i : Nat) : Nat := addr (0xA1 + i) 0x11

/-- The address of TR_CFG (R100). -/
def a_TR_CFG (i : Nat) : Nat := addr (0x08 + i) 0x10

/-- The address of TWP_ERR (R487). -/
def a_TWP_ERR : Nat := addr 0xD2 0x13

/-- ADC_REF_CTRL_TRACE, bits 0..0 (R294). -/
def set_ADC_REF_CTRL_TRACE (s : State) (v : Bool) : State :=
  s.setReg (addr 0x40 0x19) (setBit (s.reg (addr 0x40 0x19)) 0 v)

/-- BP_CTRL_ZLEARN, bits 11..11 (R253). -/
def set_BP_CTRL_ZLEARN (s : State) (i : Nat) (v : Bool) : State :=
  s.setReg (addr (0x34 + i) 0x12) (setBit (s.reg (addr (0x34 + i) 0x12)) 11 v)

/-- BP_PHASE_PHASE, bits 3..0 (R253). -/
def set_BP_PHASE_PHASE (s : State) (i : Nat) (v : Nat) : State :=
  s.setReg (addr (0x34 + i) 0x13) (setBits (s.reg (addr (0x34 + i) 0x13)) 3 0 v)

/-- CAL_CMD_KIND, bits 15..14 (R377). -/
def set_CAL_CMD_KIND (s : State) (v : Nat) : State :=
  s.setReg (addr 0x58 0x10) (setBits (s.reg (addr 0x58 0x10)) 15 14 v)

/-- CAL_LDn_H_FALL, bits 6..0 (R377). -/
def set_CAL_LDn_H_FALL (s : State) (j : Nat) (v : Nat) : State :=
  s.setReg (addr 0x58 (0x40 + 2 * j)) (setBits (s.reg (addr 0x58 (0x40 + 2 * j))) 6 0 v)

/-- CAL_LDn_H_RISE, bits 14..8 (R377). -/
def set_CAL_LDn_H_RISE (s : State) (j : Nat) (v : Nat) : State :=
  s.setReg (addr 0x58 (0x40 + 2 * j)) (setBits (s.reg (addr 0x58 (0x40 + 2 * j))) 14 8 v)

/-- CAL_LDn_L_FALL, bits 6..0 (R377). -/
def set_CAL_LDn_L_FALL (s : State) (j : Nat) (v : Nat) : State :=
  s.setReg (addr 0x58 (0x41 + 2 * j)) (setBits (s.reg (addr 0x58 (0x41 + 2 * j))) 6 0 v)

/-- CAL_LDn_L_RISE, bits 14..8 (R377). -/
def set_CAL_LDn_L_RISE (s : State) (j : Nat) (v : Nat) : State :=
  s.setReg (addr 0x58 (0x41 + 2 * j)) (setBits (s.reg (addr 0x58 (0x41 + 2 * j))) 14 8 v)

/-- CAL_RING_CELLS, bits 6..0 (R377). -/
def CAL_RING_CELLS (s : State) : Nat := bits (s.reg a_CAL_RING) 6 0
/-- CAL_RING_CELLS, bits 6..0 (R377). -/
def set_CAL_RING_CELLS (s : State) (v : Nat) : State :=
  s.setReg (addr 0x58 0x74) (setBits (s.reg (addr 0x58 0x74)) 6 0 v)

/-- CAL_SRCs_OV, bits 3..0 (R377). -/
def set_CAL_SRCs_OV (s : State) (j : Nat) (v : Nat) : State :=
  s.setReg (addr 0x58 (0x70 + j)) (setBits (s.reg (addr 0x58 (0x70 + j))) 3 0 v)

/-- CAL_SRCs_UV, bits 11..8 (R377). -/
def set_CAL_SRCs_UV (s : State) (j : Nat) (v : Nat) : State :=
  s.setReg (addr 0x58 (0x70 + j)) (setBits (s.reg (addr 0x58 (0x70 + j))) 11 8 v)

/-- CK_CTRL_LISTSEL, bits 2..2 (R328). -/
def set_CK_CTRL_LISTSEL (s : State) (i : Nat) (v : Bool) : State :=
  s.setReg (addr (0x81 + i) 0x10) (setBit (s.reg (addr (0x81 + i) 0x10)) 2 v)

/-- CK_CTRL_RUN, bits 0..0 (R328). -/
def set_CK_CTRL_RUN (s : State) (i : Nat) (v : Bool) : State :=
  s.setReg (addr (0x81 + i) 0x10) (setBit (s.reg (addr (0x81 + i) 0x10)) 0 v)

/-- GUARD_LOCK_LOCK, bits 0..0 (R254). -/
def set_GUARD_LOCK_LOCK (s : State) (v : Bool) : State :=
  s.setReg (addr 0x38 0x10) (setBit (s.reg (addr 0x38 0x10)) 0 v)

/-- L_TRIM_TRIM, bits 4..0 (R101). -/
def set_L_TRIM_TRIM (s : State) (i : Nat) (v : Nat) : State :=
  s.setReg (addr (0x10 + i) 0x16) (setBits (s.reg (addr (0x10 + i) 0x16)) 4 0 v)

/-- RG_CFG_POS, bits 10..8 (R452). -/
def set_RG_CFG_POS (s : State) (v : Nat) : State :=
  s.setReg (addr 0xC8 0x10) (setBits (s.reg (addr 0xC8 0x10)) 10 8 v)

/-- SRC_CTRL_EN, bits 3..0 (R204). -/
def set_SRC_CTRL_EN (s : State) (v : Nat) : State :=
  s.setReg (addr 0x30 0x10) (setBits (s.reg (addr 0x30 0x10)) 3 0 v)

/-- STORE_ADDR_H_ADDR, bits 8..0 (R506). -/
def set_STORE_ADDR_H_ADDR (s : State) (v : Nat) : State :=
  s.setReg (addr 0xC0 0x11) (setBits (s.reg (addr 0xC0 0x11)) 8 0 v)

/-- STORE_ADDR_L, bits 15..0 (R506). -/
def set_STORE_ADDR_L (s : State) (v : Nat) : State :=
  s.setReg (addr 0xC0 0x10) (setBits (s.reg (addr 0xC0 0x10)) 15 0 v)

/-- STORE_CMD_CMD, bits 15..14 (R506). -/
def set_STORE_CMD_CMD (s : State) (v : Nat) : State :=
  s.setReg (addr 0xC0 0x13) (setBits (s.reg (addr 0xC0 0x13)) 15 14 v)

/-- TLn_CFG_EN, bits 15..15 (R353). -/
def set_TLn_CFG_EN (s : State) (i : Nat) (v : Bool) : State :=
  s.setReg (addr (0xA1 + i) 0x10) (setBit (s.reg (addr (0xA1 + i) 0x10)) 15 v)

end Sys2Proof.Machine
end

