-- ==== Sys2Proof/Machine/Topo.lean ====
section
/-! DEFINITION. Which leg belongs to which train, as adopted (R57, R70, R81, R82), and the leg counts. -/

namespace Sys2Proof.Machine

/-- An adopted P field's register (R57). -/
def State.ad (s : State) (a : Nat) : Word := s.cp.adopted.get a

/-- The map code of a leg in force: 0-7 a train, 15 unassigned (R82). -/
def mapCode (s : State) (n : Leg) : Nat :=
  let k := 4 * (n.val % 4)
  bits (s.ad (a_PL_MAP (n.val / 4))) (k + 3) k

/-- Is the leg half of a four-switch phase (R70)? -/
def paired (s : State) (n : Leg) : Bool := bit (s.ad a_PL_PAIR) (n.val / 2)

/-- The other leg of the pair. -/
def partner (n : Leg) : Leg := if h : n.val % 2 = 0 then ⟨n.val + 1, by omega⟩ else ⟨n.val - 1, by omega⟩

/-- The output leg of a pair counts in no leg count (R70). -/
def pairOut (s : State) (n : Leg) : Bool := paired s n && n.val % 2 == 1

/-- The train a leg is assigned to; a pair whose legs are mapped to different trains is unassigned (R82). -/
def legTrain (s : State) (n : Leg) : Option Train :=
  if h : mapCode s n < 8 then
    if paired s n && mapCode s (partner n) != mapCode s n then none else some ⟨mapCode s n, h⟩
  else none

/-- A leg a train may use: not fenced, nor its partner of a pair (R70, R98). -/
def legAvail (s : State) (n : Leg) : Bool :=
  !s.isFenced (.leg n) && !(paired s n && s.isFenced (.leg (partner n)))

/-- The legs of a train, lowest first, output legs of pairs left out. -/
def legsOf (s : State) (t : Train) : List Leg :=
  (List.finRange 24).filter fun n => legTrain s n == some t && !pairOut s n

/-- Legs mapped (R72), on this device. -/
def nRatedHere (s : State) (t : Train) : Nat := (legsOf s t).length
/-- Legs mapped and not fenced, on this device. -/
def nAvailHere (s : State) (t : Train) : Nat := ((legsOf s t).filter (legAvail s)).length
/-- Legs the train has on, on this device. -/
def nOnHere (s : State) (t : Train) : Nat :=
  ((legsOf s t).filter fun n => s.cp.legs[n].on && legAvail s n).length

/-- The device is in a formed ring: MEMBER, MASTER or HOLDOVER (R411). -/
def ringFormed (s : State) : Bool :=
  match s.x.ring.state with | .member | .master | .holdover => true | _ => false
/-- The device is the master. -/
def ringMaster (s : State) : Bool := decide (s.x.ring.state = .master)
/-- Is the train a spanning train (R431)? -/
def spanning (s : State) (t : Train) : Bool := nbit (RG_SPAN_SPAN s) t
/-- A spanning train whose demand and state another device computes (R433). -/
def spanSlave (s : State) (t : Train) : Bool := spanning s t && !(ringMaster s)

/-- A port. -/
def portOfRing (s : State) (east : Bool) : RgPort := if east then s.x.ring.e else s.x.ring.w
/-- The fence unit of a port. -/
def portUnit (east : Bool) : FenceUnit := if east then .ringE else .ringW

/-- Is a port up, whatever it is used for? -/
def portUp (s : State) (east : Bool) : Bool :=
  match (portOfRing s east).state with | .down | .training => false | _ => true
/-- A port that takes part in the ring: up, not fenced (R392) and not separated from another master's (R444). -/
def portIn (s : State) (east : Bool) : Bool :=
  portUp s east && (portOfRing s east).state != .foreign && !s.isFenced (portUnit east)

/-- The slot of a position that the master uses (R419, R432). -/
def slotInUse (s : State) (q : Pos) : Option RingSlot := s.x.ring.inUse[q]

/-- The sum over the members' slots in use. -/
def slotSum (s : State) (f : RingSlot → Int) : Int :=
  (List.finRange 8).foldl (fun a (q : Pos) => match slotInUse s q with | some r => a + f r | none => a) 0

/-- The sum of a train's valid leg estimates in 50 mA units, formed exactly and divided with truncation (R80). A leg that has stopped
switching keeps the estimate of its last period, and the sum counts it (DESIGN CHOICE, log entry 103). -/
def legEstimates (s : State) (t : Train) : Int :=
  ((legsOf s t).foldl (fun (a : Int) n => a + (s.x.hw[n].iest).getD 0) 0).tdiv 5

/-- Is a successor still on the counts of the last demand frame: until the slots of its own first frame are in use (R440)? -/
def onLastCounts (s : State) : Bool := !s.x.ring.ownSlots && s.x.ring.last.isSome

/-- TR_IEST: the leg estimates of the train; a ring master adds the slots' of a spanning train (R80, R432). -/
def trainIest (s : State) (t : Train) : Int :=
  clampI (-32767) 32767
    (legEstimates s t + (if spanning s t && ringMaster s then slotSum s fun r => r.trains[t].iest else 0))

/-- Train kinds (R81): 0 NONE, 1 INTAKE, 2 STORE, 3 AUX, as adopted. -/
def trKind (s : State) (t : Train) : Nat := bits (s.ad (a_TR_CFG t)) 15 14
/-- AUX boost, as adopted. -/
def trBoost (s : State) (t : Train) : Bool := bit (s.ad (a_TR_CFG t)) 12
/-- The terminal: node of an INTAKE train, port of a STORE train, as adopted. -/
def trTerm (s : State) (t : Train) : Nat := bits (s.ad (a_TR_CFG t)) 9 8

/-- The store train of a battery port: the lowest-numbered STORE train whose terminal is the port. -/
def storeTrain (s : State) (p : BPort) : Option Train :=
  (List.finRange 8).find? fun t => trKind s t == 2 && trTerm s t == p.val
/-- Every store train of a port. -/
def storeTrains (s : State) (p : BPort) : List Train :=
  (List.finRange 8).filter fun t => trKind s t == 2 && trTerm s t == p.val
/-- The intake trains of a node (0 A, 1 B). -/
def intakeTrains (s : State) (node : Nat) : List Train :=
  (List.finRange 8).filter fun t => trKind s t == 1 && trTerm s t == node

/-- The node of an intake train. -/
def trNode (s : State) (t : Train) : Fin 2 := if trTerm s t == 1 then 1 else 0
/-- An intake train of a node that is NONE or LOST holds its legs low (R184). -/
def nodeDead (s : State) (t : Train) : Bool :=
  trKind s t == 1 && (s.x.nodes[trNode s t].state = .none || s.x.nodes[trNode s t].state = .lost)

/-- The legs of a spanning train that switch on this device: none at a dead node, which acts through the counts alone (R184, R434). -/
def nOnSwitch (s : State) (t : Train) : Nat := if nodeDead s t then 0 else nOnHere s t

/-- Is the leg's train an intake train whose node ramps, so that its rectifier runs in diode emulation (R185)? -/
def nodeRamps (s : State) (n : Leg) : Bool :=
  match legTrain s n with
  | some t => trKind s t == 1 && s.x.nodes[trNode s t].state = .ramp
  | none => false

/-- Does the tick run: HOLD, RUN and SAFE, and SLEEP until its entry stops the tick (R390, R512, R519)? -/
def ticking (s : State) : Bool :=
  match s.x.dev with
  | .hold | .run | .safe => !s.x.pwr.stopped
  | _ => false

/-! ### Wake sources (R278, R470, R521) -/

/-- May the source wake the device (R278, R521)? The pin at the level of WPOL, a source once both its comparators are clear, an AX
comparator once it is armed. -/
def wakeOn (s : State) : WakeSource → Bool
  | .pin high => PWR_WAKE_EN_PIN s && high == PWR_WAKE_CFG_WPOL s
  | .twm => PWR_WAKE_EN_TWM s
  | .src i => nbit (PWR_WAKE_EN_SRC s) i && !s.x.src[i].uv && !s.x.src[i].ov
  | .axw w => AXWw_CFG_EN s w && AXWw_CFG_WAKE s w

/-- PWR_WAKE_SRC of a source. -/
def wakeCode : WakeSource → Nat × Nat
  | .pin _ => (1, 0)
  | .twm => (2, 0)
  | .src i => (3, i.val)
  | .axw w => (4, w.val)

/-- A wake source fires: the first that is enabled ends SLEEP, or an entry that is under way (R519, R521). -/
def wakeBy (s : State) (w : WakeSource) : State :=
  if (s.x.dev = .sleep || s.x.pwr.sleeping) && !s.x.pwr.waking && wakeOn s w then
    { s with x := { s.x with pwr := { s.x.pwr with
      waking := true, wakeSrc := (wakeCode w).1, wakeIx := (wakeCode w).2 } } }.evt 0xE0 2
  else s

/-! ### Train states -/

/-- Does the train switch its legs: SOFTSTART, RUN, STOP or REVERSE (R83)? -/
def TrState.switching : TrState → Bool
  | .softstart | .run | .stop | .reverse => true
  | _ => false

/-- The code of a train state (R83). -/
def TrState.code : TrState → Nat
  | .off => 0 | .prebias => 1 | .softstart => 2 | .run => 3 | .stop => 4 | .reverse => 5 | .hold => 6 | .fenced => 7

/-- Move a train to a state, with PG_EVT.STATE on a change (R84, R100); leaving HOLD ends SVt_STAT HELD (R165). -/
def setTrain (s : State) (t : Train) (st : TrState) : State :=
  if s.cp.trains[t].state = st then s
  else
    let s := if s.cp.trains[t].state = .hold then s.modModel t fun m => { m with held := false } else s
    (s.modTrain t fun r => { r with state := st }).evt (0x08 + t.val) 6

/-- The legs of a train stop at once: shadows idle, outputs low (R54, R83). -/
def legsOff (s : State) (t : Train) : State :=
  forAll (n := 24) s fun s n =>
    if legTrain s n == some t then
      (s.modLeg n fun l => { l with shadow := {}, on := false }).modHw n LegHw.low
    else s

/-- Cancel a shed whose off step is not written (R94, R95). -/
def cancelShed (s : State) (t : Train) : State :=
  if s.cp.trains[t].shedding then
    (s.modTrain t fun r => { r with shedding := false, leaving := none, rampWritten := false, shedCnt := 0 }).evt
      (0x08 + t.val) 2
  else s

/-- A train enters HOLD with its outputs low (R84); a shed in progress is cancelled (R95). -/
def trainHold (s : State) (t : Train) : State :=
  match s.cp.trains[t].state with
  | .off | .hold | .fenced => s
  | _ => legsOff (setTrain ((cancelShed s t).modTrain t fun r =>
      { r with leaving := none, rampWritten := false, rev := 0 }) t .hold) t

/-- A train is fenced: FENCED, outputs low (R83-R85); a shed in progress is cancelled (R95). -/
def trainFence (s : State) (t : Train) : State :=
  legsOff (setTrain ((cancelShed (s.fence (.train t)) t).modTrain t fun r =>
      { r with leaving := none, rampWritten := false, rev := 0 }) t .fenced) t

end Sys2Proof.Machine
end

