-- ==== Sys2Proof/Machine/Collect.lean ====
section
/-! DEFINITION. The collector (R378-R387): error lines, the fault word, the pins, and the trips of the in-tick checkers. -/

namespace Sys2Proof.Machine

/-- The error causes of a page that a running loop-back holds off its line (R531). -/
def testHeld (s : State) (page : Nat) : Word :=
  match s.x.test.run with
  | none => 0
  | some r =>
    if r.iface == 1 then (if page == 0xC8 then 0x00C7 else 0)
    else if r.iface == 2 then (if page == 0xC8 then 0x00F8 else 0)
    else if r.iface == 3 then (if page == 0xD0 then 0xFFFF else 0)
    else if r.iface == 4 then (if page == 0xD1 then 0xFFFF else 0)
    else if r.iface == 5 then (if page == 0xD2 then 0xFFFF else 0)
    else if r.iface == 6 then (if page == 0x10 + r.inst then 0xFFFF else 0)
    else if r.iface == 7 then (if page == 0x41 + r.inst then 0xFFFF else 0)
    else if page == 0xC0 || page == 0xC1 then 0xFFFF else 0

/-- The unmasked causes of a page's PG_ERR (R378) that no loop-back holds (R531). -/
def errOf (s : State) (page : Nat) : Word := PG_ERR_W s page &&& ~~~(PG_ERRMASK_W s page) &&& ~~~(testHeld s page)

/-- Is any unmasked cause set on one of these pages? -/
def anyErr (s : State) (pages : List Nat) : Bool := pages.any fun p => errOf s p != 0

/-- The pages from lo, n of them. -/
def pagesFrom (lo n : Nat) : List Nat := (List.range n).map (lo + ·)

/-- The error line of a FAULT_WORD source (R378, R386). RING bits 0-2 belong to the east port, 3-5 to the west, 6 and 7 to
both (R451). Masks have no effect on FAULT and on CONFIG. -/
def line (s : State) (b : Nat) : Bool :=
  if b < 8 then anyErr s [0x08 + b]
  else if b == 8 then anyErr s (0x28 :: pagesFrom 0x10 24)
  else if b == 9 then anyErr s [0x30]
  else if b < 14 then anyErr s [0x34 + (b - 10)]
  else if b == 14 then anyErr s (0x40 :: 0x51 :: 0x52 :: pagesFrom 0x41 16)
  else if b == 15 then anyErr s [0x58]
  else if b == 16 then anyErr s (0x60 :: pagesFrom 0x61 16)
  else if b == 17 then anyErr s [0x78]
  else if b == 18 then anyErr s (pagesFrom 0x81 8)
  else if b == 19 then anyErr s (pagesFrom 0xA1 16)
  else if b == 20 then anyErr s [0xC0, 0xC1]
  else if b == 21 then errOf s 0xC8 &&& 0x00C7 != 0
  else if b == 22 then errOf s 0xC8 &&& 0x00F8 != 0
  else if b == 23 then anyErr s [0xD0]
  else if b == 24 then anyErr s [0xD1]
  else if b == 25 then anyErr s [0xD2]
  else if b == 26 then errOf s 0xE0 &&& 0x03 != 0
  else if b == 27 then errOf s 0xE0 &&& 0x7C != 0
  else if b == 28 then s.x.col.diet
  else if b == 29 then anyErr s [0x01] || bit (FLT_INTICK_W s) 4
  else if b == 30 then PG_ERR_W s 0x00 &&& 0xFFFE != 0
  else PG_ERR_W s 0xB8 != 0

/-- The sources whose line a page's PG_ERR drives. -/
def pageLines (page : Nat) : List Nat :=
  if page == 0x00 then [30] else if page == 0x01 then [29]
  else if 0x08 ≤ page && page ≤ 0x0F then [page - 0x08]
  else if 0x10 ≤ page && page ≤ 0x28 then [8]
  else if page == 0x30 then [9]
  else if 0x34 ≤ page && page ≤ 0x37 then [10 + (page - 0x34)]
  else if 0x40 ≤ page && page ≤ 0x52 then [14]
  else if page == 0x58 then [15]
  else if 0x60 ≤ page && page ≤ 0x70 then [16]
  else if page == 0x78 then [17]
  else if 0x81 ≤ page && page ≤ 0x88 then [18]
  else if 0xA1 ≤ page && page ≤ 0xB0 then [19]
  else if page == 0xC0 || page == 0xC1 then [20]
  else if page == 0xC8 then [21, 22]
  else if page == 0xD0 then [23] else if page == 0xD1 then [24] else if page == 0xD2 then [25]
  else if page == 0xE0 then [26, 27]
  else if page == 0xB8 then [31]
  else []

/-- The pages whose causes name the units and trains of a source that the decision fences (R386). -/
def causePages (b : Nat) : List Nat :=
  if b == 8 then pagesFrom 0x10 24
  else if b == 9 then [0x30]
  else if b == 14 then pagesFrom 0x41 16
  else if b == 16 then pagesFrom 0x61 16
  else if b == 17 then [0x78]
  else if b == 18 then pagesFrom 0x81 8
  else []

/-- A unit's page. -/
def unitPage : FenceUnit → Nat
  | .leg n => 0x10 + n.val
  | .train t => 0x08 + t.val
  | .conv c => 0x41 + c.val
  | .loop l => 0x61 + l.val
  | .clerk c => 0x81 + c.val
  | .supv => 0x78
  | .ringE | .ringW => 0xC8
  | .spi => 0xD0
  | .twm => 0xD1
  | .twp => 0xD2
  | .store => 0xC0

/-- The PG_ERR bits of its page that concern a unit, and those that fence it whatever the reaction. -/
def unitMask : FenceUnit → Word × Word
  | .leg _ => (0xFFFF, 0xFFFF)
  | .conv _ => (0xFFFF, 0xFFFF)
  | .loop _ => (0xFFFF, 0xFFFF)
  | .clerk _ => (0x0007, 0x0003)
  | .supv => (0x0010, 0x0010)
  | .ringE => (0x00C7, 0)
  | .ringW => (0x00F8, 0)
  | .spi => (0xFFFF, 0x0002)
  | .twm => (0xFFFF, 0x0001)
  | .twp => (0xFFFF, 0x0001)
  | .train _ => (0xFFFF, 0)
  | .store => (0xFFFF, 0)

/-- The reaction code of a FAULT_WORD bit (R385). -/
def react (s : State) (b : Nat) : Nat := bits (FLT_REACT_W s (b / 4)) (4 * (b % 4) + 3) (4 * (b % 4))

/-- Is a bit enabled in a pair of L and H registers? -/
def enabled (lo hi : Word) (b : Nat) : Bool := if b < 16 then bit lo b else bit hi (b - 16)

/-- A capture trigger of the larder (R503): source 1 SAFE, 2 FAULT, 3 TALLY, 4 FORCE. -/
def larderTrigger (s : State) (src idx : Nat) : State :=
  let l := s.x.larder
  match l.state with
  | .armed => { s with x := { s.x with larder :=
      { l with state := .post, trigSrc := src, trigIdx := idx, recorded := false } } }
  | .post =>
    if l.recorded then { s with x := { s.x with larder := { l with missed := satInc 0xFFFF l.missed } } }
    else if src < l.trigSrc then { s with x := { s.x with larder := { l with trigSrc := src, trigIdx := idx } } }
    else s
  | _ => { s with x := { s.x with larder := { l with missed := satInc 0xFFFF l.missed } } }

/-- FLT# is low while a latched bit is enabled on the pin (R382). -/
def fltPin (s : State) : State :=
  s.modCol fun c =>
    let low := (List.range 32).any fun b => c.word.getLsbD b && enabled (FLT_PINEN_L_W s) (FLT_PINEN_H_W s) b
    { c with fltLow := low }

/-- Source and battery enables go to the levels of their straps (R385, R390). -/
def enablesToStraps (s : State) : State :=
  { s with x := { s.x with srcEn := s.x.srcStrap, batEn := s.x.batStrap } }

/-- The pin actions of reactions 3 and 4, which do not wait for the decision (R385, R387). -/
def pinShutdown (s : State) (code : Nat) : State :=
  let s := if code == 3 || code == 4 then (s.allLegsLow).modCol fun c => { c with pinsOff := true } else s
  if code == 4 then (enablesToStraps s).modCol fun c => { c with strapsOn := true } else s

/-- What an asserted line leaves behind until the next cycle 0 or decision: a line of code 3 or 4 was up (R389), and the causes of a bit that
waits for its decision, which outlast a clear of PG_ERR (R386, R387). -/
def noteLine (s : State) (b : Nat) : State :=
  let seen := if s.x.col.newly.getLsbD b then
      ((causePages b).map fun p => (p, errOf s p)).filter fun v => v.2 != 0 && !s.x.col.causes.contains v else []
  s.modCol fun c => { c with grave := c.grave || 3 ≤ react s b, causes := c.causes ++ seen }

/-- The collector sets a bit whose line is asserted (R379), with FLT_FIRST (R384), FLT# (R382), the pin actions (R385) and
the larder trigger (R503). -/
def latch (s : State) (b : Nat) : State :=
  if !(line s b) then s
  else if s.x.col.word.getLsbD b then noteLine s b
  else
    let m : BitVec 32 := BitVec.ofNat 32 (2 ^ b)
    let s := s.modCol fun c => { c with
      word := c.word ||| m
      newly := c.newly ||| m
      first := if c.word = 0 then some b else if c.opened then some (min b (c.first.getD b)) else c.first
      firstTk := if c.word = 0 then s.tickW else c.firstTk }
    let s := pinShutdown (noteLine s b) (react s b)
    let s := if enabled (LAR_TRIG_L_W s) (LAR_TRIG_H_W s) b then larderTrigger s 2 b else s
    fltPin s

/-- Every asserted line is latched, lowest bit first. -/
def latchAll (s : State) : State := (List.range 32).foldl latch s

/-- What happens in one cycle: of the bits that it latches while FAULT_WORD reads 0, FLT_FIRST takes the lowest (R384). -/
def oneCycle (f : State → State) (s : State) : State :=
  (f (s.modCol fun c => { c with opened := decide (c.word = 0) })).modCol fun c => { c with opened := false }

/-- An error of a unit fails its running self-check, cleared or not (R396). -/
def noteCheck (s : State) (page : Nat) (m : Word) : State :=
  let note (k : SelfCheck) : SelfCheck :=
    { k with bad := k.bad || (unitPage k.unit == page && m &&& (unitMask k.unit).1 != 0) }
  { s with x := { s.x with checks := s.x.checks.map note } }

/-- A unit sets bits of its PG_ERR; the lines of the page are latched (R378, R379). -/
def raiseMask (s : State) (page : Nat) (m : Word) : State :=
  (pageLines page).foldl latch ((noteCheck s page m).orReg (a_PG_ERR page) m)

/-- A unit sets one bit of its PG_ERR. -/
def raise (s : State) (page b : Nat) : State := raiseMask s page (oneHot b)

/-- A leg is fenced and stops; a phase stops with either of its legs (R70, R97). -/
def legOut (s : State) (n : Leg) : State :=
  let down (s : State) (n : Leg) : State := s.modLeg n fun l => { l with shadow := {}, on := false }
  let s := down (s.fence (.leg n)) n
  if paired s n then down (s.modHw (partner n) LegHw.low) (partner n) else s

/-- A leg error fences the leg within 4 cycles of the latch, whatever the reaction (R96, R97). A shed of another leg of the
train is cancelled (R95); a shed of this leg ends as its fence. -/
def legError (s : State) (n : Leg) (b : Nat) : State :=
  let s := legOut (raise s (0x10 + n.val) b) n
  match legTrain s n with
  | none => s
  | some t =>
    let r := s.cp.trains[t]
    if !r.shedding then s
    else
      let s := s.modTrain t fun r => { r with shedding := false, leaving := none, rampWritten := false, shedCnt := 0 }
      if r.leaving == some (if pairOut s n then partner n else n) then s else s.evt (0x08 + t.val) 2

/-! ### Trips of the in-tick checkers (R36, R402) -/

/-- Does a leg keep its shadow through a rollback: a spanning train's, written at cycle 240 from the demand frame (R435), or one
that the ride-through preset holds (R186)? -/
def keepsShadow (s : State) (n : Leg) : Bool :=
  match legTrain s n with
  | some t => spanning s t || s.x.ride.held[t]
  | none => false

/-- Every other shadow goes back to the demand of the tick before (R37, R38): the checkpoint's. -/
def restoreShadows (s : State) : State :=
  let back (n : Leg) : LegCp :=
    if keepsShadow s n then s.cp.legs[n] else { s.cp.legs[n] with shadow := s.ck.legs[n].shadow }
  { s with cp := { s.cp with legs := tab back } }

/-- A checker trips: FLT_INTICK records it, the tick is marked for rollback, the named units for a fence at the next cycle 0
(R36, R41, R402). At or after cycle 784 the shadows are restored (R38). -/
def trip (s : State) (checker cyc : Nat) (units : List FenceUnit) : State :=
  let s := s.orReg a_FLT_INTICK (oneHot checker)
  let s := s.modTick fun t => { t with trips := t.trips ++ [{ checker := checker, unit := units, cyc := cyc }] }
  let s := if s.x.tick.written then restoreShadows s else s
  latch s 29

/-- The tick overrun detector trips (R7, R46). -/
def overrun (s : State) (cyc : Nat) (units : List FenceUnit) : State :=
  raise (trip s 6 cyc units) 0x01 2

end Sys2Proof.Machine
end

