-- ==== Sys2Proof/Machine/Numeric.lean ====
section
/-! DEFINITION. Sine, cosine, logarithm, square root and the angle of a pair, to 120 binary places, and the values the spec states
through them (R136, R212, R246, R247, R250). Where the spec allows an error, or does not say how a result is rounded, the value is
free within those limits (log entries 6, 7, 8). -/

namespace Sys2Proof.Machine

/-- The unit of the fixed-point numbers of this file: 2^120. -/
def fixOne : Nat := 1329227995784915872903807060280344576
/-- Half of pi in that unit. -/
def fixHalfPi : Nat := 2087946453251888179413438228831778873
/-- The natural logarithm of 2 in that unit. -/
def fixLn2 : Nat := 921350637599661305226344307672478454

/-- The sine series from its k-th term on, x2 being the square of the angle. -/
def sinTerms (x2 : Nat) : Nat → Nat → Nat → Int
  | 0, _, _ => 0
  | fuel + 1, k, term => (term : Int) - sinTerms x2 fuel (k + 1) (term * x2 / fixOne / ((2 * k + 2) * (2 * k + 3)))
/-- The sine of n / d of a right angle. -/
def sinQuarter (n d : Nat) : Int :=
  if d ≤ n then fixOne
  else
    let x := fixHalfPi * n / d
    sinTerms (x * x / fixOne) 22 0 x
/-- The sine of p / d of a turn. -/
def turnSin (p d : Nat) : Int :=
  let r := 4 * p % d
  match 4 * p / d % 4 with
  | 0 => sinQuarter r d
  | 1 => sinQuarter (d - r) d
  | 2 => -(sinQuarter r d)
  | _ => -(sinQuarter (d - r) d)
/-- The cosine of p / d of a turn. -/
def turnCos (p d : Nat) : Int := turnSin (4 * p + d) (4 * d)

/-- The series of artanh z from its j-th term on, z and its square given in the unit. -/
def artanhTerms (z2 : Int) : Nat → Nat → Int → Int
  | 0, _, _ => 0
  | fuel + 1, j, term => term.tdiv (2 * j + 1) + artanhTerms z2 fuel (j + 1) ((term * z2).tdiv fixOne)
/-- ln (a / b), for positive a and b. -/
def fixLn (a b : Nat) : Int :=
  let x : Int := (a <<< b.log2 : Nat)
  let y : Int := (b <<< a.log2 : Nat)
  let z := ((x - y) * fixOne).tdiv (x + y)
  ((a.log2 : Int) - b.log2) * fixLn2 + 2 * artanhTerms ((z * z).tdiv fixOne) 42 0 z

/-- The largest r with r * r ≤ n. -/
def isqrt (n : Nat) : Nat :=
  (List.range (n.log2 / 2 + 1)).reverse.foldl (fun r i => if (r + 2 ^ i) * (r + 2 ^ i) ≤ n then r + 2 ^ i else r) 0

/-- The oscillator's word: the rounded sine of amplitude a at the 32-bit phase p, with an error of no more than 1 LSB (R136). -/
def oscValue (a p : Nat) : Int :=
  let y := (2 * a * turnSin p 4294967296 + fixOne).fdiv (2 * fixOne : Nat)
  clampI (y - 1) (y + 1) (Config.oscSine a p)

/-- The temperature of an NTC in 0.1 C, of a result, the pull-up in 1/4096 and beta, within 0.1 C of R212's formula. -/
def ntcValue (res : Int) (rpu b : Nat) : Int :=
  let l := fixLn (res.toNat * rpu) ((8388608 - res.toNat) * 4096)
  let den : Int := 20 * b * fixOne + 5963 * l
  if res.toNat * rpu = 0 ∨ b = 0 ∨ den = 0 then clampI (-32767) 32767 (Config.ntcTemp res rpu b)
  else
    let e : Rat := 10 * (((5963 * b * fixOne : Nat) : Rat) / (den : Rat)) - 5463 / 2
    let t := clampI (e - 1).ceil (e + 1).floor (Config.ntcTemp res rpu b)
    if t < -32767 ∨ 32767 < t then clampI (-32767) 32767 (Config.overflow t) else t

/-- The cosine of the probe at a 16-bit phase (R246). -/
def probeCos (p : Nat) : Rat := ((turnCos p 65536 : Int) : Rat) / (fixOne : Rat)
/-- The sine of the probe. -/
def probeSin (p : Nat) : Rat := ((turnSin p 65536 : Int) : Rat) / (fixOne : Rat)

/-- |z| times a scale for z = (vc - j vs) / (ic - j is) (R247): one of the two neighbours, or the value itself if it is whole. With no
current at all there is no z and the magnitude is free. -/
def impMagnitude (vc vs ic is scale : Rat) : Nat :=
  if ic * ic + is * is = 0 then Config.impMag vc vs ic is scale
  else
    let q := (vc * vc + vs * vs) / (ic * ic + is * is) * (scale * scale)
    let r := isqrt q.floor.toNat
    if ((r * r : Nat) : Rat) = q then r else max r (min (r + 1) (Config.impMag vc vs ic is scale))

/-- The whole hundredths of a degree in the angle of (x, y), y > 0, by halving steps. -/
def angleFloor (x y : Rat) : Nat :=
  (List.range 15).reverse.foldl (fun a i =>
    let c := a + 2 ^ i
    if c < 18000 ∧ 0 ≤ y * ((turnCos c 36000 : Int) : Rat) - x * ((turnSin c 36000 : Int) : Rat) then c else a) 0

/-- arg z in 0.01 degrees for z = (vc - j vs) / (ic - j is) (R247), one of the two neighbours; with no z it is free. -/
def impAngle (vc vs ic is : Rat) : Int :=
  let x := vc * ic + vs * is
  let y := vc * is - vs * ic
  if y = 0 then (if x = 0 then sat16 (Config.impPh vc vs ic is) else if 0 < x then 0 else 18000)
  else
    let h := if y < 0 then -y else y
    let a := angleFloor x h
    let whole : Bool := decide (h * ((turnCos a 36000 : Int) : Rat) = x * ((turnSin a 36000 : Int) : Rat))
    let u : Int := if whole then a else a + 1
    if y < 0 then clampI (-u) (-a) (Config.impPh vc vs ic is) else clampI a u (Config.impPh vc vs ic is)

/-- BP_TIMP_T0 + BP_TIMP_S ln (ZREF / MAG) in 0.1 C (R250), one of the two neighbours; for a magnitude of 0, or past the format, free. -/
def impTemperature (t0 k : Int) (zref mag : Nat) : Int :=
  if zref = 0 ∨ mag = 0 then clampI (-32767) 32767 (Config.impTemp t0 k zref mag)
  else
    let l := k * fixLn zref mag
    let lo := t0 + l.fdiv fixOne
    let t := clampI lo (if l % fixOne = 0 then lo else lo + 1) (Config.impTemp t0 k zref mag)
    if t < -32767 ∨ 32767 < t then clampI (-32767) 32767 (Config.overflow t) else t

end Sys2Proof.Machine
end

