-- ==== Sys2Proof/Machine/Words.lean ====
section
/-! DEFINITION. What a consumer inside the device reads from a logical slice (R116, R118, R152, R153). -/

namespace Sys2Proof.Machine

/-- A value between two codes is published as one of the two; which one is free (R171, log entry 5). -/
def roundOpen (x : Rat) : Int :=
  if x.den == 1 then x.num else clampI x.floor (x.floor + 1) (Config.publishRound x)

/-- A value in a signed 16-bit format; outside it the word is free (log entry 4). -/
def fitS (x : Int) : Int := if x < -32768 || 32767 < x then sat16 (Config.overflow x) else x
/-- A value in an unsigned 16-bit format; outside it the word is free (log entry 4). -/
def fitU (x : Int) : Int := if x < 0 || 65535 < x then clampI 0 65535 (Config.overflow x) else x
/-- A quotient truncated toward zero; by 0 it is free (log entry 5). -/
def tdivOpen (a b : Int) : Int := if b == 0 then Config.overflow a else a.tdiv b

/-- The fast word a consumer takes: the estimate while the slice is substituted, else the delivered word (R152). -/
def consFast (s : State) (i : Slice) : Int :=
  let v := s.cp.sup[i]
  if v.subst then v.est.getD v.heldFast else s.x.deliv[i].fast

/-- The word that a loop takes of a slice: in pair mode the mean of the two words (R118); the estimate while substituted. -/
def consMean (s : State) (i : Slice) : Int :=
  let v := s.cp.sup[i]
  if v.subst then v.est.getD v.heldFast else s.x.deliv[i].mean

/-- The fine result a consumer takes: 256 times the estimate while the slice is substituted (R152). -/
def consFine (s : State) (i : Slice) : Int :=
  let v := s.cp.sup[i]
  if v.subst then (match v.est with | some e => e * 256 | none => v.heldFine) else s.x.deliv[i].fine

/-- The slice of a train's LO terminal. -/
def loSlice (s : State) (t : Train) : Slice := ⟨TR_SL_LO s t % 16, by omega⟩
/-- The slice of a train's HI terminal. -/
def hiSlice (s : State) (t : Train) : Slice := ⟨TR_SL_HI s t % 16, by omega⟩

/-- The LO terminal voltage in units of VLSB/4096 (R78, R146). -/
def vLo (s : State) (t : Train) : Int := consFast s (loSlice s t) * 4096
/-- The HI terminal voltage in the same units: code times SVt_HL_K, a Q4.12 factor (R78, R146). -/
def vHi (s : State) (t : Train) : Int := consFast s (hiSlice s t) * (SVt_HL_K s t : Nat)

end Sys2Proof.Machine
end

