-- ==== Sys2Proof/Machine/Pulse.lean ====
section
/-! DEFINITION. The pulse duty a Tally in capture-pair mode gives a set-point path (R119). -/

namespace Sys2Proof.Machine

/-- The latest complete pulse at a Tally as of cycle 0: its duty in Q1.15 and the number of its first edge. -/
def pulseDuty (s : State) (i : TallyIx) : Option (Int × Nat) := s.x.tally[i].dutyPub
/-- Edges the Tally has captured since reset. -/
def tallyEdges (s : State) (i : TallyIx) : Nat := s.x.tally[i].total
/-- Is the Tally in capture-pair mode? A linked pair is in none, whatever the odd one's own CFG holds (R343, R344). -/
def capturePair (s : State) (i : TallyIx) : Bool := TLn_CFG_EN s i && TLn_CFG_MODE s i == 3 && !(TLn_CFG_LINK s (i.val / 2 * 2))

end Sys2Proof.Machine
end

