-- ==== Sys2Proof/Machine/Ce.lean ====
section
/-! DEFINITION. The control engine: sections, loops, set-points, selectors, anti-windup, oscillators (R103-R140). -/

namespace Sys2Proof.Machine

/-! ### Arithmetic of a section (R103-R106) -/

/-- Saturation of a state word, Q2.30 (R106). -/
def sat32 (x : Int) : Int := clampI (-2147483648) 2147483647 x

/-- Division by 2^15 to the nearest integer, halves rounded up. -/
def rnd15 (x : Int) : Int := (x + 16384).fdiv 32768

/-- The coefficients and shift of a slot, as signed integers. -/
structure Coefs where
  b0 : Int
  b1 : Int
  b2 : Int
  a1 : Int
  a2 : Int
  k : Nat
  deriving DecidableEq, Repr

/-- The coefficients a slot holds (R104, R143). -/
def coefs (s : State) (i : Slot) : Coefs :=
  let p := i.val / 30
  let j := i.val % 30
  ⟨SC_B0_I s p j, SC_B1_I s p j, SC_B2_I s p j, SC_A1_I s p j, SC_A2_I s p j, SC_CTRL_SHIFT s p j⟩

/-- v of R103 in units of 2^-30: (b0' x + w1) 2^k. -/
def sectV (c : Coefs) (w1 x : Int) : Int := (c.b0 * x + w1) * (2 ^ c.k : Nat)

/-- y of R105: v to the nearest Q1.15 value, halves up, saturated. -/
def sectY (v : Int) : Int := sat16 (rnd15 v)

/-- yw of R106: v limited to the range of Q1.15, at 30 fraction bits. -/
def sectYw (v : Int) : Int := clampI (-1073741824) (1073741824 - 32768) v

/-- The state update of R103 with the update value yq in units of 2^-30; sums exact at 45 fraction bits, rounded once,
then saturated (R106). -/
def sectNext (c : Coefs) (w : SectSt) (x yq : Int) : SectSt :=
  { w with
    w1 := sat32 (rnd15 (c.b1 * x * 32768 - c.a1 * yq + w.w2 * 32768))
    w2 := sat32 (rnd15 (c.b2 * x * 32768 - c.a2 * yq)) }

/-- w1 that makes the first output equal y_t: y_t 2^-k - b0' x, saturated (R130). -/
def presetW1 (c : Coefs) (yt x : Int) : Int := sat32 (yt * (2 ^ (15 - c.k) : Nat) - c.b0 * x)

/-! ### Loops and slots (R109-R113) -/

/-- The last slot of a loop. -/
def lastSlot (s : State) (l : LoopIx) : Nat := LP_FIRST_FIRST s l + LP_NSEC_NSEC s l - 1

/-- Does an enabled loop cover the slot (R109)? -/
def covers (s : State) (l : LoopIx) (i : Nat) : Bool :=
  LP_CFG_EN s l && LP_FIRST_FIRST s l ≤ i && i < LP_FIRST_FIRST s l + LP_NSEC_NSEC s l

/-- The enabled loop of a slot. -/
def slotLoop (s : State) (i : Nat) : Option LoopIx := (List.finRange 16).find? (covers s · i)

/-- The oscillator that holds a slot (R135). -/
def slotOsc (s : State) (i : Nat) : Option OscIx :=
  (List.finRange 4).find? fun o => s.cp.oscs[o].run && s.cp.oscs[o].slot.val == i

/-- Is the loop a member of the selector of train t (R121)? -/
def routes (s : State) (l : LoopIx) (t : Train) : Bool := nbit (LP_ROUTE_TRAINS s l) t

/-- Does loop l take loop m's output as its set-point (R110, R116)? -/
def takesFrom (s : State) (l m : LoopIx) : Bool := LP_SP_SRC_KIND s l == 1 && LP_SP_SRC_INDEX s l == m.val

/-- Loops active by their own routing, or as monitors (R111). -/
def activeSelf (s : State) (l : LoopIx) : Bool :=
  LP_CFG_EN s l &&
  ((List.finRange 8).any (fun t => routes s l t && s.cp.trains[t].state.switching) ||
   (LP_ROUTE_TRAINS s l == 0 &&
     !((List.finRange 16).any fun m => m != l && LP_CFG_EN s m && takesFrom s m l)))

/-- One round of "it is the set-point source of an active loop" (R111). -/
def activeRound (s : State) (a : Vector Bool 16) : Vector Bool 16 :=
  tab fun l => a[l] || (LP_CFG_EN s l && (List.finRange 16).any fun m => a[m] && takesFrom s m l)

/-- The active loops (R111): sixteen rounds close the set. -/
def activeLoops (s : State) : Vector Bool 16 :=
  (List.range 16).foldl (fun a _ => activeRound s a) (tab fun l => activeSelf s l)

/-! ### Set-point and feedback (R116-R119) -/

/-- A loop index from a register field. -/
def ix16 (n : Nat) : Fin 16 := ⟨n % 16, by omega⟩
/-- A train index from a register field. -/
def ix8 (n : Nat) : Fin 8 := ⟨n % 8, by omega⟩
/-- A leg number. -/
def ix24 (n : Nat) : Fin 24 := ⟨n % 24, by omega⟩

/-- The raw set-point r (R116). A PULSE source that has given no whole pulse, and has not timed out, gives 0: the rule states no value
before the first (DESIGN CHOICE, log entry 107). -/
def rawSp (s : State) (l : LoopIx) : Int :=
  let i := LP_SP_SRC_INDEX s l
  match LP_SP_SRC_KIND s l with
  | 0 => LP_SP_I s l
  | 1 => s.cp.loops[ix16 i].out
  | 2 => consFast s (ix16 i)
  | 3 => asr (consFine s (ix16 i)) 8
  | 4 => asr s.x.axRes[ix16 i] 8
  | 5 => (match pulseDuty s (ix16 i) with | some (d, _) => d | none => 0)
  | _ => if i == 0 then IIN_LIM_A_I s else IIN_LIM_B_I s

/-- s of R117 before the fallback: scaled by a Q4.12 factor with halves rounded up, offset, saturated. -/
def scaledSp (s : State) (l : LoopIx) : Int :=
  sat16 ((rawSp s l * LP_SP_SCALE_I s l + 2048).fdiv 4096 + LP_SP_OFFS_I s l)

/-- s of R117. -/
def targetSp (s : State) (l : LoopIx) : Int :=
  if s.cp.loops[l].fallback && LP_SP_SRC_KIND s l == 5 then LP_SP_FALLBACK_I s l else scaledSp s l

/-- TR_SS_REF: the integer part of the soft-start reference (R87). -/
def ssRefCode (r : TrainSt) : Int := r.ssRef.fdiv 256

/-- The least soft-start reference of the trains in SOFTSTART whose OLOOP is the loop (R87, R117). -/
def ssLimit (s : State) (l : LoopIx) : Option Int :=
  (List.finRange 8).foldl (fun acc (t : Train) =>
    if s.cp.trains[t].state = .softstart && TR_CFG_OLOOP s t == l.val then
      match acc with
      | none => some (ssRefCode s.cp.trains[t])
      | some a => some (min a (ssRefCode s.cp.trains[t]))
    else acc) none

/-- The sum of the oscillator terms applied to a loop's set-point in this tick (R117, R136). -/
def oscOnLoop (s : State) (l : LoopIx) : Option Int :=
  (List.finRange 4).foldl (fun acc (o : OscIx) =>
    let v := s.cp.oscs[o]
    if v.run && v.dest && v.loop == l then some (acc.getD 0 + v.applied) else acc) none

/-- The slice whose substitution a loop's feedback takes (R118, R152). -/
def fbSlice (s : State) (l : LoopIx) : Option Slice :=
  if LP_FB_SRC_KIND s l == 1 || LP_FB_SRC_KIND s l == 2 then some (ix16 (LP_FB_SRC_INDEX s l)) else none

/-- Is the loop's feedback substituted without an estimate (R155)? -/
def fbNoEst (s : State) (l : LoopIx) : Bool :=
  match fbSlice s l with
  | some i => s.cp.sup[i].subst && s.cp.sup[i].est.isNone
  | none => false

/-- The feedback of the tick (R118). -/
def feedback (s : State) (l : LoopIx) : Int :=
  let i := LP_FB_SRC_INDEX s l
  match LP_FB_SRC_KIND s l with
  | 1 => consMean s (ix16 i)
  | 2 => asr (consFine s (ix16 i)) 8
  | 3 => asr s.x.axRes[ix16 i] 8
  | 4 => trainIest { s with cp := s.pub.cp, x := s.pub.x } (ix8 i)
  | _ => 0

/-- A pulse set-point returns once a duty stands from edges that all came after the timeout (R119). -/
def pulseRestore (s : State) (l : LoopIx) : State :=
  let r := s.cp.loops[l]
  if r.fallback && LP_SP_SRC_KIND s l == 5 then
    match pulseDuty s (ix16 (LP_SP_SRC_INDEX s l)) with
    | some (_, first) =>
      if r.edgeMark ≤ first then (s.modLoop l fun r => { r with fallback := false }).evt (0x61 + l.val) 1 else s
    | none => s
  else s

/-- The mean of the last d feedback values, that of this tick included, to the nearest code with halves up (R114): of those there are, since
the loop was last idle or fenced (DEDUCED, log entry 9). -/
def feedbackMean (s : State) (l : LoopIx) (fb : Int) : Int :=
  let v := (fb :: s.cp.loops[l].fbHist).take (LP_CFG_DIV s l + 1)
  let n : Int := (v.length : Nat)
  (v.foldl (· + ·) 0 * 2 + n).fdiv (2 * n)

/-- The set-point path and the error of a loop in its first slot (R114, R117, R118). -/
def setpointPath (s : State) (l : LoopIx) : State :=
  let s := pulseRestore s l
  let r := s.cp.loops[l]
  let tgt := targetSp s l
  let slew : Int := (LP_SP_SLEW s l : Nat)
  let sl := if slew == 0 then tgt else r.slPrev + clampI (-slew) slew (tgt - r.slPrev)
  let ss := ssLimit s l
  let limited := match ss with | some a => decide (a < sl) | none => false
  let sp0 := match ss with | some a => min sl a | none => sl
  let sp := match oscOnLoop s l with | some o => sat16 (sp0 + o) | none => sp0
  let fb := feedback s l
  let used := if r.updating && LP_CFG_AVG s l then feedbackMean s l fb else fb
  let e := sat16 (sp - used)
  let sub := match fbSlice s l with | some i => s.cp.sup[i].subst | none => false
  s.modLoop l fun r => { r with
    slPrev := sl, sl := sl, spv := sp, ss := limited, fbv := used, errv := e, err := e, chain := e, subst := sub
    fbHist := (fb :: r.fbHist).take 63 }

/-- The loop output clamp (R120). -/
def loopClamp (s : State) (l : LoopIx) (y : Int) : Int := min (max y (LP_OMIN_I s l)) (LP_OMAX_I s l)

/-- The value a loop delivers in a tick, j ticks after its update (R115). -/
def delivered (s : State) (l : LoopIx) (r : LoopSt) (j : Nat) : Int :=
  if LP_CFG_INTERP s l then
    r.yp + ((r.yu - r.yp) * ((j + 1 : Nat) : Int)).tdiv ((LP_CFG_DIV s l + 1 : Nat) : Int)
  else r.yu

/-- The target y_t of a preset (R130, R132): that of a start acts in the first SOFTSTART tick of its train. -/
def presetTarget (s : State) : Preset → Option Int
  | .none => none
  | .exact y => some y
  | .preDemand t =>
    if s.cp.trains[t].state = .softstart then
      some (if TR_CFG_MODE s t then s.cp.trains[t].preDuty else s.cp.trains[t].preDem)
    else none
  | .consumerFb t m => if s.cp.trains[t].state = .softstart then some (feedback s m) else none

/-- A preset that the first SOFTSTART tick did not use is gone (R132). -/
def Preset.kept : Preset → Preset
  | .exact y => .exact y
  | _ => .none

/-- One section of a loop being updated (R103, R108). The last section forms the loop output and, when the loop is routed,
leaves its state update to cycles 776-783 (R124, R125). -/
def evalSection (s : State) (l : LoopIx) (i : Slot) : State :=
  let r := s.cp.loops[l]
  let c := coefs s i
  let last := i.val == lastSlot s l
  let x := r.chain
  let w0 := s.cp.sects[i]
  let w := match (if last then presetTarget s r.preset else none) with
    | some yt => { w0 with w1 := presetW1 c yt x }
    | none => w0
  let v := sectV c w.w1 x
  let y := sectY v
  let yw := sectYw v
  let satd := rnd15 v != y
  let s := if satd then s.evt (0x61 + l.val) 4 else s
  if last then
    let yc := loopClamp s l y
    let routed := LP_ROUTE_TRAINS s l != 0
    let w' := if routed then { w with satd := satd }
      else { sectNext c w x (if yc == y then yw else yc * 32768) with satd := satd }
    (s.modSect i fun _ => w').modLoop l fun r =>
      let r := { r with yp := r.yu, yu := yc, clamp := yc != y, sat := r.sat || satd, preset := .none
                        deferred := routed, defX := x, defV := v, defY := y, held := yc }
      { r with out := delivered s l r 0 }
  else
    (s.modSect i fun _ => { sectNext c w x yw with satd := satd }).modLoop l fun r =>
      { r with chain := y, sat := r.sat || satd }

/-- The output of an open loop (R129): held or LP_OPEN_OUT, through the clamps. -/
def openOutput (s : State) (l : LoopIx) : State :=
  let r := s.cp.loops[l]
  let y := if LP_CFG_OPEN_MODE s l then LP_OPEN_OUT_I s l else r.held
  let yc := loopClamp s l y
  s.modLoop l fun r => { r with out := yc, clamp := yc != y }

/-- A loop's work in one of its slots (R108, R114, R129). -/
def loopSlot (s : State) (l : LoopIx) (i : Slot) : State :=
  let r := s.cp.loops[l]
  if !r.active || s.isFenced (.loop l) then s
  else
    let s := if i.val == LP_FIRST_FIRST s l then setpointPath s l else s
    if !(LP_CFG_CLOSED s l) then (if i.val == lastSlot s l then openOutput s l else s)
    else if fbNoEst s l then s
    else if r.updating then evalSection s l i
    else if i.val == lastSlot s l then s.modLoop l fun r => { r with out := delivered s l r r.div }
    else s

/-! ### Oscillators (R135-R138) -/

/-- INC of a frequency code (R136). -/
def oscInc (f : Nat) : Nat :=
  [1031, 2062, 5154, 10308, 20616, 51540, 103079, 206158, 515396, 1030792, 2061584, 5153961, 10307922].getD f 0

/-- A running oscillator in its slot: o of the present phase, then the phase step (R136). The rounded sine may be 1 LSB off. -/
def oscSlot (s : State) (o : OscIx) : State :=
  let v := s.cp.oscs[o]
  if v.done || s.isFenced (.loop v.ctx) then s
  else
    let amp := CE_OSCn_AMP_AMP s o
    s.modOsc o fun v => { v with
      next := oscValue amp v.phase, nextPh := v.phase, phase := (v.phase + oscInc (CE_OSCn_CFG_FREQ s o)) % 4294967296 }

/-- OSCILLATOR_STOP: a stopping oscillator whose phase step crossed 0 or 2^31 gives 0 from this tick on (R138). -/
def execOscillatorStop (o : OscIx) (s : State) : Host.Outcome State Fault Refusal :=
  let v := s.cp.oscs[o]
  let crossed := decide (v.nextPh < 2147483648) != decide (v.phase < 2147483648)
  if v.run && v.stopping && crossed then .next (s.modOsc o fun v => { v with next := 0, done := true })
  else .next s

/-- PULSE_SETPOINT_TIMEOUT of loop l: no edge for LP_SP_TMO ticks, or the Tally is not in capture-pair mode (R119). -/
def execPulseSetpointTimeout (l : LoopIx) (s : State) : Host.Outcome State Fault Refusal :=
  let i := ix16 (LP_SP_SRC_INDEX s l)
  let r := s.cp.loops[l]
  let due := (LP_SP_TMO s l != 0 && LP_SP_TMO s l ≤ r.idleTicks) || !(capturePair s i)
  if LP_SP_SRC_KIND s l == 5 && due && !r.fallback then
    .next ((s.modLoop l fun r => { r with fallback := true, edgeMark := tallyEdges s i }).evt (0x61 + l.val) 0)
  else .next s

/-- CE_CNT_CLR: CNT_CLR clears CE_ECC_CNT (R141). -/
def execCeCntClr (s : State) : Host.Outcome State Fault Refusal :=
  .next { s with cp := { s.cp with ce := { s.cp.ce with eccCnt := 0 } } }

/-! ### The slot (R108) and its checkers (R36, R139, R402) -/

/-- The loop context concerned by a slot: the loop's, or the context an oscillator holds. -/
def slotCtx (s : State) (i : Slot) : Option LoopIx :=
  match slotLoop s i.val with
  | some l => some l
  | none => (slotOsc s i.val).map fun o => s.cp.oscs[o].ctx

/-- The fence unit of a slot: its loop context (R402). -/
def slotUnits (s : State) (i : Slot) : List FenceUnit :=
  match slotCtx s i with | some l => [.loop l] | none => []

/-- A CE checker trips on slot i and fences units (R139, R402): cause on the CE page, FAULT of the loop, CE_FLT. -/
def ceTrip (s : State) (i : Slot) (ecc : Bool) (cyc : Nat) (units : List FenceUnit) : State :=
  let c := slotCtx s i
  let s := { s with x := { s.x with ceFlt := ⟨ecc, c.getD 0, i⟩ } }
  let s := match c with | some l => s.orReg (a_PG_ERR (0x61 + l.val)) 1 | none => s
  let s := raise s 0x60 (if ecc then 1 else 0)
  trip s (if ecc then 1 else 0) cyc units

/-- A corrected single-bit error is counted (R139). -/
def eccCorrected (s : State) : State :=
  ({ s with cp := { s.cp with ce := { s.cp.ce with eccCnt := satInc 0xFFFF s.cp.ce.eccCnt } } }).evt 0x60 2

/-- May the device do the tick's work? The CE, the supervisor and the trains stop in SAFE (R390), and nothing runs before
the first tick or in SLEEP. -/
def working (s : State) : Bool := s.x.dev = .hold || s.x.dev = .run

/-- CE_SECTION_SLOT i (R108): the loop's section, or the oscillator's step; then what the slot's checkers report. -/
def execCeSectionSlot (i : Slot) (f : CheckFault) (s : State) : Host.Outcome State Fault Refusal :=
  if !(working s) then .next s
  else
    let s := match slotLoop s i.val with
      | some l => loopSlot s l i
      | none => (match slotOsc s i.val with | some o => oscSlot s o | none => s)
    .next (match f with
      | .none => s
      | .ecc1 => eccCorrected s
      | .parity c => ceTrip s i false c (slotUnits s i)
      | .ecc2 c => ceTrip s i true c (slotUnits s i)
      | .selfCheck _ => s
      | .overrun c => overrun s c (slotUnits s i))

/-! ### Selectors and anti-windup (R121-R126) -/

/-- The members of a train's selector group: enabled loops routed to it. -/
def members (s : State) (t : Train) (maxGroup : Bool) : List LoopIx :=
  (List.finRange 16).filter fun l => LP_CFG_EN s l && routes s l t && LP_ROUTE_GROUP s l == maxGroup

/-- The least of a list of outputs. -/
def leastOut (s : State) : List LoopIx → Option Int
  | [] => none
  | l :: r => some (match leastOut s r with | none => s.cp.loops[l].out | some v => min s.cp.loops[l].out v)

/-- The greatest of a list of outputs. -/
def greatestOut (s : State) : List LoopIx → Option Int
  | [] => none
  | l :: r => some (match greatestOut s r with | none => s.cp.loops[l].out | some v => max s.cp.loops[l].out v)

/-- The oscillator terms applied to a train's selector result (R122, R136). -/
def oscOnTrain (s : State) (t : Train) : Option Int :=
  (List.finRange 4).foldl (fun acc (o : OscIx) =>
    let v := s.cp.oscs[o]
    if v.run && !v.dest && v.train == t then some (acc.getD 0 + v.applied) else acc) none

/-- D_sel of a train before the oscillator terms: max(M, m), or the one there is, or 0 (R122). -/
def dSel (s : State) (t : Train) : Int :=
  match leastOut s (members s t false), greatestOut s (members s t true) with
  | none, none => 0
  | some m, none => m
  | none, some g => g
  | some m, some g => max g m

/-- The winner of a train: the lowest-numbered member, of either group, whose output equals D_sel (R123). -/
def winner (s : State) (t : Train) : Option LoopIx :=
  (List.finRange 16).find? fun l => LP_CFG_EN s l && routes s l t && s.cp.loops[l].out == dSel s t

/-- The selector of a train: D_sel, the winner and its group (R122, R123). -/
def selectorOf (s : State) (t : Train) : Int × Option (LoopIx × Bool) :=
  (dSel s t, (winner s t).map fun l => (l, LP_ROUTE_GROUP s l))

/-- The selector result with oscillator terms, 16-bit saturated, and CE_SELt (R122, R123). -/
def selectorResult (s : State) (t : Train) : Int × CeSel :=
  let d := selectorOf s t
  let o := oscOnTrain s t
  let v := match o with | some x => sat16 (d.1 + x) | none => d.1
  (v, match d.2 with
    | some (l, g) => { valid := true, maxGroup := g, osc := o.isSome, loop := l }
    | none => { valid := false, osc := o.isSome })

/-- Cycle 776: every selector, its winner, and LP_STAT.SEL (R122, R123, R126). -/
def selectAll (s : State) : State :=
  let res := tab (n := 8) fun t => selectorResult s t
  { s with cp := { s.cp with
    ceSel := tab fun t => res[t].2
    trains := tab fun t => { s.cp.trains[t] with sel := res[t].1 }
    loops := tab fun l => { s.cp.loops[l] with
      sel := (List.finRange 8).any fun t => res[t].2.valid && res[t].2.loop == l } } }

/-- The active trains of a loop's mask (R124). -/
def activeTrains (s : State) (l : LoopIx) : List Train :=
  (List.finRange 8).filter fun t => routes s l t && s.cp.trains[t].state.switching

/-- The deferred update of a routed loop's last section (R124): y_c limited to the largest ceiling, tracking, clamps. -/
def deferredUpdate (s : State) (l : LoopIx) : State :=
  let r := s.cp.loops[l]
  if !r.deferred then s
  else
    let ts := activeTrains s l
    let yc := loopClamp s l r.defY
    let cmax := ts.foldl (fun a t => max a s.cp.trains[t].ceil) 0
    let a2 := if ts.isEmpty then yc else clampI (-cmax) cmax yc
    let a3 := match ts with
      | [] => a2
      | t0 :: _ =>
        if !(LP_CFG_TRACK s l) then a2
        else if LP_ROUTE_GROUP s l then
          max a2 (ts.foldl (fun a t => min a s.cp.trains[t].dem) s.cp.trains[t0].dem)
        else min a2 (ts.foldl (fun a t => max a s.cp.trains[t].dem) s.cp.trains[t0].dem)
    let res := loopClamp s l a3
    let yq := if res == r.defY then sectYw r.defV else res * 32768
    let i := lastSlot s l
    let s := if h : i < 96 then
        s.modSect ⟨i, h⟩ fun w => sectNext (coefs s ⟨i, h⟩) w r.defX yq
      else s
    s.modLoop l fun r => { r with deferred := false, tracked := a3 != a2 }

/-! ### What a boundary does to loops and oscillators -/

/-- The flags of the tick are cleared, and the loops active in the tick are found (R105, R111, R113). A loop that is not evaluated
gathers no feedback: the mean of R114 is over the ticks since it was last idle or fenced (DEDUCED, log entry 107). -/
def loopsTickStart (s : State) : State :=
  let act := activeLoops s
  { s with cp := { s.cp with
    loops := tab fun l =>
      let r := s.cp.loops[l]
      let runs := act[l] && !(s.isFenced (.loop l))
      { r with active := act[l], updating := r.div == 0, sat := false, deferred := false, tracked := false
               clamp := false, sel := false
               fbHist := if runs then r.fbHist else [] }
    sects := tab fun i => { s.cp.sects[i] with satd := false } } }

/-- Step the divider counts at the end of a tick (R113). The count of a preloaded loop stays 0 from the PREBIAS tick to the first
SOFTSTART tick (R132). -/
def loopsStepDiv (s : State) : State :=
  { s with cp := { s.cp with loops := tab fun l =>
      let r := s.cp.loops[l]
      if !(LP_CFG_EN s l) then r
      else if r.divHold then { r with divHold := false }
      else { r with div := if LP_CFG_DIV s l ≤ r.div then 0 else r.div + 1, preset := r.preset.kept } } }

/-- Follow a commit on a loop's LP_CFG from the word before (R113, R117, R129-R131). The s that sl_prev takes where EN = 1 takes effect is
formed with the words latched in the tick that ends: the rule does not say which words (DESIGN CHOICE, log entry 107). A loop that is idle when it
is closed keeps its preset for the tick in which it is next updated (R130 speaks of the first tick after the boundary; DESIGN CHOICE, log entry
115). -/
def loopAfterCommit (old : Word) (s : State) (l : LoopIx) : State :=
  let en0 := bit old 15
  let en1 := LP_CFG_EN s l
  let cl0 := bit old 14
  let cl1 := LP_CFG_CLOSED s l
  let s := if en0 != en1 || bits old 5 0 != LP_CFG_DIV s l then
      s.modLoop l fun r => { r with div := 0, divHold := false } else s
  let s := if !en0 && en1 then
      s.modLoop l fun r => { r with slPrev := targetSp s l, fallback := false, idleTicks := 0, held := r.out, preset := .none }
    else s
  if cl0 && !cl1 then
    let s := if en0 && en1 then s.modLoop l fun r => { r with held := r.out, preset := .none } else s
    s.evt (0x61 + l.val) 2
  else if !cl0 && cl1 then
    let s := if en0 && en1 && LP_CFG_BUMPLESS s l then
        s.modLoop l fun r => { r with preset := .exact r.out, div := 0, yu := r.out, yp := r.out }
      else s
    s.evt (0x61 + l.val) 3
  else s

/-- The highest-numbered free loop context for an oscillator (R135). -/
def freeCtx (s : State) : Option LoopIx :=
  (List.finRange 16).reverse.find? fun l =>
    !(LP_CFG_EN s l) && !((List.finRange 4).any fun o => s.cp.oscs[o].run && s.cp.oscs[o].ctx == l)

/-- The highest-numbered free slot for an oscillator (R135). -/
def freeSlot (s : State) : Option Slot :=
  (List.finRange 96).reverse.find? fun i => (slotLoop s i.val).isNone && (slotOsc s i.val).isNone

/-- At a boundary: a done oscillator is released (R138); EN = 1 starts an idle one with phase 0 (R135, R137); EN = 0 makes a
running one stop at its next zero; what the slot computed becomes what is applied (R136). An EN = 1 written while it stops does not call the
stop off, and starts it at the boundary after its release, so that RUN reads 0 before (DESIGN CHOICE, log entry 115; R247). -/
def oscBoundary (s : State) (o : OscIx) : State :=
  let v := s.cp.oscs[o]
  if v.run && v.done then (s.modOsc o fun _ => {}).evt 0x60 3
  else if v.run then
    s.modOsc o fun v => { v with
      applied := v.next, appliedPh := v.nextPh, stopping := v.stopping || !(CE_OSCn_CFG_EN s o) }
  else if CE_OSCn_CFG_EN s o then
    match freeCtx s, freeSlot s with
    | some c, some i => s.modOsc o fun _ =>
        { run := true, ctx := c, slot := i, dest := CE_OSCn_CFG_DEST s o
          train := ix8 (CE_OSCn_CFG_TRAIN s o), loop := ix16 (CE_OSCn_CFG_LOOP s o) }
    | _, _ => s
  else s

/-! ### Start preload (R132) -/

/-- May a loop belong to P: enabled, closed, and not active in the PREBIAS tick (R132)? -/
def preloads (s : State) (act : Vector Bool 16) (l : LoopIx) : Bool := LP_CFG_EN s l && LP_CFG_CLOSED s l && !act[l]

/-- One round of collecting the set-point sources of the loops in P. -/
def preloadRound (s : State) (act a : Vector Bool 16) : Vector Bool 16 :=
  tab fun l => a[l] || (preloads s act l && (List.finRange 16).any fun m => a[m] && takesFrom s m l)

/-- The set P of a start of train t: the loops routed to it and the set-point sources of loops in P, without open ones and those
active in the tick (R132). -/
def preloadSet (s : State) (t : Train) : Vector Bool 16 :=
  let act := activeLoops s
  (List.range 16).foldl (fun a _ => preloadRound s act a) (tab fun l => preloads s act l && routes s l t)

/-- The loop of P that consumes loop l's output: of several the lowest-numbered (DESIGN CHOICE, log entry 115: the rule names one). -/
def consumerIn (s : State) (p : Vector Bool 16) (l : LoopIx) : Option LoopIx :=
  (List.finRange 16).find? fun m => p[m] && takesFrom s m l

/-- The PREBIAS preload of train t (R132): sections but the last cleared, the slew state set, the divider held at 0, and the
target of the first SOFTSTART update noted. A fenced loop keeps its states (R140). Where two trains start in one tick, what a loop of both
notes for the higher-numbered train stands (DESIGN CHOICE, log entry 115). -/
def preloadLoops (s : State) (t : Train) : State :=
  let p := preloadSet s t
  forAll (n := 16) s fun s l =>
    if p[l] && !(s.isFenced (.loop l)) then
      let sects := tab fun (i : Slot) =>
        if covers s l i.val && i.val != lastSlot s l then { s.cp.sects[i] with w1 := 0, w2 := 0 } else s.cp.sects[i]
      let s : State := { s with cp := { s.cp with sects := sects } }
      let pre := if routes s l t then Preset.preDemand t
        else (match consumerIn s p l with | some m => Preset.consumerFb t m | none => Preset.none)
      (s.modLoop l fun r => { r with slPrev := targetSp s l, div := 0, divHold := true, preset := pre }).evt (0x61 + l.val) 5
    else s

end Sys2Proof.Machine
end

