-- ==== Sys2Proof/Machine/Legs.lean ====
section
/-! DEFINITION. The legs: valley, edges, comparators, captures and leg failure (R55-R71, R78, R96, R97, R568). -/

namespace Sys2Proof.Machine

/-- The control switch is PWMH in the buck direction (R65): an INTAKE train, a STORE train in discharge, an AUX train with
BOOST = 0; for a given direction of a STORE train. -/
def ctlHighIn (s : State) (n : Leg) (disch : Bool) : Bool :=
  match legTrain s n with
  | none => true
  | some t =>
    match trKind s t with
    | 2 => disch
    | 3 => !(trBoost s t)
    | _ => true

/-- Is PWMH the control switch in the direction in force at the leg? -/
def ctlIsHigh (s : State) (n : Leg) : Bool := ctlHighIn s n s.x.hw[n].active.disch

/-- May the leg drive its outputs (R54)? The device is in RUN, no pin shutdown stands, the leg is assigned and not fenced,
its train switches, the node of an
intake train is not NONE or LOST (R184), and a spanning train's device is in the ring (R443). -/
def mayDrive (s : State) (n : Leg) : Bool :=
  s.x.dev = .run && !s.x.col.pinsOff && legAvail s n &&
  (match legTrain s n with
   | none => false
   | some t => s.cp.trains[t].state.switching && !(nodeDead s t) && !(spanning s t && !(ringFormed s)))

/-- The input leg of a phase: leg 2i of a pair, else the leg itself (R70). -/
def phaseLeg (s : State) (n : Leg) : Leg := if pairOut s n then partner n else n

/-- Set one output of a leg; both outputs never become high together (R59). -/
def drive (s : State) (n : Leg) (high on : Bool) : State :=
  s.modHw n fun h =>
    if high then { h with pwmH := on && !h.pwmL } else { h with pwmL := on && !h.pwmH }

/-- Turn the control switch of a phase on or off (R65, R71): in a pair the region says which leg switches. -/
def setCtl (s : State) (n : Leg) (on : Bool) : State :=
  if paired s n then
    match s.x.hw[n].region with
    | .buck => drive s n true on
    | .boost => drive s (partner n) false on
    | .buckBoost => let s := drive s n true on; if on then drive s (partner n) false true else s
  else drive s n (ctlIsHigh s n) on

/-- Turn the rectifier of a phase on or off. -/
def setRect (s : State) (n : Leg) (on : Bool) : State :=
  if paired s n then
    match s.x.hw[n].region with
    | .buck => drive s n false on
    | .boost => drive s (partner n) true on
    | .buckBoost => let s := drive s n false on; if on then s else drive s (partner n) true false
  else drive s n (!(ctlIsHigh s n)) on

/-- Output and input voltage of a phase through TR_SL (R71): a boost direction runs from LO to HI. -/
def outIn (s : State) (t : Train) : Int × Int :=
  let up := (trKind s t == 2 && !s.cp.trains[t].dir) || (trKind s t == 3 && trBoost s t)
  if up then (vHi s t, vLo s t) else (vLo s t, vHi s t)

/-- The region a phase takes at its valley (R71): a change needs r to pass its bound by 0.02. An input that reads 0 or
less gives no ratio and keeps the region (log entry 15). -/
def nextRegion (cur : Region) (out inp : Int) : Region :=
  if inp ≤ 0 then cur else
  match cur with
  | .buck => if out * 100 ≤ inp * 92 then .buck else if inp * 112 < out * 100 then .boost else .buckBoost
  | .boost => if inp * 108 ≤ out * 100 then .boost else if out * 100 < inp * 88 then .buck else .buckBoost
  | .buckBoost => if out * 100 < inp * 88 then .buck else if inp * 112 < out * 100 then .boost else .buckBoost

/-- Hold on the high-side switch of a leg that does not switch: at once if it is on already or its low side has been off, else once
DEAD_TIME_END has ended the dead time (R59, R71, log entry 106). -/
def holdOn (s : State) (n : Leg) (wait : Bool) : State :=
  if wait then s.modHw n fun h => { h with pwmH := false, boot := true } else drive s n true true

/-- A pair takes its region at a valley (R71): what the region before had on, but for a high side it goes on holding, is off; the
high-side switch of the leg that does not switch is held on, after a dead time where its low side was on when the valley came: `lowIn`,
`lowOut` (R59). -/
def takeRegion (s : State) (n : Leg) (r : Region) (lowIn lowOut : Bool) : State :=
  let old := s.x.hw[n].region
  let s := if old = r then s else drive (drive s n false false) (partner n) false false
  let s := if old = .boost && r != .boost then drive s n true false else s
  let s := (if old = .buck && r != .buck then drive s (partner n) true false else s).modHw n fun h => { h with region := r }
  match r with
  | .buck => holdOn s (partner n) lowOut
  | .boost => holdOn s n lowIn
  | .buckBoost => s

/-- Both outputs of a phase go low: the leg's, and its partner's in a pair (R54, R92). -/
def phaseLow (s : State) (n : Leg) : State :=
  let s := s.modHw n LegHw.low
  if paired s n then s.modHw (partner n) LegHw.low else s

/-- Is the current of a phase, in a direction, forward out of the switch node of its sensed leg (R52, R65)? In the buck direction it is,
in the boost direction it flows in; a pair's flows from leg 2i to leg 2i+1, a STORE pair's back in discharge (DEDUCED, log entry 100). -/
def senseOut (s : State) (n : Leg) (disch : Bool) : Bool := if paired s n then !disch else ctlHighIn s n disch

/-- The sense voltage that the comparators of a leg see: CSP - CSN with the pins swapped by SNSINV, and inverted where current in
the direction reads negative (R65). -/
def sensedIn (s : State) (n : Leg) (disch : Bool) (v : Int) : Int :=
  if senseOut s n disch != bit (s.ad (a_L_CFG n)) 14 then v else -v

/-- The sense voltage in the direction in force at the leg. -/
def sensed (s : State) (n : Leg) (v : Int) : Int := sensedIn s n s.x.hw[n].active.disch v

/-- How much larger the DAC and trim steps of a leg are: four times with HIRANGE (R53, R61). -/
def rangeMul (s : State) (n : Leg) : Int := if bit (s.ad (a_L_CFG n)) 15 then 4 else 1

/-- The threshold of the peak comparator in units of 10 nV / 256: code x q + L_TRIM x s with q = 0.29297 mV and s = 0.1 mV, less the
slope ramp ton cycles after the control switch turned on, which takes the code no lower than 0 (R61, R67). -/
def threshold (s : State) (n : Leg) (code slope ton : Nat) : Int :=
  (max 0 ((code * 256 : Nat) - (slope * ton : Nat) : Int) * 29297 + signed 5 (bits (s.reg (a_L_TRIM n)) 4 0) * 2560000) * rangeMul s n

/-- Does the peak comparator read tripped at a sense voltage of v x 10 nV? At equality it does (DESIGN CHOICE, log entry 100). -/
def peakReads (s : State) (n : Leg) (code slope ton : Nat) (v : Int) : Bool :=
  decide (threshold s n code slope ton ≤ sensed s n v * 256)

/-- The direction in which a leg's train starts or runs: true for the discharge of a STORE train. -/
def trainDisch (s : State) (n : Leg) : Bool :=
  match legTrain s n with | some t => trKind s t == 2 && s.cp.trains[t].dir | none => false

/-- Does the peak comparator read tripped in the sense test: at code 64 with the trim, without a ramp, in the direction of the start
(R64, R65)? -/
def testReads (s : State) (n : Leg) (v : Int) : Bool :=
  decide (threshold s n 64 0 0 ≤ sensedIn s n (trainDisch s n) v * 256)

/-- TR_SLOPE of a leg's train (R67). -/
def slopeOf (s : State) (n : Leg) : Nat := match legTrain s n with | some t => TR_SLOPE s t | none => 0

/-- Does the zero-cross comparator read tripped: the voltage at or below L_CFG.ZC_TH steps of 0.5 mV (R63, log entry 100)? -/
def zeroReads (s : State) (n : Leg) (v : Int) : Bool :=
  decide (sensed s n v ≤ signed 5 (bits (s.reg (a_L_CFG n)) 4 0) * 50000)

/-- The estimate is published at once for a period that began before this cycle 0, else a tick later (R79). -/
def LegHw.setEst (h : LegHw) (e : Option Int) : LegHw :=
  if h.fresh then { h with iestNext := some e } else { h with iest := e }

/-- The limit that keeps 0x8000 free for invalid (R78). -/
def limEst (i : Int) : Int := clampI (-32767) 32767 i

/-- I_pk of R78: TR_IFS times (code less slope), divisions truncated toward zero. -/
def iPeak (s : State) (t : Train) (code ton : Nat) : Int :=
  ((TR_IFS s t : Nat) * ((code : Int) - ((TR_SLOPE s t * ton : Nat) : Int).tdiv 256)).tdiv 1024

/-- A current in the present direction, positive forward: negative in the discharge of a STORE train (R72, R78, R145; DEDUCED, log
entry 101). -/
def forwardI (h : LegHw) (i : Int) : Int := if h.active.disch then -i else i

/-- The estimate after a peak trip in continuous conduction (R78): s times t_on / 2 is formed exactly in 10 mA units and
truncated once (log entry 16). -/
def estTrip (s : State) (n : Leg) (t : Train) (ton : Nat) : Option Int :=
  let h := s.x.hw[n]
  if h.active.duty || TR_LIND s t == 0 || SVt_VLSB s t == 0 then none
  else
    let dv := (if ctlIsHigh s n then vHi s t - vLo s t else vLo s t) * (SVt_VLSB s t : Nat)
    some (limEst (forwardI h (iPeak s t h.active.code ton - (dv * ton).tdiv (3276800000 * (TR_LIND s t : Nat)))))

/-- The estimate after a zero-cross trip t_zc cycles after the control switch turned off; a period ended by TR_TONMAX has
none (R78). -/
def estZc (s : State) (n : Leg) (t : Train) (ton tzc : Nat) : Option Int :=
  let h := s.x.hw[n]
  if h.active.duty || h.tonmax || TR_LIND s t == 0 then none
  else some (limEst (forwardI h ((iPeak s t h.active.code ton * ((ton + tzc : Nat) : Int)).tdiv 1920)))

/-- Count a condition over periods: 4 in a row set the leg's error bit (R96). -/
def countFour (s : State) (n : Leg) (cnt : Nat) (hit : Bool) (put : LegHw → Nat → LegHw) (b : Nat) : State :=
  let k := if hit then cnt + 1 else 0
  let s := s.modHw n fun h => put h k
  if k ≥ 4 then legError (s.modHw n fun h => put h 0) n b else s

/-- The end of a period at the valley (R66, R68): in PEAK mode the rectifier of the direction and region so far goes off, and so does a
control switch that is still on (R199, log entry 100); in DUTY mode the rectifier stays on unless the direction changes. -/
def endPeriod (s : State) (n : Leg) (sh : LegShadow) : State :=
  let h := s.x.hw[n]
  if !sh.duty || sh.disch != h.active.disch then
    let s := setRect s n false
    if h.phase = .ctl then setCtl s n false else s
  else s

/-- Where a leg stands once a period has begun: PEAK mode waits for the dead time; DUTY mode goes on with what the valley falls into
(R66, R68). -/
def LegHw.begun (h : LegHw) (turned : Bool) : LegHw :=
  if h.active.duty then { h with phase := if h.phase = .idle || turned then .done else h.phase }
  else { h with phase := .preCtl, armed := false }

/-- Every control switch of a phase goes off (R92): in buck-boost the output leg's too, whose rectifier follows its dead time. -/
def controlOff (s : State) (n : Leg) : State :=
  let s := setCtl s n false
  if paired s n && s.x.hw[n].region = .buckBoost && s.x.hw[partner n].pwmL then
    (drive s (partner n) false false).modHw (partner n) fun h => { h with phase := .preRect }
  else s

/-- LEG_VALLEY: shadow to active, the rectifier off in PEAK mode, the period begins (R55, R56, R66), in diode emulation while the node of an intake train ramps (R185). `v`: CSP - CSN at the valley in
10 nV; a comparator that reads tripped there, at the code just taken and without a ramp, counts toward STUCK (R96, log entry 100). A leg that may not
drive stays low (R54). -/
def execLegValley (n : Leg) (v : Int) (s : State) : Host.Outcome State Fault Refusal :=
  if pairOut s n then .next s
  else if !(mayDrive s n) then
    .next (s.modHw n fun h => { h.low with active := s.cp.legs[n].shadow })
  else
    let sh0 := s.cp.legs[n].shadow
    let sh : LegShadow := { sh0 with de := sh0.de || nodeRamps s n }
    let still := s.x.hw[n].phase = .idle || s.x.hw[n].phase = .done
    let take (h : LegHw) : LegHw := { h with active := sh, zcSeen := false, fresh := true, iestNext := none }
    match sh.step with
    | .idle => .next ((phaseLow s n).modHw n take)
    | .shedOff =>
      -- control off; the rectifier stays on, or comes on after its dead time, in diode emulation until zero-cross, then both
      -- outputs stay low (R92)
      if still then .next ((phaseLow s n).modHw n take)
      else .next ((controlOff s n).modHw n fun h =>
        { take h with phase := if h.phase = .rect then .rect else .preRect, armed := true, zcSeen := h.phase = .preRect && h.zcSeen })
    | _ =>
      let turned := sh.disch != s.x.hw[n].active.disch
      let lowIn := s.x.hw[n].pwmL
      let lowOut := s.x.hw[partner n].pwmL
      let s := (endPeriod s n sh).modHw n take
      let s := match legTrain s n with
        | some t =>
          if paired s n then
            let oi := outIn s t
            takeRegion s n (nextRegion s.x.hw[n].region oi.1 oi.2) lowIn lowOut
          else s
        | none => s
      let s := (if sh.duty then s else setRect s n false).modHw n (·.begun turned)
      .next (countFour s n s.x.hw[n].stuckValley (peakReads s n sh.code 0 0 v) (fun h k => { h with stuckValley := k }) 1)

/-- BOOTSTRAP_RELEASE: at the crest a held-on high-side switch is released; DEAD_TIME_END ends the 16 cycles (R71). -/
def execBootstrapRelease (n : Leg) (s : State) : Host.Outcome State Fault Refusal :=
  let e := phaseLeg s n
  let held := paired s n && ((s.x.hw[e].region = .buck && n != e) || (s.x.hw[e].region = .boost && n == e))
  if held && s.x.hw[n].pwmH then .next (s.modHw n fun h => { h with pwmH := false, boot := true }) else .next s

/-- DEAD_TIME_END: the next switch turns on (R59, R66, R68): the control switch with its rising capture, or the rectifier
unless diode emulation has seen zero-cross. It also ends a bootstrap release (R71). -/
def execDeadTimeEnd (n : Leg) (s : State) : Host.Outcome State Fault Refusal :=
  if !(mayDrive s n) then .next s
  else if s.x.hw[n].boot then .next ((drive s n true true).modHw n fun h => { h with boot := false })
  else if pairOut s n then
    -- the output leg of a buck-boost phase: its rectifier follows the dead time after TR_BB.TON, unless diode emulation has seen
    -- the zero-cross of the phase (R63)
    let e := s.x.hw[partner n]
    if e.region = .buckBoost && s.x.hw[n].phase = .preRect then
      if e.active.de && e.zcSeen then .next (s.modHw n fun h => { h with phase := .done })
      else .next ((drive s n true true).modHw n fun h => { h with phase := .rect })
    else .next s
  else
    let h := s.x.hw[n]
    match h.phase with
    | .preCtl => .next ((setCtl s n true).modHw n fun h => { h with phase := .ctl, armed := false })
    | .preRect =>
      if h.active.de && h.zcSeen then
        .next (if h.active.step = .shedOff then phaseLow s n else s.modHw n fun h => { h with phase := .done })
      else .next ((setRect s n true).modHw n fun h => { h with phase := .rect })
    | _ => .next s

/-- End the on-time: control switch off, falling capture ton cycles after the rising one; a zero-cross seen in the period stays (R63,
R66). -/
def endOnTime (s : State) (n : Leg) (ton : Nat) (f : LegHw → LegHw) : State :=
  (setCtl s n false).modHw n fun h => f { h with phase := .preRect, ton := ton, zc := h.zcSeen }

/-- A peak trip that is not blanked ends the on-time, with the estimate of R78 (R62, R66). -/
def peakTrip (s : State) (n : Leg) (ton : Nat) : State :=
  let e := match legTrain s n with | some t => estTrip s n t ton | none => none
  endOnTime s n ton fun h =>
    ({ h with tripped := true, tonmax := false, noTrip := 0 }).setEst e

/-- Is the leg in a period whose comparators are still blanked (R60)? -/
def LegHw.blanked (h : LegHw) : Bool :=
  !h.armed && (h.phase = .ctl || h.phase = .preRect || h.phase = .rect)

/-- BLANKING_END, with CSP - CSN then in 10 nV: the comparators are armed (R60). A peak comparator that reads tripped at the end of
blanking counts toward STUCK (R96) and, no longer blanked, ends the on-time (R62). -/
def execBlankingEnd (n : Leg) (v : Int) (s : State) : Host.Outcome State Fault Refusal :=
  let h := s.x.hw[n]
  if h.blanked then
    let cmp := peakReads s n h.active.code (slopeOf s n) (L_BLANK s n) v
    let s := s.modHw n fun h => { h with armed := true }
    let s := if cmp && h.phase = .ctl then peakTrip s n (L_BLANK s n) else s
    .next (countFour s n h.stuckBlank cmp (fun h k => { h with stuckBlank := k }) 1)
  else .next s

/-- Does the sense test of a PREBIAS tick run on the leg (R64)? -/
def inSenseTest (s : State) (n : Leg) : Bool :=
  s.x.senseTest && (match legTrain s n with
    | some t => s.cp.trains[t].state = .prebias | none => false)

/-- PEAK_COMPARATOR_TRIP, at an instant counted from the turn-on of the control switch: a comparator that reads tripped
and is not blanked ends the on-time (R60-R62, R67, R68); during the sense test of a PREBIAS tick, at code 64 with the trim and without a ramp, it sets
OPENWIRE (R64). -/
def execPeakComparatorTrip (n : Leg) (ton : LegInstant) (s : State) : Host.Outcome State Fault Refusal :=
  let h := s.x.hw[n]
  if inSenseTest s n then
    if s.isFenced (.leg n) || !(testReads s n ton.v) then .next s else .next (legError s n 3)
  else if h.phase = .ctl && h.armed && peakReads s n h.active.code (slopeOf s n) ton.cyc ton.v then .next (peakTrip s n ton.cyc)
  else .next s

/-- ZERO_CROSS_TRIP, at an instant counted from the turn-off of the control switch: in diode emulation, once it is not
blanked, the rectifier goes off until the next valley (R60, R63, R66); one seen earlier keeps the rectifier off; after the off step of a shed both
outputs of the phase are low (R92). -/
def execZeroCrossTrip (n : Leg) (tzc : LegInstant) (s : State) : Host.Outcome State Fault Refusal :=
  let h := s.x.hw[n]
  if !h.active.de || !h.armed || !(zeroReads s n tzc.v) then .next s
  else
    let e := match legTrain s n with | some t => estZc s n t h.ton tzc.cyc | none => none
    match h.phase with
    | .rect =>
      if h.active.step = .shedOff then .next ((phaseLow s n).modHw n fun h => { h with zc := true })
      else .next ((setRect s n false).modHw n fun h =>
        ({ h with phase := .done, zc := true, zcSeen := true }).setEst e)
    | .preRect =>
      if h.active.step = .shedOff then .next ((phaseLow s n).modHw n fun h => { h with zc := true })
      else .next (s.modHw n fun h => ({ h with zc := true, zcSeen := true }).setEst e)
    | .ctl => .next (s.modHw n fun h => { h with zc := true, zcSeen := true })
    | _ => .next s

/-- The published inductor-current prediction of a train, if there is one (R96, R146), positive forward; a fenced supervisor runs no
model and gives none. -/
def prediction (s : State) (t : Train) : Option Int :=
  let m := s.pub.cp.models[t]
  if m.running && TR_LIND s t != 0 && !(s.isFenced .supv) then some (roundOpen m.ihat) else none

/-- Is the prediction at least 50 mA in the present direction (R96; in the discharge of a STORE train toward VSYS: DEDUCED, log entry
101)? -/
def predicted (s : State) (t : Train) : Bool :=
  match prediction s t with
  | some i => decide (1 ≤ if trKind s t == 2 && s.cp.trains[t].dir then -i else i)
  | none => false

/-- IPRED of a spanning train: the master's from its own last demand frame, a member's from the last one received (R418, R434). -/
def framePred (s : State) (t : Train) : Bool :=
  let f := if ringMaster s then s.x.ring.txDemand.map (·.frame) else s.x.ring.last
  (f.map fun f => f.trains[t].ipred).getD false

/-- Does this period count toward NOTRIP (R69, R96)? -/
def noTripCounts (s : State) (n : Leg) : Bool :=
  match legTrain s n with
  | none => false
  | some t =>
    !s.x.hw[n].active.duty && !(TR_CFG_ONELEG s t) && TR_OPEN_MIN s t ≤ s.x.hw[n].active.share &&
    (if spanning s t then framePred s t else predicted s t)

/-- TONMAX_END: the control switch goes off at TR_TONMAX (R66); the estimate is invalid (R78); four such periods that
count set NOTRIP (R96, R568). -/
def execTonmaxEnd (n : Leg) (s : State) : Host.Outcome State Fault Refusal :=
  if s.x.hw[n].phase = .ctl then
    let ton := match legTrain s n with | some t => TR_TONMAX s t | none => 0
    let s := endOnTime s n ton fun h => ({ h with tonmax := true, tripped := false }).setEst none
    .next (countFour s n s.x.hw[n].noTrip (noTripCounts s n) (fun h k => { h with noTrip := k }) 0)
  else .next s

/-- DUTY_ON_TIME_START: in DUTY mode the rectifier turns off a dead time before the on-time (R59, R68), or does not come on before it where
the dead time after the last on-time still runs. -/
def execDutyOnTimeStart (n : Leg) (s : State) : Host.Outcome State Fault Refusal :=
  let h := s.x.hw[n]
  if mayDrive s n && !(pairOut s n) && h.active.duty && h.active.ton != 0 && h.active.step != .idle
      && (h.phase = .rect || h.phase = .done || h.phase = .preRect) then
    .next ((setRect s n false).modHw n fun h => { h with phase := .preCtl })
  else .next s

/-- DUTY_ON_TIME_END: the control switch turns off at the end of the on-time; the estimate is invalid (R68, R78). -/
def execDutyOnTimeEnd (n : Leg) (s : State) : Host.Outcome State Fault Refusal :=
  let h := s.x.hw[n]
  if h.phase = .ctl && h.active.duty then
    .next (endOnTime s n (h.active.ton / 64) fun h =>
      ({ h with tripped := false, tonmax := false, noTrip := 0 }).setEst none)
  else .next s

/-- BUCK_BOOST_TON_END of the phase of leg n: the output leg's control switch turns off TR_BB.TON cycles after the valley
(R71). -/
def execBuckBoostTonEnd (n : Leg) (s : State) : Host.Outcome State Fault Refusal :=
  let e := phaseLeg s n
  if paired s n && s.x.hw[e].region = .buckBoost && s.x.hw[partner e].pwmL then
    .next ((drive s (partner e) false false).modHw (partner e) fun h => { h with phase := .preRect })
  else .next s

/-- SENSE_TEST_END: the test currents stop at cycle 240 (R64). -/
def execSenseTestEnd (s : State) : Host.Outcome State Fault Refusal :=
  .next { s with x := { s.x with senseTest := false } }

/-- Has the off step of a shed ended at its zero-cross, with both outputs low (R92)? -/
def LegHw.shedOver (h : LegHw) : Bool := h.active.step = .shedOff && h.phase = .idle

/-- Does a leg switch: it may drive, and its phase has active values? -/
def legSwitches (s : State) (n : Leg) : Bool :=
  let h := s.x.hw[phaseLeg s n]
  mayDrive s (phaseLeg s n) && h.active.step != .idle && !h.shedOver

/-- DRIVER_FAULT: DFLT_n low for 2 cycles while the leg switches, an output leg with its phase, and DFLT_EN = 1 sets DFLT (R96,
R97). -/
def execDriverFault (n : Leg) (s : State) : Host.Outcome State Fault Refusal :=
  if L_CFG_DFLT_EN s n && legSwitches s n then .next (legError s n 2) else .next s

end Sys2Proof.Machine
end

