-- ==== Sys2Proof/Machine/Supv.lean ====
section
/-! DEFINITION. The supervisor: train models, verdicts, substitution, the alternative converter (R144-R168). -/

namespace Sys2Proof.Machine

/-- A quotient; division by zero is a free value (log entry 5). -/
def ratDiv (a b : Rat) : Rat := if b = 0 then Config.divZero a else a / b

/-- 2^-n for a field value n of 1-15, 0 for 0 (R146). -/
def gain (n : Nat) : Rat := if n == 0 then 0 else 1 / ((2 ^ n : Nat) : Rat)

/-- |x| > th. -/
def ratOver (x : Rat) (th : Nat) : Bool := decide ((th : Rat) < x) || decide (x < -(th : Rat))

/-- The on legs of a train. -/
def onLegs (s : State) (t : Train) : List Leg := (legsOf s t).filter fun n => s.cp.legs[n].on

/-- Is any leg estimate of the train valid (R145), as latched at cycle 0? A ring master counts those of a spanning train on the members
too: a slot in use with legs switching, or a sum other than 0, stands for valid ones, since a slot carries the sum alone (R417; DEDUCED,
log entry 108). -/
def anyEst (s : State) (t : Train) : Bool :=
  ((legsOf s t).any fun n => s.x.legLat[n].est.isSome) ||
  (spanning s t && ringMaster s && (List.finRange 8).any fun q => match slotInUse s q with
    | some r => r.trains[t].on != 0 || r.trains[t].iest != 0
    | none => false)

/-- The current I of a train (R145): TR_IEST as of cycle 0, or ihat with no valid leg estimate, which only a running model has; 0 when the
train does not switch. -/
def trainCurrent (s : State) (t : Train) : Rat :=
  if !s.cp.trains[t].state.switching then 0
  else if s.cp.models[t].running && !(anyEst s t) then s.cp.models[t].ihat
  else (s.cp.trains[t].iest : Rat)

/-- s of R145: -1 for STORE and for AUX with BOOST = 1. -/
def upTrain (s : State) (t : Train) : Bool := trKind s t == 2 || (trKind s t == 3 && trBoost s t)

/-- The current into a terminal of a train, hi or LO (R145). -/
def terminal (s : State) (t : Train) (hi : Bool) : Rat :=
  let i := trainCurrent s t
  let sg : Rat := if upTrain s t then -1 else 1
  if hi then -(sg * ratDiv (i * (vLo s t : Rat)) (vHi s t : Rat)) else sg * i

/-- The node slice of model t (R146). -/
def nodeSlice (s : State) (t : Train) : Slice := if SVt_CFG_VNODE s t then hiSlice s t else loSlice s t

/-- i_net: the terminal currents of the trains in NODE at the node slice (R146). -/
def iNet (s : State) (t : Train) : Rat :=
  let ns := nodeSlice s t
  (List.finRange 8).foldl (fun a (u : Train) =>
    if !(nbit (SVt_NODE_TRAINS s t) u) then a
    else if loSlice s u == ns then a + terminal s u false
    else if hiSlice s u == ns then a + terminal s u true
    else a) 0

/-- RSER, signed Q8.8 (R170). -/
def rser (s : State) (t : Train) : Rat := (SVt_RSER_I s t : Rat) / 256

/-- dhi: the mean over on legs of the high-side on-time, as a fraction of 960 (R146); with no leg on, for which the rule gives no value, 0
(DESIGN CHOICE, log entry 116). -/
def dHi (s : State) (t : Train) : Rat :=
  let ls := onLegs s t
  if ls.isEmpty then 0
  else (ls.foldl (fun a n =>
      a + (if ctlIsHigh s n then s.x.legLat[n].ton else 960 - s.x.legLat[n].ton)) 0 : Nat) / (960 * (ls.length : Rat))

/-- Does model t read slice i (R146): its terminals, its current feedback, and both terminals of a train that i_net counts with its HI
terminal? -/
def modelReads (s : State) (t : Train) (i : Slice) : Bool :=
  loSlice s t == i || hiSlice s t == i || SVt_CFG_IFB s t == i.val ||
  (List.finRange 8).any fun u => nbit (SVt_NODE_TRAINS s t) u && loSlice s u != nodeSlice s t && hiSlice s u == nodeSlice s t &&
    loSlice s u == i

/-- Is a slice that the model reads substituted (R150)? -/
def readsSubst (s : State) (t : Train) : Bool :=
  (List.finRange 16).any fun i => modelReads s t i && s.cp.sup[i].subst

/-- The cases of R150 other than quiet time and substitution. A preset lasts to the end of its takeover tick. -/
def disturbed (s : State) (t : Train) : Bool :=
  let inSet (u : Train) := u == t || nbit (SVt_NODE_TRAINS s t) u
  (List.finRange 8).any fun u => inSet u &&
    (s.cp.trains[u].state != .run || s.x.ride.held[u] || s.x.ride.taken[u])

/-- Does model t run in this tick (R144)? -/
def modelRuns (s : State) (t : Train) : Bool := SVt_CFG_EN s t && s.cp.trains[t].state.switching

/-- May the ri and rf tests be judged in this tick (R149)? -/
def iJudged (s : State) (t : Train) : Bool :=
  (onLegs s t).all fun n => s.x.legLat[n].est.isSome && !s.x.legLat[n].zc

/-- N_ON of the legs that TR_IEST sums: a ring master's is that of the whole train (R146, R432). -/
def nOnSummed (s : State) (t : Train) : Nat :=
  (if spanning s t then nOnSwitch s t else nOnHere s t) + (if spanning s t && ringMaster s then (slotSum s fun r => (r.trains[t].on : Nat)).toNat else 0)

/-- s of R145 as a factor. -/
def upSign (s : State) (t : Train) : Rat := if upTrain s t then -1 else 1

/-- The slope term of the ihat update (R146). -/
def ihatSlope (s : State) (t : Train) : Rat :=
  let vlsb : Rat := (SVt_VLSB s t : Rat) / 10000000
  let vl := (vLo s t : Rat) / 4096 * vlsb
  let vh := (vHi s t : Rat) / 4096 * vlsb
  let lind := TR_LIND s t
  if lind == 0 then 0
  else upSign s t * (nOnSummed s t : Rat) * (24 / 10000000) * (dHi s t * vh - vl) / ((lind : Rat) / 100000000 / 20)

/-- The inductor-current prediction of every model (R146), before i_net is formed: the terminal currents of R145 take the ihat of this tick,
of every model (DEDUCED, log entry 108). A model in its first tick starts from TR_IEST (R144). One that does not run has no residual
count, and no residual over its threshold (R150). -/
def predictCurrent (s : State) (t : Train) : State :=
  if !(modelRuns s t) then
    s.modModel t fun m => { m with
      running := false, fresh := true, suspended := false, rcnt := 0, rvOver := false, riOver := false, rfOver := false
      quiet := if disturbed s t then SV_QUIET_TICKS s else m.quiet - 1 }
  else
    let iest : Rat := (s.cp.trains[t].iest : Rat)
    s.modModel t fun m =>
      let i0 := if m.fresh then iest else m.ihat
      { m with running := true, ri := iest - i0, dhi := dHi s t, ihat := i0 + gain (SVt_GAIN_IG s t) * (iest - i0) + ihatSlope s t }

/-- The node and the residuals of model t (R144, R146, R149, R150), once ihat is formed: in its first tick it starts from the tick's
samples. -/
def runModel (s : State) (t : Train) : State :=
  if !(modelRuns s t) then s
  else
    let m := s.cp.models[t]
    let dist := disturbed s t
    let hard := dist || (m.quiet != 0) || m.fresh
    let sub := readsSubst s t
    let node : Rat := (consFast s (nodeSlice s t) : Rat)
    let inet := iNet s t
    let iest : Rat := (s.cp.trains[t].iest : Rat)
    let m := if m.fresh then { m with vc := node - rser s t * inet, lhat := inet } else m
    let vhat := m.vc + rser s t * inet
    let rv := if sub then 0 else node - vhat
    let kv : Rat := (SVt_KV s t : Rat) / ((2 ^ (16 + SVt_CFG_KV_SH s t) : Nat) : Rat)
    let vc := m.vc + kv * (inet - m.lhat) + gain (SVt_GAIN_G s t) * rv
    let lmax : Rat := (SVt_LMAX_LMAX s t : Rat)
    let lraw := m.lhat - gain (SVt_GAIN_H s t) * rv
    let lhat := if lraw < -lmax then -lmax else if lmax < lraw then lmax else lraw
    let fsg : Rat := if SVt_CFG_IFB_NEG s t then -1 else 1
    let rf := fsg * (consFast s (ix16 (SVt_CFG_IFB s t)) : Rat) * (SVt_IFB_K s t : Rat) / 65536
      - terminal s t (SVt_CFG_IFB_SIDE s t)
    let th := SVt_RES_TH_TH s t
    let thI := SVt_RES_TH_I_TH s t
    let rvO := th != 0 && ratOver rv th
    let judged := iJudged s t
    let riO := SVt_CFG_RI_EN s t && thI != 0 && judged && ratOver m.ri thI
    let rfO := SVt_CFG_RF_EN s t && thI != 0 && judged && ratOver rf thI
    let needI := SVt_CFG_RI_EN s t || SVt_CFG_RF_EN s t
    let rcnt :=
      if hard then 0
      else if sub then m.rcnt
      else if rvO || riO || rfO then min 255 (m.rcnt + 1)
      else if needI && !judged then m.rcnt
      else 0
    s.modModel t fun m =>
      let m := { m with
        fresh := false, suspended := hard || sub, quiet := if dist then SV_QUIET_TICKS s else m.quiet - 1, vc := vc, lhat := lhat
        vhat := vhat, rv := rv, rf := rf, rvOver := rvO, riOver := riO, rfOver := rfO, rcnt := rcnt }
      if hard then { m with vc := node - rser s t * inet, lhat := inet, ihat := iest } else m

/-! ### Verdicts (R147-R151) -/

/-- Is the slice in low power or switched off? -/
def sliceOff (s : State) (i : Slice) : Bool := !(SL_CFG_EN s i) || SL_CFG_LP s i

/-- Is the slice tested (R147)? A fenced slice only when an accepted alternative serves it. -/
def tested (s : State) (i : Slice) : Bool :=
  nbit (SV_SLEN_SLICES s) i && !(sliceOff s i) &&
  (!(s.isFenced (.conv ⟨i.val, by omega⟩)) || s.cp.sup[i].alt = .serving)

/-- Is a word at a rail of the converter? -/
def rail (w : Int) : Bool := w == 32767 || w == -32768

/-- The pair partner of a slice in pair mode (R157, R266): slices 2i and 2i+1. -/
def inPair (s : State) (i : Slice) : Bool := nbit (ADC_PAIR_PAIR s) (i.val / 2)
/-- The other slice of the pair. -/
def pairMate (i : Slice) : Slice := ix16 (if i.val % 2 = 0 then i.val + 1 else i.val - 1)

/-- Are the odd slice's words of a pair settling (R267): in the tick of the change and the next? -/
def settling (s : State) (i : Slice) : Bool :=
  i.val % 2 == 1 && (match s.x.settle[(⟨i.val / 2, by omega⟩ : Fin 8)] with | some a => decide (s.x.tick.count < a + 2) | none => false)

/-- The LOST and FROZEN counts of a slice on the tick's words, with their extension bits (R147, R261); the settling words of an
odd slice count neither way (R267). -/
def countWords (s : State) (i : Slice) : State :=
  let d := s.x.deliv[i]
  let w := (d.fast * 256 + d.ext, d.fast0 * 256 + d.ext0)
  if settling s i then s else
  s.modSup i fun v => { v with
    lostCnt := if rail d.fast then v.lostCnt + 1 else 0
    frzCnt := if v.lastWord = some w then min 255 (v.frzCnt + 1) else 1
    lastWord := some w }

/-- Do the residuals of a model blame slice i in this tick (R148)? -/
def residualBlames (s : State) (i : Slice) : Bool :=
  (List.finRange 8).any fun t =>
    let m := s.cp.models[t]
    let other : Slice := if SVt_CFG_VNODE s t then loSlice s t else hiSlice s t
    m.running && !m.suspended && SVt_RES_N_N s t ≤ m.rcnt &&
    ((m.rvOver && nodeSlice s t == i) ||
     (m.rfOver && SVt_CFG_IFB s t == i.val) ||
     (m.riOver && (other == i || (m.rvOver && nodeSlice s t == i))))

/-- The verdict on a slice, the lowest cause code first (R147, R151). -/
def verdict (s : State) (i : Slice) : Blame :=
  let v := s.cp.sup[i]
  if s.x.slices[i].ow || 2 ≤ v.lostCnt then .lost
  else if SV_FRZ_N_N s ≤ v.frzCnt then .frozen
  else if residualBlames s i then .implausible
  else .none

/-- The code of a cause (R147). -/
def Blame.code : Blame → Nat
  | .none => 0 | .lost => 1 | .frozen => 2 | .implausible => 3

/-- Is a switch to the spare due: the verify ticks are over (R286)? From this tick's word on the spare delivers. -/
def bgToSpare (s : State) : Bool :=
  let b := s.x.bg
  b.step == 4 && b.endAt.isNone && decide (b.since + 9 + 2 * b.z + b.v ≤ s.x.tick.count)

/-- Is the switch back due (R286, R289)? -/
def bgToOwn (s : State) : Bool :=
  let b := s.x.bg
  match b.endAt with
  | some a => decide (a ≤ s.x.tick.count)
  | none => b.step == 7 && decide (b.since + 18 + 4 * b.z + b.v ≤ s.x.tick.count)

/-- Does the spare stand in for slice i during background calibration (R286)? -/
def standsIn (s : State) (i : Slice) : Bool :=
  s.x.bg.slice == i && ((s.x.bg.standIn && !(bgToOwn s)) || bgToSpare s)

/-- A slice is blamed (R151, R157, R163): error bit, cause, the fence due at the next cycle 0, and the alternative offered: the partner of
a pair that is not blamed, `mate`; the own converter where the spare stands in; else the spare. -/
def blame (s : State) (i : Slice) (b : Blame) (mate : Bool) : State :=
  let v := s.cp.sup[i]
  let again := v.alt = .serving
  let kind : AltKind :=
    if inPair s i && !mate then .partner
    else if standsIn s i then .own
    else .spare
  let alt : AltState := if again then .rejected else match kind with
    | .partner => .agree
    | .own => .settle
    | .spare => .waiting
  raise (s.modSup i fun v => { v with
    cause := b, fenceDue := true, altKind := if again then v.altKind else kind, alt := alt
    altSettle := 3, altCnt := 0, altLast := none, acceptDue := false, back := 0 }) 0x78 (b.code - 1)

/-- Is a slice blamed, in this tick or before (R157)? -/
def blamed (s : State) (i : Slice) : Bool := s.cp.sup[i].cause != .none

/-- The verdict that a tested slice gets in this tick (R147): a blamed one only while an alternative serves it. -/
def newVerdict (s : State) (i : Slice) : Blame :=
  if tested s i && (s.cp.sup[i].cause = .none || s.cp.sup[i].alt = .serving) then verdict s i else .none

/-- The verdicts of the tick (R147, R151), all on the same words: of two slices of a pair blamed together, neither is the other's
alternative (R157). -/
def verdicts (s : State) : State :=
  let s := forAll (n := 16) s countWords
  let vs := tab (n := 16) fun i => newVerdict s i
  let before := s
  forAll (n := 16) s fun s i =>
    if vs[i] = .none then s else blame s i vs[i] (blamed before (pairMate i) || vs[pairMate i] != .none)

/-! ### Estimates (R152) -/

/-- What one model gives for slice i in the slice's codes, with whether the slice is its current feedback (R152, R160): the rows of the
table in order. A value between codes is published with a free rounding (log entry 5). -/
def modelEstimate (s : State) (i : Slice) (t : Train) : Option (Int × Bool) :=
  if nodeSlice s t == i then some (roundOpen (s.cp.models[t].vc + rser s t * iNet s t), false)
  else if loSlice s t == i then some (roundOpen ((vHi s t : Rat) / 4096 * dHi s t), false)
  else if hiSlice s t == i && !(decide (dHi s t < 1 / 16)) then
    some (roundOpen (ratDiv (ratDiv ((vLo s t : Rat) / 4096) (dHi s t)) ((SVt_HL_K s t : Rat) / 4096)), false)
  else if SVt_CFG_IFB s t == i.val then
    let sg : Rat := if SVt_CFG_IFB_NEG s t then -1 else 1
    some (roundOpen (ratDiv (sg * terminal s t (SVt_CFG_IFB_SIDE s t) * 65536) (SVt_IFB_K s t : Rat)), true)
  else none

/-- The lowest-numbered running model that gives an estimate for slice i, with whether the slice is its current feedback
(R152, R160). -/
def estModel (s : State) (i : Slice) : Option (Train × Bool) :=
  (List.finRange 8).findSome? fun t =>
    if modelRuns s t then (modelEstimate s i t).map fun e => (t, e.2) else none

/-- The estimate of a substituted slice in its own codes (R152). It has no limit of range, which the rule does not state: consumers take
it as it is, and SV_EST shows its low 16 bits (DESIGN CHOICE, log entry 116). -/
def estimate (s : State) (i : Slice) : Option Int :=
  match estModel s i with
  | none => none
  | some (t, _) => (modelEstimate s i t).map (·.1)

/-! ### The alternative (R157-R164) -/

/-- The word of the converter that stands as alternative of slice i, with its extension bits. -/
def altWord (s : State) (i : Slice) : Int × Int :=
  let v := match s.cp.sup[i].altKind with
    | .spare => s.x.conv[(16 : Conv)]
    | .partner => s.x.conv[(⟨(pairMate i).val, by omega⟩ : Conv)]
    | .own => s.x.conv[(⟨i.val, by omega⟩ : Conv)]
  (v.fast, v.ext)

/-- Does the alternative agree in this tick (R160)? The word is compared with the last one together with its extension bits,
as in the FROZEN test (R261, log entry 53). -/
def agrees (s : State) (i : Slice) : Bool :=
  let (w, x) := altWord s i
  let v := s.cp.sup[i]
  let near := match estModel s i, v.est with
    | some (t, isI), some e =>
      if isI then SVt_RES_TH_I_TH s t == 0 ||
        !(ratOver (((w - e : Int) : Rat) * (SVt_IFB_K s t : Rat) / 65536) (SVt_RES_TH_I_TH s t))
      else SVt_RES_TH_TH s t == 0 || !(ratOver ((w - e : Int) : Rat) (SVt_RES_TH_TH s t))
    | _, _ => true
  near && !(rail w) && v.altLast != some (w * 256 + x)

/-- The spare lets go of an alternative's test or service. -/
def releaseSpare (s : State) (st : SpareState) : State :=
  { s with cp := { s.cp with spare := { s.cp.spare with state := st } } }

/-- A tick of the agreement window: the alternative agrees, or is rejected (R160, R162). -/
def windowTick (s : State) (i : Slice) : State :=
  if agrees s i then
    s.modSup i fun v => { v with altCnt := v.altCnt + 1, altLast := some ((altWord s i).1 * 256 + (altWord s i).2) }
  else
    let s := (s.modSup i fun v => { v with alt := .rejected }).evt 0x78 2
    if s.cp.sup[i].altKind = .spare then releaseSpare s .rejected else s

/-- One tick of an alternative's test: the two words after the connection are discarded, then the window runs from the third
tick on (R159, R160, R162). -/
def altTick (s : State) (i : Slice) : State :=
  let v := s.cp.sup[i]
  -- in the tick of the verdict nothing is tested: the connection and the window come later (R157, R159)
  if v.fenceDue then s else
  match v.alt with
  | .settle =>
    if v.altSettle = 0 then
      let s := s.modSup i fun v => { v with alt := .agree }
      windowTick (if v.altKind = .spare then releaseSpare s .agree else s) i
    else s.modSup i fun v => { v with altSettle := v.altSettle - 1 }
  | .agree => if v.acceptDue then s else windowTick s i
  | _ => s

/-- SUPERVISOR_MODEL_RUN: the models on what was latched at cycle 0, verdicts at cycle 792, and the alternatives' tests (R146-R151, R160, R162). A fenced
supervisor does nothing (R168). An arithmetic check trips checker 2 (R168, R402). -/
def execSupervisorModelRun (f : CheckFault) (s : State) : Host.Outcome State Fault Refusal :=
  if !(working s) || s.isFenced .supv then .next s
  else
    let s := forAll (n := 8) (forAll (n := 8) s predictCurrent) runModel
    let s := verdicts s
    let s := forAll (n := 16) s altTick
    .next (match f with
      | .parity c => trip (raise s 0x78 4) 2 c [.supv]
      | .overrun c => overrun s c [.supv]
      | _ => s)

/-- ALTERNATIVE_ACCEPT of slice i: an alternative that agreed through its window serves from the next cycle 0 (R161). -/
def execAlternativeAccept (i : Slice) (s : State) : Host.Outcome State Fault Refusal :=
  let v := s.cp.sup[i]
  if v.alt = .agree && SV_AGREE_N_N s ≤ v.altCnt && !v.acceptDue then
    .next ((s.modSup i fun v => { v with acceptDue := true }).evt 0x78 1)
  else .next s

/-- SPARE_CONNECT: a spare that its state allows is connected to the lowest-numbered waiting slice (R157, R159, R164). -/
def execSpareConnect (s : State) : Host.Outcome State Fault Refusal :=
  if s.cp.spare.state = .idle || s.cp.spare.state = .rejected then
    match (List.finRange 16).find? fun i => s.cp.sup[i].alt = .waiting && !s.cp.sup[i].fenceDue with
    | none => .next s
    | some i =>
      let s := s.modSup i fun v => { v with alt := .settle, altSettle := 3, altCnt := 0, altLast := none }
      .next { s with cp := { s.cp with spare := { state := .settle, slice := i, retLeft := 0 } } }
  else .next s

/-! ### Trains in substitution (R153-R156, R161, R165) -/

/-- Does a loop take slice i as feedback or set-point (R116, R118)? -/
def loopUses (s : State) (l : LoopIx) (i : Slice) : Bool :=
  fbSlice s l == some i ||
  ((LP_SP_SRC_KIND s l == 2 || LP_SP_SRC_KIND s l == 3) && LP_SP_SRC_INDEX s l == i.val)

/-- Loops fed by slice i, directly or through set-point source loops (R154). -/
def fedLoops (s : State) (i : Slice) : Vector Bool 16 :=
  (List.range 16).foldl (fun a _ => tab fun l => a[l] ||
    (List.finRange 16).any fun m => a[m] && takesFrom s l m) (tab fun l => loopUses s l i)

/-- Does slice i concern train t (R154)? -/
def sliceConcerns (s : State) (i : Slice) (t : Train) : Bool :=
  loSlice s t == i || hiSlice s t == i ||
  (let fed := fedLoops s i
   (List.finRange 16).any fun l => LP_CFG_EN s l && routes s l t && fed[l])

/-- Is a train in substitution (R154)? -/
def trainInSubst (s : State) (t : Train) : Bool :=
  s.cp.trains[t].state.switching &&
  (List.finRange 16).any fun i => s.cp.sup[i].subst && sliceConcerns s i t

/-- SUBSTITUTION_TIMEOUT: SVt_SUBTK at SUB_MAX puts the train into HOLD (R165). -/
def execSubstitutionTimeout (t : Train) (s : State) : Host.Outcome State Fault Refusal :=
  let m := s.cp.models[t]
  if m.inSubst && SVt_SUB_MAX s t ≤ m.subTk && s.cp.trains[t].state.switching then
    .next ((raise (trainHold s t) 0x78 3).modModel t fun m => { m with held := true })
  else .next s

end Sys2Proof.Machine
end

