-- ==== Sys2Proof/Machine/Source.lean ====
section
/-! DEFINITION. The power path: comparators, nodes, the ride-through preset (R173-R186, R197-R202). -/

namespace Sys2Proof.Machine

/-- The level of SRC_EN_s; the pin of a device in OFF is not driven (R176). -/
def srcEnPin (s : State) (i : Src) : Option Bool := if s.x.dev = .off then none else some s.x.srcEn[i]
/-- Is a source's enable pin active (R176)? -/
def srcActive (s : State) (i : Src) : Bool := s.x.srcEn[i] != SRCs_CFG_POL s i
/-- Is a calibration run in progress on the source (R359)? Its enable is inactive and both comparators read fired. -/
def calSrc (s : State) (i : Src) : Bool := s.x.cal.kind == 2 && s.x.cal.target == i.val
/-- Is a source in window (R180)? -/
def inWindow (s : State) (i : Src) : Bool := !(calSrc s i) && !s.x.src[i].uv && !s.x.src[i].ov
/-- The node a source is wired to (R174). -/
def srcNode (s : State) (i : Src) : Fin 2 := if SRCs_CFG_NODE s i then 1 else 0
/-- Has the node an enabled source in window (R183)? -/
def nodeFed (s : State) (k : Fin 2) : Bool :=
  (List.finRange 4).any fun i => srcNode s i == k && srcActive s i && inWindow s i

/-- The port of a store train. -/
def portOf (s : State) (t : Train) : BPort := ⟨trTerm s t % 4, by omega⟩

/-- Is a train eligible for the ride-through preset, its state apart (R197)? Phases CC, CV, DONE, MAINT, SUSPEND, DISCHARGE. -/
def rideEligible (s : State) (t : Train) : Bool :=
  nbit (SRC_RIDE_TRAINS s) t && trKind s t == 2 && !(spanning s t) && s.cp.trains[t].state.switching &&
  [4, 5, 6, 7, 8, 10].contains (BP_PHASE_PHASE s (portOf s t))

/-- Put the preset on every available leg of a train (R198, R199): discharge, PEAK, share p, diode emulation in the running
period, normal periods from the next valley. Of a four-switch phase the switches that its region uses go off; the control switch comes back
after the dead time. -/
def presetLegs (s : State) (t : Train) (share : Nat) : State :=
  let sh : LegShadow := { share := share, code := share / 32, disch := true, step := .on }
  forAll (n := 24) s fun s n =>
    if legTrain s n == some t && !(pairOut s n) && legAvail s n then
      let s := s.modLeg n fun l => { l with shadow := sh, on := true }
      let s := if paired s n then setRect (setCtl s n false) n false else s
      let keeps := !(paired s n) && s.x.hw[n].pwmH
      s.modHw n fun h => { h with
        active := { sh with de := true }, pwmL := false, armed := false, zcSeen := false, fresh := true
        phase := if keeps then .ctl else .preCtl }
    else s

/-- The preset of one train (R198, R199): state RUN, discharge direction, any shed cancelled. The limit TR_ILIM_N x N_AVAIL / N_RATED and
the share |D| x N_RATED / N_AVAIL are truncated, which the rule does not state (DESIGN CHOICE, log entry 102). -/
def presetTrain (s : State) (t : Train) (total : Nat) : State :=
  let nr := nRatedHere s t
  let na := nAvailHere s t
  if na == 0 then s else
  let d := min total (TR_ILIM_N_ILIM_N s t * na / nr)
  let r := s.cp.trains[t]
  let s := if r.shedding then s.evt (0x08 + t.val) 2 else s
  let s := s.modTrain t fun r => { r with
    dir := true, dem := -(d : Int), shedding := false, leaving := none, rampWritten := false, shedCnt := 0, rev := 0
    released := true }
  let s := setTrain s t .run
  let s := presetLegs s t (min 32767 (d * nr / na))
  { s with x := { s.x with ride := { s.x.ride with held := upd s.x.ride.held t true, dem := upd s.x.ride.dem t d } } }

/-- The ride-through preset of a node loss (R197, R198, R202): the sum of RIDE_DEM over the lost nodes. SRC_RIDE_STAT.TRAINS names the
trains preset at this loss, none with SRC_RIDE.EN = 0 (R204). -/
def ridePreset (s : State) : State :=
  if !(SRC_RIDE_EN s) then { s with x := { s.x with ride := { s.x.ride with last := 0 } } }
  else
    let ts := (List.finRange 8).filter fun t => rideEligible s t && nAvailHere s t != 0
    let part (k : Fin 2) (d : Nat) := if s.x.nodes[k].state = .lost then d else 0
    let total := min 32767 (part 0 (RIDE_DEM_A_DEM s) + part 1 (RIDE_DEM_B_DEM s))
    let s := ts.foldl (fun s t => presetTrain s t total) s
    let s := { s with x := { s.x with ride := { s.x.ride with
      fired := if ts.isEmpty then s.x.ride.fired else s.x.tick.count, last := maskOf fun t : Train => ts.contains t } } }
    if ts.isEmpty then s else s.evt 0x30 2

/-- A node without an enabled source in window is lost: its intake trains' legs go low and the preset acts (R183, R184,
R197). -/
def nodeCheck (s : State) (k : Fin 2) : State :=
  let st := s.x.nodes[k].state
  if (st = .live || st = .ramp) && !(nodeFed s k) then
    let s := (s.modNode k fun n => { n with state := .lost, ramp := 0 }).evt 0x30 0
    let s := forAll (n := 24) s fun s n =>
      match legTrain s n with
      | some t => if nodeDead s t then s.modHw n LegHw.low else s
      | none => s
    ridePreset s
  else s

/-- May hardware move the source enables (R176)? Not once a reaction of code 4 has put them at their straps (R385). -/
def enablesLive (s : State) : Bool := (s.x.dev = .hold || s.x.dev = .run) && !s.x.col.strapsOn

/-- SOURCE_UV_FIRE (R179, R183). -/
def execSourceUvFire (i : Src) (s : State) : Host.Outcome State Fault Refusal :=
  .next (nodeCheck (s.modSrc i fun v => { v with uv := true, winTicks := 0 }) (srcNode s i))

/-- SOURCE_OV_FIRE: the enable goes inactive, OVOFF and PG_ERR.OV are set (R181, R183). -/
def execSourceOvFire (i : Src) (s : State) : Host.Outcome State Fault Refusal :=
  let s := s.modSrc i fun v => { v with ov := true, ovOff := true, winTicks := 0 }
  let s := if enablesLive s then { s with x := { s.x with srcEn := upd s.x.srcEn i (SRCs_CFG_POL s i) } } else s
  .next (nodeCheck (raise s 0x30 0) (srcNode s i))

/-- SOURCE_COMPARATOR_CLEAR of the UV or (ov) the OV comparator (R179); the source that enters its window is a wake source (R521). -/
def execSourceComparatorClear (i : Src) (ov : Bool) (s : State) : Host.Outcome State Fault Refusal :=
  let out := s.x.src[i].uv || s.x.src[i].ov
  let s := s.modSrc i fun v => if ov then { v with ov := false } else { v with uv := false }
  .next (if out then wakeBy s (.src i) else s)

/-- Has a source of the node been enabled and in window for SRC_NODE_RET ticks (R183)? -/
def nodeReady (s : State) (k : Fin 2) : Bool :=
  (List.finRange 4).any fun i => srcNode s i == k && srcActive s i && inWindow s i &&
    SRC_NODE_RET s < s.x.src[i].winTicks

/-- NODE_RAMP_START: NONE or LOST to RAMP after the return time (R183, R185). -/
def execNodeRampStart (k : Fin 2) (s : State) : Host.Outcome State Fault Refusal :=
  let st := s.x.nodes[k].state
  if (st = .none || st = .lost) && nodeReady s k then
    .next (s.modNode k fun _ => { state := .ramp, ramp := 0 })
  else .next s

/-- NODE_LIVE: the ramp value has reached 32767 (R183). -/
def execNodeLive (k : Fin 2) (s : State) : Host.Outcome State Fault Refusal :=
  let n := s.x.nodes[k]
  if n.state = .ramp && 32767 ≤ n.ramp then .next ((s.modNode k fun n => { n with state := .live }).evt 0x30 1)
  else .next s

/-- SOURCE_LIST_STALL: PASS unchanged for 64 ticks with AUTO = 1 and the device in RUN (R187). -/
def execSourceListStall (s : State) : Host.Outcome State Fault Refusal :=
  if SRC_CTRL_AUTO s && s.x.dev = .run && 64 ≤ s.x.listStill then .next (raise s 0x30 1) else .next s

/-- RIDE_THROUGH_TAKEOVER: at cycle 784 of the tick after the firing the CE takes the preset trains over (R200, R202). -/
def execRideThroughTakeover (s : State) : Host.Outcome State Fault Refusal :=
  if s.x.ride.fired < s.x.tick.count then
    .next { s with x := { s.x with ride := { s.x.ride with held := Vector.replicate 8 false, taken := s.x.ride.held } } }
  else .next s

/-- In the takeover tick the supplement loop is preloaded to the preset demand, negative; with several demands, to that of
the lowest-numbered preset train (R200, log entry 17). -/
def ridePreload (s : State) : State :=
  match (List.finRange 8).find? fun t => s.x.ride.held[t] with
  | some t =>
    if s.x.ride.fired < s.x.tick.count && SRC_PP_SUPP_V s then
      s.modLoop (ix16 (SRC_PP_SUPP_LOOP s)) fun r => { r with
        preset := .exact (-(s.x.ride.dem[t] : Int)), updating := true, div := 0
        yu := -(s.x.ride.dem[t] : Int), yp := -(s.x.ride.dem[t] : Int) }
    else s
  | none => s

/-- Cycle 0 for the sources (R176, R178, R181, R183, R185, R187): OVOFF clears once EN is 0, the enables follow, the nodes
without a source are lost, ramps rise, window times and the stall count run. -/
def srcBoundary (s : State) : State :=
  let s : State := { s with x := { s.x with ride := { s.x.ride with taken := Vector.replicate 8 false } } }
  let en (i : Src) := nbit (SRC_CTRL_EN s) i
  let changed := (List.finRange 4).any fun i => en i != s.x.src[i].enPrev
  let s := forAll (n := 4) s fun s i => s.modSrc i fun v => { v with ovOff := v.ovOff && en i, enPrev := en i }
  let s := if changed then s.evt 0x30 3 else s
  let s := if enablesLive s then
      { s with x := { s.x with srcEn := tab fun i => (en i && !s.x.src[i].ovOff && !(calSrc s i)) != SRCs_CFG_POL s i } }
    else s
  let s := forAll (n := 2) s nodeCheck
  let s := forAll (n := 2) s fun s k =>
    if s.x.nodes[k].state = .ramp then s.modNode k fun n => { n with ramp := min 32767 (n.ramp + SRC_NODE_RAMP_STEP s) }
    else s
  let s := forAll (n := 4) s fun s i => s.modSrc i fun v => { v with
    winTicks := if srcActive s i && inWindow s i then min 65536 (v.winTicks + 1) else 0 }
  let pass := SRC_LIST_STAT_PASS s
  { s with x := { s.x with
    listStill := if pass == s.x.listPass && SRC_CTRL_AUTO s && s.x.dev = .run then s.x.listStill + 1 else 0
    listPass := pass } }

/-- The events of a supplement or cut-back that begins (R196): the named loop wins the selector of a STORE train, whose demand D as
written has the sign. -/
def powerPathEvents (s : State) : State :=
  let wins (l : LoopIx) (t : Train) := s.cp.ceSel[t].valid && s.cp.ceSel[t].loop == l && trKind s t == 2
  let supp := SRC_PP_SUPP_V s && (List.finRange 8).any fun t =>
    wins (ix16 (SRC_PP_SUPP_LOOP s)) t && s.cp.trains[t].dem < 0
  let cut := SRC_PP_HR_V s && (List.finRange 8).any fun t =>
    wins (ix16 (SRC_PP_HR_LOOP s)) t && 0 ≤ s.cp.trains[t].dem
  let s := if supp && !s.cp.suppOn then s.evt 0x30 4 else s
  let s := if cut && !s.cp.cutOn then s.evt 0x30 5 else s
  { s with cp := { s.cp with suppOn := supp, cutOn := cut } }

end Sys2Proof.Machine
end

