-- ==== Sys2Proof/Machine/Battery.lean ====
section
/-! DEFINITION. The battery ports: temperature, guard, timers, removal, effective targets, impedance probe (R206-R254). -/

namespace Sys2Proof.Machine

/-! ### Readings -/

/-- The page of a port. -/
def batPage (p : BPort) : Nat := 0x34 + p.val

/-- The voltage slice of a port. -/
def vslOf (s : State) (p : BPort) : Slice := ix16 (GDp_CFG_VSL s p)
/-- The current slice of a port. -/
def islOf (s : State) (p : BPort) : Slice := ix16 (GDp_CFG_ISL s p)

/-- The port temperature: the highest valid NTC reading, with BP_TEMP_IMP when TIMP = 1 (R214). -/
def bpTemp (s : State) (p : BPort) : Option Int :=
  let b := s.cp.bat[p]
  let a := if b.ntcA.valid then [b.ntcA.temp] else []
  let c := if b.ntcB.valid then [b.ntcB.temp] else []
  let d := match BP_CFG_TIMP s p, b.tempImp with | true, some t => [t] | _, _ => []
  match a ++ c ++ d with
  | [] => none
  | t :: r => some (r.foldl max t)

/-- The window without hysteresis (R215). -/
def windowOf (s : State) (p : BPort) (t : Int) : Window :=
  if t < BP_T_I s p 0 then .cold else if t < BP_T_I s p 1 then .cool
  else if t ≤ BP_T_I s p 2 then .normal else if t ≤ BP_T_I s p 3 then .warm else .hot

/-- One move across a boundary whose condition holds, if any does (R215). 2 C is 20 units of 0.1 C. -/
def windowMove (s : State) (p : BPort) (t : Int) (w : Window) : Window :=
  let t1 := BP_T_I s p 0
  let t2 := BP_T_I s p 1
  let t3 := BP_T_I s p 2
  let t4 := BP_T_I s p 3
  match w with
  | .cold => if t1 + 20 ≤ t then .cool else .cold
  | .cool => if t2 + 20 ≤ t then .normal else if t < t1 then .cold else .cool
  | .normal => if t3 < t then .warm else if t < t2 then .cool else .normal
  | .warm => if t4 < t then .hot else if t ≤ t3 - 20 then .normal else .warm
  | .hot => if t ≤ t4 - 20 then .warm else .hot

/-- The window for a new temperature: moves until none holds; at most four are possible (R215). -/
def newWindow (s : State) (p : BPort) (t : Int) : Window :=
  let b := s.cp.bat[p]
  if b.snap then windowOf s p t
  else (List.range 4).foldl (fun w _ => windowMove s p t w) b.window

/-- A new BP_TEMP moves the window, with PG_EVT.WINDOW on a change (R215, R253). -/
def batNewTemp (s : State) (p : BPort) : State :=
  match bpTemp s p with
  | none => s
  | some t =>
    let w := newWindow s p t
    let ch := decide (w ≠ s.cp.bat[p].window)
    let s := s.modBat p fun b => { b with window := w, snap := false }
    if ch then s.evt (batPage p) 3 else s

/-- Of two causes that would force FAULT at one cycle 0, the lower code stands (DESIGN CHOICE, log entry 109). -/
def firstCause : Option Nat → Option Nat → Option Nat
  | some a, some b => some (min a b)
  | none, b => b
  | a, none => a

/-- A new AX result of NTC A or (b) B (R212, R213): its temperature, NTC_ONE, and the FAULT cause SENSOR with both invalid and
no removal (R213, R239). -/
def ntcResult (s : State) (p : BPort) (isB : Bool) (res : Int) (ow : Bool) : State :=
  let opn := decide (984 * 8388608 ≤ res * 1000)
  let short := decide (res * 1000 ≤ 16 * 8388608)
  let v : NtcSt :=
    if ow || opn || short then { seen := true, valid := false, isOpen := opn, temp := 0 }
    else { seen := true, valid := true, isOpen := false
           temp := ntcValue res (BP_NTC_RPU s p) (BP_NTC_B s p) }
  let s := s.modBat p fun b => if isB then { b with ntcB := v } else { b with ntcA := v }
  let b := s.cp.bat[p]
  let s := if b.ntcA.seen && b.ntcB.seen then
      if b.ntcA.valid != b.ntcB.valid then s.evt (batPage p) 6
      else if !b.ntcA.valid && !(BP_CFG_RM_NTC s p && b.ntcA.isOpen && b.ntcB.isOpen) then
        s.modBat p fun b => { b with force := firstCause b.force (some 7) }
      else s
    else s
  batNewTemp s p

/-! ### Inhibit (R223) -/

/-- Does a trip that inhibits charging stand (R232)? -/
def Trips.charge (t : Trips) : Bool := t.v || t.i || t.t || t.td || t.timeout || t.preTimeout
/-- Does a trip that inhibits discharging stand (R223)? -/
def Trips.discharge (t : Trips) : Bool := t.td || t.vd
/-- The cause of the latched trip that stands, the lowest of several (R220, R232). -/
def Trips.latched (t : Trips) : Option Nat :=
  ([(1, t.v), (2, t.i), (3, t.td), (4, t.timeout), (5, t.preTimeout)].find? (·.2)).map (·.1)
/-- Does any trip stand? -/
def Trips.any (t : Trips) : Bool := t.charge || t.vd

/-- Charge inhibit (R223). -/
def chargeInhibit (s : State) (p : BPort) : Bool :=
  let b := s.cp.bat[p]
  [0, 1, 8, 9].contains (BP_PHASE_PHASE s p) || b.window = .cold || b.window = .hot || b.trips.charge
    || !(GDp_CFG_VALID s p)

/-! ### The guard (R231-R233) -/

/-- The class limit of trip I (R232). -/
def classLimit (s : State) (p : BPort) : Nat :=
  match BP_PHASE_PHASE s p with
  | 4 | 5 => GDp_IMAX s p
  | 1 | 2 | 3 => GDp_IPRE s p
  | _ => GDp_IMNT s p

/-- The counts and the temperature tests of one tick, whatever GDp_CFG.VALID is (R231, R232). -/
def guardCount (s : State) (p : BPort) : State :=
  let b := s.cp.bat[p]
  let v := b.v
  let i := b.i
  let t := bpTemp s p
  let tHot := match t with | some t => decide (GDp_TMAX_I s p < t) || decide (t < GDp_TMIN_I s p) | none => false
  let tOk := match t with
    | some t => decide (GDp_TMIN_I s p + 20 ≤ t) && decide (t ≤ GDp_TMAX_I s p - 20) | none => false
  let vdEnd := decide ((GDp_VDMIN s p : Int) * 65 ≤ v * 64)
  s.modBat p fun b => { b with
    vCnt := if decide ((GDp_VMAX s p : Int) < v) then min 15 (b.vCnt + 1) else 0
    iCnt := if decide ((classLimit s p : Int) < i) then min 15 (b.iCnt + 1) else 0
    vdCnt := if decide (v < (GDp_VDMIN s p : Int)) && decide (i < 0) then min 15 (b.vdCnt + 1) else 0
    trips := { b.trips with
      t := if tHot then true else b.trips.t && !tOk
      vd := b.trips.vd && !vdEnd } }

/-- GUARD_TRIP of a port: what has held for its count trips (R231, R232); each latched trip sets its BAT.PG_ERR bit (R233)
and forces FAULT at the next cycle 0, with its cause also on a port in FAULT already; TD also releases BAT_EN then. A latched trip that
stands in another phase, as one from ABSENT after the reinsertion, forces FAULT too (R220). -/
def guardTrip (s : State) (p : BPort) : State :=
  let b := s.cp.bat[p]
  let n := GDp_CFG_N s p
  let hot := match bpTemp s p with | some t => decide (GDp_TDMAX_I s p < t) | none => false
  let tv := n ≤ b.vCnt && !b.trips.v
  let ti := n ≤ b.iCnt && !b.trips.i
  let td := hot && !b.trips.td
  let trips := { b.trips with
    v := b.trips.v || tv, i := b.trips.i || ti, td := b.trips.td || td, vd := b.trips.vd || n ≤ b.vdCnt }
  let ph := BP_PHASE_PHASE s p
  let late := if ph == 0 || ph == 9 then none else trips.latched
  let s := s.modBat p fun b => { b with
    trips := trips
    releaseDue := b.releaseDue || td
    force := firstCause (firstCause b.force (([(1, tv), (2, ti), (3, td)].find? (·.2)).map (·.1))) late }
  let m : Word := bitAt tv 0 ||| bitAt ti 1 ||| bitAt td 2
  if m == 0 then s else raiseMask s (batPage p) m

/-- GUARD_TRIP of port p (R231, R232). -/
def execGuardTrip (p : BPort) (s : State) : Host.Outcome State Fault Refusal := .next (guardTrip s p)

/-! ### Timers (R235-R238) -/

/-- The charge timer's limit in 1/4096 ticks, from minutes (R237). -/
def timerLimit (m : Nat) : Nat := m * 25000000

/-- CHARGE_TIMEOUT: the charge timer, which accrues, has reached its limit: FAULT at the next cycle 0 with cause TIMEOUT, and its sub-cause
when reduced ticks exceed half of the accrual (R237, R232). -/
def execChargeTimeout (p : BPort) (s : State) : Host.Outcome State Fault Refusal :=
  let b := s.cp.bat[p]
  if b.tmrRun && timerLimit (GDp_TMR_CC s p) * 4096 ≤ b.tmrCc && !b.trips.timeout then
    .next (raise (s.modBat p fun b => { b with
      trips := { b.trips with timeout := true }, force := firstCause b.force (some 4)
      causeRed := decide (b.tmrElap < 2 * b.tmrRed) }) (batPage p) 3)
  else .next s

/-- PRECHARGE_TIMEOUT: the pre-charge timer, which accrues, has reached its limit (R237). -/
def execPrechargeTimeout (p : BPort) (s : State) : Host.Outcome State Fault Refusal :=
  let b := s.cp.bat[p]
  if b.ptmrRun && timerLimit (GDp_TMR_PRE s p) ≤ b.tmrPre && !b.trips.preTimeout then
    .next (raise (s.modBat p fun b => { b with
      trips := { b.trips with preTimeout := true }, force := firstCause b.force (some 5) }) (batPage p) 4)
  else .next s

/-- Is the tick reduced (R236)? -/
def reducedTick (s : State) (p : BPort) : Bool :=
  let b := s.cp.bat[p]
  b.window = .cool || b.window = .warm ||
  (match storeTrain s p with
   | none => false
   | some t =>
     let w := s.cp.ceSel[t]
     !(w.valid && (w.loop.val == BP_LOOPS_ICH s p || w.loop.val == BP_LOOPS_CV s p)) || s.cp.trains[t].ceilAct)

/-- The weight of a reduced tick in 1/4096 (R236). -/
def reducedWeight (s : State) (p : BPort) : Nat :=
  let i := s.cp.bat[p].i * 4096
  let r := GDp_ITMR s p
  (clampI 256 4096 (if r == 0 then Config.timerWeight i else i.tdiv r)).toNat

/-- The direction of the port's train: true in discharge. -/
def portDir (s : State) (p : BPort) : Bool :=
  match storeTrain s p with | some t => s.cp.trains[t].dir | none => false

/-- The timers of one tick (R235, R236, R238); frozen outside RUN. -/
def timersTick (s : State) (p : BPort) : State :=
  let ph := BP_PHASE_PHASE s p
  let live := s.x.dev = .run
  let cc := live && (ph == 4 || ph == 5) && !(portDir s p)
  let pre := live && (ph == 2 || ph == 3)
  let red := reducedTick s p
  s.modBat p fun b => { b with
    reduced := red, tmrRun := cc, ptmrRun := pre
    tmrCc := if cc then b.tmrCc + (if red then reducedWeight s p else 4096) else b.tmrCc
    tmrElap := if cc then b.tmrElap + 1 else b.tmrElap
    tmrRed := if cc && red then b.tmrRed + 1 else b.tmrRed
    tmrPre := if pre then b.tmrPre + 1 else b.tmrPre }

/-- Energy of the tick that ends: 10 mV x 10 mA x 2.4 us is 2.4e-10 J, so 1.5e12 products make 0.1 Wh (R252). -/
def energyTick (s : State) (p : BPort) : State :=
  s.modBat p fun b =>
    let e := b.v * b.i
    if 0 < e then
      let r := b.eInRem + e
      { b with eIn := (b.eIn + (r / 1500000000000).toNat) % 65536, eInRem := r % 1500000000000 }
    else if e < 0 then
      let r := b.eOutRem - e
      { b with eOut := (b.eOut + (r / 1500000000000).toNat) % 65536, eOutRem := r % 1500000000000 }
    else b

/-! ### Removal (R239-R242) -/

/-- A detector of removal fires: the port's trains enter HOLD at once, their legs low (R239, R240). -/
def removalStop (s : State) (p : BPort) : State := (storeTrains s p).foldl trainHold s

/-- REMOVAL_OVC: the pin of GDp_CFG.VSL is above BP_OVC (R239). A port in ABSENT has no string to lose (DEDUCED, log entry 52). -/
def execRemovalOvc (p : BPort) (s : State) : Host.Outcome State Fault Refusal :=
  if BP_OVC_TH s p != 0 && BP_PHASE_PHASE s p != 0 then .next (removalStop (s.modBatHw p fun h => { h with ovc := true }) p) else .next s

/-- PRESENCE_LOST: PRES_p at its absent level for 16 cycles (R239); in ABSENT it is a bounce that restarts the count
(R242), where PRES_EN = 1 makes the pin a part of presence. -/
def execPresenceLost (p : BPort) (s : State) : Host.Outcome State Fault Refusal :=
  let s := (s.modBatHw p fun h => { h with pin := !(BP_CFG_PRES_POL s p) }).modBat p fun b =>
    { b with insCnt := if BP_CFG_PRES_EN s p then 0 else b.insCnt }
  if BP_CFG_PRES_EN s p && BP_PHASE_PHASE s p != 0 then .next (removalStop (s.modBatHw p fun h => { h with removed := true }) p) else .next s

/-- The detectors of R239 that act at R73 step 2: both NTCs open, and the voltage step in CC, on a port not yet ABSENT. -/
def removalTick (s : State) (p : BPort) : State :=
  let b := s.cp.bat[p]
  let ph := BP_PHASE_PHASE s p
  let v := consFast s (vslOf s p)
  let th := BP_DVDT_TH s p
  let h := s.x.batHw[p]
  let rise := th != 0 && decide ((th : Int) < v - h.dvPrev)
  let n := if rise then h.dvRise + 1 else 0
  let s := s.modBatHw p fun h => { h with dvPrev := v, dvRise := min n 2 }
  let ntc := BP_CFG_RM_NTC s p && b.ntcA.seen && b.ntcB.seen && b.ntcA.isOpen && b.ntcB.isOpen
  let dv := BP_CFG_RM_DVDT s p && ph == 4 && 2 ≤ n
  if (ntc || dv) && ph != 0 then removalStop (s.modBatHw p fun h => { h with removed := true }) p else s

/-- Does PRES_p read present? -/
def pinPresent (s : State) (p : BPort) : Bool := s.x.batHw[p].pin == BP_CFG_PRES_POL s p

/-- Presence (R242). -/
def present (s : State) (p : BPort) : Bool :=
  let b := s.cp.bat[p]
  if !(BP_CFG_PRES_EN s p) && !(BP_CFG_RM_NTC s p) then decide ((GDp_VMIN_EN s p : Int) ≤ b.v)
  else (!(BP_CFG_PRES_EN s p) || pinPresent s p) && (!(BP_CFG_RM_NTC s p) || b.ntcA.valid || b.ntcB.valid)

/-! ### Phases that the hardware forces -/

/-- A port enters a phase by hardware or by a commit (R253): PG_EVT.PHASE, the timers of R238, the window of R215, BP_CYCLES
of R225. -/
def phaseEntered (s : State) (p : BPort) (old : Nat) : State :=
  let ph := BP_PHASE_PHASE s p
  if ph == old then s else
  (s.modBat p fun b =>
    let b := if ph == 1 then { b with tmrCc := 0, tmrElap := 0, tmrRed := 0, tmrPre := 0, snap := true } else b
    let b := if ph == 4 && (old == 6 || old == 7) then { b with tmrCc := 0, tmrElap := 0, tmrRed := 0 } else b
    if old == 5 && ph == 6 then { b with cycles := (b.cycles + 1) % 65536 } else b).evt (batPage p) 0

/-- QUAL sets the window without hysteresis (R215). -/
def qualWindow (s : State) (p : BPort) : State := if s.cp.bat[p].snap then batNewTemp s p else s

/-- The hardware forces a phase (R217, R220). -/
def forcePhase (s : State) (p : BPort) (ph : Nat) : State :=
  let old := BP_PHASE_PHASE s p
  qualWindow (phaseEntered (set_BP_PHASE_PHASE s p ph) p old) p

/-- The hardware forces FAULT with a cause; the causes the guard has not yet reported set their PG_ERR bit (R233, R253). -/
def forceFault (s : State) (p : BPort) (cause : Nat) : State :=
  let s := forcePhase s p 9
  let s := s.modBat p fun b => { b with cause := cause, causeRed := b.causeRed && cause == 4 }
  if 6 ≤ cause then raise s (batPage p) (cause - 1) else s

/-- REINSERTION: presence held for BP_INS_DB x 256 ticks takes an ABSENT port to QUAL (R242). -/
def execReinsertion (p : BPort) (s : State) : Host.Outcome State Fault Refusal :=
  if BP_PHASE_PHASE s p == 0 && BP_INS_DB s p * 256 < s.cp.bat[p].insCnt then
    .next ((forcePhase (s.modBat p fun b => { b with insCnt := 0 }) p 1).evt (batPage p) 2)
  else .next s

/-- RESTART takes effect (R226): accepted, the latched trips end, with the counts that lead to them (DESIGN CHOICE, log entry 109), and
the port moves to QUAL; else REFUSED. With no valid temperature a TD trip persists. A cause that forces FAULT at the same cycle 0 does so after it, with the trip that stands for it (DESIGN
CHOICE, log entry 109). -/
def bpRestart (s : State) (p : BPort) : State :=
  if BP_PHASE_PHASE s p != 9 then s
  else
    let b := s.cp.bat[p]
    let cool := match bpTemp s p with | some t => decide (t ≤ GDp_TDMAX_I s p - 50) | none => false
    if decide (b.v ≤ (GDp_VMAX s p : Int)) && (!b.trips.td || cool) then
      let s := s.modBat p fun b => { b with
        trips := {
          t := b.trips.t, vd := b.trips.vd, v := b.force == some 1, i := b.force == some 2, td := b.force == some 3
          timeout := b.force == some 4, preTimeout := b.force == some 5 }
        cause := 0, causeRed := b.force == some 4 && b.causeRed, vCnt := 0, iCnt := 0 }
      forcePhase s p 1
    else s.evt (batPage p) 8

/-- BP_RESTART: BP_CTRL.RESTART = 1 takes effect at its boundary (R226). -/
def execBpRestart (p : BPort) (s : State) : Host.Outcome State Fault Refusal := .next (bpRestart s p)

/-- BP_ZLEARN: BP_CTRL.ZLEARN = 1 arms the learning (R251). -/
def execBpZlearn (p : BPort) (s : State) : Host.Outcome State Fault Refusal :=
  .next (set_BP_CTRL_ZLEARN s p true)

/-- GUARD_LOCK_SET: LOCK = 1 in force until reset (R229); a write when not in HOLD or when locked is rejected with LOCKWR
(R228). -/
def execGuardLockSet (s : State) : Host.Outcome State Fault Refusal :=
  if s.x.dev = .hold && !(GUARD_LOCK_LOCK s) then .next (set_GUARD_LOCK_LOCK s true)
  else .next (s.evt 0x38 0)

/-! ### Effective targets (R224, R245) -/

/-- The window factor in percent (R224). -/
def winPct (s : State) (p : BPort) : Nat :=
  match s.cp.bat[p].window with
  | .cool => BP_WIN_PCT_COOL_PCT s p
  | .warm => BP_WIN_PCT_WARM_PCT s p
  | _ => 100

/-- BP_ICH_EFF (R224), truncated once. -/
def ichEff (s : State) (p : BPort) : Int :=
  let i : Nat := match BP_PHASE_PHASE s p with
    | 4 | 5 => BP_ICC s p
    | 3 => BP_IPRE s p
    | 7 => if BP_VFLOAT s p != 0 then BP_IPRE s p else 0
    | _ => 0
  fitS (tdivOpen (i * 65536 * winPct s p : Nat) (GDp_ISCALE s p * 100 : Nat))

/-- BP_VCV_EFF (R224), truncated once; the lowering in WARM is in tenths of 10 mV. -/
def vcvEff (s : State) (p : BPort) : Int :=
  let v : Nat := if BP_PHASE_PHASE s p == 7 && BP_VFLOAT s p != 0 then BP_VFLOAT s p else BP_VCV s p
  let low : Nat := if s.cp.bat[p].window = .warm then BP_WARM_DV_DV s p * BP_CFG_CELLS s p else 0
  fitS (tdivOpen (((v : Int) * 10 - low) * 65536) (GDp_VSCALE s p * 10 : Nat))

/-- BP_PROBE_AMP (R245). -/
def probeAmp (s : State) (p : BPort) : Int :=
  fitU (tdivOpen (BP_ICC s p * 65536 * BP_PROBE_AMP s p * winPct s p : Nat) (GDp_ISCALE s p * 10000 : Nat))
/-- BP_PROBE_BIAS (R245). -/
def probeBias (s : State) (p : BPort) : Int := fitU ((probeAmp s p * 5).tdiv 4)

/-! ### Impedance probe (R244-R251) -/

/-- The published phase of the port's oscillator. -/
def probeTheta (s : State) (p : BPort) : Nat := s.cp.oscs[p].appliedPh / 65536

/-- Accumulate one tick (R246). -/
def probeAdd (s : State) (p : BPort) : State :=
  let v := consFast s (vslOf s p)
  let i := consFast s (islOf s p)
  let c := probeCos (probeTheta s p)
  let n := probeSin (probeTheta s p)
  s.modBat p fun b =>
    let r := b.probe
    { b with probe := { r with
      n := r.n + 1, sv := r.sv + v, si := r.si + i, svc := r.svc + v * c, svs := r.svs + v * n
      sic := r.sic + i * c, sis := r.sis + i * n, sc := r.sc + c, ss := r.ss + n, lastPh := probeTheta s p } }

/-- A window is discarded with its cause (R248). -/
def probeDiscard (s : State) (p : BPort) (cause : Nat) : State :=
  (s.modBat p fun b => { b with probe := { b.probe with run := false, ended := true, valid := false, cause := cause } }).evt
    (batPage p) 5

/-- Phases in which a probe runs (R244). -/
def probePhase (ph : Nat) : Bool := ph == 4 || ph == 6 || ph == 7

/-- The cause that discards the window in this tick, if any (R248): STOPPED first, then DISTURBED, then SUBST. -/
def probeBad (s : State) (p : BPort) : Option Nat :=
  let r := s.cp.bat[p].probe
  let ph := BP_PHASE_PHASE s p
  let dist := match storeTrain s p with
    | none => true
    | some t => s.cp.trains[t].dir || s.x.ride.held[t] ||
        !(s.cp.ceSel[t].valid && s.cp.ceSel[t].loop.val == BP_LOOPS_ICH s p)
  if !(BP_CTRL_PROBE s p) || !(probePhase ph) || !s.cp.oscs[p].run then some 4
  else if ph != r.phase0 || s.cp.bat[p].window ≠ r.window0 || dist then some 1
  else if s.cp.sup[vslOf s p].subst || s.cp.sup[islOf s p].subst then some 3
  else none

/-- Is the window open and not yet complete (R246, R247)? -/
def probeOpen (s : State) (p : BPort) : Bool :=
  let r := s.cp.bat[p].probe
  r.run && r.wraps < BP_PROBE_NPER s p

/-- Has a ride-through preset fired on the port's train in the tick that ended, after the tick was judged? -/
def rodeLate (s : State) (p : BPort) : Bool :=
  match storeTrain s p with
  | some t => s.x.ride.held[t] && decide (s.x.ride.fired < s.x.tick.count)
  | none => false

/-- Cycle 0 of a tick of the window: a wrap of the applied phase since the last tick is counted, and the last ends the window with
the tick before (R246, R247), in which a preset after it was judged still disturbs it (R248). -/
def probeBoundary (s : State) (p : BPort) : State :=
  if probeOpen s p && rodeLate s p then probeDiscard s p 1
  else if probeOpen s p && probeTheta s p < s.cp.bat[p].probe.lastPh then
    s.modBat p fun b => { b with probe := { b.probe with wraps := b.probe.wraps + 1 } }
  else s

/-- The probe in one tick (R246, R248): the window opens when the applied phase is 0, and each of its ticks is judged and added. -/
def probeTick (s : State) (p : BPort) : State :=
  let r := s.cp.bat[p].probe
  let o := s.cp.oscs[p]
  if r.run then
    if !(probeOpen s p) then s
    else match probeBad s p with
      | some c => probeDiscard s p c
      | none => probeAdd s p
  else
    let s := s.modBat p fun b => { b with probe := { b.probe with ended := b.probe.ended && o.run } }
    if o.run && !r.ended && o.dest && o.appliedPh == 0 && o.nextPh != 0 && BP_CTRL_PROBE s p
        && probePhase (BP_PHASE_PHASE s p) then
      let s := s.modBat p fun b => { b with probe :=
        { run := true, phase0 := BP_PHASE_PHASE s p, window0 := b.window, freq0 := CE_OSCn_CFG_FREQ s p, valid := r.valid, cause := r.cause
          freq := r.freq, mag := r.mag, ph := r.ph } }
      match probeBad s p with
      | some c => probeDiscard s p c
      | none => probeAdd s p
    else s

/-- The learning of R251, on a valid result. -/
def zlearn (s : State) (p : BPort) : State :=
  let b := s.cp.bat[p]
  if BP_CTRL_ZLEARN s p && b.ntcA.valid && b.ntcB.valid && (b.ntcA.temp - b.ntcB.temp).natAbs ≤ 10 then
    let s := s.setReg (a_BP_TIMP_ZREF p) (word b.probe.mag)
    let s := s.setReg (a_BP_TIMP_T0 p) (wordI (roundOpen (((b.ntcA.temp + b.ntcB.temp : Int) : Rat) / 2)))
    set_BP_CTRL_ZLEARN s p false
  else s

/-- PROBE_RESULT: the window is complete: LOWAMP, or magnitude and phase, at the frequency with which the oscillator ran when the window
began (R246-R251). -/
def execProbeResult (p : BPort) (s : State) : Host.Outcome State Fault Refusal :=
  let r := s.cp.bat[p].probe
  if !(r.run && BP_PROBE_NPER s p ≤ r.wraps) then .next s
  else
    let n : Rat := (r.n : Rat)
    let vc := r.svc - ratDiv (r.sv * r.sc) n
    let vs := r.svs - ratDiv (r.sv * r.ss) n
    let ic := r.sic - ratDiv (r.si * r.sc) n
    let is := r.sis - ratDiv (r.si * r.ss) n
    let amp : Rat := (s.cp.bat[p].amp : Rat)
    if 64 * (ic * ic + is * is) < amp * amp * n * n then .next (probeDiscard s p 2)
    else
      let k : Rat := ratDiv (GDp_VSCALE s p : Rat) (GDp_ISCALE s p : Rat) * (if BP_PROBE_ZR s p then 100000 else 1000000)
      let f := r.freq0
      let s := s.modBat p fun b => { b with probe := { b.probe with
        run := false, ended := true, valid := true, cause := 0, freq := f
        mag := min 65535 (impMagnitude vc vs ic is k), ph := impAngle vc vs ic is } }
      let s := s.evt (batPage p) 4
      let mag := s.cp.bat[p].probe.mag
      if f == BP_TIMP_CFG_FREQ s p then
        let s := if BP_TIMP_ZREF s p != 0 then
            batNewTemp (s.modBat p fun b => { b with
              tempImp := some (impTemperature (BP_TIMP_T0_I s p) (BP_TIMP_S_I s p) (BP_TIMP_ZREF s p) mag)
              impAge := 0 }) p
          else s
        .next (zlearn s p)
      else .next s

/-! ### A tick and a boundary of a port -/

/-- The port's work at R73 step 2 (R231, R239) and its accruals of the tick (R235, R246, R252). -/
def batGuard (s : State) (p : BPort) : State :=
  let s := removalTick (guardTrip (guardCount s p) p) p
  s.modBat p fun b => { b with inhibit := chargeInhibit s p, dinhibit := b.trips.discharge }

/-- The accruals of a tick, once the selectors and ceilings of the tick are known. -/
def batAccrue (s : State) (p : BPort) : State := probeTick (timersTick s p) p

/-- BP_V and BP_I of the new snapshot (R208). -/
def batMeasure (s : State) (p : BPort) : State :=
  s.modBat p fun b => { b with
    v := (consFast s (vslOf s p) * (GDp_VSCALE s p : Nat)).tdiv 65536
    i := (consFast s (islOf s p) * (GDp_ISCALE s p : Nat)).tdiv 65536 }

/-- The effective targets follow phase and window one boundary later (R224), and so do BP_PROBE_AMP and BP_PROBE_BIAS, for which R245 states
no moment (DESIGN CHOICE, log entry 109). -/
def batTargets (s : State) (p : BPort) : State :=
  s.modBat p fun b => { b with ichEff := ichEff s p, vcvEff := vcvEff s p, amp := probeAmp s p, bias := probeBias s p }

/-- The forced phases of a cycle 0 and BATREL (R210, R220, R231, R240, R241): ABSENT at a removal, FAULT in any phase but ABSENT. -/
def batForce (s : State) (p : BPort) : State :=
  let h := s.x.batHw[p]
  let b := s.cp.bat[p]
  let ph := BP_PHASE_PHASE s p
  let s := if BP_CTRL_BATEN s p then s else s.modBatHw p fun h => { h with rel := false }
  let s := if b.releaseDue then s.modBatHw p fun h => { h with rel := true } else s
  let s := s.modBat p fun b => { b with force := none, releaseDue := false }
  if h.ovc || h.removed then
    let s := removalStop s p
    let s := s.modBatHw p fun h => { h with ovc := false, removed := false, rel := true }
    let here := (BP_CFG_PRES_EN s p && pinPresent s p) || (BP_CFG_RM_NTC s p && b.ntcA.valid && b.ntcB.valid)
    if h.ovc && !h.removed && here then
      if ph == 0 then s else forceFault s p 6
    else (forcePhase s p 0).evt (batPage p) 1
  else match b.force with
    | some c => if ph == 0 then s else forceFault s p c
    | none => s

/-- The level of BAT_EN_p; the pin of a device in OFF is not driven (R209). -/
def batEnPin (s : State) (p : BPort) : Option Bool := if s.x.dev = .off then none else some s.x.batEn[p]

/-- Does the device drive BAT_EN from BP_CTRL (R209)? -/
def batLive (s : State) : Bool := (s.x.dev = .hold || s.x.dev = .run) && !s.x.col.strapsOn

/-- BAT_EN of a port at a boundary (R209-R211). -/
def batPin (s : State) (p : BPort) : State :=
  if !(batLive s) then s
  else
    let on := BP_CTRL_BATEN s p && !s.x.batHw[p].rel && GDp_CFG_VALID s p
    if on && !s.x.batEn[p] && decide (s.cp.bat[p].v < (GDp_VMIN_EN s p : Int)) then
      let s := s.modBatHw p fun h => { h with rel := true }
      if BP_PHASE_PHASE s p == 0 then s else forceFault s p 8
    else { s with x := { s.x with batEn := upd s.x.batEn p on } }

/-- The phase of a port at a boundary whose writes stand in the registers; `old` is the state before them. The hardware forces the phase
over a staged write, which then has no effect but HWFORCE; else the write moves the port (R218, R253). -/
def batPhase (old : State) (staged : Bool) (s : State) (p : BPort) : State :=
  let new := BP_PHASE_PHASE s p
  let was := if staged then BP_PHASE_PHASE old p else new
  let s := batPin (batForce (set_BP_PHASE_PHASE s p was) p) p
  if !staged then s
  else if BP_PHASE_PHASE s p != was then s.evt (batPage p) 7
  else qualWindow (phaseEntered (set_BP_PHASE_PHASE s p new) p was) p

/-- Presence and the reinsertion count at a boundary (R242): the count of boundaries, one more than the ticks held. -/
def batPresence (s : State) (p : BPort) : State :=
  let h := present s p
  let s := s.modBatHw p fun x => { x with present := h }
  s.modBat p fun b => { b with insCnt := if h && BP_PHASE_PHASE s p == 0 then b.insCnt + 1 else 0 }

/-- BP_TEMP_IMP ages (R250): 25,000,000 ticks are a minute. -/
def batAge (s : State) (p : BPort) : State :=
  let b := s.cp.bat[p]
  match b.tempImp with
  | none => s
  | some _ =>
    if timerLimit (BP_TIMP_CFG_AGE s p) ≤ b.impAge + 1 then
      batNewTemp (s.modBat p fun b => { b with tempImp := none, impAge := 0 }) p
    else s.modBat p fun b => { b with impAge := b.impAge + 1 }

end Sys2Proof.Machine
end

