-- ==== Sys2Proof/Machine/Trains.lean ====
section
/-! DEFINITION. Trains: demand, ceiling, shares, start, stop, reversal, shedding, pending configuration (R57, R72-R99). -/

namespace Sys2Proof.Machine

/-! ### Fold-back and ceiling (R73-R75) -/

/-- The output terminal of a train in its present direction is HI: STORE in charge, AUX boost (R75, R87). -/
def outIsHi (s : State) (t : Train) : Bool :=
  (trKind s t == 2 && !s.cp.trains[t].dir) || (trKind s t == 3 && trBoost s t)
/-- The slice that measures the output. -/
def outSlice (s : State) (t : Train) : Slice := if outIsHi s t then hiSlice s t else loSlice s t
/-- The measured output (R75, R87). -/
def measured (s : State) (t : Train) : Int := consFast s (outSlice s t)

/-- The base limit (R73 step 3). -/
def baseLimit (s : State) (t : Train) : Nat :=
  if trKind s t == 2 && s.cp.trains[t].dir then TR_ILIM_N_ILIM_N s t else TR_ILIM s t

/-- The fold-back limit L of a base limit (R74), truncated once; v is kept exact as x / VTGT. -/
def foldLimit (s : State) (t : Train) (b : Nat) : Nat :=
  let knee := FB_KNEE_KNEE s t
  let floor := FB_FLOOR_FLOOR s t
  let mn := FB_MIN_MIN s t
  let vt := TR_VTGT_I s t
  let x := 100 * measured s t
  if knee == 0 || vt ≤ 0 then b
  else if knee * vt ≤ x then b
  else if knee ≤ floor || x < floor * vt then b * mn / 100
  else
    let span : Int := ((knee - floor : Nat) : Int) * vt
    (((b : Int) * (mn * span + ((100 - mn : Nat) : Int) * (x - floor * vt))).tdiv (100 * span)).toNat

/-- L (R75): a STORE train in charge has no fold-back. -/
def limitL (s : State) (t : Train) : Nat :=
  if trKind s t == 2 && !s.cp.trains[t].dir then TR_ILIM s t else foldLimit s t (baseLimit s t)

/-- N_RATED; for a spanning train RG_NRATED of the master (R432). -/
def nRated (s : State) (t : Train) : Nat := if spanning s t then RG_NRATEDt_NRATED s t else nRatedHere s t
/-- N_AVAIL; for a spanning train the master's own and every member's, at most N_RATED (R432, R440). -/
def nAvail (s : State) (t : Train) : Nat :=
  if !(spanning s t) then nAvailHere s t
  else if onLastCounts s then ((s.x.ring.last.map fun f => f.trains[t].navail).getD 0)
  else min (nRated s t) (nAvailHere s t + (slotSum s fun r => (r.trains[t].avail : Nat)).toNat)
/-- N_ON (R432, R440). -/
def nOn (s : State) (t : Train) : Nat :=
  if !(spanning s t) then nOnHere s t
  else if onLastCounts s then ((s.x.ring.last.map fun f => f.trains[t].non).getD 0)
  else nOnSwitch s t + (slotSum s fun r => (r.trains[t].on : Nat)).toNat

/-- The ceiling C (R73 step 4), truncated to an integer: the rule states no rounding (DESIGN CHOICE, log entry 102). -/
def ceilOf (s : State) (t : Train) : Nat :=
  if nRated s t == 0 then 0 else limitL s t * nAvail s t / nRated s t

/-- Does the ride-through preset keep the CE's demand off a train in this tick (R200)? -/
def rideHolds (s : State) (t : Train) : Bool := s.x.ride.held[t] && s.x.ride.fired == s.x.tick.count

/-! ### Shares (R76, R91-R95) -/

/-- p of R76 for a count of legs, truncated to an integer, which the rule does not state; 0 for no leg, which takes none (DESIGN
CHOICE, log entry 102). -/
def shareOf (s : State) (t : Train) (n : Nat) : Nat :=
  if n == 0 then 0 else min 32767 (s.cp.trains[t].dem.natAbs * nRated s t / n)

/-- Is the train held in DUTY mode (R68, R155)? -/
def inDuty (s : State) (t : Train) : Bool := TR_CFG_MODE s t || s.cp.models[t].dutyHold

/-- Do the shedding and adding tests run (R69, R91, R154)? -/
def shedTests (s : State) (t : Train) : Bool :=
  TR_SHED_CFG_EN s t && !(spanning s t) && s.cp.trains[t].state = .run && !(inDuty s t) && !(TR_CFG_ONELEG s t) && !(trainInSubst s t)

/-- Available legs that are off, lowest first. -/
def offLegs (s : State) (t : Train) : List Leg :=
  (legsOf s t).filter fun n => legAvail s n && !s.cp.legs[n].on

/-- Which legs a train has on with ONELEG (R68), and all available ones once ONELEG ends (log entry 19). -/
def oneLeg (s : State) (t : Train) : State :=
  let one := TR_CFG_ONELEG s t
  let was := s.cp.trains[t].one
  let s := s.modTrain t fun r => { r with one := one }
  if !one && !was then s
  else
    let av := (legsOf s t).filter (legAvail s)
    let keep := if one then av.take 1 else av
    forAll (n := 24) s fun s n =>
      if legTrain s n == some t && !(pairOut s n) then
        s.modLeg n fun l => { l with on := keep.contains n } else s

/-- The lowest available leg that is off is added, with PG_EVT.ADD (R93). -/
def addLeg (s : State) (t : Train) : State :=
  match offLegs s t with
  | n :: _ => (s.modLeg n fun l => { l with on := true }).evt (0x08 + t.val) 1
  | [] => s

/-- R73 step 5: the delay counter, the cancel of a shed in its second tick, and the adding of a leg (R92-R95). While the tests do not
run the counter stands at 0 and a shed in progress is cancelled (DESIGN CHOICE, log entry 104). With no leg on, the share is
beyond every threshold, and a leg is added whatever the tests (R98, log entry 102). -/
def shedStep (s : State) (t : Train) : State :=
  let n := nOn s t
  let p := shareOf s t n
  let above := decide (TR_SHED_HI_HI s t < p)
  if n == 0 && !(spanning s t) then addLeg (cancelShed s t) t
  else if !(shedTests s t) then (cancelShed s t).modTrain t fun r => { r with shedCnt := 0 }
  else
    let s := if s.cp.trains[t].rampWritten && above then cancelShed s t else s
    let s := s.modTrain t fun r => { r with
      shedCnt := if p < TR_SHED_LO_LO s t && !r.shedding then satInc 65535 r.shedCnt else 0 }
    if above then addLeg s t else s

/-- TRAIN_SHED: the delay counter has reached TR_SHED_DLY: the highest on leg begins its ramp-out (R92). -/
def execTrainShed (t : Train) (s : State) : Host.Outcome State Fault Refusal :=
  let r := s.cp.trains[t]
  if shedTests s t && !r.shedding && TR_SHED_DLY s t ≤ r.shedCnt && TR_SHED_CFG_SMIN s t < nOn s t then
    match ((onLegs s t).filter (legAvail s)).reverse with
    | n :: _ => .next (s.modTrain t fun r => { r with shedding := true, leaving := some n, rampWritten := false, shedCnt := 0 })
    | [] => .next s
  else .next s

/-- SHED_OFF_STEP: the tick after the ramp-out was written, the leaving leg gets its off step and leaves N_ON (R92). -/
def execShedOffStep (t : Train) (s : State) : Host.Outcome State Fault Refusal :=
  let r := s.cp.trains[t]
  match r.leaving with
  | some n =>
    if r.shedding && r.rampWritten && !s.x.tick.written then
      .next (((s.modLeg n fun l => { l with on := false }).modTrain t fun r =>
        { r with shedding := false, rampWritten := false, shedCnt := 0 }).evt (0x08 + t.val) 0)
    else .next s
  | none => .next s

/-! ### The demand (R73 steps 1 to 4) -/

/-- Is a demand of the sign opposite to the train's direction? -/
def opposite (s : State) (t : Train) (d : Int) : Bool := d != 0 && (decide (d < 0) != s.cp.trains[t].dir)

/-- Limit |D| to c. -/
def limitD (c : Nat) (d : Int) : Int := clampI (-(c : Int)) c d

/-- The state override of a train (R73 step 2): the selector's demand, the STOP ramp of R88, or 0 in a
state with outputs low (R83, log entry 54). -/
def overrideD (s : State) (t : Train) : Int :=
  let r := s.cp.trains[t]
  match r.state with
  | .softstart | .run | .reverse => r.sel
  | .stop =>
    let tk := TR_STOP_TK_TK s t
    (r.dEntry * ((tk - (r.stopN + 1) : Nat) : Int)).tdiv ((max 1 tk : Nat) : Int)
  | _ => 0

/-- The clamps of R73 step 2: sign of INTAKE and AUX (R72), a dead or ramping node (R184, R185), substitution (R154), charge
and discharge inhibit (R223), the start direction before release (R87). -/
def clampD (s : State) (t : Train) (d : Int) : Int :=
  let d := if trKind s t != 2 then max d 0 else d
  let node := s.x.nodes[trNode s t]
  -- the node of a spanning train acts through the counts, never through the demand (R434)
  let d := if nodeDead s t && !(spanning s t) then 0 else d
  let d := if trKind s t == 1 && node.state = .ramp then limitD node.ramp d else d
  let d := if trainInSubst s t then limitD (SVt_SUB_CLAMP s t) d else d
  let b := s.cp.bat[portOf s t]
  let d := if trKind s t == 2 && b.inhibit then min d 0 else d
  let d := if trKind s t == 2 && b.dinhibit then max d 0 else d
  match s.cp.trains[t].state with
  | .softstart => if s.cp.trains[t].released then d
      else if trKind s t == 2 && s.cp.trains[t].dir then min d 0 else max d 0
  | _ => d

/-- A STORE train's direction (R89, R90): a reversal begins, goes on, or the other sign is written as 0. -/
def direct (s : State) (t : Train) (d : Int) : State × Int :=
  let r := s.cp.trains[t]
  if trKind s t != 2 then (s, d)
  else match r.state with
  | .run =>
    if opposite s t d then
      if TR_REV_TH_REV s t ≤ d.natAbs then
        ((setTrain (cancelShed s t) t .reverse).modTrain t fun r => { r with rev := 1 }, 0)
      else (s, 0)
    else (s, d)
  | .reverse =>
    if r.rev == 1 then (s.modTrain t fun r => { r with rev := 2, dir := !r.dir }, 0)
    else (s.modTrain t fun r => { r with rev := 3 }, if opposite s t d then 0 else d)
  | _ => (s, if opposite s t d then 0 else d)

/-- Soft start (R84, R87): rectifier release, and RUN when the reference reaches the set-point sl of OLOOP, or 32767 when
that loop is not enabled. -/
def softstartEnd (s : State) (t : Train) : State :=
  let r := s.cp.trains[t]
  if r.state = .softstart then
    let ref := ssRefCode r
    let l := ix16 (TR_CFG_OLOOP s t)
    let goal := if LP_CFG_EN s l then s.cp.loops[l].sl else 32767
    let s := if (TR_SS_SRM s t : Int) ≤ ref - measured s t then s.modTrain t fun r => { r with released := true } else s
    if goal ≤ ref then setTrain (s.modTrain t fun r => { r with released := true }) t .run else s
  else s

/-- R99: too few legs, and none. -/
def availTest (s : State) (t : Train) : State :=
  match s.cp.trains[t].state with
  | .off | .fenced => s
  | _ =>
    let na := nAvail s t
    let s := if na < TR_SHED_CFG_NMIN s t then raise s (0x08 + t.val) 1 else s
    if na == 0 then trainHold (raise s (0x08 + t.val) 0) t else s

/-- The ceiling of a train that another device computes, from the N_AVAIL of the last demand frame, and never below the |D| that the loops
of this device track (R124, R436; DEDUCED, log entry 107). -/
def slaveCeil (s : State) (t : Train) : Nat :=
  let n := match s.x.ring.last with | some f => f.trains[t].navail | none => nAvail s t
  max s.cp.trains[t].dem.natAbs (if nRated s t == 0 then 0 else limitL s t * n / nRated s t)

/-- One train at cycles 776-783 (R73). Of a train that another device computes, this one forms only the ceiling for its own loops. -/
def trainProcess (s : State) (t : Train) : State :=
  if spanSlave s t then s.modTrain t fun v => { v with ceil := slaveCeil s t }
  else
  let s := availTest s t
  if rideHolds s t then s
  else
    let s := softstartEnd s t
    let want := clampD s t (overrideD s t)
    let r := direct s t want
    let s := r.1
    let l := limitL s t
    let folded := decide (l < baseLimit s t)
    let fevt := folded && !s.cp.trains[t].fold
    let c := ceilOf s t
    let d := limitD c r.2
    let node := s.x.nodes[trNode s t]
    let s := s.modTrain t fun v => { v with
      want := want, dem := d, ceil := c, foldLim := l, fold := folded, ceilAct := d != r.2
      deSoft := trKind s t == 1 && node.state = .ramp
      stopN := if v.state = .stop then v.stopN + 1 else v.stopN }
    let s := if fevt then s.evt (0x08 + t.val) 5 else s
    if s.cp.trains[t].state.switching then shedStep (oneLeg s t) t else s

/-- From cycle 776 of tick k + 2 on a master uses the slots of tick k (R419); a successor's own counts begin with the first of its own frames
(R440). -/
def useSlots (s : State) : State :=
  if !(ringMaster s) then s
  else
    let k := word (s.x.tick.num + 281474976710654)
    let ok (r : Option RingSlot) : Option RingSlot := match r with
      | some r => if r.tick == k && r.valid then some r else none
      | none => none
    let use (q : Pos) : Option RingSlot :=
      let v := s.x.ring.know[q]
      if q.val == s.x.ring.pos || !v.member then none
      else ((ok v.slot).orElse fun _ => ok v.slot1).orElse fun _ => ok v.slot2
    let own := s.x.ring.ownSlots || s.x.ring.sinceMaster + 2 ≤ s.x.tick.count
    { s with x := { s.x with ring := { s.x.ring with inUse := tab use, ownSlots := own } } }

/-- TRAIN_PROCESSING: cycles 776-783 (R73): selectors (R122), the guard (R231), every train, the deferred section updates
(R124), and the accruals of the tick. A checker that trips fences the train being processed and records a slot
(R139, R402): the slot whose deferred update failed, or, for a selector, which has no slot, a value that the spec leaves open
and the command brings (log entry 107). In SAFE the CE and the trains stop (R390), and the guard tests on (R231; DEDUCED, log entry
109). -/
def execTrainProcessing (f : TrainCheck) (s : State) : Host.Outcome State Fault Refusal :=
  if s.x.dev = .safe then .next (forAll (n := 4) s batGuard)
  else if !(working s) then .next s
  else
    let s := forAll (n := 4) (selectAll (useSlots s)) batGuard
    let s := powerPathEvents (forAll (n := 8) s trainProcess)
    let s := forAll (n := 16) s deferredUpdate
    let s := forAll (n := 4) s batAccrue
    .next (match f.fault with
      | .parity c => ceTrip s f.slot false c [.train f.train]
      | .ecc2 c => ceTrip s f.slot true c (slotUnits s f.slot)
      | .ecc1 => eccCorrected s
      | .selfCheck _ => s
      | .overrun c => overrun s c [.train f.train]
      | .none => s)

/-! ### The demand write at cycle 784 (R73, R76, R92) -/

/-- Are the rectifiers of a train in diode emulation (R83, R87, R89, R185)? -/
def trainDe (s : State) (t : Train) : Bool :=
  let r := s.cp.trains[t]
  TR_CFG_DE_LIGHT s t || r.deSoft ||
  (match r.state with
   | .softstart => !r.released
   | .stop => true
   | .reverse => r.rev ≤ 2
   | _ => false)

/-- The protective code of DUTY mode (R76, R155). -/
def protectCode (s : State) (t : Train) : Nat :=
  let lim := if s.cp.models[t].dutyHold then min (TR_ILIM s t) (SVt_SUB_CLAMP s t) else TR_ILIM s t
  if nAvail s t == 0 then 0 else min 1023 (lim * nRated s t / nAvail s t / 32)

/-- The on-time of DUTY mode in taps: p x 960 cycles in whole taps, at most TR_TONMAX (R68), or the held one (R155). -/
def dutyTon (s : State) (t : Train) (p : Nat) : Nat :=
  min (if s.cp.models[t].dutyHold then s.cp.models[t].dutyMean.getD 0 else p * 15 / 8) (TR_TONMAX s t * 64)

/-- The shadow for a share and step. -/
def mkShadow (s : State) (t : Train) (p : Nat) (step : LegStep) : LegShadow :=
  let duty := inDuty s t
  { share := p, code := if duty then protectCode s t else p / 32, duty := duty
    ton := if duty then dutyTon s t p else 0
    disch := trKind s t == 2 && s.cp.trains[t].dir
    de := trainDe s t || step = .rampOut, step := step }

/-- The shares of one train go to the shadows of its legs; a spanning train's go into the demand frame (R433). p_r of R92 is truncated
and limited like p, and the leaving leg takes half of that value, truncated (DESIGN CHOICE, log entry 102). -/
def writeShadows (s : State) (t : Train) : State :=
  let r := s.cp.trains[t]
  if spanning s t || rideHolds s t || !r.state.switching then s
  else
    let n := nOn s t
    let ramp := r.shedding && !r.rampWritten
    let pr := min 32767 (if n == 0 then 0 else r.dem.natAbs * nRated s t * 2 / (2 * n - 1))
    let p := if ramp then pr else shareOf s t n
    let s := forAll (n := 24) s fun s k =>
      if legTrain s k == some t && !(pairOut s k) then
        let l := s.cp.legs[k]
        let sh : LegShadow :=
          if !(legAvail s k) then {}
          else if r.leaving == some k && ramp then mkShadow s t (pr / 2) .rampOut
          else if r.leaving == some k && !r.shedding then { mkShadow s t 0 .shedOff with de := true }
          else if l.on then mkShadow s t p .on
          else if l.shadow.step = .shedOff then l.shadow
          else {}
        s.modLeg k fun l => { l with shadow := sh }
      else s
    s.modTrain t fun v =>
      if v.shedding then { v with rampWritten := true } else { v with leaving := none }

/-- One train of the demand frame the master sends (R418). -/
def frameTrain (s : State) (t : Train) : DemandTrain :=
  let r := s.cp.trains[t]
  let n := nOn s t
  let p := shareOf s t n
  { d := r.dem, share := p, code := if inDuty s t then protectCode s t else p / 32, state := r.state.code, dir := r.dir
    de := trainDe s t, duty := inDuty s t, ceil := r.ceilAct, navail := nAvail s t, non := n
    ipred := predicted s t }

/-- The demand frame of the tick, sent out of both ports at cycle 785 (R413, R418); after a trip it carries the demand of the
tick before, marked HELD (R37). -/
def sendDemand (s : State) (held : Bool) : State :=
  if !(ringMaster s) then s
  else
    let r := s.x.ring
    let f : DemandFrame := match held, r.txDemand with
      | true, some f => { f.frame with num := s.tickW, held := true }
      | _, _ => { ok := true, mpos := ⟨r.pos % 8, by omega⟩, num := s.tickW, held := held, span := RG_SPAN_SPAN s
                  trains := tab (frameTrain s) }
    { s with x := { s.x with ring := { r with txDemand := some ⟨f, [true, false].filter (portIn s)⟩ } } }

/-- DEMAND_SHADOW_WRITE: cycle 784 (R73). After a trip at or before cycle 783 nothing is written (R37). -/
def execDemandShadowWrite (s : State) : Host.Outcome State Fault Refusal :=
  if !(working s) then .next s
  else
    let quiet := s.x.tick.trips.isEmpty
    let s := if quiet then forAll (n := 8) s writeShadows else s
    let s := sendDemand s !quiet
    .next (s.modTick fun t => { t with written := true })

/-- A train state from its code (R83). -/
def TrState.ofCode : Nat → TrState
  | 0 => .off | 1 => .prebias | 2 => .softstart | 3 => .run | 4 => .stop | 5 => .reverse | 6 => .hold | _ => .fenced

/-- The results of the master's demand frame for one train of this device (R433). -/
def applyDemand (s : State) (f : DemandFrame) (t : Train) : State :=
  if !(nbit f.span t) then s
  else
    let d := f.trains[t]
    let st := TrState.ofCode d.state
    let s := if ringMaster s then s else
      setTrain (s.modTrain t fun r => { r with dem := d.d, ceilAct := d.ceil, dir := d.dir }) t
        (if s.isFenced (.train t) then .fenced else st)
    let s := if s.cp.trains[t].state.switching then s else legsOff s t
    forAll (n := 24) s fun s n =>
      if legTrain s n == some t && !(pairOut s n) then
        let on := legAvail s n && st.switching && s.cp.trains[t].state.switching
        let sh : LegShadow :=
          if !on then {}
          else { share := d.share, code := d.code, duty := d.duty
                 ton := if d.duty then min (d.share * 15 / 8) (TR_TONMAX s t * 64) else 0
                 disch := d.dir && trKind s t == 2, de := d.de, step := .on }
        s.modLeg n fun l => { l with shadow := sh, on := on }
      else s

/-- SPANNING_DEMAND_APPLY: at cycle 240 every device of the ring writes the demand frame of the last tick into its shadows
(R433); without a valid copy the values in force stay. In SAFE every train stops (R390). A device that enters at tick E takes its first demand in tick E+3 (R446). -/
def execSpanningDemandApply (s : State) : Host.Outcome State Fault Refusal :=
  let r := s.x.ring
  if s.x.dev = .safe || !(ringFormed s) || (!(ringMaster s) && s.x.tick.count < r.memberAt + 3) then .next s
  else
    let f := if ringMaster s then r.txDemand.map (·.frame) else r.frame
    let s := { s with x := { s.x with ring := { r with frame := none } } }
    match f with
    | some f => .next (forAll (n := 8) s fun s t => applyDemand s f t)
    | none => .next s

/-! ### Stop, reversal, share test -/

/-- TRAIN_STOP_END: TR_STOP_TK ticks of ramp are over: OFF (R84, R88). -/
def execTrainStopEnd (t : Train) (s : State) : Host.Outcome State Fault Refusal :=
  let r := s.cp.trains[t]
  if r.state = .stop && TR_STOP_TK_TK s t ≤ r.stopN then .next (legsOff (setTrain s t .off) t) else .next s

/-- TRAIN_REVERSE_COMPLETE: two ticks after the reversal began: RUN with REVERSED (R84, R89); a demand of the old sign then
begins a new reversal (R90). -/
def execTrainReverseComplete (t : Train) (s : State) : Host.Outcome State Fault Refusal :=
  let r := s.cp.trains[t]
  if r.state = .reverse && r.rev == 3 then
    let s := (setTrain (s.modTrain t fun r => { r with rev := 0 }) t .run).evt (0x08 + t.val) 3
    if opposite s t r.want && TR_REV_TH_REV s t ≤ r.want.natAbs then
      .next ((setTrain s t .reverse).modTrain t fun r => { r with rev := 1, dem := 0 })
    else .next s
  else .next s

/-- Does a leg estimate deviate from the mean by more than the threshold (R80)? -/
def shareFar (th n i : Int) (e : Option Int) : Bool :=
  match e with
  | some e => th != 0 && n != 0 && decide (th * ((5 * i).natAbs : Int) < ((e * n - 5 * i).natAbs : Int) * 100)
  | none => false

/-- TR_IEST and the counts of the share test on the leg estimates of the tick (R80). -/
def trainEstimate (s : State) (t : Train) : State :=
  let ls := legsOf s t
  let i := trainIest s t
  let n : Int := (nOn s t : Nat)
  let th : Int := (TR_SHARE_TH_TH s t : Nat)
  let s := s.modTrain t fun r => { r with iest := i }
  ls.foldl (fun (s : State) (k : Leg) =>
    let d := shareFar th n i s.x.hw[k].iest
    s.modLeg k fun l => { l with devCnt := if d then satInc 64 l.devCnt else 0 }) s

/-- SHARE_DEVIATION of a leg: its estimate has deviated for 64 consecutive ticks (R80). -/
def execShareDeviation (n : Leg) (s : State) : Host.Outcome State Fault Refusal :=
  if 64 ≤ s.cp.legs[n].devCnt then
    let s := s.evt (0x10 + n.val) 0
    .next (match legTrain s n with | some t => s.evt (0x08 + t.val) 4 | none => s)
  else .next s

/-! ### Pending configuration (R57) -/

/-- Take the P bits of a register into the adopted copy. -/
def adopt (s : State) (a : Nat) (mask : Word) : State :=
  let r := s.cp.adopted.set a ((s.ad a &&& ~~~mask) ||| (s.reg a &&& mask))
  { s with cp := { s.cp with adopted := r } }

/-- Do the P bits of a register wait for adoption? -/
def pendingP (s : State) (a : Nat) (mask : Word) : Bool := (s.ad a ^^^ s.reg a) &&& mask != 0

/-- P bits of TR_CFG: KIND, BOOST, TERM (R100). -/
def trCfgP : Word := 0xD300
/-- P bits of L_CFG: HIRANGE, SNSINV (R101). -/
def lCfgP : Word := 0xC000

/-- TR_STAT.CFG_PEND. -/
def cfgPend (s : State) (t : Train) : Bool := pendingP s (a_TR_CFG t) trCfgP
/-- L_STAT.PHASE_PEND. -/
def phasePend (s : State) (n : Leg) : Bool :=
  pendingP s (a_L_PHASE n) 0xFFFF || pendingP s (a_L_CFG n) lCfgP
/-- PL_STAT.MAP_PEND. -/
def mapPend (s : State) : Bool :=
  (List.range 6).any (fun m => pendingP s (a_PL_MAP m) 0xFFFF) || pendingP s a_PL_PAIR 0x0FFF

/-- The map code and pair bit of a leg in the registers, not yet adopted. -/
def newMap (s : State) (n : Leg) : Nat × Bool :=
  let k := 4 * (n.val % 4)
  (bits (PL_MAP_W s (n.val / 4)) (k + 3) k, bit (PL_PAIR_W s) (n.val / 2))

/-- Is a train in OFF, and not held by a calibration run (R57, R358)? -/
def trOff (s : State) (t : Train) : Bool :=
  s.cp.trains[t].state = .off && !(s.x.cal.kind == 1 && s.x.cal.target == t.val)
/-- Is the train of a map code in OFF, or the code names none? -/
def codeOff (s : State) (c : Nat) : Bool := if h : c < 8 then trOff s ⟨c, h⟩ else true

/-- Every train that the map change concerns is in OFF. -/
def mapFree (s : State) : Bool :=
  (List.finRange 24).all fun n =>
    let new := newMap s n
    let changed := new.1 != mapCode s n || new.2 != paired s n
    !changed || (codeOff s new.1 && codeOff s (mapCode s n))

/-- A pair whose legs are mapped to different trains (R82). -/
def mapConflict (s : State) : Bool :=
  (List.finRange 24).any fun n => paired s n && mapCode s n != mapCode s (partner n)

/-- The delay lines take their cells per cycle where every train of the leg is in OFF (R354). They are no part of the checkpoint (R372). -/
def adoptCells (s : State) : State :=
  let v := s.x.cal
  let take (n : Leg) (old new : Word) : Word := if codeOff s (mapCode s n) then new else old
  s.modCal fun _ => { v with
    ldH := tab fun n => take n v.ldH[n] (s.reg (a_CAL_LDn_H n)), ldL := tab fun n => take n v.ldL[n] (s.reg (a_CAL_LDn_L n)) }

/-- Adopt every pending field whose trains are all in OFF (R57, R354); a conflict of the map raises MAP_CONFLICT (R82). -/
def adoptPending (s : State) : State :=
  let s := adoptCells s
  let s := forAll (n := 8) s fun s t => if cfgPend s t && trOff s t then adopt s (a_TR_CFG t) trCfgP else s
  let s := forAll (n := 24) s fun s n =>
    if phasePend s n && codeOff s (mapCode s n) then adopt (adopt s (a_L_PHASE n) 0xFFFF) (a_L_CFG n) lCfgP else s
  if mapPend s && mapFree s then
    let s := (List.range 6).foldl (fun s m => adopt s (a_PL_MAP m) 0xFFFF) s
    let s := adopt s a_PL_PAIR 0x0FFF
    if mapConflict s then raise s 0x28 0 else s
  else s

/-- PENDING_CONFIG_ADOPT (R57). -/
def execPendingConfigAdopt (s : State) : Host.Outcome State Fault Refusal := .next (adoptPending s)

/-! ### Train states at cycle 0 (R84-R88) -/

/-- Does a tap calibration run hold a train (R358)? -/
def calHolds (s : State) (t : Train) : Bool := s.x.cal.kind == 1 && s.x.cal.target == t.val

/-- A slot in use shows that a calibration run of another device holds the train (R437). -/
def calHeldAfar (s : State) (t : Train) : Bool :=
  spanning s t && (List.finRange 8).any fun q => match slotInUse s q with | some r => nbit r.calHold t | none => false

/-- The conditions of a start (R84, R358, R437). -/
def startOk (s : State) (t : Train) : Bool :=
  !(calHolds s t) && !(calHeldAfar s t) && s.x.dev = .run && trKind s t != 0 && TR_IFS s t != 0 && TR_SHED_CFG_NMIN s t ≤ nAvail s t

/-- PREBIAS begins (R87): direction, soft-start reference at the measured output, the sense test of R64. -/
def startTrain (s : State) (t : Train) : State :=
  let s := s.modTrain t fun r => { r with
    dir := trKind s t == 2 && TR_CTRL_SDIR s t, released := false, dem := 0, stopN := 0, rev := 0, shedCnt := 0
    shedding := false, leaving := none, rampWritten := false, one := false }
  let s := setTrain s t .prebias
  let s := s.modTrain t fun r => { r with ssRef := measured s t * 256 }
  { s with x := { s.x with senseTest := true } }

/-- STOP begins with the demand last written (R88). -/
def beginStop (s : State) (t : Train) : State :=
  setTrain ((cancelShed s t).modTrain t fun r => { r with
    stopN := 0, dEntry := if r.state = .reverse then 0 else r.dem, rev := 0 }) t .stop

/-- The soft-start reference rises (R87). -/
def ssRise (s : State) (t : Train) : State :=
  s.modTrain t fun r => { r with ssRef := min (r.ssRef + (TR_SS_RATE s t : Nat)) (32767 * 256) }

/-- Every available leg of a train is on. -/
def legsOn (s : State) (t : Train) : State :=
  forAll (n := 24) s fun s n =>
    if legTrain s n == some t && !(pairOut s n) then s.modLeg n fun l => { l with on := legAvail s n } else s

/-- Cycle 0 of one train (R84): the triggers that are levels in force. The ride-through preset of this cycle 0 comes before STOP
(R85), and its soft-start reference goes on (R87). A train whose state another device computes has its sense test in the tick that finds it in PREBIAS (R64, R433; DEDUCED, log entry
105). -/
def trainBoundary (s : State) (t : Train) : State :=
  if spanSlave s t then
    (if s.cp.trains[t].state = .prebias then { s with x := { s.x with senseTest := true } } else s)
  else if rideHolds s t then ssRise s t else
  let run := TR_CTRL_RUN s t
  let s := if run then s else s.modTrain t fun r => { r with refused := false }
  match s.cp.trains[t].state with
  | .hold => if run then s else legsOff (setTrain s t .off) t
  | .prebias =>
    let s := legsOn s t
    if run then ssRise (setTrain s t .softstart) t else beginStop s t
  | .softstart | .run | .reverse => if run then ssRise s t else beginStop s t
  | _ => s

/-- A train in OFF with RUN = 1 in force starts or is refused, the latter reported once (R84). -/
def trainStart (s : State) (t : Train) : State :=
  if spanSlave s t then s
  else if s.cp.trains[t].state = .off && TR_CTRL_RUN s t then
    if startOk s t then startTrain s t
    else if s.cp.trains[t].refused then s
    else (s.modTrain t fun r => { r with refused := true }).evt (0x08 + t.val) 7
  else s

/-- The preload demand and duty of a start (R87 step 2). -/
def preload (s : State) (t : Train) : State :=
  if s.cp.trains[t].state = .prebias then
    let sumN := nRated s t + (List.finRange 8).foldl (fun a (u : Train) =>
      if u != t && nbit (SVt_NODE_TRAINS s t) u && s.cp.trains[u].state.switching then a + nRated s u else a) 0
    let raw : Rat := ratDiv (iNet s t * 163840) ((sumN * TR_IFS s t : Nat) : Rat)
    let d0 := raw.num.tdiv raw.den
    let disch := trKind s t == 2 && s.cp.trains[t].dir
    let d1 := if disch then min (-d0) 0 else max d0 0
    let dem := if SVt_CFG_EN s t && nodeSlice s t == outSlice s t then limitD (ceilOf s t) d1 else 0
    let ratio : Rat := ratDiv (vLo s t : Rat) (vHi s t : Rat)
    let duty := clampI 0 32767 (roundOpen (32768 * (if outIsHi s t then 1 - ratio else ratio)))
    preloadLoops (s.modTrain t fun r => { r with preDem := dem, preDuty := duty }) t
  else s

end Sys2Proof.Machine
end

