-- ==== Sys2Proof/Machine/Conv.lean ====
section
/-! DEFINITION. The conversion subsystem: words, fine path, windows, open wire, AX, calibration, tracing (R255-R293). -/

namespace Sys2Proof.Machine

/-- The converter of a slice. -/
def convOf (i : Slice) : Conv := ⟨i.val, by omega⟩
/-- The spare. -/
def spareConv : Conv := 16
/-- The auxiliary converter. -/
def axConv : Conv := 17
/-- The page of a slice. -/
def slPage (i : Slice) : Nat := 0x41 + i.val
/-- The nearest integer, halves rounded up (R260). -/
def rnd (x : Rat) : Int := (x + 1 / 2).floor
/-- The range of a 24-bit result. -/
def sat24 (x : Int) : Int := clampI (-8388608) 8388607 x

/-- The corrected result of a raw one (R260), saturated to 24 bits; halves are rounded up. -/
def correctWith (offs gain err r : Int) : Int :=
  sat24 (((r - 16 * offs) * (131072 + gain) * (131072 + err) + 8589934592).fdiv 17179869184)

/-- Is the slice privileged (R284)? -/
def privileged (s : State) (i : Slice) : Bool := nbit (ADC_PRIV s) i

/-- The declared reference voltage in microvolts (R356). -/
def calVref (s : State) : Nat := CAL_VREF_H_VREF s * 65536 + CAL_VREF_L s

/-- The length of a trace, in ticks (R291). -/
def traceLen : Nat := 131078

/-- Has the trace run its length: is this, or is past, the cycle 0 at which its result is written (R291)? -/
def traceOver (s : State) : Bool := s.x.trace.running && decide (s.x.trace.since + traceLen ≤ s.x.tick.count)

/-- The result of a trace (R291), none beyond 1 % (R292). -/
def traceValue (s : State) : Option Int :=
  let t := s.x.trace
  let m : Rat := ratDiv ((t.sc - t.sz : Int) : Rat) 65536
  let r0 : Rat := (calVref s : Rat) * 8388608 / 1250000
  let e := rnd ((ratDiv r0 m - 1) * 131072)
  if 1311 < e.natAbs then none else some e

/-- ADC_REF_ERR as it corrects the words of the tick: a trace's result counts from the cycle 0 at which it is written (R291). -/
def refErr (s : State) : Int :=
  if traceOver s then (traceValue s).getD (ADC_REF_ERR_I s) else ADC_REF_ERR_I s

/-- The corrected result of converter c (R260). -/
def correct (s : State) (c : Conv) (r : Int) : Int :=
  if h : c.val < 16 then
    let i : Slice := ⟨c.val, h⟩
    correctWith (SL_OFFS_I s i) (SL_GAIN_I s i) (if privileged s i then refErr s else 0) r
  else correctWith (signed 16 s.x.bg.spOffs.toNat) (signed 16 s.x.bg.spGain.toNat) (refErr s) r

/-- The converter that stands as alternative of slice i. -/
def altConv (s : State) (i : Slice) : Conv :=
  match s.cp.sup[i].altKind with
  | .spare => spareConv
  | .partner => convOf (pairMate i)
  | .own => convOf i

/-- The converter that delivers a slice (R152, R161, R286, R288); after a readmission the alternative that served it for three ticks more
(R166, R289). -/
def delivBy (s : State) (i : Slice) : Conv :=
  let v := s.cp.sup[i]
  if v.alt = .serving || (v.back != 0 && !s.isFenced (.conv (altConv s i))) then altConv s i
  else if standsIn s i then spareConv
  else convOf i

/-! ### The fine path (R262-R265) -/

/-- A cycle of the present tick, counted from reset. -/
def cycleNow (s : State) (cyc : Nat) : Nat := s.x.tick.count * 960 + cyc

/-- A trigger of a one-shot conversion at a cycle of the tick; several in one cycle are one (R264). It waits in `trigs` for what else
falls in its cycle. A converter that is off takes none (DEDUCED from R295, log entry 117). -/
def fineTrigger (s : State) (i : Slice) (cyc : Nat) : State :=
  let at_ := cycleNow s cyc
  if SL_CFG_FMODE s i != 2 || !(SL_CFG_EN s i) || s.x.slices[i].trigs.contains at_ then s
  else s.modSl i fun v => { v with trigs := v.trigs.filter (· < at_) ++ at_ :: v.trigs.filter (at_ < ·) }

/-- A trigger is taken: it begins a conversion, is held, or counts as an overrun (R264). -/
def fineTake (s : State) (i : Slice) : State :=
  let v := s.x.slices[i]
  if !v.busy then s.modSl i fun v => { v with busy := true }
  else if !v.held then s.modSl i fun v => { v with held := true }
  else (s.modSl i fun v => { v with ovr := satInc 0xFFFF v.ovr }).evt (slPage i) 3

/-- The triggers before a cycle are taken, in their order (R264). -/
def fineTakeBefore (s : State) (i : Slice) (cyc : Nat) : State :=
  let l := s.x.slices[i].trigs
  (l.filter (· < cyc)).foldl (fun s _ => fineTake s i) (s.modSl i fun v => { v with trigs := l.filter (cyc ≤ ·) })

/-- The end of a tick: every trigger that waits is taken. -/
def fineTickEnd (s : State) : State := forAll (n := 16) s fun s i => fineTakeBefore s i (cycleNow s 960)

/-- FINE_CONVERSION_DONE of slice i with its raw result: latched at the next cycle 0 (R263); a held trigger starts the next
conversion, and a trigger of the same cycle comes after the completion (R264). A continuous path publishes from its fourth result on. In
SLEEP only slices in low power convert (R275). -/
def execFineConversionDone (i : Slice) (f : FineDone) (s0 : State) : Host.Outcome State Fault Refusal :=
  let s := fineTakeBefore s0 i (cycleNow s0 f.cyc.val)
  let v := s.x.slices[i]
  let r := correct s (delivBy s i) f.raw.toInt
  let c := s.x.conv[delivBy s i]
  let frozen := c.fault && !s.isFenced (.conv (delivBy s i))
  let r := if frozen then v.fine else r
  let asleep := s.x.dev = .sleep && (!(SL_CFG_LP s i) || delivBy s i == spareConv)
  if !(SL_CFG_EN s i) || asleep then .next s
  else match SL_CFG_FMODE s i with
  | 1 => .next (s.modSl i fun v =>
      if v.results < 3 then { v with results := v.results + 1 } else { v with next := some r })
  | 2 => if v.busy then .next (s.modSl i fun v => { v with next := some r, busy := v.held, held := false }) else .next s
  | _ => .next s

/-- SL_START: SL_CTRL.START triggers at the boundary (R264). -/
def execSlStart (i : Slice) (s : State) : Host.Outcome State Fault Refusal := .next (fineTrigger s i 0)

/-- SL_OVR_CLR: SL_CTRL.OVR_CLR clears SL_OVR (R295). -/
def execSlOvrClr (i : Slice) (s : State) : Host.Outcome State Fault Refusal :=
  .next (s.modSl i fun v => { v with ovr := 0 })

/-- A change of FMODE or FRATE restarts the path at its boundary and abandons what it converts (R263), and so does one of EN (DEDUCED from
R295, log entry 117). -/
def fineRestart (old s : State) : State :=
  forAll (n := 16) s fun s i =>
    if bits (SL_CFG_W old i) 13 9 != bits (SL_CFG_W s i) 13 9 || SL_CFG_EN old i != SL_CFG_EN s i then
      s.modSl i fun v => { v with busy := false, held := false, results := 0 }
    else s

/-- Cycle 0 of a fine path: the completed result is latched (R263); a change of the delivering converter restarts the path, where a
conversion in progress begins again (R265). -/
def fineBoundary (s : State) (i : Slice) : State :=
  let tk := s.tickW
  let v := s.x.slices[i]
  let s := match v.next with
    | some r => (s.modSl i fun v => { v with fine := r, fineTk := tk, fnew := true, next := none }).evt (slPage i) 2
    | none => s.modSl i fun v => { v with fnew := false }
  let s := if (delivBy s i).val != s.x.slBy[i] then s.modSl i fun v => { v with results := 0 } else s
  { s with x := { s.x with slBy := upd s.x.slBy i (delivBy s i).val } }

/-! ### Window comparators (R268) -/

/-- The window condition after a word, with its hysteresis. -/
def windowCond (s : State) (i : Slice) (was : Bool) (w : Int) : Bool :=
  let lo := SL_WLO_I s i
  let hi := SL_WHI_I s i
  let h : Int := if was then (SL_WIN_CFG_HYST s i : Nat) else 0
  match SL_WIN_CFG_MODE s i with
  | 1 => decide (hi - h < w)
  | 2 => decide (w < lo + h)
  | 3 => decide (hi - h < w) || decide (w < lo + h)
  | 4 => decide (lo - h ≤ w) && decide (w ≤ hi + h)
  | _ => false

/-- The comparator judges a word produced at a cycle of the tick: a crossing sets WIN and may trigger a one-shot two cycles later
(R268). -/
def judgeWindow (s : State) (i : Slice) (w : Int) (cyc : Nat) : State :=
  if !(SL_CFG_EN s i) || SL_CFG_LP s i || settling s i then
    (if settling s i then s else s.modSl i fun v => { v with win := false })
  else
    let was := s.x.slices[i].win
    let now := windowCond s i was w
    let s := s.modSl i fun v => { v with win := now }
    if now && !was then
      let s := s.evt (slPage i) 1
      if SL_WIN_CFG_TRIG s i then fineTrigger s i (cyc + 2) else s
    else s

/-- A raw result as a fast word with extension bits. -/
def splitWord (r : Int) : Int × Nat := (r.fdiv 256, (r % 256).toNat)

/-- PAIR_ODD_WORD_PRODUCED: at cycle 480 the odd converter of a pair produces its word (R266); where it delivers its own slice, the
comparator judges it then (R268). -/
def execPairOddWordProduced (k : Fin 8) (raw : Raw) (s : State) : Host.Outcome State Fault Refusal :=
  let i : Slice := ix16 (2 * k.val + 1)
  let c := s.x.conv[convOf i]
  if !(ticking s) || !(inPair s i) || (c.fault && !s.isFenced (.conv (convOf i))) then .next s
  else
    let r := correct s (convOf i) raw.toInt
    let s := s.modConv (convOf i) fun c => { c with odd := some (r, raw.toInt) }
    .next (if delivBy s i == convOf i then judgeWindow s i (r.fdiv 256) 480 else s)

/-- PAIR_SETTLE_END: two ticks after the change the odd converter's words are good (R267). -/
def execPairSettleEnd (k : Fin 8) (s : State) : Host.Outcome State Fault Refusal :=
  match s.x.settle[k] with
  | some a =>
    if a + 2 ≤ s.x.tick.count then .next { s with x := { s.x with settle := upd s.x.settle k none } } else .next s
  | none => .next s

/-! ### Words of a tick (R259-R261, R266-R273) -/

/-- Latch one converter's word. A converter with a fault repeats its last word until its fence (R271); a slice switched off or
in low power reads 0 (R273, R295). -/
def latchConv (raw : Vector Raw 17) (s : State) (c : Conv) : State :=
  if h : c.val < 17 then
    let v := s.x.conv[c]
    let i : Slice := ix16 c.val
    let off := c.val < 16 && (!(SL_CFG_EN s i) || SL_CFG_LP s i)
    if off then s.modConv c fun v => { v with fast := 0, ext := 0, odd := none }
    else if v.fault && !s.isFenced (.conv c) then s
    else
      let oddPair := c.val < 16 && i.val % 2 == 1 && inPair s i
      if oddPair then
        match v.odd with
        | some (r, rw) => s.modConv c fun v =>
            { v with fast := (splitWord r).1, ext := (splitWord r).2, raw := rw, odd := none }
        | none => s
      else
        let rw := raw[c.val].toInt
        let r := correct s c rw
        s.modConv c fun v => { v with fast := (splitWord r).1, ext := (splitWord r).2, raw := rw, odd := none }
  else s

/-- What a slice delivers (R266, R267, R288): its word, and in pair mode its partner's beside it while both are good. A
settling slice holds its last settled word, and the mean is then the word of slice 2i alone. A slice switched off or in low power delivers
0 (R273, R295). -/
def deliver (s : State) (i : Slice) : State :=
  let d := s.x.deliv[i]
  let c := s.x.conv[delivBy s i]
  let m := pairMate i
  let p := s.x.conv[delivBy s m]
  let two := inPair s i && !(settling s i) && !(settling s m) && delivBy s i == convOf i && delivBy s m == convOf m
    && !s.isFenced (.conv (convOf m))
  let fine := s.x.slices[i].fine
  let n : Delivered :=
    if sliceOff s i then { fine := fine }
    else if settling s i then { d with mean := p.fast, fine := fine }
    else if two then
      { fast := c.fast, ext := c.ext, fast0 := p.fast, ext0 := p.ext, mean := (c.fast + p.fast + 1).fdiv 2, fine := fine }
    else { fast := c.fast, ext := c.ext, fast0 := c.fast, ext0 := c.ext, mean := c.fast, fine := fine }
  { s with x := { s.x with deliv := upd s.x.deliv i n } }

/-! ### Open wire and converter faults (R269-R272) -/

/-- Does a word lie beyond the threshold in the direction of the test current (R270)? -/
def owBeyond (dir : Bool) (th w : Int) : Bool := if dir then decide (w < th) else decide (th < w)

/-- Does a standing converter fault force the slice's open-wire flag (R271)? -/
def owForced (s : State) (i : Slice) : Bool := s.x.conv[delivBy s i].fault

/-- The open-wire counts of a slice at cycle 0; in low power they run on the fine results (R273). -/
def owCount (s : State) (i : Slice) : State :=
  let v := s.x.slices[i]
  let lp := SL_CFG_LP s i
  let w := if lp then v.fine.fdiv 256 else s.x.deliv[i].fast
  let hit := owBeyond (SL_OW_DIR s i) (SL_OW_TH_I s i) w
  let s :=
    if !(SL_OW_TEN s i) || !(SL_CFG_EN s i) then s.modSl i fun v => { v with owHit := 0, owMiss := 0, ow := false }
    else if lp && !v.fnew then s
    else if hit then s.modSl i fun v => { v with owHit := min 31 (v.owHit + 1), owMiss := 0 }
    else s.modSl i fun v => { v with owMiss := min 31 (v.owMiss + 1), owHit := 0 }
  if owForced s i then s.modSl i fun v => { v with ow := true } else s

/-- OPEN_WIRE_DETECT of slice i: N consecutive words beyond the threshold set the flag, N without clear it (R270). -/
def execOpenWireDetect (i : Slice) (s : State) : Host.Outcome State Fault Refusal :=
  let v := s.x.slices[i]
  if SL_OW_TEN s i && SL_OW_N s i ≤ v.owHit && !v.ow then
    .next ((s.modSl i fun v => { v with ow := true }).evt (slPage i) 0)
  else if SL_OW_TEN s i && SL_OW_N s i ≤ v.owMiss && v.ow && !(owForced s i) then
    .next (s.modSl i fun v => { v with ow := false })
  else .next s

/-- The page of a converter. -/
def convPage (c : Conv) : Nat := 0x41 + c.val

/-- CONVERTER_FAULT: MODSTUCK, or (parity) PARITY (R271). The words freeze from the next cycle 0; the fence follows the next
decision (R272). -/
def execConverterFault (c : Conv) (parity : Bool) (s : State) : Host.Outcome State Fault Refusal :=
  .next (raise (s.modConv c fun v => { v with fault := true }) (convPage c) parity.toNat)

/-! ### The auxiliary slice (R276-R280) -/

/-- AX_SLOT_RESULT: the present input's conversion ends with a raw result, latched at the next cycle 0; the scan goes on
(R276). -/
def execAxSlotResult (raw : Raw) (s : State) : Host.Outcome State Fault Refusal :=
  if AX_CFG_EN s then
    .next (s.modAx fun a => { a with next := upd a.next a.input (some raw.toInt), input := ix16 (a.input.val + 1) })
  else .next s

/-- The result an input delivers: corrected for inputs 0-13 (R277), 0x800000 while AX is fenced (R272), the last one while a
converter fault stands (R271). -/
def axValue (s : State) (n : Fin 16) (raw : Int) : Int :=
  if s.isFenced (.conv axConv) then -8388608
  else if s.x.conv[axConv].fault then s.x.axRes[n]
  else if n.val < 14 then correctWith (AX_OFFSn_I s n) (AX_GAINn_I s n) 0 raw
  else raw

/-- Is an AX input's open-wire test on (R270)? -/
def axOwOn (s : State) (n : Nat) : Bool := nbit (AX_OW_EN s) n && AX_OW_CFG_CUR s != 0

/-- The open-wire test of an AX result (R270). -/
def axOwTest (s : State) (n : Fin 14) (res : Int) : State :=
  if !(axOwOn s n) then s
  else
    let hit := owBeyond (AX_OW_CFG_DIR s) (AX_OW_TH_I s) (res.fdiv 256)
    let s := s.modAx fun a => { a with
      owHit := upd a.owHit n (if hit then min 31 (a.owHit[n] + 1) else 0)
      owMiss := upd a.owMiss n (if hit then 0 else min 31 (a.owMiss[n] + 1)) }
    let k := AX_OW_CFG_N s
    let a := s.x.ax
    if k ≤ a.owHit[n] && !(bit a.ow n) then (s.modAx fun a => { a with ow := a.ow ||| oneHot n }).evt 0x52 1
    else if k ≤ a.owMiss[n] && bit a.ow n then s.modAx fun a => { a with ow := a.ow &&& ~~~(oneHot n) }
    else s

/-- Input 14 (R279): the die temperature, and the line of FAULT_WORD bit 28 judged on it (R386). -/
def dieResult (s : State) (res : Int) : State :=
  if s.isFenced (.conv axConv) then s
  else s.modAx fun a => { a with dieTemp := some (clampI (-32767) 32767 (Config.dieTemp res)) }

/-- Input 15 (R280): the deviation in 0.01 %, and two consecutive results beyond 1 %. -/
def refResult (s : State) (res : Int) : State :=
  if s.isFenced (.conv axConv) then s
  else
    let bad := decide (6710886 < (res - 6710886).natAbs * 100)
    let n := if bad then s.x.ax.refBad + 1 else 0
    let dev := sat16 (roundOpen (((res - 6710886 : Int) : Rat) * 10000 / 6710886))
    let s := s.modAx fun a => { a with refBad := min n 2, refDev := some dev }
    if 2 ≤ n then raise s 0x40 0 else s

/-- A new AX result reaches its consumers: sources (R182), thermistors (R212), calibration (R283). -/
def axConsumers (s : State) (n : Fin 16) (res raw : Int) : State :=
  let s := forAll (n := 4) s fun s i =>
    if SRCs_CFG_AX s i == n.val then
      s.modSrc i fun v => { v with v := ((max 0 (res.fdiv 256) * (SRCs_VSCALE s i : Nat)).fdiv 65536).toNat }
    else s
  let s := s.modAx fun a =>
    if a.cal.kind != 0 && a.cal.input == n.val && a.cal.n < a.cal.len then
      { a with cal := { a.cal with n := a.cal.n + 1, sum := a.cal.sum + raw } } else a
  if n.val < 8 then ntcResult s ⟨n.val / 2 % 4, by omega⟩ (n.val % 2 == 1) res (bit s.x.ax.ow n) else s

/-- Enabling the scan starts it at input 0 (R276); flags of inputs without an open-wire test go. -/
def axStart (s : State) : State :=
  let en := AX_CFG_EN s
  let s := s.modAx fun a => { a with en := en, input := if en && !a.en then 0 else a.input, new := 0 }
  let keep : Word := word (maskOf fun n : Fin 14 => axOwOn s n)
  s.modAx fun a => { a with
    ow := a.ow &&& keep
    owHit := tab fun n => if axOwOn s n then a.owHit[n] else 0
    owMiss := tab fun n => if axOwOn s n then a.owMiss[n] else 0 }

/-- While AX is at fault every open-wire flag reads set. -/
def axFaultFlags (s : State) : State :=
  if s.x.conv[axConv].fault then s.modAx fun a => { a with ow := a.ow ||| 0x3FFF } else s

/-- The open-wire test of an input that has one. -/
def axOwStep (s : State) (n : Slice) (res : Int) : State := if h : n.val < 14 then axOwTest s ⟨n.val, h⟩ res else s

/-- The raw result that a consumer takes: 0x800000 while AX is fenced (R272), the last one delivered while a converter fault stands
(R271). -/
def axRaw (s : State) (n : Slice) (raw : Int) : Int :=
  if s.isFenced (.conv axConv) then -8388608
  else if s.x.conv[axConv].fault then s.x.ax.raws[n]
  else raw

/-- A result is latched and its consumers take it. -/
def axLatch (s : State) (n : Slice) (raw0 : Int) : State :=
  let raw := axRaw s n raw0
  let res := axValue s n raw0
  let s := { s with x := { s.x with axRes := upd s.x.axRes n res } }
  let s := axFaultFlags (axOwStep (s.modAx fun a => { a with
    next := upd a.next n none, new := a.new ||| oneHot n, raws := upd a.raws n raw }) n res)
  let s := axConsumers s n res raw
  if n.val == 14 then dieResult s res else if n.val == 15 then refResult s res else s

/-- Cycle 0 of AX: flags of inputs without the test clear (R270), a fault sets them all (R271), the completed results are latched
with AX_NEW (R276), after a SLEEP those of every input scanned (R275); EN set again restarts the scan at input 0. -/
def axBoundary (s : State) : State :=
  axFaultFlags (forAll (n := 16) (axStart s) fun s n =>
    match s.x.ax.next[n] with
    | none => s
    | some raw => axLatch s n raw)

/-- AX_WINDOW_FIRE of AXWw, its LO or (hi) its HI comparator; with WAKE = 1 it is a wake source (R278). -/
def execAxWindowFire (w : Fin 4) (hi : Bool) (s : State) : Host.Outcome State Fault Refusal :=
  if AXWw_CFG_EN s w then
    .next (wakeBy ((s.modAx fun a => { a with axw := a.axw ||| oneHot (2 * w.val + hi.toNat) }).evt 0x52 0) (.axw w))
  else .next s

/-- AX_WINDOW_CLEAR (R278). -/
def execAxWindowClear (w : Fin 4) (hi : Bool) (s : State) : Host.Outcome State Fault Refusal :=
  .next (s.modAx fun a => { a with axw := a.axw &&& ~~~(oneHot (2 * w.val + hi.toNat)) })

/-! ### System calibration (R281-R283) -/

/-- A run begins, the old status bits clear. -/
def calBegin (kind len since input : Nat) : SysCal := { kind := kind, len := len, since := since, input := input }

/-- Is a run accepted (R281)? -/
def sysOk (s : State) (i : Slice) : Bool :=
  s.x.dev = .hold && SL_CFG_EN s i && !(SL_CFG_LP s i) && !(privileged s i) && !(inPair s i)

/-- A ZERO (1) or FULL (2) command takes effect (R281, R282). -/
def sysStart (s : State) (i : Slice) (kind : Nat) : State :=
  if s.x.sysCal[i].kind != 0 || !(sysOk s i) then s.modSys i fun c => { c with refused := true }
  else s.modSys i fun _ => calBegin kind (2 ^ SL_SYSCAL_NAVG s i) s.x.tick.count 0

/-- CMD = 0 takes effect (R282): it loses at the boundary at which the run writes its value. -/
def sysAbort (s : State) (i : Slice) : State :=
  let c := s.x.sysCal[i]
  if c.kind == 0 then
    (if c.done && c.since + c.len + 1 == s.x.tick.count then s.modSys i fun c => { c with ignored := true } else s)
  else if c.since + c.len + 1 ≤ s.x.tick.count then s.modSys i fun c => { c with ignored := true }
  else s.modSys i fun c => { c with kind := 0, aborted := true }

/-- SYSCAL_ZERO of a slice. -/
def execSyscalZero (i : Slice) (s : State) : Host.Outcome State Fault Refusal := .next (sysStart s i 1)
/-- SYSCAL_FULL of a slice. -/
def execSyscalFull (i : Slice) (s : State) : Host.Outcome State Fault Refusal := .next (sysStart s i 2)
/-- SYSCAL_ABORT of a slice. -/
def execSyscalAbort (i : Slice) (s : State) : Host.Outcome State Fault Refusal := .next (sysAbort s i)

/-- The value of a run: round(m/16), or round((256 REF / (m - 16 OFFS) - 1) 2^17). -/
def calValue (c : SysCal) (ref offs : Int) : Int :=
  let m : Rat := ratDiv (c.sum : Rat) (c.len : Rat)
  if c.kind == 1 then rnd (m / 16)
  else rnd ((ratDiv ((256 * ref : Int) : Rat) (m - ((16 * offs : Int) : Rat)) - 1) * 131072)

/-- Does a value fit its register (R281)? -/
def calFits (v : Int) : Bool := decide (-32768 ≤ v) && decide (v ≤ 32767)

/-- SYSCAL_DONE of a slice: after 2^NAVG words the run writes its value or sets RANGE (R281). -/
def execSyscalDone (i : Slice) (s : State) : Host.Outcome State Fault Refusal :=
  let c := s.x.sysCal[i]
  if c.kind == 0 || s.x.tick.count < c.since + c.len + 1 then .next s
  else
    let v := calValue c (SL_CAL_REF_I s i) (SL_OFFS_I s i)
    if calFits v then
      let s := if c.kind == 1 then s.setReg (a_SL_OFFS i) (wordI v) else s.setReg (a_SL_GAIN i) (wordI v)
      .next ((s.modSys i fun c => { c with kind := 0, done := true }).evt (slPage i) 4)
    else .next (s.modSys i fun c => { c with kind := 0, range := true })

/-- The words of the tick enter the runs (R281). -/
def sysAccumulate (s : State) (i : Slice) : State :=
  let c := s.x.sysCal[i]
  if c.kind != 0 && c.since < s.x.tick.count && c.n < c.len then
    s.modSys i fun c => { c with n := c.n + 1, sum := c.sum + s.x.conv[convOf i].raw }
  else s

/-- A ZERO or FULL command of the AX takes effect (R283). -/
def axCalStart (s : State) (kind : Nat) : State :=
  if s.x.ax.cal.kind != 0 || s.x.dev ≠ .hold || !(AX_CFG_EN s) then
    s.modAx fun a => { a with cal := { a.cal with refused := true } }
  else s.modAx fun a => { a with cal := calBegin kind (2 ^ AX_SYSCAL_NAVG s) s.x.tick.count (AX_SYSCAL_INPUT s) }

/-- CMD = 0 of the AX takes effect (R282, R283): it loses at the boundary that latches the last result, at which the value is written. -/
def axCalAbort (s : State) : State :=
  let c := s.x.ax.cal
  let coming := if s.x.ax.next[ix16 c.input].isSome then 1 else 0
  if c.kind == 0 then
    (if c.done && c.since == s.x.tick.count then s.modAx fun a => { a with cal := { a.cal with ignored := true } } else s)
  else if c.len ≤ c.n + coming then s.modAx fun a => { a with cal := { a.cal with ignored := true } }
  else s.modAx fun a => { a with cal := { a.cal with kind := 0, aborted := true } }

/-- AX_SYSCAL_ZERO. -/
def execAxSyscalZero (s : State) : Host.Outcome State Fault Refusal := .next (axCalStart s 1)
/-- AX_SYSCAL_FULL. -/
def execAxSyscalFull (s : State) : Host.Outcome State Fault Refusal := .next (axCalStart s 2)
/-- AX_SYSCAL_ABORT. -/
def execAxSyscalAbort (s : State) : Host.Outcome State Fault Refusal := .next (axCalAbort s)

/-- AX_SYSCAL_DONE: the cycle 0 after the last averaged result (R283). -/
def execAxSyscalDone (s : State) : Host.Outcome State Fault Refusal :=
  let c := s.x.ax.cal
  if c.kind == 0 || c.n < c.len then .next s
  else
    let v := calValue c (AX_CAL_REF_I s) (AX_OFFSn_I s c.input)
    let fin (f : SysCal → SysCal) (s : State) : State := s.modAx fun a => { a with cal := f { a.cal with kind := 0, since := s.x.tick.count } }
    if calFits v then
      let s := if c.kind == 1 then s.setReg (a_AX_OFFSn c.input) (wordI v) else s.setReg (a_AX_GAINn c.input) (wordI v)
      .next ((fin (fun c => { c with done := true }) s).evt 0x52 2)
    else .next (fin (fun c => { c with range := true }) s)

/-! ### The spare, background calibration and tracing (R284-R292) -/

/-- Is the spare idle for calibration and tracing (R158, R284, R291)? -/
def spareIdle (s : State) : Bool :=
  s.x.bg.step == 0 && !s.x.trace.running && !s.isFenced (.conv spareConv) && s.cp.spare.state = .idle &&
  !((List.finRange 16).any fun i => s.cp.sup[i].alt = .waiting)

/-- The privileged slices in force, ascending. -/
def privSlices (s : State) : List Slice := (List.finRange 16).filter (privileged s)

/-- The next privileged slice in ascending order after the last one (R285). -/
def nextPriv (s : State) : Option Slice :=
  match s.x.bg.lastSlice with
  | none => (privSlices s).head?
  | some l => match (privSlices s).find? fun i => l.val < i.val with
    | some i => some i
    | none => (privSlices s).head?

/-- The ticks between cycles: floor(PER x 1024 / n) (R285). -/
def bgPeriod (s : State) : Nat := ADC_BG_PER s * 1024 / max 1 (privSlices s).length

/-- BG_CAL_START: a cycle is due and the spare idle (R284, R285). A trace that waits goes first (R291). -/
def execBgCalStart (s : State) : Host.Outcome State Fault Refusal :=
  let due := s.x.bg.lastStart + bgPeriod s ≤ s.x.tick.count
  if ADC_BG_CFG_EN s && working s && spareIdle s && !s.x.trace.waiting && due then
    match nextPriv s with
    | none => .next s
    | some i =>
      let s := s.modBg fun b => { b with
        step := 1, slice := i, since := s.x.tick.count, endAt := none, z := 2 ^ ADC_BG_CFG_NAVG s, v := ADC_BG_CFG_VER s
        sz := 0, sr := 0, cz := 0, cr := 0, standIn := false, lastStart := s.x.tick.count, lastSlice := some i }
      .next (s.modSpare fun p => { p with state := .calib, slice := i })
  else .next s

/-- Ticks since the cycle began. -/
def bgAge (s : State) : Nat := s.x.tick.count - s.x.bg.since

/-- The tick, from the start, of the end of each step of R286. -/
def bgEnd (b : BgSt) : Nat :=
  match b.step with
  | 1 => 3 + b.z
  | 2 => 6 + 2 * b.z
  | 3 => 9 + 2 * b.z
  | 4 => 9 + 2 * b.z + b.v
  | 5 => 12 + 3 * b.z + b.v
  | 6 => 15 + 4 * b.z + b.v
  | _ => 18 + 4 * b.z + b.v

/-- OFFS and GAIN of R286 from the sums over Z ticks at zero and at the reference. -/
def bgOffs (zero : Int) (z : Nat) : Int := rnd (ratDiv (zero : Rat) (z : Rat) / 16)
/-- GAIN of R286; the reference point is 6,710,886.4 raw units. -/
def bgGain (zero ref : Int) (z : Nat) : Int :=
  rnd ((ratDiv (67108864 / 10) (ratDiv ((ref - zero : Int) : Rat) (z : Rat)) - 1) * 131072)

/-- The spare goes idle. -/
def bgRelease (s : State) : State :=
  let s := s.modBg fun b => { b with step := 0, standIn := false, endAt := none }
  if s.cp.spare.state = .calib || s.cp.spare.state = .ret then s.modSpare fun p => { p with state := .idle } else s

/-- BG_CAL_STEP: the next scheduled switch of a cycle (R286), or the end of an early return (R289). The words of the tick of a switch
are delivered by the new converter already (R286, `standsIn`). -/
def execBgCalStep (s : State) : Host.Outcome State Fault Refusal :=
  let b := s.x.bg
  match b.endAt with
  | some a =>
    if a ≤ s.x.tick.count then .next (bgRelease s) else .next s
  | none =>
    if b.step == 0 || bgAge s < bgEnd b then .next s
    else match b.step with
    | 1 => .next (s.modBg fun b => { b with step := 2 })
    | 2 => .next ((s.modBg fun b => { b with
        step := 3, spOffs := wordI (bgOffs b.sz b.z), spGain := wordI (bgGain b.sz b.sr b.z) }).evt 0x51 0)
    | 3 => .next (s.modBg fun b => { b with step := 4 })
    | 4 => .next (s.modBg fun b => { b with step := 5, standIn := true })
    | 5 => .next (s.modBg fun b => { b with step := 6 })
    | 7 =>
      let i := b.slice
      let s := bgRelease s
      .next ((s.modBg fun b => { b with count := (b.count + 1) % 65536, lastCal := upd b.lastCal i s.x.tick.count }).evt 0x40 0)
    | _ => .next s

/-- BG_CAL_UPDATE: the slice's measurement ends: the new offset and gain within their change limits take effect, else the old
ones stay with BG_REJECT; two rejections in a row set BG_FAIL (R286, R287). -/
def execBgCalUpdate (s : State) : Host.Outcome State Fault Refusal :=
  let b := s.x.bg
  if b.step != 6 || b.endAt.isSome || bgAge s < bgEnd b then .next s
  else
    let i := b.slice
    let o := bgOffs b.cz b.z
    let g := bgGain b.cz b.cr b.z
    let first := !b.made[i]
    let ok := calFits o && calFits g && (first ||
      ((o - SL_OFFS_I s i).natAbs ≤ 16 * ADC_BG_DLIM_DOFF s && (g - SL_GAIN_I s i).natAbs ≤ 8 * ADC_BG_DLIM_DGAIN s))
    let s := (s.modBg fun b => { b with step := 7, made := upd b.made i true }).modSpare fun p => { p with state := .ret }
    if ok then
      let s := (s.setReg (a_SL_OFFS i) (wordI o)).setReg (a_SL_GAIN i) (wordI g)
      .next (s.modBg fun b => { b with rejects := upd b.rejects i 0 })
    else
      let n := b.rejects[i] + 1
      let s := (s.modBg fun b => { b with rejects := upd b.rejects i n }).evt 0x40 2
      .next (if 2 ≤ n then raise s 0x40 1 else s)

/-- BG_CAL_LATE: a privileged slice not calibrated within twice the period (R285). -/
def execBgCalLate (i : Slice) (s : State) : Host.Outcome State Fault Refusal :=
  if privileged s i && s.x.bg.lastCal[i] + 2 * ADC_BG_PER s * 1024 < s.x.tick.count then .next (s.evt 0x40 3) else .next s

/-- A cycle ends early, the old values stay (R158, R289). If the spare stands in, the slice's converter returns in 3 ticks. A failover
of the slice itself has ended the cycle already (`bgOwn`). -/
def bgCancel (s : State) : State :=
  let b := s.x.bg
  if b.step == 0 || b.endAt.isSome then s
  else if b.standIn then
    (s.modBg fun b => { b with step := 7, endAt := some (s.x.tick.count + 3) }).modSpare fun p => { p with state := .ret }
  else bgRelease s

/-- A failover of the slice that the spare stands in for ends the cycle: the slice's converter is its alternative, and the spare stays
connected until the decision (R158, R289). STEP reads FAILOVER. -/
def bgOwn (s : State) : State :=
  if s.x.bg.step == 9 then s
  else (s.modBg fun b => { b with step := 9, endAt := none }).modSpare fun p => { p with state := .calib }

/-- The words of the tick enter the sums, and the verify ticks are judged (R286, R287). -/
def bgAccumulate (s : State) : State :=
  let b := s.x.bg
  if b.step == 0 || b.step == 9 || b.endAt.isSome then s
  else
    let j := bgAge s
    let sp := s.x.conv[spareConv].raw
    let sl := s.x.conv[convOf b.slice].raw
    let t := 9 + 2 * b.z + b.v
    let within (lo n : Nat) : Bool := lo ≤ j && j < lo + n
    let s := s.modBg fun b => { b with
      sz := if within 3 b.z then b.sz + sp else b.sz
      sr := if within (6 + b.z) b.z then b.sr + sp else b.sr
      cz := if within (t + 3) b.z then b.cz + sl else b.cz
      cr := if within (t + 6 + b.z) b.z then b.cr + sl else b.cr }
    let diff := (s.x.conv[spareConv].fast - s.x.conv[convOf b.slice].fast).natAbs
    if within (9 + 2 * b.z) b.v && ADC_BG_TOL_TOL s < diff then (bgRelease s).evt 0x40 1 else s

/-- TRACE = 1 takes effect (R291, R292). -/
def traceRequest (s : State) : State :=
  let t := s.x.trace
  if t.waiting || t.running then s
  else if calVref s < 500000 || 1200000 < calVref s then
    set_ADC_REF_CTRL_TRACE (s.modTrace fun _ => { refused := true }) false
  else set_ADC_REF_CTRL_TRACE (s.modTrace fun _ => { waiting := true }) true

/-- The end of a trace: TRACE is cleared by the device (R294). -/
def traceEnd (s : State) (f : TraceSt → TraceSt) : State :=
  set_ADC_REF_CTRL_TRACE (s.modTrace fun t => f { t with waiting := false, running := false, calv := false }) false

/-- A trace is ended without a result (R292). -/
def traceStop (s : State) : State := traceEnd s fun t => { t with aborted := true }

/-- TRACE = 0 takes effect (R292): it loses at the boundary at which the result is written. -/
def traceAbort (s : State) : State :=
  let t := s.x.trace
  if traceOver s then s.modTrace fun t => { t with ignored := true }
  else if t.waiting || t.running then traceStop s
  else if t.done && t.since + traceLen == s.x.tick.count then s.modTrace fun t => { t with ignored := true }
  else s

/-- REF_TRACE_REQUEST. -/
def execRefTraceRequest (s : State) : Host.Outcome State Fault Refusal := .next (traceRequest s)
/-- REF_TRACE_ABORT. -/
def execRefTraceAbort (s : State) : Host.Outcome State Fault Refusal := .next (traceAbort s)

/-- REF_TRACE_BEGIN: the first cycle 0 at which the spare is idle (R291). -/
def execRefTraceBegin (s : State) : Host.Outcome State Fault Refusal :=
  if s.x.trace.waiting && spareIdle s then
    .next ((s.modTrace fun t => { t with waiting := false, running := true, calv := false, since := s.x.tick.count, sz := 0, sc := 0 }).modSpare
      fun p => { p with state := .calib })
  else .next s

/-- REF_TRACE_TO_CALV: after 3 + 65,536 ticks at zero (R291). -/
def execRefTraceToCalv (s : State) : Host.Outcome State Fault Refusal :=
  if s.x.trace.running && s.x.trace.since + 65539 ≤ s.x.tick.count then
    .next (s.modTrace fun t => { t with calv := true })
  else .next s

/-- The words of the tick enter a trace (R291). -/
def traceAccumulate (s : State) : State :=
  let t := s.x.trace
  if !t.running then s
  else
    let j := s.x.tick.count - t.since
    let sp := s.x.conv[spareConv].raw
    s.modTrace fun t => { t with
      sz := if 3 ≤ j && j < 65539 then t.sz + sp else t.sz
      sc := if 65542 ≤ j && j < 131078 then t.sc + sp else t.sc }

/-- REF_TRACE_DONE: ADC_REF_ERR is written 131,078 ticks after the start, or RANGE beyond 1 % (R291, R292). The words of that cycle 0 are
corrected with it already (`refErr`). -/
def execRefTraceDone (s : State) : Host.Outcome State Fault Refusal :=
  if !(traceOver s) then .next s
  else
    let e := traceValue s
    let s := if s.cp.spare.state = .calib then s.modSpare fun p => { p with state := .idle } else s
    match e with
    | none => .next (traceEnd s fun t => { t with range := true })
    | some e => .next ((traceEnd (s.setReg a_ADC_REF_ERR (wordI e)) fun t => { t with done := true }).evt 0x40 4)

/-- Is the converter of the slice that the spare stands in for under test as its alternative (R157)? -/
def ownTest (s : State) : Bool :=
  let v := s.cp.sup[s.x.bg.slice]
  s.x.bg.standIn && v.cause != .none && v.altKind = .own && (v.alt = .settle || v.alt = .agree)

/-- Cycle 0: what ends calibration and tracing early (R158, R289, R292), and the spare's state that follows from them. -/
def spareBoundary (s : State) : State :=
  let s := forAll (n := 16) s fun s i => s.modSup i fun v => { v with back := v.back - 1 }
  let call := (List.finRange 16).any fun i => s.cp.sup[i].alt = .waiting
  let s := if ownTest s then bgOwn s
    else if call || !(ADC_BG_CFG_EN s) || !(working s) || s.x.bg.step == 9 then bgCancel s
    else s
  let s := if s.x.trace.running && call then traceStop s else s
  let st := s.cp.spare.state
  if s.isFenced (.conv spareConv) then
    (s.modBg fun b => { b with step := 0, standIn := false, endAt := none }).modSpare fun p => { p with state := .fenced }
  else if s.x.bg.step != 0 || s.x.trace.running then
    (if st = .idle || st = .rejected || st = .fenced then
      s.modSpare fun p => { p with state := if s.x.bg.step == 7 then .ret else .calib, slice := s.x.bg.slice } else s)
  else if st = .calib || st = .ret || st = .rejected || st = .fenced then
    s.modSpare fun p => { p with state := if p.retLeft = 0 then .idle else .ret, retLeft := p.retLeft - 1 }
  else s

/-- Pair mode set or cleared: the odd converter restarts and settles (R267). -/
def pairBoundary (s : State) : State :=
  let pair := ADC_PAIR_PAIR s
  let s := forAll (n := 8) s fun s k =>
    if nbit pair k != nbit s.x.pairPrev k then
      { s with x := { s.x with settle := upd s.x.settle k (some s.x.tick.count) } }
    else s
  { s with x := { s.x with pairPrev := pair } }

/-- The conversion subsystem at cycle 0: words are latched, delivered, judged and accumulated (R259-R292). -/
def convBoundary (raw : Vector Raw 17) (s : State) : State :=
  let s := pairBoundary s
  let s := forAll (n := 18) s (latchConv raw)
  let s := forAll (n := 16) s fineBoundary
  let s := forAll (n := 16) s deliver
  let s := forAll (n := 16) s fun s i =>
    if inPair s i && i.val % 2 == 1 && delivBy s i == convOf i then s else judgeWindow s i s.x.deliv[i].fast 0
  let s := forAll (n := 16) s owCount
  let s := axBoundary s
  let s := forAll (n := 16) s sysAccumulate
  traceAccumulate (bgAccumulate s)

end Sys2Proof.Machine
end

