-- ==== Sys2Proof/Machine/Subst.lean ====
section
/-! DEFINITION. The estimates of a tick and the trains in substitution (R152-R156, R161, R165, R166). -/

namespace Sys2Proof.Machine

/-- The mean over the ticks in which a train switched (R155). -/
def meanOf (l : List (Option Rat)) : Option Rat :=
  let v := l.filterMap id
  if v.isEmpty then none else some (v.foldl (· + ·) 0 / (v.length : Rat))

/-- The on-time that a DUTY hold of the train would keep: the mean over the 8 ticks before the tick of a verdict, of which the tick that
ends has left its own on-time unless it was rolled back (R155, R167). -/
def dutyMeanNow (rolled : Bool) (m : ModelSt) : Option Nat :=
  (meanOf ((if rolled then m.onTimes else m.onTimes.drop 1).take 8)).map fun x => (roundOpen (x * 64)).toNat

/-- What a new verdict notes for the trains its slice concerns (R155, R156). -/
def noteBlamed (rolled : Bool) (s : State) (blamed : List Slice) : State :=
  if s.isFenced .supv then s
  else forAll (n := 8) s fun s t =>
    if blamed.any fun i => sliceConcerns s i t then
      s.modModel t fun m => { m with anew := true, dutyMean := dutyMeanNow rolled m }
    else s

/-- The estimates on the samples of the tick (R152). A fenced supervisor's state is frozen (R168). -/
def estimates (s : State) : State :=
  if s.isFenced .supv then s
  else forAll (n := 16) s fun s i =>
    if s.cp.sup[i].subst then
      let e := estimate s i
      s.modSup i fun v => { v with est := e }
    else s

/-- The train leaves DUTY hold: its OLOOP starts at the demand that matches TR_IEST (R161), whatever ended the hold: R161 states this for
an accepted alternative alone, and R166 is silent (DESIGN CHOICE, log entry 116). -/
def dutyReturn (s : State) (t : Train) : State :=
  let l := ix16 (TR_CFG_OLOOP s t)
  let d : Rat := ratDiv (((s.cp.trains[t].iest * 163840 : Int)) : Rat) ((nRated s t * TR_IFS s t : Nat) : Rat)
  let y := sat16 (d.num.tdiv d.den)
  s.modLoop l fun r => { r with preset := .exact y, div := 0, updating := true, yu := y, yp := y }

/-- Does a train in substitution need its duty held (R155)? -/
def needsDuty (s : State) (t : Train) : Bool :=
  SVt_CFG_SUBDUTY s t || fbNoEst s (ix16 (TR_CFG_OLOOP s t))

/-- A train's part in substitution by what its slices are now, with its count `tk` (R154, R155, R161, R165). -/
def substNow (s : State) (t : Train) (on : Bool) (tk before : Nat) : State :=
  let m := s.cp.models[t]
  let hold := on && needsDuty s t && m.dutyMean.isSome
  let deg := (List.finRange 16).any fun i => s.cp.sup[i].alt = .serving && sliceConcerns s i t && trKind s t != 0
  let held := m.held && s.cp.trains[t].state = .hold
  let s := s.modModel t fun m => { m with
    inSubst := on, anew := false, subTk := tk, tkBefore := before, dutyHold := hold, degraded := deg, held := held }
  if m.dutyHold && !hold && s.cp.trains[t].state.switching then dutyReturn s t else s

/-- A train's part in substitution at a cycle 0, once its state of the tick stands, with the count of its ticks (R154-R156, R161, R165). A
fenced supervisor's state is frozen (R168). -/
def substTrain (s : State) (t : Train) : State :=
  if s.isFenced .supv then s
  else
    let m := s.cp.models[t]
    let on := trainInSubst s t
    let tk := if !on then m.subTk else if !m.inSubst || m.anew then 1 else min 65535 (m.subTk + 1)
    substNow s t on tk m.subTk

/-- The trains of a verdict that a rollback left standing enter substitution (R156, R272). -/
def substAnew (s : State) (t : Train) : State := if s.cp.models[t].anew then substTrain s t else s

/-- A slice came back at this cycle 0 (R166): a substitution that ends by it ended at this boundary, and the tick is none in
substitution (R156). -/
def substAgain (s : State) (t : Train) : State :=
  if s.isFenced .supv then s
  else
    let m := s.cp.models[t]
    let on := trainInSubst s t
    substNow s t on (if on then m.subTk else m.tkBefore) m.tkBefore

end Sys2Proof.Machine
end

