-- ==== Sys2Proof/Machine/Tally.lean ====
section
/-! DEFINITION. The Tally timers (R330-R351). -/

namespace Sys2Proof.Machine

/-- The page of a Tally. -/
def tlPage (n : TallyIx) : Nat := 0xA1 + n.val
/-- 2^32. -/
def two32 : Nat := 4294967296
/-- TOP (R332). -/
def tlTop (s : State) (n : TallyIx) : Nat := TLn_TOP_H s n * 65536 + TLn_TOP_L s n
/-- The even Tally of a pair. -/
def evenOf (n : TallyIx) : TallyIx := ⟨n.val / 2 * 2, by omega⟩
/-- The odd Tally of a pair. -/
def oddOf (n : TallyIx) : TallyIx := ⟨n.val / 2 * 2 + 1, by omega⟩
/-- Is the Tally in a linked pair (R343)? -/
def tlPaired (s : State) (n : TallyIx) : Bool := TLn_CFG_LINK s (evenOf n)
/-- Is it the upper half of a linked pair? -/
def tlUpper (s : State) (n : TallyIx) : Bool := n.val % 2 == 1 && tlPaired s n

/-- The TLn_CFG that governs a Tally: that of the even one in a linked pair (R343). -/
def tlCfg (s : State) (n : TallyIx) : Word := if tlUpper s n then TLn_CFG_W s (evenOf n) else TLn_CFG_W s n

/-- Do the Tallies count (R349)? -/
def tlAlive (s : State) : Bool :=
  match s.x.dev with | .hold | .run | .safe => true | _ => false

/-! ### Count edges (R332, R338, R343) -/

/-- One step of the counting modes: count, direction, wrap. In UPDOWN the turn is taken on reaching the bound (log entry 20). -/
def tlNext (mode top cnt : Nat) (down : Bool) : Nat × Bool × Bool :=
  if mode == 1 then
    if down then
      let c := cnt - 1
      (c, decide (c ≠ 0), decide (c = 0))
    else if top ≤ cnt then (cnt - 1, decide (2 ≤ cnt), decide (cnt ≤ 1))
    else (cnt + 1, decide (cnt + 1 = top), false)
  else if cnt == top then (0, false, true)
  else ((cnt + 1) % two32, false, false)

/-- A match and a wrap of a count edge: their flags are set (R339), and their actions fall due two cycles later. -/
def tlNote (s : State) (n : TallyIx) (hit wrap : Bool) : State :=
  let flag (s : State) (w : Bool) : State := (s.evt (tlPage n) w.toNat).orReg (a_TLn_STAT n) (if w then 0x0800 else 0x1000)
  let s := if hit then flag s false else s
  let s := if wrap then flag s true else s
  s.modTl n fun v => { v with matchDue := v.matchDue || hit, wrapDue := v.wrapDue || wrap }

/-- Events of one cycle of a Tally follow the order of R341 whatever order they come in: with the first of a cycle what stood before is
kept. -/
def TallySt.turn (v : TallySt) (now : Nat) : TallySt :=
  if v.actAt == some now then v
  else { v with actAt := some now, ran := v.run, pre := v.cnt, preDown := v.down, halted := false, reloaded := false, loaded := false }

/-- The level of the gate input of a Tally that governs a count edge at a cycle: a change governs from the cycle after it on (R333). -/
def gateAt (s : State) (n : TallyIx) (cyc : Nat) : Bool :=
  let l := s.x.tin[(⟨TLn_CFG_IN s n % 4, by omega⟩ : Fin 4)][(⟨TLn_CFG_FILT s n % 16, by omega⟩ : Fin 16)]
  l.level != (l.since == some (cycleNow s cyc))

/-- Is the Tally held at a count edge of a cycle: not in force, stopped before it, gated off, or loaded in that cycle (R332-R334, R337,
R349)? -/
def edgeLost (s : State) (n : TallyIx) (cyc : Nat) : Bool :=
  let v := s.x.tally[n].turn (cycleNow s cyc)
  !(tlAlive s) || tlUpper s n || !(TLn_CFG_EN s n) || !v.ran || v.loaded ||
    (TLn_CFG_MODE s n == 2 && gateAt s n cyc != TLn_CFG_GPOL s n)

/-- A count edge of a Tally at a cycle of the tick (R332): it comes before every other event of its cycle, so that a reload in the cycle
leaves the count 0 (R341). -/
def countEdge (s : State) (n : TallyIx) (cyc : Nat) : State :=
  let now := cycleNow s cyc
  if edgeLost s n cyc then s
  else if tlPaired s n then
    let u := oddOf n
    let s := (s.modTl n (·.turn now)).modTl u (·.turn now)
    let v := s.x.tally[n]
    let w := s.x.tally[u]
    let c := (w.pre * two32 + v.pre + 1) % (two32 * two32)
    let s := if v.reloaded then s else (s.modTl n fun v => { v with cnt := c % two32 }).modTl u fun w => { w with cnt := c / two32 }
    tlNote s n (c == w.cmp * two32 + v.cmp) (c == 0)
  else
    let s := s.modTl n (·.turn now)
    let v := s.x.tally[n]
    let r := tlNext (TLn_CFG_MODE s n) (tlTop s n) v.pre v.preDown
    let s := if v.reloaded then s else s.modTl n fun v => { v with cnt := r.1, down := r.2.1 }
    tlNote s n (r.1 == v.cmp && r.1 != v.pre) r.2.2

/-- Can TLn_CFG.CLK have a count edge at a cycle of the tick (R330)? Cycle 0 of a tick counts by itself for CLK = 1 (`tlTickEdges`). -/
def clkHas (clk cyc : Nat) : Bool :=
  match clk with | 0 | 2 => cyc % 4 == 0 | 1 | 3 => false | _ => true

/-- TALLY_COUNT_EDGE: an edge of the clock that TLn_CFG.CLK selects (R330): the count steps, or holds when gated off or stopped; a match or
wrap sets its flags and is noted for its actions. -/
def execTallyCountEdge (n : TallyEdge) (s : State) : Host.Outcome State Fault Refusal :=
  .next (if clkHas (TLn_CFG_CLK s n.tally) n.cyc then countEdge s n.tally n.cyc else s)

/-- Cycle 0 of a tick is the count edge of CLK = 1 (R330). -/
def tlTickEdges (s : State) : State :=
  forAll (n := 16) s fun s n => if TLn_CFG_CLK s n == 1 then countEdge s n 0 else s

/-! ### Actions (R339-R342) -/

/-- A count set to 0, the direction to up; both halves of a linked pair (R340, R343). -/
def tlReload (s : State) (n : TallyIx) : State :=
  let zero (s : State) (n : TallyIx) : State := s.modTl n fun v => { v with cnt := 0, down := false }
  if tlPaired s n then zero (zero s (evenOf n)) (oddOf n) else zero s n

/-- A chain action on a Tally at a cycle of the tick: 1 start, 2 stop, 3 reload (R340). A linked pair is one counter (R343). A start in
the cycle of a stop leaves the Tally stopped, a reload in that of a load the loaded count (R341). -/
def chainAct (s : State) (n : TallyIx) (code cyc : Nat) : State :=
  let t := if tlPaired s n then evenOf n else n
  let now := cycleNow s cyc
  if !(TLn_CFG_EN s t) then s
  else
    let s := (s.modTl t (·.turn now)).modTl (oddOf t) fun v => if tlPaired s n then v.turn now else v
    let v := s.x.tally[t]
    match code with
    | 1 => if v.halted then s else s.modTl t fun v => { v with run := true }
    | 2 => s.modTl t fun v => { v with run := false, halted := true }
    | 3 => if v.loaded then s else (tlReload s t).modTl t fun v => { v with reloaded := true }
    | _ => s

/-- The Tally that drives a TOUT pin (R342). -/
def toutSel (s : State) (m : Fin 4) : Nat := bits (TL_TOUT_SEL_W s) (4 * m.val + 3) (4 * m.val)

/-- A pin change by a Tally: 1 set, 2 clear, 3 toggle (R342). -/
def toutAct (s : State) (n : TallyIx) (code : Nat) : State :=
  if !(tlAlive s) || s.x.dev = .safe then s
  else
    let next : Vector Bool 4 := tab fun m =>
      if toutSel s m != n.val then s.x.tout[m]
      else match code with
      | 1 => true | 2 => false | 3 => !s.x.tout[m] | _ => s.x.tout[m]
    { s with x := { s.x with tout := next } }

/-- The actions of a match, or (wrap) of a wrap (R339); `cyc` is cycle e + 2. -/
def tlActions (s : State) (n : TallyIx) (wrap : Bool) (cyc : Nat) : State :=
  let s := toutAct s n (if wrap then TLn_OUT_OWRAP s n else TLn_OUT_OMATCH s n)
  let conv := if wrap then TLn_ACT_CONV_W s n else TLn_ACT_CONV_M s n
  let lard := if wrap then TLn_ACT_LARD_W s n else TLn_ACT_LARD_M s n
  let s := if conv then fineTrigger s (ix16 (TLn_ACT_SLICE s n)) cyc else s
  let s := if lard then larderTrigger s 3 n.val else s
  chainAct s (ix16 (TLn_ACT_TGT s n)) (if wrap then TLn_ACT_ON_WRAP s n else TLn_ACT_ON_MATCH s n) cyc

/-- TALLY_MATCH: the actions of a match noted by a count edge at cycle cyc - 2 of the tick. -/
def execTallyMatch (n : TallyEdge) (s : State) : Host.Outcome State Fault Refusal :=
  if s.x.tally[n.tally].matchDue then .next (tlActions (s.modTl n.tally fun v => { v with matchDue := false }) n.tally false n.cyc)
  else .next s

/-- TALLY_WRAP: the actions of a wrap noted by a count edge at cycle cyc - 2 of the tick. Those of a match of the same edge come before
them (R342). -/
def execTallyWrap (n : TallyEdge) (s : State) : Host.Outcome State Fault Refusal :=
  if s.x.tally[n.tally].wrapDue then
    let both := s.x.tally[n.tally].matchDue
    let s := s.modTl n.tally fun v => { v with matchDue := false, wrapDue := false }
    .next (tlActions (if both then tlActions s n.tally false n.cyc else s) n.tally true n.cyc)
  else .next s

/-! ### Inputs (R333, R335, R336) -/

/-- Does the Tally capture? -/
def capturing (s : State) (n : TallyIx) : Bool :=
  tlAlive s && TLn_CFG_EN s n && TLn_CFG_MODE s n == 3 && !(tlPaired s n)

/-- A difference of captures (R336). -/
def capDiff (top a b : Nat) : Nat := ((a : Int) - (b : Int)).emod (top + 1 : Nat) |>.toNat

/-- The duty of the pulse CAPP, CAPF, CAPR in Q1.15 (R119). -/
def dutyOf (top p f r : Nat) : Int :=
  let per := capDiff top r p
  clampI 0 32767 (if per == 0 then Config.overflow 0 else (32768 * (capDiff top f p) / per : Nat))

/-- A detected level of a pin behind a filter setting (R331). -/
def tinPut (s : State) (e : TinEdge) (level : Bool) : State :=
  let l := s.x.tin[e.pin]
  if l[e.filt].level == level then s
  else
    let m : Vector TinLevel 16 := upd l e.filt { level := level, since := some (cycleNow s e.cyc) }
    { s with x := { s.x with tin := upd s.x.tin e.pin m } }

/-- Does the Tally take its input from that pin behind that filter? -/
def tinFeeds (s : State) (e : TinEdge) (n : TallyIx) : Bool := TLn_CFG_IN s n == e.pin.val && TLn_CFG_FILT s n == e.filt.val

/-- A rising edge at a Tally that captures (R335): CAPR moves to CAPP, the count to CAPR; a pulse that has fallen is complete (R119). -/
def captureRise (s : State) (n : TallyIx) : State :=
  let top := tlTop s n
  (s.modTl n fun v => { v with
    capP := v.capR, capR := v.cnt, rNow := true, eNow := satInc 127 v.eNow, lastFall := false
    total := v.total + 1, riseNo := some v.total, fell := false
    duty := if v.fell then v.riseNo.map fun k => (dutyOf top v.capR v.capF v.cnt, k) else v.duty }).evt (tlPage n) 2

/-- A falling edge at a Tally that captures (R335). -/
def captureFall (s : State) (n : TallyIx) : State :=
  (s.modTl n fun v => { v with
    capF := v.cnt, fNow := true, eNow := satInc 127 v.eNow, lastFall := true, total := v.total + 1
    fell := v.riseNo.isSome }).evt (tlPage n) 3

/-- TALLY_CAPTURE_RISE: a rising edge of a pin is detected; every capturing Tally on that input takes it (R333, R335). -/
def execTallyCaptureRise (e : TinEdge) (s : State) : Host.Outcome State Fault Refusal :=
  .next (forAll (n := 16) (tinPut s e true) fun s n => if capturing s n && tinFeeds s e n then captureRise s n else s)

/-- TALLY_CAPTURE_FALL: a falling edge of a pin is detected (R333, R335). -/
def execTallyCaptureFall (e : TinEdge) (s : State) : Host.Outcome State Fault Refusal :=
  .next (forAll (n := 16) (tinPut s e false) fun s n => if capturing s n && tinFeeds s e n then captureFall s n else s)

/-- TALLY_GATE_CHANGE: the detected level of a pin governs the count edges of the Tallies gated by it, from the next cycle on (R333). -/
def execTallyGateChange (e : TinEdge) (level : Bool) (s : State) : Host.Outcome State Fault Refusal := .next (tinPut s e level)

/-! ### Start and loads (R334, R337, R345) -/

/-- EN of several Tallies is set (R334, R352). -/
def tlSync (s : State) (mask : Word) : State :=
  forAll (n := 16) s fun s n => if bit mask n then set_TLn_CFG_EN s n true else s

/-- EN = 1 takes effect: the Tally runs, from the first count edge after this cycle 0, and its TOUT pins take OINIT (R334, R342), which an
upper half has not (R343). -/
def tlStart (s : State) (n : TallyIx) : State :=
  let s := s.modTl n fun v => { v.turn (cycleNow s 0) with ran := v.run, run := true, cfg := tlCfg s n }
  if tlUpper s n then s else toutAct s n (if TLn_OUT_OINIT s n then 1 else 2)

/-- TALLY_SYNC_START: TL_SYNC takes effect at its boundary: EN set together (R334). -/
def execTallySyncStart (mask : Word) (s : State) : Host.Outcome State Fault Refusal :=
  .next (forAll (n := 16) (tlSync s mask) fun s n =>
    if bit (tlCfg s n) 15 && !(bit s.x.tally[n].cfg 15) && bit mask n then tlStart s n else s)

/-- The 32 bits of two words. -/
def join32 (h l : Word) : Nat := h.toNat * 65536 + l.toNat

/-- A write of TLn_CNT_L is held (R337). -/
def cntLWrite (s : State) (n : TallyIx) (v : Word) : State := s.modTl n fun t => { t with heldL := v }
/-- A write of TLn_CMP_L is held. -/
def cmpLWrite (s : State) (n : TallyIx) (v : Word) : State := s.modTl n fun t => { t with cmpL := v }

/-- A write of TLn_CNT_H loads the count at a cycle and clears what was held (R337), over whatever else that cycle has (R341); in a linked
pair only the upper Tally's does, for both (R345). -/
def cntHWrite (s : State) (n : TallyIx) (w : TallyLoad) : State :=
  let now := cycleNow s w.cyc
  let load (s : State) (n : TallyIx) (h : Word) : State := s.modTl n fun t =>
    { t.turn now with cnt := join32 h t.heldL, heldL := 0, heldH := 0, suspect := false, rem := 0, loaded := true }
  if !(tlPaired s n) then load s n w.val
  else if n.val % 2 == 0 then s.modTl n fun t => { t with heldH := w.val }
  else load (load s (evenOf n) s.x.tally[evenOf n].heldH) n w.val

/-- A write of TLn_CMP_H loads the compare (R337, R345). -/
def cmpHWrite (s : State) (n : TallyIx) (w : TallyLoad) : State :=
  let load (s : State) (n : TallyIx) (h : Word) : State := s.modTl n fun t =>
    { t with cmp := join32 h t.cmpL, cmpL := 0, cmpH := 0 }
  if !(tlPaired s n) then load s n w.val
  else if n.val % 2 == 0 then s.modTl n fun t => { t with cmpH := w.val }
  else load (load s (evenOf n) s.x.tally[evenOf n].cmpH) n w.val

/-- TALLY_CNT_L_WRITE. -/
def execTallyCntLWrite (n : TallyIx) (v : Word) (s : State) : Host.Outcome State Fault Refusal := .next (cntLWrite s n v)
/-- TALLY_CNT_H_WRITE. -/
def execTallyCntHWrite (n : TallyIx) (v : TallyLoad) (s : State) : Host.Outcome State Fault Refusal := .next (cntHWrite s n v)
/-- TALLY_CMP_L_WRITE. -/
def execTallyCmpLWrite (n : TallyIx) (v : Word) (s : State) : Host.Outcome State Fault Refusal := .next (cmpLWrite s n v)
/-- TALLY_CMP_H_WRITE. -/
def execTallyCmpHWrite (n : TallyIx) (v : TallyLoad) (s : State) : Host.Outcome State Fault Refusal := .next (cmpHWrite s n v)

/-- TALLY_PARITY_ERROR (R351): the Tally goes on, suspect. -/
def execTallyParityError (n : TallyIx) (s : State) : Host.Outcome State Fault Refusal :=
  .next (raise (s.modTl n fun v => { v with suspect := true }) (tlPage n) 0)

/-! ### Cycle 0 and sleep -/

/-- What every Tally copies at cycle 0, before any count edge of it: its count, the edges of the tick that ends, the last pulse (R335,
R347). -/
def tlCopy (s : State) : State :=
  forAll (n := 16) s fun s n => s.modTl n fun v => { v with
    snap := v.cnt, rNew := v.rNow, fNew := v.fNow, edges := v.eNow, rNow := false, fNow := false, eNow := 0
    dutyPub := v.duty }

/-- Cycle 0 of a Tally: what a change of the TLn_CFG that governs it does (R334, R342, R343). A count edge of that cycle 0 leaves the count
that it clears 0. -/
def tlBoundary (s : State) (n : TallyIx) : State :=
  let old := s.x.tally[n].cfg
  let new := tlCfg s n
  let clear := bits old 14 9 != bits new 14 9 || bits old 7 6 != bits new 7 6
  let s := if clear then
      s.modTl n fun v => { v.turn (cycleNow s 0) with
        cnt := 0, down := false, loaded := true, capR := 0, capF := 0, capP := 0, suspect := false, rem := 0
        riseNo := none, fell := false, duty := none, dutyPub := none }
    else s
  let s := if !(bit old 15) && bit new 15 then tlStart s n
    else if bit old 15 && !(bit new 15) then s.modTl n fun v => { v with run := false }
    else s
  s.modTl n fun v => { v with cfg := new }

/-- NUM and DEN of R349. -/
def makeUp (clk : Nat) : Nat × Nat :=
  match clk with | 0 => (390625, 128) | 1 => (390625, 30720) | _ => (1, 1)

/-- The make-up of one Tally after a sleep of E slow cycles (R349), with one match and one wrap noted if passed (R350). -/
def tlWake (e : Nat) (s : State) (n : TallyIx) : State :=
  if !(TLn_CFG_EN s n && TLn_CFG_TIMEBASE s n) || tlUpper s n then s
  else
    let v := s.x.tally[n]
    let k := makeUp (TLn_CFG_CLK s n)
    let x := e * k.1 + v.rem
    let add := x / k.2
    if tlPaired s n then
      let u := oddOf n
      let old := s.x.tally[u].cnt * two32 + v.cnt
      let md := two32 * two32
      let new := (old + add) % md
      let target := s.x.tally[u].cmp * two32 + v.cmp
      let d := ((target : Int) - old).emod md
      tlNote ((s.modTl n fun v => { v with cnt := new % two32, rem := x % k.2 }).modTl u fun w => { w with cnt := new / two32 }) n
        (decide (0 < d) && decide (d ≤ add)) (decide (md ≤ old + add))
    else
      let md := tlTop s n + 1
      let d := ((v.cmp : Int) - v.cnt).emod md
      tlNote (s.modTl n fun v => { v with cnt := (v.cnt + add) % md, rem := x % k.2 }) n
        (v.cmp < md && ((decide (0 < d) && decide (d ≤ add)) || md ≤ add)) (decide (md ≤ v.cnt + add))

end Sys2Proof.Machine
end

