-- ==== Sys2Proof/Machine/Cal.lean ====
section
/-! DEFINITION. Tap calibration: runs, verdicts, aborts (R354-R373). -/

namespace Sys2Proof.Machine

/-! ### Start (R357-R360) -/

/-- The legs of a train that are mapped and not fenced, each leg of a pair for itself (R360). -/
def calLegs (s : State) (t : Train) : List Leg :=
  (List.finRange 24).filter fun n => legTrain s n == some t && !s.isFenced (.leg n)

/-- The cause that refuses a run, 0 for none (R357). -/
def calRefusal (s : State) (kind target : Nat) : Nat :=
  if s.x.cal.kind != 0 then 1
  else if !(working s) then 2
  else if kind == 1 && !(s.cp.trains[ix8 target].state = .off) then 3
  else if kind == 2 && target < 4 && nbit (SRC_CTRL_EN s) target then 3
  else if calVref s < 500000 || 1200000 < calVref s then 4
  else if kind == 1 && (calLegs s (ix8 target)).isEmpty then 5
  else if kind == 2 && 4 ≤ target then 6
  else 0

/-- D of R360. -/
def calLen (kind n : Nat) : Nat :=
  match kind with
  | 1 => if n ≤ 4 then 16 + 96 * n else 16 + 48 * n
  | 2 => 56
  | _ => 28

/-- A command KIND takes effect: the run starts or is refused (R357). -/
def calStart (s : State) (kind target : Nat) : State :=
  let c := calRefusal s kind target
  if c != 0 then s.modCal fun v => { v with refused := true, refCause := c }
  else
    let legs := if kind == 1 then calLegs s (ix8 target) else []
    let s := s.modCal fun v => { v with
      kind := kind, target := target, since := s.x.tick.count, len := calLen kind legs.length, legs := legs
      two := kind != 1 || legs.length ≤ 4, lastKind := kind
      done := false, aborted := false, ignored := false, refused := false, fail := false, refCause := 0, abortCause := 0 }
    if kind == 2 then
      let i : Src := ⟨target % 4, by omega⟩
      nodeCheck { s with x := { s.x with srcEn := upd s.x.srcEn i (SRCs_CFG_POL s i) } } (srcNode s i)
    else s

/-- CAL_TRAIN. -/
def execCalTrain (t : Train) (s : State) : Host.Outcome State Fault Refusal := .next (calStart s 1 t.val)
/-- CAL_SRC, TARGET 0-7 as the register holds it. -/
def execCalSrc (i : Fin 8) (s : State) : Host.Outcome State Fault Refusal := .next (calStart s 2 i.val)
/-- CAL_RING. -/
def execCalRing (s : State) : Host.Outcome State Fault Refusal := .next (calStart s 3 0)

/-! ### The end of a run (R365-R371) -/

/-- A run ends; the device clears CAL_CMD.KIND (R377). -/
def calEnd (s : State) (f : CalSt → CalSt) : State :=
  set_CAL_CMD_KIND (s.modCal fun v => f { v with kind := 0, endedAt := s.x.tick.count }) 0

/-- The number of a target among the thirteen. -/
def calTargetIx (v : CalSt) : Fin 13 :=
  match v.kind with
  | 1 => ⟨v.target % 8, by omega⟩
  | 2 => ⟨8 + v.target % 4, by omega⟩
  | _ => 12

/-- A run ends as an abort with its cause: 1 CMD, 2 STATE, 3 FENCE (R370, R371). It is no failed run of its target (R368). -/
def calAbortWith (s : State) (cause : Nat) : State :=
  let ix := calTargetIx s.x.cal
  (calEnd s fun v => { v with aborted := true, abortCause := cause, failed := upd v.failed ix false }).evt 0x58 2

/-- KIND = 0 takes effect (R370): it loses to a completion at the same cycle 0. -/
def calAbort (s : State) : State :=
  let v := s.x.cal
  if v.kind != 0 then
    if v.since + v.len ≤ s.x.tick.count then s.modCal fun v => { v with ignored := true } else calAbortWith s 1
  else if (v.done || v.fail) && v.endedAt == s.x.tick.count then s.modCal fun v => { v with ignored := true }
  else s

/-- At the end of a run a source's enable follows SRC_CTRL.EN (R359). -/
def calFreeSource (old : CalSt) (s : State) : State :=
  if s.x.cal.kind != 0 then s
  else if old.kind == 2 && enablesLive s then
    let i : Src := ⟨old.target % 4, by omega⟩
    { s with x := { s.x with srcEn := upd s.x.srcEn i ((nbit (SRC_CTRL_EN s) i && !s.x.src[i].ovOff) != SRCs_CFG_POL s i) } }
  else s

/-- At the cycle 0 at which a run ends its target is released: pending fields are adopted and the train may start, with its preload (R87, R358), or the
source is free. A KIND = 0 write leaves the train to the rest of its boundary. -/
def calRelease (old : CalSt) (s : State) : State :=
  if s.x.cal.kind == 0 && old.kind == 1 then preload (trainStart (adoptPending s) (ix8 old.target)) (ix8 old.target)
  else calFreeSource old s

/-- CAL_ABORT. -/
def execCalAbort (s : State) : Host.Outcome State Fault Refusal :=
  .next (atCycle0 (fun s => calRelease s.x.cal (calAbort s)) s)

/-- A save is requested (R375); those requested while another is busy follow it, one by one; a fenced storeroom ends it with its error
(R392). -/
def calSave (s : State) : State :=
  if s.isFenced .store then raise (s.modCal fun v => { v with saveDone := false, saveErr := true }) 0x58 2
  else s.modCal fun v => if v.saveBusy then { v with saveAgain := v.saveAgain + 1 } else { v with saveBusy := true, saveDone := false, saveErr := false }

/-- Cycle 0: the save of a run accepted in the tick that ends starts (R375); the device has left HOLD and RUN, or the target train is
fenced (R371). -/
def calBoundary (s : State) : State :=
  let s := if s.x.cal.saveDue then calSave (s.modCal fun v => { v with saveDue := false }) else s
  let v := s.x.cal
  if v.kind == 0 then s
  else if !(working s) then calAbortWith s 2
  else if v.kind == 1 && s.isFenced (.train (ix8 v.target)) then calAbortWith s 3
  else s

/-- The stored peak trim (R362): t_m less the residual at the test code. Voltages in microvolts; the DAC step is 1/1024 of
300 mV, or of 1.2 V with HIRANGE (R53). -/
def peakTrim (s : State) (n : Leg) (tm : Int) : Int :=
  let hi := bit (s.ad (a_L_CFG n)) 15
  let vt : Rat := (calVref s : Rat) / (if hi then 2 else 8)
  let q : Rat := (if hi then 1200000 else 300000) / 1024
  tm - rnd ((vt - (vt / q).floor * q) / (if hi then 400 else 100))

/-- The stored source trim (R363), with the steps 19.531 mV and 4.883 mV. -/
def srcTrim (s : State) (tm : Int) : Int :=
  let vt : Rat := (calVref s : Rat) / 2
  tm - rnd ((vt - (vt / 19531).floor * 19531) / 4883)

/-- A result of value code v of an item, from what was measured: cells, or a stored trim. -/
def calResult (s : State) (kind : Nat) (item : Nat) (v : Nat) (m : Int) : Int :=
  match kind with
  | 1 => if v < 4 then clampI 64 127 m
         else if h : item < 24 then peakTrim s ⟨item, h⟩ (clampI (-32) 31 m) else m
  | 2 => srcTrim s (clampI (-16) 15 m)
  | _ => clampI 64 127 m

/-- The measured items of a run: (item, value code, position in the results), those of a fenced leg left out (R369). -/
def calItems (s : State) (v : CalSt) : List (Nat × Nat × Nat) :=
  match v.kind with
  | 1 => (v.legs.mapIdx fun k n => if s.isFenced (.leg n) then [] else (List.range 5).map fun j => (n.val, j, 5 * k + j)).flatten
  | 2 => [(v.target, 5, 0), (v.target, 6, 1)]
  | _ => [(0, 7, 0)]

/-- Insert in ascending order. -/
def insertAsc (x : Int) : List Int → List Int
  | [] => [x]
  | y :: r => if x ≤ y then x :: y :: r else y :: insertAsc x r

/-- The lower middle value (R367). -/
def lowMedian (l : List Int) : Int :=
  let a := l.foldr insertAsc []
  a.getD ((a.length - 1) / 2) 0

/-- Is a result within the absolute limits (R365)? -/
def calAbsOk (s : State) (v : Nat) (x : Int) : Bool :=
  if v < 4 || v == 7 then decide ((CAL_CELL_LIM_MIN s : Int) ≤ x) && decide (x ≤ (CAL_CELL_LIM_MAX s : Int))
  else if v == 4 then x.natAbs ≤ CAL_TRIM_ABS_ABS s
  else x.natAbs ≤ CAL_TRIM_ABS_SABS s

/-- The test that a result fails, 0 for none: 1 AGREE, 2 MEDIAN, 3 ABS (R365-R367). -/
def calTest (s : State) (c : CalSt) (a b med : Int) (v : Nat) : Nat :=
  if c.two && CAL_TOL_TOL s < (a - b).natAbs then 1
  else if !c.two && CAL_LIM_LIM s < (a - med).natAbs then 2
  else if !(calAbsOk s v a) || (c.two && !(calAbsOk s v b)) then 3
  else 0

/-- Write one accepted value (R354, R361). -/
def calWrite (s : State) (item v : Nat) (x : Int) : State :=
  let n := x.toNat
  match v with
  | 0 => set_CAL_LDn_H_RISE s item n
  | 1 => set_CAL_LDn_H_FALL s item n
  | 2 => set_CAL_LDn_L_RISE s item n
  | 3 => set_CAL_LDn_L_FALL s item n
  | 4 => set_L_TRIM_TRIM s item (wordI x).toNat
  | 5 => set_CAL_SRCs_UV s item (wordI x).toNat
  | 6 => set_CAL_SRCs_OV s item (wordI x).toNat
  | _ => set_CAL_RING_CELLS s n

/-- The CAL_VALID bit of a target (R377). -/
def calValidBit (v : CalSt) : Word :=
  match v.kind with
  | 1 => oneHot (v.target % 8)
  | 2 => oneHot (8 + v.target % 4)
  | _ => oneHot 12

/-- A written register whose values no longer come from an accepted run or a record: its entry is saved as not valid (R374). -/
def calForget (s : State) (page off : Nat) : State :=
  if page == 0x58 && 0x40 ≤ off && off < 0x70 then s.modCal fun v => { v with legOk := upd v.legOk (ix24 ((off - 0x40) / 2)) false }
  else if 0x10 ≤ page && page ≤ 0x27 && off == 0x16 then s.modCal fun v => { v with legOk := upd v.legOk (ix24 (page - 0x10)) false }
  else if page == 0x58 && 0x70 ≤ off && off < 0x74 then
    s.modCal fun v => { v with srcOk := upd v.srcOk ⟨(off - 0x70) % 4, by omega⟩ false }
  else if page == 0x58 && off == 0x74 then s.modCal fun v => { v with ringOk := false }
  else s

/-- The entries a run makes valid, for the record of R374. -/
def calMark (s : State) : State :=
  let done (v : CalSt) (n : Leg) : Bool := v.legs.contains n && !s.isFenced (.leg n)
  s.modCal fun v => match v.kind with
    | 1 => { v with
        legOk := tab fun n => v.legOk[n] || done v n
        legHi := tab fun n => if done v n then bit (s.ad (a_L_CFG n)) 15 else v.legHi[n] }
    | 2 => { v with srcOk := tab fun i => v.srcOk[i] || v.target == i.val }
    | _ => { v with ringOk := true }

/-- CAL_SAVE: CAL_CTRL.SAVE = 1 takes effect (R375). -/
def execCalSave (s : State) : Host.Outcome State Fault Refusal := .next (calSave s)

/-- At cycle 0 of tick a+D the results are judged, and all written or all old values kept (R365-R368). -/
def calVerdict (m : CalResults) (s : State) : State :=
  let v := s.x.cal
  if v.kind == 0 || s.x.tick.count < v.since + v.len then s
  else
    let items := calItems s v
    let one (l : List Int) (i : Nat × Nat × Nat) : Int := calResult s v.kind i.1 i.2.1 (l.getD i.2.2 0)
    let med (k : Nat) : Int := lowMedian ((items.filter fun i => i.2.1 == k).map (one m.first))
    let tests := items.map fun i => (i, calTest s v (one m.first i) (one m.second i) (med i.2.1) i.2.1)
    let ix := calTargetIx v
    match tests.find? fun t => t.2 != 0 with
    | some (i, t) =>
      let again := v.failed[ix]
      let s := (calEnd s fun v => { v with
        fail := true, failTest := t, failValue := i.2.1, failItem := i.1, failed := upd v.failed ix true }).evt 0x58 1
      calRelease v (if again then raise s 0x58 1 else s)
    | none =>
      let mean (a b : Int) : Int := if v.two then (a + b + 1).fdiv 2 else a
      let s := items.foldl (fun s i => calWrite s i.1 i.2.1 (mean (one m.first i) (one m.second i))) s
      let s := calMark s
      let s := (calEnd s fun v => { v with
        done := true, valid := v.valid ||| calValidBit { v with kind := v.lastKind }
        last := s.tickW, failed := upd v.failed ix false }).evt 0x58 0
      calRelease v (if CAL_CTRL_AUTOSAVE s then s.modCal fun v => { v with saveDue := true } else s)

/-- CAL_VERDICT. The clear of CAL_CMD.KIND belongs to the boundary, so a rollback of the tick keeps it (R372). -/
def execCalVerdict (m : CalResults) (s : State) : Host.Outcome State Fault Refusal := .next (atCycle0 (calVerdict m) s)

end Sys2Proof.Machine
end

