-- ==== Sys2Proof/Machine/Mem.lean ====
section
/-! DEFINITION. The storeroom's array (R488): 2^26 bytes, word a at bytes 2a (bits 7:0) and 2a+1 (R495). A byte that nothing has
written reads 0xFF, an erased array (DESIGN CHOICE, log entry 22). -/

namespace Sys2Proof.Machine

/-- What an unlisted byte reads as. -/
def erasedByte : Byte := 0xFF

/-- Read one byte. -/
def memGet : List Host.Cell → Nat → Byte
  | [], _ => erasedByte
  | (b, v) :: t, a => if a == b then v else memGet t a

/-- Write one byte, keeping the addresses strictly rising and no entry equal to an erased byte. -/
def memPut : List Host.Cell → Nat → Byte → List Host.Cell
  | [], a, v => if v == erasedByte then [] else [(a, v)]
  | (b, w) :: t, a, v =>
    if a < b then (if v == erasedByte then (b, w) :: t else (a, v) :: (b, w) :: t)
    else if a == b then (if v == erasedByte then t else (a, v) :: t)
    else (b, w) :: memPut t a v

/-- Strictly rising from a bound, no entry an erased byte. -/
def memWfFrom : Nat → List Host.Cell → Bool
  | _, [] => true
  | lo, (a, v) :: t => decide (lo ≤ a) && !(v == erasedByte) && memWfFrom (a + 1) t

/-- The canonical form of the array. -/
def Memory.wf (m : List Host.Cell) : Bool := memWfFrom 0 m

/-- The word at a word address. -/
def stGet (m : List Host.Cell) (a : Nat) : Word := ofBytes (memGet m (2 * a + 1)) (memGet m (2 * a))
/-- Store the word at a word address. -/
def stPut (m : List Host.Cell) (a : Nat) (w : Word) : List Host.Cell :=
  memPut (memPut m (2 * a) (loByte w)) (2 * a + 1) (hiByte w)
/-- Words stored from an address on. -/
def stPutAll (m : List Host.Cell) (a : Nat) : List Word → List Host.Cell
  | [] => m
  | w :: t => stPutAll (stPut m a w) (a + 1) t
/-- n words from an address. -/
def stRead (m : List Host.Cell) (a n : Nat) : List Word := (List.range n).map fun i => stGet m (a + i)

/-- Words in a sector of 64 KiB. -/
def sectorWords : Nat := 32768
/-- Words in a page of 256 bytes. -/
def pageWords : Nat := 128

/-- A sector is erased. -/
def stErase (m : List Host.Cell) (sector : Nat) : List Host.Cell :=
  m.filter fun c => !(c.1 / 65536 == sector)

/-- n words from an address become free values (R494: the content of a sector whose erase was cut off is undefined). -/
def stFree (s : State) (a n : Nat) : State :=
  let m := (List.range n).foldl (fun m i => stPut m (a + i) (Config.freeWord (s.free + i))) s.x.store.mem
  { s with free := s.free + n, x := { s.x with store := { s.x.store with mem := m } } }

/-- A word programmed over what a word holds: bits go from 1 to 0 only (DEDUCED from R490, log entry 23). -/
def stProg (m : List Host.Cell) (a : Nat) (w : Word) : List Host.Cell := stPut m a (stGet m a &&& w)

/-! ### Check words (R322, R495) -/

/-- One bit step of the reflected IEEE 802.3 CRC-32. -/
def crcBit (c : BitVec 32) : BitVec 32 := if c.getLsbD 0 then (c >>> 1) ^^^ 0xEDB88320 else c >>> 1
/-- One byte into the CRC. -/
def crcByte (c : BitVec 32) (b : Byte) : BitVec 32 :=
  crcBit (crcBit (crcBit (crcBit (crcBit (crcBit (crcBit (crcBit (c ^^^ b.zeroExtend 32))))))))
/-- The CRC-32 of words, each entering as two bytes, bits 7:0 first. -/
def crc32 (l : List Word) : Nat :=
  ((l.foldl (fun c w => crcByte (crcByte c (loByte w)) (hiByte w)) 0xFFFFFFFF) ^^^ 0xFFFFFFFF).toNat

/-- Words followed by their check word, bits 15:0 first. -/
def withCrc (l : List Word) : List Word :=
  let c := crc32 l
  l ++ [word c, word (c / 65536)]

/-- A record is valid when its mark, its format and its check word are good (R495). -/
def recGood (l : List Word) (mark : Word) : Bool :=
  let n := l.length
  l.getD 0 0 == mark && l.getD 1 0 == 1 && withCrc (l.take (n - 2)) == l

/-- A 32-bit value held low half first. -/
def pair32 (l : List Word) (i : Nat) : Nat := (l.getD i 0).toNat + 65536 * (l.getD (i + 1) 0).toNat

/-! ### Records found in the array -/

/-- The numbers of the records, of size words each from word address lo, n of them, that hold any programmed byte: no other can be
valid. -/
def recordsIn (m : List Host.Cell) (lo size n : Nat) : List Nat :=
  ((m.filterMap fun c =>
    let a := c.1 / 2
    if lo ≤ a && a < lo + size * n then some ((a - lo) / size) else none).eraseDups)

/-- The calibration region. -/
def calBase : Nat := 4 * sectorWords
/-- The ledger region. -/
def ledgerBase : Nat := 6 * sectorWords
/-- Records in the ledger. -/
def ledgerLen : Nat := 524288
/-- The capture area. -/
def capBase : Nat := 262 * sectorWords

/-- The first empty slot of the calibration region (R375). -/
def calEmpty (m : List Host.Cell) : Option Nat :=
  let used := recordsIn m calBase 128 256
  (List.range 256).find? fun k => !used.contains k

/-- The slot a flush copies to: after the newest, slot 0 if there is none. -/
def flushSlot (s : State) : Nat := if s.x.store.capSeq == 0 then 0 else (s.x.store.capSlot + 1) % 44

/-- A flush ends with records of its number in its slot: the next takes the slot and the number after them, and the following slot is to
be erased (R504). -/
def flushNext (s : State) : State :=
  let k := flushSlot s
  { s with x := { s.x with store := { s.x.store with
    capSlot := k, capSeq := s.x.store.capSeq + 1, preErase := some ((k + 1) % 44, 0) } } }

/-! ### Programs and erases (R492) -/

/-- What reading the array met: corrected words are counted, an uncorrectable one is an error. -/
def eccFound (s : State) (r : ArrayRead) : State :=
  let s : State := { s with x := { s.x with store := { s.x.store with eccCnt := min 0xFFFF (s.x.store.eccCnt + r.corrected) } } }
  if r.uncorrectable then raise s 0xC0 2 else s

/-- A read-back mismatch. -/
def verifyError (s : State) (wrong : Bool) : State :=
  if wrong then raise (s.orReg a_STORE_ERR (oneHot 13)) 0xC0 0 else s

/-- Is a word found that is not 0xFFFF? -/
def notBlank (r : ArrayRead) : Bool := r.bad.any fun c => c.2 != 0xFFFF

/-- A sector is erased and blank-checked. -/
def eraseSector (s : State) (k : Nat) (r : ArrayRead) : State :=
  let m := r.bad.foldl (fun m c => stPut m (k * sectorWords + c.1 % sectorWords) c.2) (stErase s.x.store.mem k)
  let s : State := { s with x := { s.x with store := { s.x.store with mem := m } } }
  eccFound (if notBlank r then raise s 0xC0 1 else s) r

/-- The words of a program are written and read back; `bad` lists words, by offset, that hold another value. Whether a written word
differs from what is read. -/
def progWords (s : State) (a : Nat) (l : List (Nat × Word)) (r : ArrayRead) : State × Bool :=
  let m := l.foldl (fun m c => stProg m (a + c.1) c.2) s.x.store.mem
  let m := r.bad.foldl (fun m c => stPut m (a + c.1) c.2) m
  let wrong := l.any fun c => stGet m (a + c.1) != c.2
  let s : State := { s with x := { s.x with store := { s.x.store with mem := m } } }
  (eccFound (verifyError s wrong) r, wrong)

end Sys2Proof.Machine
end

