-- ==== Sys2Proof/Machine/Device.lean ====
section
/-! DEFINITION. The device states (R511): entering HOLD, SAFE, RUN, and the reset (R516); shared by the fault and power
commands. -/

namespace Sys2Proof.Machine

/-- A device state is entered, with DEV.PG_EVT.STATE on a change (R525). -/
def setDev (s : State) (d : DevState) : State :=
  if s.x.dev = d then s else ({ s with x := { s.x with dev := d } }).evt 0x00 0

/-- Test mode closes, and a running loop-back stops: the last loop-back was stopped, and this is its end (R529, R533). -/
def testClose (s : State) : State :=
  let t := s.x.test
  let t := if t.run.isSome then { t with aborted := true, endTk := s.tickW } else t
  { s with x := { s.x with test := { t with isOpen := false, armed := none, run := none } } }

/-- Every train of a device that leaves RUN enters HOLD (R84, R388, R515). -/
def trainsHold (s : State) : State := forAll (n := 8) s trainHold

/-- The device enters HOLD from RUN (R388, R515). -/
def enterHold (s : State) (byReaction : Bool) : State :=
  if s.x.dev ≠ .run then s
  else
    let s := setDev (trainsHold s) .hold
    let s := { s with x := { s.x with pwr := { s.x.pwr with holdAt := s.x.tick.count } } }
    s.modCol fun c => { c with heldByReaction := byReaction, heldByConfig := false, quiet := 0 }

/-- The device enters RUN from HOLD (R514, R515, R389); test mode closes (R529). -/
def enterRun (s : State) : State :=
  (setDev (testClose s) .run).modCol fun c => { c with
    heldByReaction := false, heldByConfig := false, pinsOff := false }

/-- The trains with RUN = 1 start in a device that came to RUN, each with its preload (R84, R87); a RUN command in a boundary leaves this to
the boundary. -/
def startTrains (old s : State) : State :=
  if s.x.dev = .run && old.x.dev ≠ .run then forAll (n := 8) (forAll (n := 8) s trainStart) preload else s

/-- The device enters SAFE at a cycle 0 (R342, R390, R391): outputs low, enables at the straps, everything that works stops, the
larder is triggered. A device of the ring announces its drop: a member by LEAVE in its slot (R442, R448), a master in its next tick frame,
with which it is out (R411, `ringMoves`). -/
def enterSafe (s : State) (b : Nat) : State :=
  if !(s.x.dev = .hold || s.x.dev = .run) then s
  else
    let s := enablesToStraps (trainsHold s).allLegsLow
    let s := setDev (testClose s) .safe
    let s : State := { s with x := { s.x with tout := Vector.replicate 4 false } }
    let s := s.modCol fun c => { c with pinsOff := true, safeBit := b, safeTk := s.tickW, heldByReaction := false }
    let s := s.orReg a_FLT_SAFE_CAUSE (oneHot 15)
    let s := larderTrigger s 1 0
    { s with x := { s.x with ring := { s.x.ring with leave := true } } }

/-- Is a line whose reaction is 3 or 4 asserted (R389, R514, R515)? -/
def graveLine (s : State) : Bool := (List.range 32).any fun b => 3 ≤ react s b && line s b

/-! ### Reset (R516) -/

/-- Update the power state. -/
def State.modPwr (s : State) (f : PwrSt → PwrSt) : State := { s with x := { s.x with pwr := f s.x.pwr } }

/-- The strap pins stand at these levels: a BOOT that begins samples them (R175, R512). -/
def strapsAt (p : Straps) (s : State) : State := s.modPwr fun v => { v with straps := p }

/-- The straps as BOOT samples them set the enables and the registers that reset from them (R175, R209, R410, R463). -/
def sampleStraps (s : State) : State :=
  let p := s.x.pwr.straps
  let s := { s with x := { s.x with srcStrap := p.src, batStrap := p.bat, pwr := { s.x.pwr with
    addr := p.addr, ref := if p.clkin then 1 else 0, bootRef := if p.clkin then 1 else 0 } } }
  let s := set_SRC_CTRL_EN s (maskOf fun (i : Src) => p.src[i])
  let s := { s with x := { s.x with src := tab fun (i : Src) => { s.x.src[i] with enPrev := p.src[i] } } }
  let s := set_RG_CFG_POS (enablesToStraps s) (p.addr.val % 8)
  -- the position in force until a LISTEN adopts another (R410)
  { s with x := { s.x with ring := { s.x.ring with pos := p.addr.val % 8 } } }

/-- The always-on registers keep their values through a reset (R391, R399). -/
def keepSticky (old s : State) : State :=
  let k (s : State) (a : Nat) : State := s.setReg a (old.reg a)
  (k (k s a_FLT_STICKY) a_FLT_SAFE_CAUSE).modCol fun c => { c with
    stickyTk := old.x.col.stickyTk, safeBit := old.x.col.safeBit, safeTk := old.x.col.safeTk }

/-- What a reset, a power loss or a fence of the storeroom leaves in the sector or the words of an operation it cuts off is free
(DESIGN CHOICE, log entry 24). -/
def cutOff (s : State) : State :=
  let v := s.x.store
  match v.op with
  | none | some .imageRead => s
  | some (.hostErase k) | some (.ledgerErase k) => stFree s (k * sectorWords) sectorWords
  | some (.preErase k d) => stFree s ((262 + 16 * k + d) * sectorWords) sectorWords
  | some .hostProg =>
    match v.waitB with
    | b :: _ => b.words.foldl (fun s w => stFree s (b.page * pageWords + w.1) 1) s
    | [] => s
  | some .ledger => stFree s (ledgerBase + 16 * v.head) 16
  | some (.flush j) => stFree s (capBase + (flushSlot s * 4096 + j) * 128) 128
  | some .calSave =>
    match calEmpty v.mem with
    | some k => stFree s (calBase + 128 * k) 128
    | none => stFree s calBase sectorWords

/-- The same of the device-reserved sector, where the self-check of the storeroom runs (R505). -/
def cutCheck (s : State) : State :=
  if s.x.checks.any (·.unit == .store) then stFree s (1023 * sectorWords) sectorWords else s

/-- A reset with its cause bits (R516): every register at its reset value but the always-on ones. The storeroom keeps what is
programmed, the larder's array its records, now older than the last arming (DEDUCED, log entry 21). -/
def deviceReset (s : State) (cause : Nat) : State :=
  let s := cutCheck (cutOff s)
  let r := State.reset
  let s' : State := { r with pending := s.pending, free := s.free }
  let l := s.x.larder.recs.map fun v => { v with old := true }
  let x := s'.x
  let s' := { s' with x := { x with
    dev := .boot
    store := { x.store with mem := s.x.store.mem }
    larder := { x.larder with recs := l }
    pwr := { x.pwr with straps := s.x.pwr.straps, vstart := s.x.pwr.vstart, vbias := s.x.pwr.vbias, supply := s.x.pwr.supply, core := true, io := true, rstCause := cause } } }
  let s' := sampleStraps (keepSticky s s')
  { s' with pub := ⟨s'.cp, s'.x⟩, ck := s'.cp }

end Sys2Proof.Machine
end

