-- ==== Sys2Proof/Machine/Faults.lean ====
section
/-! DEFINITION. The collector's decision, fences, readmission, resuming, clearing (R378-R403). -/

namespace Sys2Proof.Machine

/-! ### The decision (R386, R387) -/

/-- The causes of a page that a decision goes by: those that stand, and those that stood since its bit was latched (R387). -/
def causeOf (s : State) (page : Nat) : Word :=
  s.x.col.causes.foldl (fun a v => if v.1 == page then a ||| v.2 else a) (errOf s page)

/-- The units FENCE_UNIT fences for a FAULT_WORD bit by the causes `err` of each page (R386). -/
def unitsOf (err : Nat → Word) (b : Nat) : List FenceUnit :=
  if h : b < 8 then [.train ⟨b, h⟩]
  else if b == 9 then (if bit (err 0x30) 1 then [.clerk 0] else [])
  else if b == 17 then (if bit (err 0x78) 4 then [.supv] else [])
  else if b == 18 then ((List.finRange 8).filter fun c => err (0x81 + c.val) != 0).map .clerk
  else if b == 20 then [.store]
  else if b == 21 then [.ringE]
  else if b == 22 then [.ringW]
  else if b == 23 then [.spi]
  else if b == 24 then [.twm]
  else if b == 25 then [.twp]
  else []

/-- The trains FENCE_TRAIN also fences by the causes `err` of each page (R386). -/
def trainsOf (s : State) (err : Nat → Word) (b : Nat) : List Train :=
  if b == 8 then
    ((List.finRange 24).filter fun n => err (0x10 + n.val) != 0).filterMap fun n => legTrain s n
  else if b == 9 then
    ((List.finRange 4).filter fun i => s.x.src[i].ovOff).flatMap fun i => intakeTrains s (srcNode s i).val
  else if h : 10 ≤ b ∧ b < 14 then storeTrains s ⟨b - 10, by omega⟩
  else if b == 14 then
    (List.finRange 8).filter fun t =>
      err (0x41 + (loSlice s t).val) != 0 || err (0x41 + (hiSlice s t).val) != 0
  else if b == 16 then
    ((List.finRange 16).filter fun (l : LoopIx) => err (0x61 + l.val) != 0).flatMap fun (l : LoopIx) =>
      (List.finRange 8).filter fun t => nbit (LP_ROUTE_TRAINS s l) t
  else if b == 17 then (List.finRange 8).filter fun t => trainInSubst s t
  else if b == 18 then
    ((List.finRange 4).filter fun p => err (0x82 + p.val) != 0).flatMap (storeTrains s)
  else []

/-- Does the table of R386 name a unit for a bit, and does it name trains? -/
def namesUnit (b : Nat) : Bool := b ≤ 9 || b == 14 || (16 ≤ b && b ≤ 18) || (20 ≤ b && b ≤ 25)
/-- See `namesUnit`. -/
def namesTrains (b : Nat) : Bool := (8 ≤ b && b ≤ 14) || (16 ≤ b && b ≤ 18)

/-- The reaction that a bit takes: a code acts as a lower one where the bit names nothing for it (R386). -/
def reactAs (s : State) (b : Nat) : Nat :=
  match react s b with
  | 1 => if namesUnit b then 1 else 0
  | 2 => if namesTrains b then 2 else if namesUnit b then 1 else 0
  | k => k

/-- The fences of a bit under its reaction by the causes `err` of each page (R385, R386). -/
def fencesOf (s : State) (err : Nat → Word) (b : Nat) : List FenceUnit :=
  match reactAs s b with
  | 1 => unitsOf err b
  | 2 => unitsOf err b ++ (trainsOf s err b).map .train
  | _ => []

/-- Converters whose fault stands, which the next cycle 0 fences whatever the reaction (R272). -/
def deadConvs (s : State) : List Conv :=
  (List.finRange 18).filter fun c => s.x.conv[c].fault && !s.isFenced (.conv c) && !s.x.col.fencePend.contains (.conv c)

/-- The supervisor takes the fence of a converter as a LOST verdict on the slice it delivers (R272); a dead partner of a pair is no
alternative (R157). -/
def lostConv (dead : List Conv) (s : State) (c : Conv) : State :=
  (List.finRange 16).foldl (fun s i =>
    if delivBy s i == c && SL_CFG_EN s i && (s.cp.sup[i].cause = .none || s.cp.sup[i].alt = .serving) then
      blame s i .lost (blamed s (pairMate i) || dead.contains (convOf (pairMate i))) else s) s

/-- Host ports and clerks that the next cycle 0 fences whatever the reaction: for a parity error of a port (R483), an illegal
instruction (R323). -/
def inherentUnits (s : State) : List FenceUnit :=
  s.x.col.inherent.filter (!s.isFenced ·) ++
  ((List.finRange 8).filter fun c => s.cp.clerks[c].illegal && !s.isFenced (.clerk c)).map .clerk

/-- The bits latched and not yet decided. -/
def newBits (s : State) : List Nat := (List.range 32).filter fun b => s.x.col.newly.getLsbD b

/-- The decided bit that heads the order of R383: highest reaction first, then highest number. -/
def headBit (s : State) (l : List Nat) : Option Nat :=
  l.foldl (fun (a : Option Nat) b => match a with
    | none => some b
    | some c => if reactAs s c ≤ reactAs s b then some b else a) none

/-- A fault of the collector itself (R398, R399): its cause, the sticky copy, the pins at once, SAFE at the next cycle 0. -/
def collectorFault (s : State) (cause : Nat) : State :=
  let s := s.orReg (a_PG_ERR 0xB8) (oneHot cause)
  let s := s.orReg a_FLT_STICKY (oneHot cause)
  let s := s.modCol fun c => { c with stickyTk := s.tickW, safePend := some 31 }
  pinShutdown (latch s 31) 4

/-- What the collector's check of itself finds (R398); an overrun of the window is a trip of checker 6 as well (R7, R36, R46). -/
def collectorCheck (f : CheckFault) (s : State) : State :=
  match f with
  | .parity _ => collectorFault s 0
  | .ecc2 _ => collectorFault s 1
  | .selfCheck _ => collectorFault s 2
  | .overrun cyc => overrun (collectorFault s 3) cyc []
  | _ => s

/-- FAULT_DECISION: at cycles 896-899 the collector checks itself and decides every bit latched and not yet decided
(R387, R398). -/
def execFaultDecision (f : CheckFault) (s : State) : Host.Outcome State Fault Refusal :=
  if !(ticking s) then .next s
  else
    let s := oneCycle (collectorCheck f) s
    let dead := deadConvs s
    let s := dead.foldl (lostConv dead) s
    let l := newBits s
    let fences := l.flatMap (fencesOf s (causeOf s))
    let code := (headBit s l).map fun b => (reactAs s b, b)
    let s := s.modCol fun c => { c with
      newly := 0, causes := [], inherent := []
      fencePend := c.fencePend ++ dead.map .conv ++ inherentUnits s ++ fences }
    match code with
    | none => .next s
    | some (k, b) => .next (s.modCol fun c => { c with
        actCode := if k == 0 then c.actCode else k
        actBit := if k == 0 then c.actBit else b
        holdPend := c.holdPend || k == 3
        holdConf := c.holdConf || (l.contains 30 && react s 30 == 3)
        safePend := if c.safePend.isSome then c.safePend else if k == 4 then some b else none })

/-! ### Fences (R392) -/

/-- A fence of the storeroom ends what runs there with its error (R392, R504), and a host command. -/
def storeFence (s : State) : State :=
  let s := if s.x.store.busy then set_STORE_CMD_CMD s 0 else s
  let s := cutOff s
  let lost := s.x.store.queue.length
  let cut := s.x.store.cut.isSome || (s.x.larder.state = .flush && s.x.larder.prog != 0)
  let s := s.modStore fun v => { v with
    op := none, cut := none, erase := none, eraseEnd := false, busy := false, prog := false, queue := [], lost := min 255 (v.lost + lost), waitB := [], fill := none }
  let s := if lost != 0 then s.evt 0xC0 1 else s
  let s := if s.x.larder.state = .flush then s.modLar fun l => { l with state := .frozen, err := true } else s
  let s := if cut then flushNext s else s
  if s.x.cal.saveBusy then
    raise (s.modCal fun v => { v with saveBusy := false, saveAgain := 0, saveErr := true }) 0x58 2
  else s

/-- A request ends (R319, R475, R481): the result waits for the next cycle 0. -/
def pbEnd (s : State) (r : PbReq) (cause : Nat) (data : Word) : State :=
  { s with x := { s.x with twp := { s.x.twp with results := s.x.twp.results ++ [(r, cause, data)] } } }

/-- The request at the head of the queue ends (R479-R481). -/
def pbFinish (s : State) (cause : Nat) (data : Word) : State :=
  match s.x.twp.queue with
  | [] => s
  | r :: q =>
    let s := pbEnd s r cause data
    { s with x := { s.x with twp := { s.x.twp with queue := q, onBus := false, tries := 0, since := s.x.tick.count } } }

/-- A fenced TWP ends its queued requests with FENCED (R483). -/
def twpFence (s : State) : State :=
  let q := s.x.twp.queue
  let s := q.foldl (fun s r => pbEnd s r 7 0) s
  { s with x := { s.x with twp := { s.x.twp with queue := [], onBus := false, tries := 0 } } }

/-- A fence takes effect at a cycle 0 (R387, R392, R396). -/
def applyFence (s : State) (u : FenceUnit) : State :=
  match u with
  | .train t => trainFence s t
  | .leg n => legOut s n
  | .store => if s.isFenced u then s else storeFence (s.fence u)
  | .twp => if s.isFenced u then s else twpFence (s.fence u)
  | .conv c =>
    let s := s.fence u
    if c == spareConv then
      forAll (n := 16) s fun s i =>
        let v := s.cp.sup[i]
        if v.altKind = .spare && (v.alt = .settle || v.alt = .agree) then
          s.modSup i fun v => { v with alt := .waiting, altCnt := 0 } else s
    else s
  | .clerk c =>
    let s := s.fence u
    { s with cp := { s.cp with clerkUnits := s.cp.clerkUnits.filter fun u => u.src != .clerk c || u.reject == some 7 } }
  | _ => s.fence u

/-! ### Readmission (R394-R397) -/

/-- The fence units of a page (R394, R563). -/
def pageUnits (page : Nat) : List FenceUnit :=
  if h : 0x08 ≤ page ∧ page ≤ 0x0F then [.train ⟨page - 0x08, by omega⟩]
  else if h : 0x10 ≤ page ∧ page ≤ 0x27 then [.leg ⟨page - 0x10, by omega⟩]
  else if h : 0x41 ≤ page ∧ page ≤ 0x52 then [.conv ⟨page - 0x41, by omega⟩]
  else if h : 0x61 ≤ page ∧ page ≤ 0x70 then [.loop ⟨page - 0x61, by omega⟩]
  else if h : 0x81 ≤ page ∧ page ≤ 0x88 then [.clerk ⟨page - 0x81, by omega⟩]
  else if page == 0x78 then [.supv]
  else if page == 0xC0 then [.store]
  else if page == 0xC8 then [.ringE, .ringW]
  else if page == 0xD0 then [.spi]
  else if page == 0xD1 then [.twm]
  else if page == 0xD2 then [.twp]
  else []

/-- Is a PG_ERR bit that fences the unit still 1 (R394): one that fences it inherently, or a cause of a bit whose reaction fences it, the
storeroom's on either of its pages? -/
def unitErr (s : State) (u : FenceUnit) : Bool :=
  PG_ERR_W s (unitPage u) &&& (unitMask u).2 != 0 ||
    (List.range 32).any fun b => line s b && (fencesOf s (errOf s) b).contains u

/-- A readmission is refused or fails (R394). -/
def unfFail (s : State) (page : Nat) : State :=
  (s.modCol fun c => { c with unfDone := false, unfFail := true, unfPage := page }).evt 0xB8 2

/-- UNFENCE_REQ of a page clears at the cycle 0 at which its last self-check ends (R394). -/
def reqClear (s : State) (page : Nat) : State :=
  if s.x.checks.any (unitPage ·.unit == page) then s
  else s.setReg (addr page 0x03) (s.reg (addr page 0x03) &&& ~~~0x0002)

/-- UNFENCE_REQ = 1 on a page takes effect (R394, R563): every fenced unit of the page starts its self-check or is refused. -/
def unfence (s : State) (page : Nat) : State :=
  (pageUnits page).foldl (fun s u =>
    if !(s.isFenced u) || s.x.checks.any (·.unit == u) then s
    else if s.x.dev = .safe || unitErr s u then unfFail s page
    else { s with x := { s.x with checks := s.x.checks ++ [{ unit := u, since := s.x.tick.count, bad := false }] } }) s

/-- UNFENCE_REQUEST on a page. -/
def execUnfenceRequest (page : Nat) (s : State) : Host.Outcome State Fault Refusal := .next (unfence s page)

/-- d of R392: the ticks after which the self-check of a unit ends; for the storeroom the actual duration is the check's own, 1 at
least; for a ring port see `checkEnd`. -/
def checkTicks : FenceUnit → Nat
  | .leg _ | .train _ => 16
  | .conv _ => 64
  | .loop _ => 1
  | .clerk _ => 2
  | .supv => 4
  | .ringE | .ringW => 1
  | .spi | .twm | .twp => 1
  | .store => 1

/-- How a self-check ends now, none if it runs on: at its end as the check finds; for a ring port with its training, which fails after
1024 ticks (R392). An error of the unit since its start fails it (R396), and so does an open wire of a slice (R392). -/
def checkEnd (s : State) (k : SelfCheck) (pass : Bool) : Option Bool :=
  let age := s.x.tick.count - k.since
  let clean := !(unitErr s k.unit) && !k.bad
  let ring (p : RgPortState) : Option Bool :=
    if p = .up || p = .wrap || p = .tap then (if 1 ≤ age then some (pass && clean) else none) else if 1024 ≤ age then some false else none
  match k.unit with
  | .ringE => ring s.x.ring.e.state
  | .ringW => ring s.x.ring.w.state
  | .conv c =>
    if age < 64 then none
    else if h : c.val < 16 then
      let i : Slice := ⟨c.val, h⟩
      some (pass && clean && !(SL_OW_TEN s i && SL_OW_N s i ≤ s.x.slices[i].owHit))
    else some (pass && clean)
  | u => if age < checkTicks u then none else some (pass && clean)

/-- Is a clerk permitted to run (R301)? An entry into SLEEP pauses it (R519). -/
def ckPermitted (s : State) (c : ClerkIx) : Bool :=
  !s.x.pwr.sleeping && (s.x.dev = .run || (s.x.dev = .hold && CK_CTRL_HOLDRUN s c))

/-- A clerk's state is cleared (R301): PC, registers, flags, timers, wait count and request flag. What it publishes of the past
stays, and so do the counters up to which the ledger list has accounted, since it adds changes only (R252). -/
def ckClear (v : ClerkSt) : ClerkSt :=
  { v with regs := Vector.replicate 4 0, z := false, n := false, c := false, pc := 0, timers := Vector.replicate 4 0
           wait := 0, req := false, count := 0, ended := false, reqNew := none, illegal := false
           fact := { old := v.fact.old, appended := v.fact.appended } }

/-- A clerk starts from STOPPED or from a fence (R301). -/
def ckStart (s : State) (c : ClerkIx) : State :=
  { s with cp := { s.cp with clerks := upd s.cp.clerks c { ckClear s.cp.clerks[c] with
    run := .running, paused := !(ckPermitted s c) } } }

/-- A clerk stops (R301). -/
def ckStop (s : State) (c : ClerkIx) : State :=
  { s with cp := { s.cp with clerks := upd s.cp.clerks c { s.cp.clerks[c] with run := .stopped, paused := false } } }

/-- A readmitted slice (R166): blame cleared, its substitution ended at this boundary, an alternative that serves it, the spare or the
partner of its pair, returned make-before-break: it delivers for three ticks more (R289). -/
def sliceBack (s : State) (i : Slice) : State :=
  let v := s.cp.sup[i]
  let s := if v.alt = .serving && v.altKind != .own then s.evt 0x78 3 else s
  let s := if v.altKind = .spare && s.cp.spare.slice == i then
      (match v.alt with
        | .serving => s.modSpare fun p => { p with state := .ret, retLeft := 2 }
        | .settle | .agree => s.modSpare fun p => { p with state := .idle }
        | _ => s) else s
  forAll (n := 8) (s.modSup i fun _ => { est := v.est, altKind := v.altKind, back := if v.alt = .serving then 3 else 0 }) substAgain

/-- Does a self-check find its unit good (R392)? -/
def selfTestGood : SelfTest → Bool
  | .pass => true
  | .fail => false
  | .store p e => p.bad.isEmpty && !p.uncorrectable && !(notBlank e) && !e.uncorrectable

/-- What a self-check does: that of the storeroom programs and verifies the device-reserved sector, erases and blank-checks it (R392, R505),
the erase also after a mismatch (DESIGN CHOICE, log entry 119); its words are other than those programmed, which the spec does not state. -/
def selfTest (s : State) : SelfTest → State
  | .pass | .fail => s
  | .store p e => eraseSector (eccFound (verifyError s (!p.bad.isEmpty)) p) 1023 e

/-- The effects of a readmission (R395). -/
def readmitEffect (s : State) (u : FenceUnit) : State :=
  match u with
  | .leg _ => s
  | .train t => setTrain s t .off
  | .conv c =>
    let s := s.modConv c fun v => { v with fault := false }
    if h : c.val < 16 then sliceBack s ⟨c.val, h⟩ else s
  | .loop l => s.modLoop l fun r => { r with preset := .exact r.out }
  | .clerk c => if CK_CTRL_RUN s c then ckStart s c else
      { s with cp := { s.cp with clerks := upd s.cp.clerks c { ckClear s.cp.clerks[c] with run := .stopped, paused := false } } }
  | .supv => forAll (n := 8) s fun s t => s.modModel t fun m => { m with running := false, fresh := true, frozen := none }
  | _ => s

/-- A unit is readmitted (R394, R395). -/
def readmit (s : State) (u : FenceUnit) : State :=
  let s := { s with x := { s.x with
    fenced := s.x.fenced.filter (· != u), checks := s.x.checks.filter (·.unit != u) } }
  readmitEffect (s.evt 0xB8 1) u

/-- The self-check of a unit ends at a cycle 0, by which the unit is readmitted or stays fenced (R394). -/
def endCheck (u : FenceUnit) (ok : Bool) (s : State) : State :=
  let page := unitPage u
  if ok then
    (reqClear (readmit s u) page).modCol fun c => { c with unfDone := true, unfFail := false, unfPage := page }
  else reqClear (unfFail { s with x := { s.x with checks := s.x.checks.filter (·.unit != u) } } page) page

/-- READMISSION of a unit at the end of its self-check, with what the check found (R394, R396): an error of the unit during the
check fails it, and a fence decided for the same cycle 0 prevails. -/
def execReadmission (u : FenceUnit) (found : SelfTest) (s : State) : Host.Outcome State Fault Refusal :=
  match s.x.checks.find? (·.unit == u) with
  | none => .next s
  | some k =>
    match checkEnd s k (selfTestGood found) with
    | none => .next s
    | some ok => .next (atCycle0 (fun s => endCheck u (ok && !s.x.col.fencePend.contains u) (selfTest s found)) s)

/-- HOST_PORT_AUTO_READMIT: a fenced SPI or TWM port comes back after 4096 ticks without activity addressed to the device
(R397). -/
def execHostPortAutoReadmit (p : Port) (s : State) : Host.Outcome State Fault Refusal :=
  let u : FenceUnit := match p with | .spi => .spi | .twm => .twm
  if s.isFenced u && 4096 ≤ s.x.idle.get p then .next (atCycle0 (fun s => reqClear (readmit s u) (unitPage u)) s) else .next s

/-- DEVICE_RESUME: a device held by a reaction returns to RUN after its quiet time, and every train in HOLD with RUN = 1 starts
(R389; R84 gives HOLD no such exit, log entry 27). -/
def execDeviceResume (s : State) : Host.Outcome State Fault Refusal :=
  let c := s.x.col
  if s.x.dev = .hold && c.heldByReaction && !c.heldByConfig && FLT_RESUME_DELAY s != 0 &&
      FLT_RESUME_DELAY s * 256 < c.quiet && c.resumeCnt < FLT_RESUME_MAXN s then
    let s := (s.modCol fun c => { c with resumeCnt := c.resumeCnt + 1 }).evt 0xB8 3
    .next (startTrains s (enterRun (forAll (n := 8) s fun s t =>
      if s.cp.trains[t].state = .hold && TR_CTRL_RUN s t then setTrain s t .off else s)))
  else .next s

/-! ### Clearing and reading the fault word (R379, R381, R384) -/

/-- A W1C write of a half of FAULT_WORD takes effect after the other commits of the boundary (R379); FLT_FIRST holds until the
word is 0 (R384), FLT# follows (R382). -/
def faultClear (s : State) (hi : Bool) (m : Word) : State :=
  let bits : BitVec 32 := (List.range 16).foldl (fun (a : BitVec 32) i =>
    let b := if hi then i + 16 else i
    if bit m i && !(line s b) then a ||| BitVec.ofNat 32 (2 ^ b) else a) 0
  fltPin (s.modCol fun c =>
    let w := c.word &&& ~~~bits
    { c with word := w, first := if w = 0 then none else c.first })

/-- FAULT_WORD_CLEAR of the low or high half. -/
def execFaultWordClear (hi : Bool) (m : Word) (s : State) : Host.Outcome State Fault Refusal := .next (faultClear s hi m)

/-- The half of the published fault word a port sees. -/
def seenFaultWord (s : State) (p : Port) : BitVec 32 := ((s.views.get p).getD s.pub).x.col.word

/-- A read of FAULT_WORD_L latches FAULT_WORD_H for the port, from the same snapshot (R381). -/
def faultLatch (s : State) (p : Port) : State :=
  let v : Word := word ((seenFaultWord s p).toNat / 65536)
  s.modCol fun c => { c with latchH := c.latchH.put p (some v) }

/-- FAULT_WORD_L_READ by a port. -/
def execFaultWordLRead (p : Port) (s : State) : Host.Outcome State Fault Refusal := .next (faultLatch s p)

end Sys2Proof.Machine
end

