-- ==== Sys2Proof/Machine/Store.lean ====
section
/-! DEFINITION. The storeroom (R488-R501), the calibration save (R374, R375) and the larder's commands (R503, R504). -/

namespace Sys2Proof.Machine

/-- Do the host ports and the storeroom serve: not in OFF, BOOT or SLEEP (R461, R470)? -/
def hostLive (s : State) : Bool :=
  match s.x.dev with | .hold | .run | .safe => true | _ => false

/-- May the host program or erase this sector (R488)? -/
def hostSector (k : Nat) : Bool := k ≤ 5 || (966 ≤ k && k ≤ 1022)

/-! ### The data port (R489, R490) -/

/-- The buffer being filled waits to be programmed. -/
def bufferOut (s : State) : State :=
  s.modStore fun v => match v.fill with
    | none => v
    | some b => { v with fill := none, waitB := v.waitB ++ [b] }

/-- The port address takes a value; a buffer whose page it leaves is to be programmed (R490). -/
def setAddr (s : State) (a : Nat) : State :=
  let s := s.modStore fun v => { v with addr := a }
  match s.x.store.fill with
  | some b => if b.page == a / pageWords then s else bufferOut s
  | none => s

/-- The address increments and wraps (R489). -/
def stepAddr (s : State) : State := setAddr s ((s.x.store.addr + 1) % 0x2000000)

/-- A write to a half of STORE_ADDR takes effect: the address is loaded from the registers in force (R489). -/
def loadAddr (s : State) : State := setAddr s (STORE_ADDR_H_ADDR s * 65536 + STORE_ADDR_L s)

/-- STORE_ADDR_WRITE of the high or low half. -/
def execStoreAddrWrite (hi : Bool) (v : Word) (s : State) : Host.Outcome State Fault Refusal :=
  if !(hostLive s) then .next s
  else .next (loadAddr (if hi then set_STORE_ADDR_H_ADDR s v.toNat else set_STORE_ADDR_L s v.toNat))

/-- A read of STORE_DATA: the word at the address, which then increments; ECC as R492 says; 0 from a fenced storeroom (R392). -/
def storeRead (s : State) (e : StoreEcc) : State :=
  if s.isFenced .store then s.modStore fun v => { v with out := 0 }
  else
    let w := stGet s.x.store.mem s.x.store.addr
    let s := match e with
      | .good => s.modStore fun v => { v with out := w }
      | .corrected => s.modStore fun v => { v with out := w, eccCnt := satInc 0xFFFF v.eccCnt }
      | .bad r => raise (s.modStore fun v => { v with out := r }) 0xC0 2
    stepAddr s

/-- STORE_DATA_READ. -/
def execStoreDataRead (e : StoreEcc) (s : State) : Host.Outcome State Fault Refusal :=
  if !(hostLive s) then .next s else .next (storeRead s e)

/-- A word written into a buffer. -/
def bufPut (b : ProgBuf) (off : Nat) (w : Word) : ProgBuf :=
  { b with words := b.words.filter (fun c => c.1 != off) ++ [(off, w)] }

/-- A write of STORE_DATA: into the buffer of the page, dropped where the region denies it or both buffers wait (R488, R490); the
address increments. -/
def storeWrite (s : State) (w : Word) : State :=
  if s.isFenced .store then s
  else
    let v := s.x.store
    let pg := v.addr / pageWords
    let s :=
      if !(hostSector (v.addr / sectorWords)) then s.orReg a_STORE_ERR (oneHot 14)
      else if 2 ≤ v.waitB.length then s.orReg a_STORE_ERR (oneHot 15)
      else
        let b := match v.fill with
          | some b => b
          | none => { page := pg, words := [] }
        s.modStore fun v => { v with fill := some (bufPut b (v.addr % pageWords) w) }
    stepAddr s

/-- STORE_DATA_WRITE. -/
def execStoreDataWrite (w : Word) (s : State) : Host.Outcome State Fault Refusal :=
  if !(hostLive s) then .next s else .next (storeWrite s w)

/-! ### Host commands (R490, R494) -/

/-- A host command ends: DONE or what f sets; the device clears CMD. -/
def hostCmdEnd (s : State) (f : StoreSt → StoreSt) : State :=
  set_STORE_CMD_CMD (s.modStore fun v => f { v with
    busy := false, prog := false, erase := none, eraseEnd := false, endedAt := s.x.tick.count }) 0

/-- The status a newly taken command starts with. -/
def hostCmdStart (v : StoreSt) : StoreSt :=
  { v with busy := true, done := false, aborted := false, abortIgnored := false, refused := false }

/-- CMD ERASE takes effect (R494). -/
def storeErase (s : State) (sector : Nat) : State :=
  let v := s.x.store
  let denied := !(hostSector sector)
  let s := if denied then s.orReg a_STORE_ERR (oneHot 14) else s
  if v.busy then s.modStore fun v => { v with refused := true }
  else if denied || s.isFenced .store then set_STORE_CMD_CMD (s.modStore fun v => { v with refused := true }) 0
  else s.modStore fun v => { hostCmdStart v with erase := some sector, eraseAfter := v.waitB.length }

/-- STORE_ERASE of a sector. -/
def execStoreErase (sector : Fin 1024) (s : State) : Host.Outcome State Fault Refusal :=
  if !(hostLive s) then .next s else .next (storeErase s sector.val)

/-- CMD PROG takes effect: the buffer being filled is programmed (R490); with nothing to program the command is done at once. -/
def storeProg (s : State) : State :=
  if s.isFenced .store then set_STORE_CMD_CMD (s.modStore fun v => { v with refused := true }) 0
  else
    let s := bufferOut s
    if s.x.store.busy then s
    else if s.x.store.waitB.isEmpty then
      (hostCmdEnd (s.modStore hostCmdStart) fun v => { v with done := true }).evt 0xC0 0
    else s.modStore fun v => { hostCmdStart v with prog := true }

/-- STORE_PROG. -/
def execStoreProg (s : State) : Host.Outcome State Fault Refusal :=
  if !(hostLive s) then .next s else .next (storeProg s)

/-- CMD = 0 takes effect: it stops an erase, whose sector is then undefined (R494), or loses to its completion. -/
def storeAbort (s : State) : State :=
  let v := s.x.store
  match v.erase with
  | some k =>
    let s := if v.op == some (.hostErase k) || v.eraseEnd then
        (stFree s (k * sectorWords) sectorWords).modStore fun v =>
          { v with op := if v.op == some (.hostErase k) then none else v.op }
      else s
    hostCmdEnd s fun v => { v with aborted := true }
  | none =>
    if v.done && v.endedAt == s.x.tick.count then s.modStore fun v => { v with abortIgnored := true } else s

/-- STORE_ABORT. -/
def execStoreAbort (s : State) : Host.Outcome State Fault Refusal :=
  if !(hostLive s) then .next s else .next (storeAbort s)

/-! ### Records found in the array (R374, R495, R499, R504) -/

/-- The newest of the records that pass a test: (number, sequence), by highest sequence. -/
def newest (l : List (Nat × Nat)) : Option (Nat × Nat) :=
  l.foldl (fun (a : Option (Nat × Nat)) b => match a with
    | none => some b
    | some c => if c.2 < b.2 then some b else a) none

/-- The newest valid calibration record: slot and sequence (R375, R376). -/
def calNewest (m : List Host.Cell) : Option (Nat × Nat) :=
  newest ((recordsIn m calBase 128 256).filterMap fun k =>
    let r := stRead m (calBase + 128 * k) 128
    if recGood r 0x4341 then some (k, pair32 r 2) else none)

/-- A ledger record is valid: its mark and check word are good (R499). -/
def ledgerGood (r : List Word) : Bool :=
  bits (r.getD 0 0) 7 0 == 0x5A && withCrc (r.take 14) == r

/-- Valid ledger records of a test: (number, sequence). -/
def ledgerFind (m : List Host.Cell) (p : List Word → Bool) : Option (Nat × Nat) :=
  newest ((recordsIn m ledgerBase 16 ledgerLen).filterMap fun k =>
    let r := stRead m (ledgerBase + 16 * k) 16
    if ledgerGood r && p r then some (k, pair32 r 1) else none)

/-- The newest capture: slot and sequence, from any valid record of a slot (R504). -/
def capNewest (m : List Host.Cell) : Option (Nat × Nat) :=
  newest ((recordsIn m capBase 128 (44 * 4096)).filterMap fun k =>
    let r := stRead m (capBase + 128 * k) 128
    if bits (r.getD 0 0) 7 0 == 1 && withCrc (r.take 126) == r then some (k / 4096, pair32 r 124) else none)

/-! ### The array (R491-R493, R499, R504) -/

/-- Does the master read its image for a device that joins: one that announces LOAD (R446)? It is heard in the slots and announces of the last
64 ticks. The read is one operation that lasts until no such device is heard (DESIGN CHOICE, log entry 96). -/
def imageWanted (s : State) : Bool :=
  s.x.ring.state = .master && s.x.ring.heard.any fun c => c.1.state == 4 && s.x.tick.count < c.2 + 64

/-- The next operation of the free array, in the order of agents; those of one agent run in issue order (R493). -/
def nextOp (s : State) : Option ArrOp :=
  let v := s.x.store
  if imageWanted s then some .imageRead
  else if s.x.cal.saveBusy then some .calSave
  else if !v.queue.isEmpty then
    if v.head % 2048 == 0 && !v.fresh then some (.ledgerErase (6 + v.head / 2048)) else some .ledger
  else
    let erase := if v.eraseAfter == 0 && !v.eraseEnd then v.erase else none
    match erase with
    | some k => some (.hostErase k)
    | none =>
      if !v.waitB.isEmpty then some .hostProg
      else if s.x.larder.state = .flush && v.preErase.map (·.1) != some (flushSlot s) then some (.flush s.x.larder.prog)
      else v.preErase.map fun p => .preErase p.1 p.2

/-- STORE_OP_START: the free array takes the next operation (R493); none while fenced (R392) or on the way into SLEEP (R519). -/
def execStoreOpStart (s : State) : Host.Outcome State Fault Refusal :=
  if !(hostLive s) || s.isFenced .store || s.x.pwr.sleeping || s.x.store.op.isSome then .next s
  else .next (s.modStore fun v => { v with op := nextOp s })

/-- Words numbered from 0. -/
def numbered (l : List Word) : List (Nat × Word) := l.mapIdx fun i w => (i, w)

/-- A ledger record as written (R499). -/
def ledgerWords (s : State) (r : LedgerRec) : List Word :=
  let q := s.x.store.seq + 1
  withCrc ((at_ r.kind 12 ||| at_ (r.sub % 16) 8 ||| word 0x5A) :: word q :: word (q / 65536) :: word s.x.store.boots ::
    word r.tick :: word (r.tick / 65536) :: word (r.tick / 4294967296) ::
    (List.range 7).map fun i => r.pay.getD i 0)

/-- A larder record as the flush writes it (R504). -/
def flushWords (r : LarRec) (seq : Nat) : List Word :=
  let w0 := r.words.getD 0 0
  withCrc ((if r.old then setBit w0 15 false else w0) ::
    ((List.range 123).map fun i => r.words.getD (i + 1) 0) ++ [word seq, word (seq / 65536)])

/-- Record j of the window, oldest first; places never written since power-on come first and hold 0 (DESIGN CHOICE, log
entry 25). -/
def windowRec (l : LarderSt) (j : Nat) : LarRec :=
  let miss := 4096 - l.recs.length
  if j < miss then { ix := 0, old := true, words := [] } else l.recs.getD (j - miss) { ix := 0, old := true, words := [] }

/-- The larder arms: what it holds is older than the arming. -/
def larArm (l : LarderSt) : LarderSt :=
  { l with state := .armed, flushed := false, recorded := false, left := 0
           recs := l.recs.map fun r => { r with old := true } }

/-- The last page of a flush: the window is saved, the following slot is to be erased (R503, R504). -/
def flushEnd (s : State) : State :=
  ((flushNext s).modLar fun l => if LAR_CFG_REARM s then larArm l else { l with state := .frozen, flushed := true }).evt 0xC1 1

/-- A page program ends (R490, R492, R499, R504). -/
def programDone (s : State) (r : ArrayRead) : State :=
  let v := s.x.store
  match v.op with
  | some .hostProg =>
    match v.waitB with
    | [] => s.modStore fun v => { v with op := none }
    | b :: t =>
      let s := (progWords s (b.page * pageWords) b.words r).1.modStore fun v => { v with
        op := none, waitB := t, eraseAfter := v.eraseAfter - 1 }
      if t.isEmpty && v.prog then (hostCmdEnd s fun v => { v with done := true }).evt 0xC0 0 else s
  | some .ledger =>
    match v.queue with
    | [] => s.modStore fun v => { v with op := none }
    | q :: t =>
      (progWords s (ledgerBase + 16 * v.head) (numbered (ledgerWords s q)) r).1.modStore fun v => { v with
        op := none, queue := t, seq := v.seq + 1, head := (v.head + 1) % ledgerLen, fresh := false }
  | some (.flush j) =>
    let k := flushSlot s
    let words := v.cut.getD (flushWords (windowRec s.x.larder j) (v.capSeq + 1))
    let s := (progWords s (capBase + (k * 4096 + j) * 128) (numbered words) r).1.modStore fun v => { v with op := none, cut := none }
    if v.cut.isSome then flushNext s
    else
      let s := s.modLar fun l => { l with prog := j + 1 }
      if j + 1 == 4096 then flushEnd s else s
  | _ => s

/-- STORE_PROGRAM_DONE, with what the read-back finds. -/
def execStoreProgramDone (r : ArrayRead) (s : State) : Host.Outcome State Fault Refusal :=
  .next (programDone s r)

/-- LARDER_FLUSH_DONE: the last page of a flush is programmed (R503, R504). -/
def execLarderFlushDone (s : State) : Host.Outcome State Fault Refusal :=
  if s.x.store.op == some (.flush 4095) then .next (programDone s {}) else .next s

/-- A sector erase ends with its blank check (R492, R494, R499, R504). -/
def eraseDone (s : State) (r : ArrayRead) : State :=
  let go (k : Nat) : State := (eraseSector s k r).modStore fun v => { v with op := none }
  match s.x.store.op with
  | some (.hostErase k) => (go k).modStore fun v => { v with eraseEnd := true }
  | some (.ledgerErase k) => (go k).modStore fun v => { v with fresh := true }
  | some (.preErase k d) => (go (262 + 16 * k + d)).modStore fun v => { v with preErase := if d + 1 == 16 then none else some (k, d + 1) }
  | _ => s

/-- Cycle 0 after the blank check of a host's erase: the command is done (R494). An image read ends with its need (R493). -/
def storeBoundary (s : State) : State :=
  let s := if s.x.store.op == some .imageRead && !(imageWanted s) then s.modStore fun v => { v with op := none } else s
  if s.x.store.eraseEnd then (hostCmdEnd s fun v => { v with done := true }).evt 0xC0 0 else s

/-- STORE_ERASE_DONE: the blank check is over. -/
def execStoreEraseDone (r : ArrayRead) (s : State) : Host.Outcome State Fault Refusal := .next (eraseDone s r)

/-! ### Calibration saves (R374, R375) -/

/-- The record of R374. -/
def calRecord (s : State) (seq : Nat) : List Word :=
  let legs := (List.finRange 24).flatMap fun (n : Leg) =>
    [s.reg (a_CAL_LDn_H n), s.reg (a_CAL_LDn_L n),
     bitAt s.x.cal.legOk[n] 15 ||| bitAt s.x.cal.legHi[n] 14 ||| at_ (bits (s.reg (a_L_TRIM n)) 4 0) 0, 0]
  let srcs := (List.finRange 4).map fun (i : Src) => s.reg (a_CAL_SRCs i) ||| bitAt s.x.cal.srcOk[i] 15
  let body := [0x4341, 1, word seq, word (seq / 65536), s.reg a_CAL_VREF_L, s.reg a_CAL_VREF_H, 0, 0] ++ legs ++ srcs ++
    [s.reg a_CAL_RING ||| bitAt s.x.cal.ringOk 15]
  withCrc (body ++ List.replicate (126 - body.length) 0)

/-- A save ends, and one asked for meanwhile begins at once, with neither DONE nor ERR (R375). -/
def saveAgain (v : CalSt) : CalSt :=
  if v.saveAgain == 0 then { v with saveBusy := false }
  else { v with saveAgain := v.saveAgain - 1, saveDone := false, saveErr := false }

/-- A storeroom error ends the save (R375). -/
def saveFailed (s : State) : State := raise (s.modCal fun v => saveAgain { v with saveErr := true }) 0x58 2

/-- The record is programmed into a slot and read back. -/
def saveRecord (s : State) (slot seq : Nat) (r : ArrayRead) : State :=
  let (s, wrong) := progWords s (calBase + 128 * slot) (numbered (calRecord s seq)) r
  if wrong || r.uncorrectable then saveFailed s
  else (s.modCal fun v => saveAgain { v with saveDone := true, seq := seq, slot := slot }).evt 0x58 3

/-- CAL_SAVE_DONE: the record goes into the first empty slot, else into slot 0 of the erased sector, and the check words are written (R375);
what the storeroom finds wrong ends the save (R492). -/
def execCalSaveDone (r : SaveRead) (s : State) : Host.Outcome State Fault Refusal :=
  if s.x.store.op != some .calSave then .next s
  else
    let s := s.modStore fun v => { v with op := none }
    -- also where the sector is erased, the number follows the highest that it held
    let seq := match calNewest s.x.store.mem with
      | some (_, q) => q + 1
      | none => 1
    match calEmpty s.x.store.mem with
    | some k => .next (saveRecord s k seq r.prog)
    | none =>
      let t := eraseSector s 4 r.erase
      if notBlank r.erase || r.erase.uncorrectable then .next (saveFailed t)
      else .next (saveRecord t 0 seq r.prog)

/-! ### The ledger queue (R500, R501) -/

/-- A record enters the queue, or is dropped and counted (R501), as while the storeroom is fenced (R392). -/
def ledgerPut (s : State) (r : LedgerRec) : State :=
  if s.x.store.queue.length < 16 && !s.isFenced .store then s.modStore fun v => { v with queue := v.queue ++ [r] }
  else (s.modStore fun v => { v with lost := satInc 255 v.lost }).evt 0xC0 1

/-- A 32-bit total; one past the range is free (log entry 4). -/
def total32 (n : Nat) : Nat := if n < 4294967296 then n else (Config.overflow n).toNat % 4294967296

/-- An append takes effect: COUNTERS and TEMPHIST are filled in by the device (R501). -/
def ledgerAppend (s : State) : State :=
  let kind := LG_KIND_KIND s
  let sub := LG_KIND_SUB s
  let pay := (List.range 7).map fun i => s.reg (addr 0xC0 (0x21 + i))
  let p : BPort := ⟨sub % 4, by omega⟩
  let v := s.x.store.ports[p]
  if kind == 2 && sub < 4 then
    let v := { v with
      eIn := total32 (v.eIn + pair32 pay 0), eOut := total32 (v.eOut + pair32 pay 2)
      cycles := (fitU (v.cycles + (pay.getD 4 0).toNat)).toNat }
    let s := s.modStore fun t => { t with ports := upd t.ports p v }
    ledgerPut s { kind := kind, sub := sub, tick := s.x.tick.num, pay :=
      [word v.eIn, word (v.eIn / 65536), word v.eOut, word (v.eOut / 65536), word v.cycles, pay.getD 5 0, pay.getD 6 0] }
  else if kind == 3 && sub < 4 then
    let s := s.modStore fun t => { t with ports := upd t.ports p { v with minutes := Vector.replicate 7 0 } }
    ledgerPut s { kind := kind, sub := sub, tick := s.x.tick.num, pay := v.minutes.toList.map word }
  else ledgerPut s { kind := kind, sub := sub, tick := s.x.tick.num, pay := pay }

/-- LEDGER_APPEND: LG_CTRL.APPEND = 1 takes effect. -/
def execLedgerAppend (s : State) : Host.Outcome State Fault Refusal :=
  if !(hostLive s) then .next s else .next (ledgerAppend s)

/-- The bin of a temperature in 0.1 C (R500). -/
def tempBin (t : Int) : Fin 7 :=
  if t < 0 then 0 else if t < 100 then 1 else if t < 200 then 2 else if t < 300 then 3 else if t < 400 then 4
  else if t < 500 then 5 else 6

/-- The device's minute counts: each minute of 25,000,000 ticks counts for the temperature at its end (DESIGN CHOICE, log
entry 26). -/
def ledgerMinute (s : State) : State :=
  if s.x.store.minute + 1 < 25000000 then s.modStore fun v => { v with minute := v.minute + 1 }
  else
    let s := s.modStore fun v => { v with minute := 0 }
    forAll (n := 4) s fun s p =>
      match bpTemp s p with
      | none => s
      | some t =>
        s.modStore fun v =>
          let q := v.ports[p]
          let b := tempBin t
          { v with ports := upd v.ports p { q with minutes := upd q.minutes b ((fitU (q.minutes[b] + 1)).toNat) } }

/-! ### The larder's commands (R503, R504) -/

/-- LAR_CTRL.ARM = 1 takes effect (R503). -/
def larderArm (s : State) : State :=
  match s.x.larder.state with
  | .off => if LAR_CFG_EN s then s.modLar larArm else s
  | .frozen => s.modLar larArm
  | _ => s

/-- LARDER_ARM. -/
def execLarderArm (s : State) : Host.Outcome State Fault Refusal := .next (larderArm s)
/-- LARDER_FORCE: LAR_CTRL.FORCE = 1 takes effect (R503). -/
def execLarderForce (s : State) : Host.Outcome State Fault Refusal := .next (larderTrigger s 4 0)

/-- LAR_CTRL.FLUSH = 1 takes effect: a frozen window is flushed; a fenced storeroom ends it at once (R392, R503). -/
def larderFlush (s : State) : State :=
  match s.x.larder.state with
  | .frozen =>
    if s.isFenced .store then s.modLar fun l => { l with err := true }
    else s.modLar fun l => { l with state := .flush, prog := 0, flushed := false, err := false }
  | _ => s

/-- LARDER_FLUSH. -/
def execLarderFlush (s : State) : Host.Outcome State Fault Refusal := .next (larderFlush s)

/-- LARDER_FREEZE: the record of tick t + POST is written (R503). -/
def execLarderFreeze (s : State) : Host.Outcome State Fault Refusal :=
  let l := s.x.larder
  if l.state = .post && l.recorded && l.left == 0 then .next ((s.modLar fun l => { l with state := .frozen }).evt 0xC1 0)
  else .next s

/-- EN = 0 ends a flush: a page on its way is still programmed, and the next flush takes the slot after one that holds records (R493, R504). -/
def flushStop (s : State) : State :=
  let l := s.x.larder
  if l.state ≠ .flush then s
  else match s.x.store.op with
    | some (.flush j) => s.modStore fun v => { v with cut := some (flushWords (windowRec l j) (v.capSeq + 1)) }
    | _ => if l.prog = 0 then s else flushNext s

/-- EN in force moves the larder to OFF or ARMED at a cycle 0 (R503). -/
def larderBoundary (s : State) : State :=
  if !(LAR_CFG_EN s) then (flushStop s).modLar fun l => { l with state := .off }
  else if s.x.larder.state = .off then s.modLar larArm
  else s

end Sys2Proof.Machine
end

