-- ==== Sys2Proof/Machine/Test.lean ====
section
/-! DEFINITION. The TEST page: key, loop-backs, closing (R527-R533). -/

namespace Sys2Proof.Machine

/-- Update the test page. -/
def State.modTest (s : State) (f : TestSt → TestSt) : State := { s with x := { s.x with test := f s.x.test } }

/-- A write of TEST_KEY acts (R527). -/
def testKey (s : State) (p : Port) (v : Word) : State :=
  let now := s.x.tick.count
  let s := s.modTest fun t => { t with lastWrite := now }
  if s.x.dev ≠ .hold then s.modTest fun t => { t with denied := true }
  else if v == 0x4D4C then s.modTest fun t => { t with armed := some (p, now) }
  else
    let ok := v == 0x0B17 && (match s.x.test.armed with
      | some (q, k) => q == p && now ≤ k + 4096
      | none => false)
    s.modTest fun t => { t with armed := none, isOpen := t.isOpen || ok }

/-- TEST_KEY_WRITE through a host port. -/
def execTestKeyWrite (p : Port) (v : Word) (s : State) : Host.Outcome State Fault Refusal :=
  if !(hostLive s) then .next s else .next (testKey s p v)

/-- Is the IF, DEPTH, INST combination in the table of R532? -/
def loopKnown (r : LoopBack) : Bool :=
  match r.iface with
  | 1 | 2 => true
  | 3 | 8 => r.depth == 0
  | 4 | 5 => r.depth ≤ 1
  | 6 => r.depth ≤ 2 && r.inst ≤ 23
  | 7 => r.depth ≤ 1 && r.inst ≤ 17
  | _ => false

/-- The prerequisite of R532; `ext` is what only the outside knows: the partner runs L3, the bus is idle. -/
def loopPrereq (s : State) (r : LoopBack) (ext : Bool) : Bool :=
  match r.iface, r.depth with
  | 1, 2 | 2, 2 => !(RG_CFG_EN s) && ext
  | 1, _ | 2, _ => !(RG_CFG_EN s)
  | 5, 0 => !(TWP_CFG_EN s)
  | 4, 1 | 5, 1 => !(TLn_CFG_EN s 15) && ext
  | 6, 2 => 500000 ≤ calVref s && calVref s ≤ 1200000
  | 8, _ => s.x.store.op.isNone
  | _, _ => true

/-- GO acts (R530). -/
def testGo (s : State) (ext : Bool) : State :=
  let t := s.x.test
  if !t.isOpen then s
  else
    let r : LoopBack := { iface := TEST_LB_IF s, depth := TEST_LB_DEPTH s, inst := TEST_LB_INST s, since := s.x.tick.count }
    let c := if t.run.isSome then 1 else if !(loopKnown r) then 3 else if !(loopPrereq s r ext) then 2 else 0
    if c != 0 then s.modTest fun t => { t with refused := true, refCause := c, lastWrite := s.x.tick.count }
    else s.modTest fun t => { t with
      run := some r, done := false, pass := false, aborted := false, abortIgnored := false, refused := false, refCause := 0
      errCnt := 0, meas := 0, lastWrite := s.x.tick.count }

/-- TEST_GO. -/
def execTestGo (ext : Bool) (s : State) : Host.Outcome State Fault Refusal :=
  if !(hostLive s) then .next s else .next (testGo s ext)

/-- STOP acts at a cycle of the tick: it ends the loop-back, or loses to a completion in the same cycle (R532). -/
def testStop (s : State) (cyc : Nat) : State :=
  let t := s.x.test
  if !t.isOpen then s
  else
    let s := s.modTest fun t => { t with lastWrite := s.x.tick.count }
    if t.run.isSome then
      latchAll (s.modTest fun t => { t with run := none, aborted := true, endTk := s.tickW })
    else if t.done && t.endedAt == some (s.x.tick.count, cyc) then s.modTest fun t => { t with abortIgnored := true }
    else s

/-- TEST_STOP. -/
def execTestStop (cyc : Nat) (s : State) : Host.Outcome State Fault Refusal :=
  if !(hostLive s) then .next s else .next (testStop s cyc)

/-- TEST_EXIT: EXIT closes test mode (R529). -/
def execTestExit (s : State) : Host.Outcome State Fault Refusal :=
  if s.x.test.isOpen then .next (latchAll (testClose s)) else .next s

/-- The shortest duration of a loop-back in ticks, where R532 gives a number of ticks. -/
def loopTicks (r : LoopBack) : Nat :=
  if r.iface == 7 then (if r.depth == 0 then 64 else 128) else 0

/-- Is a mean fall time in counts of 10 ns within 20 ns of a FALL setting (R469, R532)? -/
def fallOk (code : Nat) (meas : Word) : Bool :=
  ((10 * meas.toNat : Int) - ([20, 60, 120, 250].getD code 250 : Nat)).natAbs ≤ 20

/-- Are the trips of a leg's L3 those that TEST_PARAM asks for (R532): 64 below CALV/8, none above? A code is 300 mV / 1024 (R53). -/
def tripsOk (s : State) (meas : Word) : Bool :=
  let code := TEST_PARAM_PARAM s * 300000 * 8
  let ref := calVref s * 1024
  if code < ref then meas == 64 else code == ref || meas == 0

/-- The pass condition of a loop-back (R532). -/
def loopPass (s : State) (b : LoopBack) (r : LoopResult) : Bool :=
  let near (v : Int) (tol : Nat) : Bool := (r.meas.toInt - v).natAbs ≤ tol
  match b.iface, b.depth with
  | 4, 1 => r.rest && fallOk (TWM_CFG_FALL s) r.meas
  | 5, 1 => r.rest && fallOk (TWP_CFG_FALL s) r.meas
  | 6, 0 => r.rest && ((r.meas.toNat : Int) - TEST_PARAM_PARAM s).natAbs ≤ 1
  | 6, 1 => r.rest && r.errors == 0
  | 6, 2 => r.rest && tripsOk s r.meas
  | 7, 1 => r.rest && near 26214 262
  | 3, _ | 7, _ => r.rest
  | _, _ => r.errors == 0

/-- LOOPBACK_DONE: the running loop-back ends with what it found (R531, R532); that of the storeroom erases the device-reserved
sector last (R505, R532). -/
def execLoopbackDone (r : LoopResult) (cyc : Nat) (s : State) : Host.Outcome State Fault Refusal :=
  match s.x.test.run with
  | none => .next s
  | some b =>
    if s.x.tick.count < b.since + loopTicks b then .next s
    else
      let s := if b.iface == 8 then s.modStore fun v => { v with mem := stErase v.mem 1023 } else s
      .next (latchAll ((s.modTest fun t => { t with
        run := none, done := true, pass := loopPass s b r, errCnt := min 0xFFFF r.errors, meas := r.meas, endTk := s.tickW
        endedAt := some (s.x.tick.count, cyc) }).evt 0xF0 0))

/-- TEST_MODE_TIMEOUT: 4,194,304 ticks in HOLD since the last TEST write (R529). -/
def execTestModeTimeout (s : State) : Host.Outcome State Fault Refusal :=
  let t := s.x.test
  if t.isOpen && s.x.dev = .hold && max t.lastWrite s.x.pwr.holdAt + 4194304 ≤ s.x.tick.count then
    .next (latchAll (testClose s))
  else .next s

/-- A write to another TEST register acts (R528, R533): LB and PARAM are stored, CTRL commands; one to a reserved offset is ignored
(R4). TEST_LB is stored as written: no commit judges it, and GO refuses an interface that is reserved (R5, R530; log entry 36). -/
def testWrite (s : State) (p : Port) (off : Nat) (v : Word) (cyc : Nat) (ext : Bool) : State :=
  if off == 0x10 then testKey s p v
  else if !s.x.test.isOpen || !(0x12 ≤ off && off ≤ 0x14) then s
  else
    let s := s.modTest fun t => { t with lastWrite := s.x.tick.count }
    if off == 0x12 then s.setReg a_TEST_LB (v &&& 0xFC1F)
    else if off == 0x14 then s.setReg a_TEST_PARAM v
    else if off == 0x13 then
      if bit v 2 then latchAll (testClose s)
      else
        let s := if bit v 1 then testStop s cyc else s
        if bit v 0 then testGo s ext else s
    else s

end Sys2Proof.Machine
end

