-- ==== Sys2Proof/Machine/Ring.lean ====
section
/-! DEFINITION. The cascade (R404-R450): ring states, ports, frames received, election, succession, joining and leaving. -/

namespace Sys2Proof.Machine

/-- Update the ring state. -/
def State.modRing (s : State) (f : RingSt → RingSt) : State := { s with x := { s.x with ring := f s.x.ring } }
/-- Update a port. -/
def modPort (s : State) (east : Bool) (f : RgPort → RgPort) : State :=
  s.modRing fun r => if east then { r with e := f r.e } else { r with w := f r.w }
/-- The device's own clock reference: its crystal or CLKIN, as BOOT chose until the next BOOT (R517). -/
def ownRef (s : State) : Nat := s.x.pwr.bootRef

/-- The PLL takes a reference (R421, R424). -/
def takeRef (s : State) (r : Nat) : State := { s with x := { s.x with pwr := { s.x.pwr with ref := r } } }

/-- Is a state outside the cascade (R411)? -/
def RgState.out : RgState → Bool
  | .off | .search | .listen | .dropped => true
  | _ => false

/-- What a device outside the cascade no longer shows or holds: topology, master, masks, hop count, slots in use, the marker timing of its
tick (R49, R452). -/
def ringOut (r : RingSt) : RingSt :=
  { r with topo := 0, mpos := 0, memb := 0, ready := 0, hop := 0, aligned := false, inUse := Vector.replicate 8 none
           joinSent := none, heal := none, marker := none, rejoin := 0, leaveSent := false }

/-- A separated port takes part again (R444). -/
def RgPort.rejoin (p : RgPort) : RgPort := if p.state = .foreign then { p with state := .up } else p

/-- On entering LISTEN POS and MPRIO are adopted (R410, R411). -/
def listenStart (s : State) (r : RingSt) : RingSt :=
  { r with
    pos := RG_CFG_POS s, mprio := RG_CFG_MPRIO s, holdNeed := false, dup := false, heard := [], entry := none, imgBusy := false
    gotImage := false, gotScope := false, image := [], scope := [], leave := decide (s.x.dev = .safe), last := none, frame := none
    e := r.e.rejoin, w := r.w.rejoin }

/-- Enter a ring state. The reference is the device's own but from ALIGN on in a device that is not master (R421; of a DROPPED one
DEDUCED, log entry 119). -/
def setRing (s : State) (st : RgState) : State :=
  if s.x.ring.state = st then s
  else
    -- the alignment line takes its cells as the ring forms (R354): at ALIGN (DEDUCED, log entry 119)
    let s := if st = .align then s.modCal fun v => { v with ring := CAL_RING_CELLS s } else s
    let s := if st.out || st = .master then takeRef s (ownRef s) else s
    let s := s.modRing fun r =>
      let r := if st.out then ringOut r else r
      { r with state := st, since := s.x.tick.count, quiet := 0 }
    if st = .listen then s.modRing (listenStart s) else s

/-- RG_EVT_TK takes the tick of an entry, drop, fold, heal or succession (R452). -/
def ringEvent (s : State) (b : Nat) : State := (s.modRing fun r => { r with evtTk := s.tickW }).evt 0xC8 b

/-! ### Links (R408, R409, R441, R444) -/

/-- A fenced port that completes training is readmitted under R394 with AUTOADMIT: its training is the self-check, and d is 1 (R444). -/
def autoAdmit (s : State) (east : Bool) : State :=
  let u := portUnit east
  if s.isFenced u && RG_CFG_AUTOADMIT s && s.x.dev ≠ .safe then
    let s := s.setReg (a_PG_ERR 0xC8) (PG_ERR_W s 0xC8 &&& ~~~(if east then 0x0007 else 0x0038))
    if s.x.checks.any (·.unit == u) then s
    else { s with x := { s.x with checks := s.x.checks ++ [{ unit := u, since := s.x.tick.count, bad := false }] } }
  else s

/-- A port completes training (R408): at most 14 cycles of 64 taps of flight (R406). The first port up takes SEARCH to LISTEN
(R411). -/
def trainingDone (s : State) (east : Bool) (flight : Nat) : State :=
  if !(RG_CFG_EN s) || !(ticking s) || portUp s east || 14 * 64 < flight then s
  else
    let s := autoAdmit (modPort s east fun p => { p with
      state := .up, flight := flight, crcWin := [], phase := 0, trained := true, wrapped := false }) east
    if s.x.ring.state = .search && portIn s east then setRing s .listen else s

/-- RING_TRAINING_DONE. -/
def execRingTrainingDone (east : Bool) (flight : Nat) (s : State) : Host.Outcome State Fault Refusal :=
  .next (trainingDone s east flight)

/-- A port goes DOWN with an error bit of R451 (R409); the loop then folds at the other port (R441). -/
def portDown (s : State) (east : Bool) (b : Nat) : State :=
  if !(portUp s east) then s
  else
    let s := modPort s east fun p => { p with state := .down, crcWin := [], phase := 0, trained := false, wrapped := false }
    let s := raise s 0xC8 (if east then b else b + 3)
    let s := s.modRing fun r => { r with heardE := if east then none else r.heardE, heardW := if east then r.heardW else none }
    if ringFormed s && portIn s (!east) then modPort s (!east) fun p => { p with
      state := if p.state = .tap then .tap else .wrap, wrapped := true } else s

/-- RING_PORT_DOWN: 16 blocks with an invalid sync header, or the signal is lost (R409). -/
def execRingPortDown (east : Bool) (s : State) : Host.Outcome State Fault Refusal := .next (portDown s east 0)

/-- A frame fails its check words (R409): counted; the 16th within 4096 ticks takes the port DOWN. -/
def crcError (s : State) (east : Bool) : State :=
  let now := s.x.tick.count
  let s := modPort s east fun p =>
    { p with crc := satInc 0xFFFF p.crc, crcWin := (p.crcWin.filter fun t => now < t + 4096) ++ [now] }
  if 16 ≤ (portOfRing s east).crcWin.length then portDown s east 1 else s

/-- RG_CNT_CLR (R452). -/
def ringCntClr (s : State) : State :=
  modPort (modPort s true fun p => { p with crc := 0 }) false fun p => { p with crc := 0 }
/-- RG_CNT_CLR. -/
def execRgCntClr (s : State) : Host.Outcome State Fault Refusal := .next (ringCntClr s)

/-! ### Alerts (R383, R449, R471) -/

/-- Does cause a stand before cause b: reaction, highest first, bit, highest first, position, lowest first? -/
def causeBefore (a b : Nat × Nat × Nat) : Bool :=
  if a.1 != b.1 then b.1 < a.1 else if a.2.1 != b.2.1 then b.2.1 < a.2.1 else a.2.2 ≤ b.2.2

/-- Insert a cause in its place. -/
def causeInsert (a : Nat × Nat × Nat) : List (Nat × Nat × Nat) → List (Nat × Nat × Nat)
  | [] => [a]
  | b :: t => if causeBefore a b then a :: b :: t else b :: causeInsert a t

/-- The causes of this device (R471). -/
def ownCauses (s : State) : List (Nat × Nat × Nat) :=
  ((List.range 32).filter fun b => s.x.col.word.getLsbD b && enabled (FLT_ALRTEN_L_W s) (FLT_ALRTEN_H_W s) b).foldl
    (fun l b => causeInsert (react s b, b, s.x.ring.pos) l) []

/-- The cause list: on a master also the top alert of every member, from the slots in use (R419, R449, R471). -/
def causeList (s : State) : List (Nat × Nat × Nat) :=
  if !(ringMaster s) then ownCauses s
  else (List.finRange 8).foldl (fun l (q : Pos) =>
    match slotInUse s q with
    | some r => (match r.alert with | some (c, b) => causeInsert (c, b, q.val) l | none => l)
    | none => l) (ownCauses s)

/-! ### The slot and the digest (R417, R425) -/

/-- Registers of a page that configure it, by offset: those with RW bits. -/
def cfgOffsets (page : Nat) : List Nat :=
  ((List.range 240).map (· + 16)).filter fun o => rwMask (addr page o) != 0

/-- The addresses of cascade scope in ascending order (R425): RW registers; the running states SC_W1 and SC_W2 and what is
only published differ from device to device and are left out (DEDUCED, log entry 31). -/
def scopeAddrs (s : State) : List Nat :=
  let trains := (List.finRange 8).flatMap fun (t : Train) =>
    if spanning s t then (cfgOffsets (0x08 + t.val)).map (addr (0x08 + t.val)) else []
  let loops := (List.finRange 16).flatMap fun (l : LoopIx) =>
    if nbit (RG_CLOOP_LOOPS s) l then (cfgOffsets (0x61 + l.val)).map (addr (0x61 + l.val)) else []
  let slots := (List.finRange 96).flatMap fun (i : Slot) =>
    if (List.finRange 16).any fun (l : LoopIx) => nbit (RG_CLOOP_LOOPS s) l && covers s l i
    then (List.range 6).map fun k => addr (0x74 + i.val / 30) (0x10 + 8 * (i.val % 30) + k) else []
  trains ++ loops ++ slots ++ [a_RG_SPAN, a_RG_CLOOP] ++ (List.range 8).map a_RG_NRATEDt

/-- Is a register of cascade scope (R425)? -/
def inScope (s : State) (page off : Nat) : Bool :=
  let a := addr page off
  if 0x08 ≤ page && page ≤ 0x0F then 0x10 ≤ off && nbit (RG_SPAN_SPAN s) (page - 0x08)
  else if 0x61 ≤ page && page ≤ 0x70 then 0x10 ≤ off && nbit (RG_CLOOP_LOOPS s) (page - 0x61)
  else if 0x74 ≤ page && page ≤ 0x77 && 0x10 ≤ off then
    (List.finRange 16).any fun (l : LoopIx) => nbit (RG_CLOOP_LOOPS s) l && covers s l ((page - 0x74) * 30 + (off - 0x10) / 8)
  else a == a_RG_SPAN || a == a_RG_CLOOP || (List.range 8).any fun t => a == a_RG_NRATEDt t

/-- The cascade digest (R425). -/
def digest (s : State) : Nat := crc32 ((scopeAddrs s).map fun a => s.reg a &&& rwMask a)

/-- The alert words of the slot (R417, R449). -/
def slotAlert (s : State) (w : RingSlot) : RingSlot :=
  { w with
    faults := s.x.col.word &&& BitVec.ofNat 32 ((FLT_ALRTEN_L_W s).toNat + 65536 * (FLT_ALRTEN_H_W s).toNat)
    alert := match ownCauses s with | c :: _ => some (c.1, c.2.1) | [] => none }

/-- The words a device writes into its slot (R417): the legs available in MEMBER and RUN only, the legs that switch in any state. The
position is the slot's place in the frame. -/
def ownSlot (s : State) : RingSlot :=
  let dev := match s.x.dev with | .run => 1 | .safe => 2 | _ => 0
  let here := s.x.ring.state = .member && s.x.dev = .run
  slotAlert s
    { leave := s.x.ring.leave || s.x.dev = .safe || s.x.ring.diverged, dev := dev
      calHold := maskOf fun (t : Train) => calHolds s t, tick := s.tickW
      trains := tab fun (t : Train) =>
        { mapped := nRatedHere s t, avail := if here then nAvailHere s t else 0, on := nOnSwitch s t, iest := legEstimates s t }
      digest := digest s, east := s.x.ring.heardE, west := s.x.ring.heardW }

/-- The slot of tick k shows what was latched to the end of tick k (R449): at the cycle 0 after it the alert words are final. -/
def slotFinal (s : State) : State :=
  s.modRing fun r =>
    let fin (w : RingSlot) : RingSlot := if w.tick == s.tickW then slotAlert s w else w
    { r with
      slot := r.slot.map fin
      txTick := r.txTick.map fun f => { f with frame := { f.frame with slots := f.frame.slots.map (·.map fin) } } }

/-! ### Tick frames (R414-R417, R420, R423, R429, R438, R442, R444) -/

/-- The position of the device as an index. -/
def ownPos (s : State) : Pos := ⟨s.x.ring.pos % 8, by omega⟩

/-- The tick count of the boundary of a tick number, seen from now. -/
def countOf (s : State) (num : Nat) : Nat := s.x.tick.count + num - s.x.tick.num

/-- The marker is another master's (R440, R444). -/
def foreign (s : State) (east : Bool) : State :=
  modPort (raise s 0xC8 6) east fun p => { p with state := .foreign }

/-- Phase error of a marker (R423): 4 ns are 102 taps; 16 consecutive ones beyond set ALIGN. -/
def phaseCheck (s : State) (east : Bool) (e : Int) : State :=
  let far := 102 < e.natAbs
  let s := (modPort s east fun p => { p with phase := if far then p.phase + 1 else 0 }).modRing fun r =>
    { r with pherr := clampI (-128) 127 e }
  if far && 16 ≤ (portOfRing s east).phase then raise s 0xC8 (if east then 2 else 5) else s

/-- The slot that the device has for a frame: the one it assembled in the frame's tick; else LATE with zeros (R417). -/
def slotFor (s : State) (f : TickFrame) : RingSlot :=
  match s.x.ring.slot with
  | some w => if w.tick == word f.num then w else { valid := false, late := true }
  | none => { valid := false, late := true }

/-- DIVERGE: the device leaves the ring as a drop, by LEAVE in its slot (R417, R429). -/
def diverge (s : State) : State := raise (s.modRing fun r => { r with diverged := true }) 0xC8 7

/-- The digest of the batch end against the device's own of the same tick (R429). -/
def digestCheck (s : State) (f : TickFrame) : State :=
  let w := slotFor s f
  if !w.valid then s
  else if f.digest == w.digest then s.modRing fun r => { r with mismatch := 0 }
  else if s.x.ring.mismatch == 0 then s.modRing fun r => { r with mismatch := 1 }
  else diverge s

/-- The loop runs as a ring again (R444): no port turns it round, and HEAL is set. -/
def loopHealed (s : State) : State :=
  let back (p : RgPort) : RgPort := { p with state := if p.state = .wrap then .up else p.state, wrapped := false }
  ringEvent (s.modRing fun r => { r with heal := none, topo := 1, e := back r.e, w := back r.w }) 2

/-- What a member takes from a valid tick frame of its master, on the first pass. -/
def memberTake (s : State) (f : TickFrame) : State :=
  let k := countOf s f.num
  let fold := s.x.ring.topo == 1 && f.line
  let heal := s.x.ring.topo == 2 && !f.line
  let succ := s.x.ring.mpos != f.mpos.val
  let s := if s.x.ring.state = .holdover then { s with x := { s.x with ring := { s.x.ring with state := .member } } } else s
  let s := s.modRing fun r => { r with
    memb := f.memb, ready := f.ready, topo := if f.line then 2 else 1, mpos := f.mpos.val, hop := f.hop + 1, missed := 0
    lastMarker := k, quiet := 0 }
  let s := if fold then ringEvent s 1 else s
  let s := if heal then loopHealed s else s
  let s := if succ then ringEvent s 4 else s
  let s := phaseCheck s f.east f.pherr
  if f.batchOk then
    let s := s.modRing fun r => { r with
      batches := r.batches ++ [(k + 2, f.entries)]
      drops := if f.drop == 0 then r.drops else r.drops ++ [(k + 2, f.drop)]
      heal := match f.heal with | some h => some h.toNat | none => r.heal }
    digestCheck s f
  else s

/-- Announces in the slots are heard by the whole ring (R417). -/
def hear (s : State) (a : Announce) : State :=
  s.modRing fun r => { r with heard := (r.heard.filter fun c => c.1.pos != a.pos) ++ [(a, s.x.tick.count)] }

/-- The master gathers the slots of the loop as it ends (R414, R442). -/
def masterGather (s : State) (f : TickFrame) : State :=
  let s := s.modRing fun r => { r with gathered := f.num, know := tab fun q =>
    let v := r.know[q]
    if q.val == r.pos || !v.member then v
    else match f.slots[q] with
      | none => { v with missed := v.missed || v.empty, empty := true, slot2 := v.slot1, slot1 := v.slot, slot := none }
      | some w =>
        let bad := !w.good || w.late
        { v with missed := bad, empty := false, leaving := w.good && w.leave
                 slot2 := v.slot1, slot1 := v.slot, slot := if w.good && w.valid then some w else none } }
  (List.finRange 8).foldl (fun s (q : Pos) => match f.slots[q] with
    | some w => [w.east, w.west].foldl (fun s a => match a with | some a => hear s a | none => s) s
    | none => s) s

/-- The device writes its slot as a frame passes: MEMBER or HOLDOVER. -/
def inLoop (s : State) : Bool := s.x.ring.state = .member || s.x.ring.state = .holdover

/-- Has the device acted on this frame already, so that this is its second pass (R414)? -/
def secondPass (s : State) (f : TickFrame) : Bool := inLoop s && s.x.ring.lastMarker == countOf s f.num

/-- Where a frame of the loop goes that arrived on a port: out of the other port, or, where the loop turns round, back out of the same one
(R414, R441, R445). -/
def loopOut (s : State) (east : Bool) : List Bool :=
  let on := portIn s (!east) && (portOfRing s (!east)).state != .tap && !(portOfRing s east).wrapped
  [if on then !east else east].filter (portIn s)

/-- The ports on which a neighbour that joins is sent copies (R445). -/
def tapOut (s : State) : List Bool := [true, false].filter fun e => portIn s e && (portOfRing s e).state == .tap

/-- The frame as the device passes it on, on its first pass: one hop more, its own slot written (R414, R416), with copies to the taps; a
DROPPED device changes nothing (R443), and one that joins passes nothing on (R445). One without a valid slot is out at the next cycle 0
(R443). -/
def forward (s : State) (f : TickFrame) : State :=
  if inLoop s then
    let w := slotFor s f
    s.modRing fun r => { r with
      fwdTick := some ⟨{ f with hop := f.hop + 1, slots := upd f.slots (ownPos s) (some w) }, (loopOut s f.east ++ tapOut s).eraseDups⟩
      unwritten := r.unwritten || w.late }
  else if s.x.ring.state = .dropped then s.modRing fun r => { r with fwdTick := some ⟨f, loopOut s f.east⟩ }
  else s

/-- Is the frame of a master other than the device's (R440, R444)? -/
def foreignFrame (s : State) (f : TickFrame) : Bool :=
  let r := s.x.ring
  match r.state with
  | .member | .holdover => f.mpos.val != r.mpos && !(nbit r.memb f.mpos)
  | .master => f.mpos.val != r.pos
  | _ => false

/-- The master's own frame comes back (R414): in a line it goes on to the other side; at its second port, or in a ring, the loop ends. -/
def masterLoop (s : State) (f : TickFrame) : State :=
  -- a loop that comes back where it left has been folded (R414, R441)
  let s := if f.east && s.x.ring.topo != 2 then ringEvent (s.modRing fun r => { r with topo := 2 }) 1 else s
  if f.east && portIn s false && (portOfRing s false).state != .tap then s.modRing fun r => { r with fwdTick := some ⟨f, [false]⟩ }
  else masterGather s f

/-- What a device takes from a frame on its first pass, by its ring state. -/
def frameTake (s : State) (f : TickFrame) : State :=
  let r := s.x.ring
  let joining (s : State) : State := s.modRing fun r => { r with
    quiet := 0, marker := some ((f.num + 1) % 281474976710656), memb := f.memb, ready := f.ready, topo := if f.line then 2 else 1 }
  match r.state with
  | .listen =>
    let s := s.modRing fun r => { r with quiet := 0, mpos := f.mpos.val }
    if s.x.dev = .run then s.modRing fun r => { r with holdNeed := true }
    else if s.x.dev = .hold && !(nbit f.memb r.pos) && !r.dup && r.since + 2 ≤ s.x.tick.count then
      takeRef (joining (setRing (s.modRing fun r => { r with holdNeed := false }) .align)) 2
    else s
  | .align | .load | .ready =>
    (joining s).modRing fun r => { r with
      entry := match f.join with
        | some (p, e) => if f.batchOk && p.val == r.pos && r.state = .ready then some e.toNat else r.entry
        | none => r.entry }
  | .member | .holdover => memberTake s f
  | .master => masterLoop s f
  | _ => s

/-- A tick frame arrives (R414-R417). A frame that fails a check word counts against its port, whatever the state (R409); the frame of another
master goes no further (R444). -/
def tickFrame (s : State) (f : TickFrame) : State :=
  if !(ticking s) || !(portIn s f.east) || !(RG_CFG_EN s) then s
  else if !f.markerOk then crcError s f.east
  else
    let s := if foreignFrame s f then foreign s f.east
      else if secondPass s f then s.modRing fun r => { r with fwdTick := some ⟨f, loopOut s f.east⟩ }
      else frameTake (forward s f) f
    if !f.batchOk || f.slots.any (fun w => (w.map (!·.good)).getD false) then crcError s f.east else s

/-- TICK_FRAME_RECEIVE. -/
def execTickFrameReceive (f : TickFrame) (s : State) : Host.Outcome State Fault Refusal := .next (tickFrame s f)

/-- The hops a demand frame has made when it arrives at the device on a port: the members from the master on, this device included
(R413). -/
def demandHops (s : State) (east : Bool) (mpos : Pos) : Nat :=
  let r := s.x.ring
  -- a copy that runs eastward arrives on port W
  let steps (p : Nat) : Nat := if east then (mpos.val + 8 - p) % 8 else (p + 8 - mpos.val) % 8
  ((List.finRange 8).filter fun (q : Pos) =>
    q != mpos && (nbit r.memb q || q.val == r.pos) && steps q.val ≤ steps (r.pos % 8)).length

/-- Where a demand frame goes: on, until it has made N - 1 hops or reaches the end of a line; and to the taps (R413, R445). -/
def demandOut (s : State) (east : Bool) (mpos : Pos) : List Bool :=
  let n := ((List.finRange 8).filter fun (q : Pos) => nbit s.x.ring.memb q).length
  let on := portIn s (!east) && (demandHops s east mpos + 1 < n || (portOfRing s (!east)).state == .tap)
  if on then [!east] else []

/-- DEMAND_FRAME_RECEIVE on a port: passed on, and kept for cycle 240 by a member of this master (R413, R418, R433). -/
def execDemandFrameReceive (east : Bool) (f : DemandFrame) (s : State) : Host.Outcome State Fault Refusal :=
  if !(ticking s) || !(portIn s east) || !(RG_CFG_EN s) then .next s
  else if !f.ok then .next (crcError s east)
  else
    let s := s.modRing fun r => { r with fwdDemand := some ⟨f, demandOut s east f.mpos⟩ }
    match s.x.ring.state with
    | .member | .holdover =>
      if f.mpos.val == s.x.ring.mpos then .next (s.modRing fun r => { r with frame := some f, last := some f }) else .next s
    | _ => .next s

/-- A neighbour announces its state on a port of a device in the loop (R445): the port taps to one that joins, and the loop wraps here; once
it has joined, the loop runs on through it. -/
def tapPort (s : State) (east : Bool) (joins : Bool) : State :=
  if joins then modPort s east fun p => { p with state := if p.state = .foreign then .foreign else .tap }
  else if (portOfRing s east).state = .tap then
    let s := modPort s east fun p => { p with state := if p.wrapped then .wrap else .up }
    modPort s (!east) fun p => { p with state := if p.state = .wrap then .up else p.state, wrapped := false }
  else s

/-- ANNOUNCE_BLOCK of another device heard on a port after some hops, and relayed up to 7 hops; one that announces the own position sets DUP
(R410, R412, R413; log entry 96). The slot carries the neighbour's own (R417, R445), which has made one hop. -/
def execAnnounceBlock (east : Bool) (hops : Fin 8) (a : Announce) (s : State) : Host.Outcome State Fault Refusal :=
  if !(ticking s) || !(portIn s east) || !(RG_CFG_EN s) then .next s
  else
    let near := hops.val ≤ 1
    let s := (hear s a).modRing fun r => { r with
      fwdAnn := some ⟨a, if hops.val < 7 && portIn s (!east) then [!east] else []⟩, dup := r.dup || a.pos.val == r.pos
      heardE := if east && near then some a else r.heardE
      heardW := if !east && near then some a else r.heardW }
    .next (if near && ringFormed s then tapPort s east ([2, 3, 4, 5].contains a.state.val) else s)

/-! ### Election, succession, loss (R411, R412, R438-R440) -/

/-- The device takes the role of master, from its own frames on with its own counts (R440). -/
def becomeMaster (s : State) (memb : Nat) : State :=
  let pos := s.x.ring.pos
  (setRing s .master).modRing fun r => { r with
    mpos := pos, memb := memb, sinceMaster := s.x.tick.count, aligned := false, mismatch := 0, joinSent := none, heal := none
    dropNext := 0, hop := 0, ownSlots := false, leaveSent := false, inUse := Vector.replicate 8 none
    know := tab fun q => { member := nbit memb q } }

/-- MASTER_ELECTION: the lowest (MPRIO, POS) after 64 ticks without a marker (R412). -/
def execMasterElection (s : State) : Host.Outcome State Fault Refusal :=
  let r := s.x.ring
  let lowest := r.heard.all fun c =>
    s.x.tick.count < c.2 + 64 → (r.mprio < c.1.mprio.val || (r.mprio == c.1.mprio.val && r.pos ≤ c.1.pos.val))
  if r.state = .listen && 64 ≤ r.quiet && r.mprio < 15 && lowest && !r.dup && ticking s then
    .next (((becomeMaster s (2 ^ r.pos)).evt 0xC8 3).evt 0xC8 0)
  else .next s

/-- MARKER_MISSED: no valid marker 64 cycles after its time (R438). -/
def execMarkerMissed (s : State) : Host.Outcome State Fault Refusal :=
  match s.x.ring.state with
  | .member => .next (s.modRing fun r => { r with state := .holdover, missed := r.missed + 1 })
  | .holdover => .next (s.modRing fun r => { r with missed := r.missed + 1 })
  | _ => .next s

/-- The priority of a member, from its announces; a member never heard has the lowest priority that may be master. -/
def prioOf (s : State) (q : Pos) : Nat :=
  if q.val == s.x.ring.pos then s.x.ring.mprio
  else match s.x.ring.heard.find? fun c => c.1.pos == q with
    | some c => c.1.mprio.val
    | none => 14

/-- The device's place in the successor order, from 0 (R439): members other than the master, MPRIO 15 left out, by
(MPRIO, POS). -/
def successorIx (s : State) : Nat :=
  let r := s.x.ring
  ((List.finRange 8).filter fun (q : Pos) =>
    nbit r.memb q && q.val != r.mpos && q.val != r.pos && prioOf s q < 15 &&
    (prioOf s q < r.mprio || (prioOf s q == r.mprio && q.val < r.pos))).length

/-- MASTER_SUCCESSION: the turn of the i-th device, i from 1, is in tick k + 1 + 2i, with k the tick of the last marker (R439). -/
def execMasterSuccession (s : State) : Host.Outcome State Fault Refusal :=
  let r := s.x.ring
  if r.state = .holdover && r.mprio < 15 && !r.dup && r.lastMarker + 3 + 2 * successorIx s ≤ s.x.tick.count then
    let m := maskOf fun (q : Pos) => nbit r.memb q && q.val != r.mpos
    .next (ringEvent ((becomeMaster s m).evt 0xC8 3) 4)
  else .next s

/-- MASTER_DROP: both ports DOWN for two ticks (R411). -/
def execMasterDrop (s : State) : Host.Outcome State Fault Refusal :=
  if ringMaster s && 2 ≤ s.x.ring.downTicks then .next (setRing s .dropped) else .next s

/-! ### Joining and leaving (R411, R421, R422, R446, R448) -/

/-- A record with VALID = 0. -/
def invalidRec (r : LarRec) : LarRec :=
  let w := match r.words with
    | w :: t => setBit w 15 false :: t
    | [] => []
  { r with words := w }

/-- The units without the latest of a port's transactions. -/
def dropLastTxn (l : List CommitUnit) (p : Port) : List CommitUnit :=
  (l.foldr (fun (u : CommitUnit) (r : Bool × List CommitUnit) =>
    if !r.1 && u.src == .txn p then (true, r.2) else (r.1, u :: r.2)) (false, [])).2

/-- The effects of a jump of TICKNUM (R422). -/
def tickJump (s : State) (num : Nat) : State :=
  let late (p : Port) (s : State) : State :=
    let mine (u : CommitUnit) : Bool := u.src == .txn p && u.tgt.isSome
    if s.x.hostUnits.any mine then
      { s with x := { s.x with
        txn := s.x.txn.put p { s.x.txn.get p with late := true, reject := true, rejCause := 6 }
        hostUnits := s.x.hostUnits.filter fun u => !(mine u) } }
    else s
  let s := late .twm (late .spi s)
  let s := match s.x.larder.state with
    | .off | .armed => s.modLar fun l => { l with recs := l.recs.map invalidRec }
    | _ => s
  s.modTick fun t => { t with num := num }

/-- TICK_ALIGN: the tick is set to the master's cycle 0 and TICKNUM taken from the marker, whose number the command repeats (R421, R422); LOAD
follows. -/
def execTickAlign (num : Nat) (s : State) : Host.Outcome State Fault Refusal :=
  if s.x.ring.state = .align && s.x.dev = .hold && s.x.ring.marker == some num then
    let s := tickJump s num
    .next ((setRing s .load).modRing fun r => { r with
      aligned := true, imgBusy := true, imgDone := false, imgErr := false, imgBad := false, imgFrames := 0, image := [], scope := [] })
  else .next s

/-- ALIGN_TIMEOUT: 64 ticks without the marker on the way in (R411). -/
def execAlignTimeout (s : State) : Host.Outcome State Fault Refusal :=
  match s.x.ring.state with
  | .align | .load | .ready => if 64 ≤ s.x.ring.quiet then .next (setRing s .listen) else .next s
  | _ => .next s

/-- RING_ENTRY: the entry tick of a READY device (R411, R446). -/
def execRingEntry (s : State) : Host.Outcome State Fault Refusal :=
  if s.x.ring.state = .ready && s.x.ring.entry == some (s.x.tick.num % 65536) then
    .next (ringEvent ((setRing s .member).modRing fun r => { r with
      lastMarker := s.x.tick.count - 1, mismatch := 0, diverged := false, memberAt := s.x.tick.count, unwritten := false
      batches := [], drops := [], frame := none }) 0)
  else .next s

/-- Is a DROPPED device free to listen again: REJOIN = 1, no cause standing, a port to listen on (R411)? -/
def rejoinFree (s : State) : Bool :=
  RG_CFG_REJOIN s && s.x.dev ≠ .safe && !(bit (PG_ERR_W s 0xC8) 7) && (portUp s true || portUp s false)

/-- RING_REJOIN: DROPPED for 256 ticks with REJOIN = 1 and no cause standing (R411). -/
def execRingRejoin (s : State) : Host.Outcome State Fault Refusal :=
  if s.x.ring.state = .dropped && 256 < s.x.ring.rejoin && rejoinFree s then
    .next ((setRing s .listen).modRing fun r => { r with diverged := false })
  else .next s

/-- RING_LEAVE: LEAVE = 1 in force sets LEAVE in the slot (R448). -/
def execRingLeave (s : State) : Host.Outcome State Fault Refusal := .next (s.modRing fun r => { r with leave := true })

/-! ### Cycle 0 (R411, R442, R443) -/

/-- A drop named in the batch header takes effect (R442): the device's own, or others'. -/
def applyDrop (s : State) (m : Nat) : State :=
  if !(ringFormed s) then s
  else
    let n := ((List.finRange 8).filter fun (q : Pos) => nbit m q).length
    let s := s.modRing fun r => { r with
      dropCnt := if r.state = .master then min 0xFFFF (r.dropCnt + n) else r.dropCnt
      memb := maskOf fun (q : Pos) => nbit r.memb q && !(nbit m q)
      know := tab fun q => if nbit m q then { r.know[q] with member := false, slot := none, slot1 := none, slot2 := none } else r.know[q]
      inUse := tab fun (q : Pos) => if nbit m q then none else r.inUse[q] }
    let s := ringEvent s 6
    if nbit m s.x.ring.pos then setRing s .dropped else s

/-- The drops due at this boundary are applied (R442). -/
def ringDrops (s : State) : State :=
  let due := s.x.ring.drops.filter fun d => d.1 == s.x.tick.count
  due.foldl (fun s d => applyDrop s d.2) (s.modRing fun r => { r with drops := r.drops.filter fun d => s.x.tick.count < d.1 })

/-- The legs of spanning trains of a device out of the ring hold both outputs low (R443). -/
def spanLegsLow (s : State) : State :=
  forAll (n := 24) s fun s n => match legTrain s n with
    | some t => if spanning s t then (s.modHw n LegHw.low).modLeg n fun l => { l with shadow := {}, on := false } else s
    | none => s

/-- What a boundary does to the ring state: a first port takes SEARCH to LISTEN, a device without a valid slot, and a master in SAFE that has
announced its drop, are out (R390, R411, R443). -/
def ringMoves (s : State) : State :=
  let s := if s.x.ring.state = .off then setRing s .search else s
  let s := if s.x.ring.state = .search && (portIn s true || portIn s false) then setRing s .listen else s
  let s := if s.x.ring.unwritten && inLoop s then setRing s .dropped else s
  if ringMaster s && s.x.dev = .safe && s.x.ring.leaveSent then setRing s .dropped else s

/-- The ring at cycle 0: EN, drops due, counts of ticks. -/
def ringBoundary (s : State) : State :=
  if !(RG_CFG_EN s) then
    (setRing s .off).modRing fun r => { r with e := { r.e with state := .down, wrapped := false }, w := { r.w with state := .down, wrapped := false } }
  else
    let s := s.modRing fun r =>
      let tr (p : RgPort) : RgPort := if p.state = .down then { p with state := .training } else p
      { r with quiet := r.quiet + 1, e := tr r.e, w := tr r.w, marker := r.marker.map fun n => (n + 1) % 281474976710656 }
    let live (e : Bool) : Bool := portUp s e && !s.isFenced (portUnit e)
    let s := s.modRing fun r => { r with downTicks := if live true || live false then 0 else r.downTicks + 1 }
    let s := ringDrops ((ringMoves s).modRing fun r => { r with unwritten := false })
    let s := s.modRing fun r => { r with rejoin := if r.state = .dropped && rejoinFree s then r.rejoin + 1 else 0 }
    if s.x.ring.state = .dropped then spanLegsLow s else s

end Sys2Proof.Machine
end

