-- ==== Sys2Proof/Machine/Views.lean ====
section
/-! DEFINITION. What a read of each register returns: its stored bits beside the status bits (access RS) that follow from the
state, page by page from the register tables of the chapters (R2, R3, R9, R561, R562). -/

namespace Sys2Proof.Machine

/-- Member j of a family at offset base + stride j, if the offset belongs to it. -/
def member (off base cnt stride : Nat) : Option Nat :=
  if base ≤ off && (off - base) % stride == 0 && (off - base) / stride < cnt then some ((off - base) / stride) else none

/-- The low and the high half of a 32-bit number. -/
def half (n : Nat) (hi : Bool) : Word := word (if hi then n / 65536 else n)

/-- A 24-bit result sign-extended to 32 bits, low or high half (R263, R297). -/
def half24 (v : Int) (hi : Bool) : Word := wordI (if hi then v.fdiv 65536 else v)

/-- An optional reading with 0x8000 for none. -/
def orInvalid (v : Option Int) : Word := match v with | some x => wordI x | none => 0x8000

/-! ### Tick (R49) and the banked pages (R50, R51) -/

/-- TICK; TK_NUM_M and TK_NUM_H as the port latched them. The tick is timed from the ring marker once it is aligned and while the
device is a member (R411, R421); RING stays 1 in HOLDOVER, where the spec states no clearing (DESIGN CHOICE, log entry 99). -/
def tickView (s : State) (lat : Option (Word × Word)) (off : Nat) : Word :=
  let t := s.x.tick
  match off with
  | 0x10 => word t.num
  | 0x11 => match lat with | some (m, _) => m | none => word (t.num / 65536)
  | 0x12 => match lat with | some (_, h) => h | none => word (t.num / 4294967296)
  | 0x13 => bitAt (s.x.ring.aligned || (ringFormed s && s.x.ring.state != .master)) 1 ||| bitAt t.skipped 0
  | 0x14 => word t.rbCnt
  | 0x15 => t.rbTick
  | 0x16 => at_ t.rbChecker 13 ||| at_ t.rbCyc 0
  | _ => 0

/-- TXN (R50); `pend`: a COMMIT_AT of the port waits for its target (R27). -/
def txnView (b : TxnBank) (pend : Bool) (off : Nat) : Word :=
  match off with
  | 0x12 => at_ b.rejCause 12 ||| bitAt pend 10 ||| bitAt b.badcmd 9 ||| bitAt b.aborted 8
      ||| bitAt b.abortIgnored 7 ||| bitAt b.tmo 6 ||| bitAt b.fullBit 5 ||| bitAt b.late 4 ||| bitAt b.collide 3
      ||| bitAt b.reject 2 ||| bitAt b.done 1 ||| bitAt b.opened 0
  | 0x13 => if b.opened then word b.writes.length else 0
  | 0x14 => b.last
  | _ => 0

/-- SNAP (R51). -/
def snapView (b : SnapBank) (off : Nat) : Word :=
  match off with
  | 0x10 => bitAt b.hold 0
  | 0x11 => bitAt b.expired 1 ||| bitAt b.held 0
  | 0x12 => b.tnum
  | 0x13 => word b.left
  | _ => 0

/-! ### Legs and trains (R100-R102) -/

/-- TRAIN. TR_LEGS of a spanning train shows the counts of this device, which fit its fields (DESIGN CHOICE, log entry 103). -/
def trainView (s : State) (t : Train) (off : Nat) : Word :=
  let r := s.cp.trains[t]
  match off with
  | 0x12 => at_ r.state.code 13 ||| bitAt r.dir 12 ||| bitAt r.fold 11 ||| bitAt r.ceilAct 10 ||| bitAt r.shedding 9
      ||| bitAt (cfgPend s t) 8
  | 0x13 => at_ (nRatedHere s t) 10 ||| at_ (nAvailHere s t) 5 ||| at_ (if r.state.switching then nOnHere s t else 0) 0
  | 0x29 => wordI r.dem
  | 0x2A => wordI r.ceil
  | 0x2B => wordI (ssRefCode r)
  | 0x2C => wordI (trainIest s t)
  | _ => 0

/-- L_STAT.STATE (R101); a code stands before those below it as listed here (DEDUCED, log entry 32). -/
def legState (s : State) (n : Leg) : Nat :=
  match legTrain s n with
  | none => 5
  | some t =>
    let r := s.cp.trains[t]
    let l := s.cp.legs[n]
    if s.isFenced (.leg n) then 4
    else if pairOut s n then 6
    else if s.x.hw[n].active.step = .rampOut then 2
    else if r.state.switching && l.on then (if legSwitches s n then 1 else 0)
    else if r.state.switching && !r.one then 3
    else 0

/-- LEG. -/
def legView (s : State) (n : Leg) (off : Nat) : Word :=
  let h := s.x.hw[n]
  match off with
  | 0x11 =>
    let tr := match legTrain s n with | some t => bitAt true 11 ||| at_ t.val 8 | none => 0
    at_ (legState s n) 13 ||| tr ||| bitAt h.tripped 7 ||| bitAt h.zc 6 ||| bitAt h.tonmax 5 ||| bitAt (h.active.de && !h.shedOver) 4
      ||| bitAt (phasePend s n) 3
  | 0x17 => orInvalid h.iest
  | 0x18 => word h.active.code
  | 0x19 => word h.ton
  | _ => 0

/-- LEGPOOL. -/
def poolView (s : State) (off : Nat) : Word :=
  let f := maskOf fun (n : Leg) => s.isFenced (.leg n)
  let o := maskOf fun (n : Leg) => legSwitches s n
  match off with
  | 0x17 => bitAt (mapPend s) 0
  | 0x18 => half f false
  | 0x19 => half f true
  | 0x1A => half o false
  | 0x1B => half o true
  | _ => 0

/-! ### Control engine (R141-R143) -/

/-- CE. -/
def ceView (s : State) (off : Nat) : Word :=
  let c := s.cp.ce
  let f := s.x.ceFlt
  match off with
  | 0x10 =>
    let loops := ((List.finRange 16).filter fun (l : LoopIx) => LP_CFG_EN s l)
    let oscs := ((List.finRange 4).filter fun (o : OscIx) => s.cp.oscs[o].run).length
    at_ (loops.length + oscs) 11 ||| at_ (loops.foldl (fun (a : Nat) (l : LoopIx) => a + LP_NSEC_NSEC s l.val) oscs) 4
  | 0x11 => at_ c.capCause 12
  | 0x12 => bitAt c.lockKind 15 ||| at_ c.lockLoop 11 ||| (if c.lockKind then 0 else at_ c.lockSlot 0)
  | 0x13 => word c.eccCnt
  | 0x14 => bitAt f.ecc 15 ||| at_ f.loop 11 ||| at_ f.slot 0
  | _ =>
    match member off 0x18 8 1 with
    | some t =>
      let v := s.cp.ceSel[ix8 t]
      bitAt v.valid 15 ||| bitAt v.maxGroup 14 ||| bitAt v.osc 13 ||| at_ v.loop 0
    | none =>
    match member off 0x22 4 4 with
    | some o =>
      let v := s.cp.oscs[(⟨o % 4, by omega⟩ : OscIx)]
      bitAt v.run 15 ||| bitAt v.stopping 14 ||| at_ v.ctx 8 ||| at_ v.slot 0
    | none =>
    match member off 0x23 4 4 with
    | some o => word (s.cp.oscs[(⟨o % 4, by omega⟩ : OscIx)].appliedPh / 65536)
    | none => 0

/-- LOOP. -/
def loopView (s : State) (l : LoopIx) (off : Nat) : Word :=
  let r := s.cp.loops[l]
  match off with
  | 0x1F => wordI r.out
  | 0x20 => wordI r.spv
  | 0x21 => wordI r.fbv
  | 0x22 => wordI r.errv
  | 0x23 =>
    let osc := (List.finRange 4).any fun (o : OscIx) => s.cp.oscs[o].run && s.cp.oscs[o].ctx == l
    bitAt r.active 15 ||| bitAt (LP_CFG_CLOSED s l) 14 ||| bitAt osc 13 ||| bitAt r.sat 12 ||| bitAt r.clamp 11
      ||| bitAt r.sel 10 ||| bitAt r.tracked 9 ||| bitAt r.fallback 8 ||| bitAt r.subst 7 ||| bitAt r.ss 6 ||| at_ (r.div % 64) 0
  | _ => 0

/-- The slot of an offset of a SECT page, and the register in it. -/
def sectSlot (page off : Nat) : Option (Slot × Nat) :=
  let i := (page - 0x74) * 30 + (off - 0x10) / 8
  if h : i < 96 then (if 0x10 ≤ off && (off - 0x10) / 8 < 30 then some (⟨i, h⟩, (off - 0x10) % 8) else none) else none

/-- SECT: SC_CTRL's status, and the two state words, whose high 16 of 32 bits the registers hold (R104, R143). -/
def sectView (s : State) (page off : Nat) : Word :=
  match sectSlot page off with
  | some (i, 5) => bitAt (slotOsc s i).isSome 15 ||| bitAt s.cp.sects[i].satd 14
  | some (i, 6) => wordI (s.cp.sects[i].w1.fdiv 65536)
  | some (i, 7) => wordI (s.cp.sects[i].w2.fdiv 65536)
  | _ => 0

/-! ### Supervisor (R170-R172) -/

/-- SVt_STAT.STATE (R170). With SVt_CFG.EN = 1 a model that does not run is suspended: its train is in a state other than RUN
(R150). -/
def modelState (en : Bool) (m : ModelSt) : Nat :=
  if m.held then 5 else if m.inSubst then 3 else if m.degraded then 4
  else if !en then 0 else if m.suspended || !m.running then 2 else 1

/-- SVt_STAT of a supervisor that is not fenced (R170). -/
def modelStat (s : State) (t : Train) : Word :=
  let m := s.cp.models[t]
  at_ (modelState (SVt_CFG_EN s t) m) 13 ||| bitAt m.dutyHold 12 ||| bitAt m.rvOver 11 ||| bitAt m.riOver 10 ||| bitAt m.rfOver 9
    ||| at_ m.rcnt 0

/-- The code of the spare's state in SV_ALT. -/
def SpareState.code : SpareState → Nat
  | .idle => 0 | .calib => 1 | .ret => 2 | .settle => 3 | .agree => 4 | .serving => 5 | .rejected => 6 | .fenced => 7

/-- SUPV. -/
def supvView (s : State) (off : Nat) : Word :=
  let sup := s.cp.sup
  let causes (hi : Bool) : Word := half ((List.finRange 16).foldl (fun a (i : Slice) => a + sup[i].cause.code * 4 ^ i.val) 0) hi
  let pub (x : Rat) : Word := wordI (fitS (roundOpen x))
  match off with
  | 0xD4 => word (maskOf fun (i : Slice) => sup[i].cause != .none)
  | 0xD5 => word (maskOf fun (i : Slice) => sup[i].subst)
  | 0xD6 => causes false
  | 0xD7 => causes true
  | 0xD8 =>
    let test := (List.finRange 16).find? fun (i : Slice) => sup[i].alt = .settle || sup[i].alt = .agree
    let pair := (List.finRange 16).find? fun (i : Slice) => sup[i].altKind = .partner &&
      (sup[i].alt = .settle || sup[i].alt = .agree || sup[i].alt = .serving)
    let busy := s.cp.spare.state != .idle && s.cp.spare.state != .fenced
    let sl : Nat := match pair with
      | some i => if busy then s.cp.spare.slice.val else i.val
      | none => s.cp.spare.slice.val
    at_ s.cp.spare.state.code 13 ||| bitAt pair.isSome 12 ||| at_ sl 8
      ||| at_ (match test with | some i => sup[i].altCnt | none => if busy then sup[s.cp.spare.slice].altCnt else 0) 0
  | _ =>
    if 0xE0 ≤ off && off < 0xF0 then
      let i : Slice := ix16 (off - 0xE0)
      wordI (consFast s i)
    else if 0x90 ≤ off && off < 0xD0 then
      let m := s.cp.models[ix8 ((off - 0x90) / 8)]
      match (off - 0x90) % 8 with
      | 0 => pub m.rv
      | 1 => pub m.ri
      | 2 => pub m.rf
      | 3 => pub m.vhat
      | 4 => pub m.ihat
      | 5 => pub m.lhat
      | _ => 0
    else if 0x10 ≤ off && off < 0x90 then
      let t := ix8 ((off - 0x10) / 16)
      let m := s.cp.models[t]
      match (off - 0x10) % 16 with
      | 0xE => m.frozen.getD (modelStat s t)
      | 0xF => word m.subTk
      | _ => 0
    else 0

/-! ### Power path and batteries (R204, R205, R253, R254) -/

/-- The code of a node state (R183). -/
def NodeState.code : NodeState → Nat
  | .none => 0 | .live => 1 | .lost => 2 | .ramp => 3

/-- SRC. -/
def srcView (s : State) (off : Nat) : Word :=
  match off with
  | 0x11 => word ((List.finRange 4).foldl (fun a (i : Src) =>
      let v := s.x.src[i]
      let c := calSrc s i
      a + (8 * (srcActive s i).toNat + 4 * v.ovOff.toNat + 2 * (v.ov || c).toNat + (v.uv || c).toNat) * 16 ^ i.val) 0)
  | 0x12 =>
    let inw (k : Fin 2) : Nat := maskOf fun (i : Src) => srcNode s i == k && srcActive s i && inWindow s i
    at_ s.x.nodes[1].state.code 10 ||| at_ s.x.nodes[0].state.code 8 ||| at_ (inw 1) 4 ||| at_ (inw 0) 0
  | 0x20 => word s.x.nodes[0].ramp
  | 0x21 => word s.x.nodes[1].ramp
  | 0x22 => word (maskOf fun (i : Src) => s.x.srcStrap[i])
  | 0x23 => bitAt ((List.finRange 8).any fun (t : Train) => s.x.ride.held[t]) 15 ||| at_ s.x.ride.last 0
  | _ =>
    match member off 0x34 4 8 with
    | some i => word s.x.src[(⟨i % 4, by omega⟩ : Src)].v
    | none => 0

/-- The code of a window (R253). -/
def Window.code : Window → Nat
  | .cold => 0 | .cool => 1 | .normal => 2 | .warm => 3 | .hot => 4

/-- BAT. -/
def batView (s : State) (p : BPort) (off : Nat) : Word :=
  let b := s.cp.bat[p]
  let h := s.x.batHw[p]
  let ntc (v : NtcSt) : Word := orInvalid (if v.valid then some v.temp else none)
  match off with
  | 0x14 => at_ b.window.code 13 ||| bitAt s.x.batEn[p] 12 ||| bitAt h.rel 11 ||| bitAt h.present 10 ||| bitAt b.inhibit 9
      ||| bitAt b.dinhibit 8 ||| bitAt b.reduced 7 ||| bitAt b.tmrRun 6 ||| bitAt b.ptmrRun 5 ||| bitAt b.probe.run 4
  | 0x15 => at_ b.cause 12 ||| bitAt b.causeRed 11
  | 0x16 => wordI b.v
  | 0x17 => wordI b.i
  | 0x18 => orInvalid (bpTemp s p)
  | 0x19 => ntc b.ntcA
  | 0x1A => ntc b.ntcB
  | 0x1B => orInvalid b.tempImp
  | 0x35 => wordI b.ichEff
  | 0x36 => wordI b.vcvEff
  | 0x37 => wordI b.amp
  | 0x38 => wordI b.bias
  | 0x39 => word (b.tmrCc / 4096 / 25000000)
  | 0x3A => word (b.tmrElap / 25000000)
  | 0x3B => word (b.tmrPre / 25000000)
  | 0x3D => bitAt b.probe.run 15 ||| bitAt b.probe.valid 14 ||| at_ b.probe.cause 11 ||| at_ b.probe.freq 7
  | 0x3E => word b.probe.mag
  | 0x3F => wordI b.probe.ph
  | 0x44 => word b.eIn
  | 0x45 => word b.eOut
  | 0x46 => word b.cycles
  | _ => 0

/-- GUARD. -/
def guardView (s : State) (off : Nat) : Word :=
  if off == 0x11 then
    bitAt (GUARD_LOCK_LOCK s) 15 ||| bitAt (s.x.dev = .hold && !(GUARD_LOCK_LOCK s)) 14
      ||| at_ (maskOf fun (p : BPort) => s.cp.bat[p].trips.any) 0
  else match member off 0x2F 4 16 with
    | some p =>
      let t := s.cp.bat[(⟨p % 4, by omega⟩ : BPort)].trips
      bitAt t.v 15 ||| bitAt t.i 14 ||| bitAt t.t 13 ||| bitAt t.td 12 ||| bitAt t.vd 11 ||| bitAt t.timeout 10
        ||| bitAt t.preTimeout 9
    | none => 0

/-! ### Conversion (R294-R297) -/

/-- Is the spare on a failover? -/
def failover (s : State) : Bool :=
  s.cp.spare.state = .settle || s.cp.spare.state = .agree || s.cp.spare.state = .serving

/-- ADC. -/
def adcView (s : State) (off : Nat) : Word :=
  match off with
  | 0x16 =>
    if s.x.trace.running then at_ 8 12
    else if failover s then at_ 9 12 ||| at_ s.cp.spare.slice 8
    else at_ s.x.bg.step 12 ||| (if s.x.bg.step == 0 then 0 else at_ s.x.bg.slice 8)
  | 0x17 => word s.x.bg.count
  | 0x1A =>
    let t := s.x.trace
    bitAt (t.waiting || t.running) 15 ||| bitAt t.done 14 ||| bitAt t.aborted 13 ||| bitAt t.ignored 12 ||| bitAt t.refused 11
      ||| bitAt t.range 10
  | _ => 0

/-- SL_CAL_STAT and AX_CAL_STAT. -/
def sysCalView (c : SysCal) : Word :=
  bitAt (c.kind != 0) 15 ||| bitAt c.done 14 ||| bitAt c.aborted 13 ||| bitAt c.ignored 12 ||| bitAt c.refused 11
    ||| bitAt c.range 10

/-- SLICE. CALIB reads 1 as long as the spare stands in (R288), to the return of the converter (log entry 110). -/
def sliceView (s : State) (i : Slice) (off : Nat) : Word :=
  let v := s.x.slices[i]
  match off with
  | 0x1A => sysCalView s.x.sysCal[i]
  | 0x1C => bitAt v.ow 15 ||| bitAt (SL_CFG_LP s i) 14 ||| bitAt (settling s i) 13 ||| bitAt v.win 12
      ||| bitAt (SL_CFG_EN s i && (v.busy || SL_CFG_FMODE s i == 1)) 11
      ||| bitAt v.held 10 ||| bitAt v.fnew 9 ||| bitAt (delivBy s i == spareConv) 8
      ||| bitAt (standsIn s i || (s.x.bg.slice == i && (s.x.bg.step == 5 || s.x.bg.step == 6))) 7
  | 0x1D => wordI s.x.deliv[i].fast
  | 0x1E => word (s.x.deliv[i].ext % 256)
  | 0x1F => wordI (s.x.conv[convOf i].raw.fdiv 256)
  | 0x20 => half24 v.fine false
  | 0x21 => half24 v.fine true
  | 0x22 => v.fineTk
  | 0x23 => word v.ovr
  | _ => 0

/-- The AIN input of the spare: the input of the slice it serves, which in a pair is that of the even one (R157, R266). -/
def spareInput (s : State) : Nat :=
  let i := s.cp.spare.slice
  if inPair s i then i.val - i.val % 2 else i.val

/-- SPARE. -/
def spareView (s : State) (off : Nat) : Word :=
  match off with
  | 0x10 =>
    let st : Nat := match s.cp.spare.state with
      | .idle | .rejected => 0
      | .calib => if s.x.trace.running then 5 else if s.x.bg.step ≤ 2 then 1 else 2
      | .ret => 3
      | .settle | .agree | .serving => 4
      | .fenced => 6
    at_ st 13 ||| at_ (spareInput s) 8
  | 0x11 => s.x.bg.spOffs
  | 0x12 => s.x.bg.spGain
  | 0x13 => wordI s.x.conv[spareConv].fast
  | 0x14 => wordI (s.x.conv[spareConv].raw.fdiv 256)
  | _ => 0

/-- AUX. A fenced AX reads AX_REFCHK 0x8000 (R280). -/
def auxView (s : State) (off : Nat) : Word :=
  let a := s.x.ax
  match off with
  | 0x16 => a.ow
  | 0x17 => a.new
  | 0x1A => sysCalView a.cal
  | 0x1B => orInvalid a.dieTemp
  | 0x1C => if s.isFenced (.conv axConv) then 0x8000 else orInvalid a.refDev
  | 0x1D => a.axw
  | _ =>
    if 0x40 ≤ off && off < 0x60 then half24 s.x.axRes[ix16 ((off - 0x40) / 2)] (off % 2 == 1) else 0

/-! ### Clerks (R327-R329) -/

/-- CK_STAT.STATE. -/
def clerkState (s : State) (c : ClerkIx) : Nat :=
  let v := s.cp.clerks[c]
  if s.isFenced (.clerk c) then 6
  else match v.run with
    | .stopped => 0
    | .halted => 5
    | .running => if v.paused then 4 else 1
    | .wait => if v.paused then 4 else 2
    | .waitc => if v.paused then 4 else 3

/-- Is a clerk in RUNNING, WAIT or WAITC? -/
def clerkActive (s : State) (c : ClerkIx) : Bool := let k := clerkState s c; 1 ≤ k && k ≤ 3

/-- CLERK. -/
def clerkView (s : State) (off : Nat) : Word :=
  match off with
  | 0x10 => at_ (maskOf fun (c : ClerkIx) => s.isFenced (.clerk c)) 8 ||| at_ (maskOf fun (c : ClerkIx) => clerkActive s c) 0
  | 0x12 => at_ s.cp.eqLost 8 ||| at_ s.cp.eq.length 0
  | _ =>
    match s.cp.eq with
    | [] => 0
    | r :: _ =>
      match off with
      | 0x13 => bitAt true 15 ||| at_ r.clerk 12 ||| bitAt r.ledger 11
      | 0x14 => r.code
      | 0x15 => r.data
      | 0x16 => r.tick
      | _ => 0

/-- The 480 half-words of a clerk's list in force (R298, R320): its LIST pages, or the ROM. -/
def ckList (s : State) (c : ClerkIx) : List Word :=
  (List.range 480).map fun k =>
    if CK_CTRL_LISTSEL s c then s.reg (addr (0x90 + 2 * c + k / 240) (0x10 + k % 240)) else Config.factoryWord c k

/-- CK; the registers A to D are the clerk's own; the CRC of the list in force in a tick is in the snapshot of its end (R322). -/
def ckView (s : State) (c : ClerkIx) (off : Nat) : Word :=
  let v := s.cp.clerks[c]
  match off with
  | 0x11 => at_ (clerkState s c) 13 ||| at_ v.rejCause 4
  | 0x12 => bitAt v.z 15 ||| bitAt v.n 14 ||| bitAt v.c 13 ||| at_ (min 239 v.pc) 0
  | 0x13 => word (min 65535 v.wait)
  | 0x28 => bitAt v.pbBusy 15 ||| bitAt v.pbDone 14 ||| bitAt v.pbW 13 ||| bitAt v.pbErr 12 ||| at_ v.pbCause 0
  | 0x29 => v.pbRd
  | 0x2A => half (crc32 (ckList s c)) false
  | 0x2B => half (crc32 (ckList s c)) true
  | 0x2C => at_ v.fltCause 13 ||| at_ v.fltPc 0
  | 0x2D => at_ v.denyPage 8 ||| at_ v.denyOff 0
  | _ =>
    if 0x14 ≤ off && off < 0x1C then
      half (v.regs[(⟨(off - 0x14) / 2 % 4, by omega⟩ : Fin 4)]).toNat (off % 2 == 1)
    else if 0x1C ≤ off && off < 0x24 then half v.timers[(⟨(off - 0x1C) / 2 % 4, by omega⟩ : Fin 4)] (off % 2 == 1)
    else 0

/-! ### Tallies and calibration (R352, R353, R377) -/

/-- TALLY. -/
def tallyView (s : State) (off : Nat) : Word :=
  match off with
  | 0x11 => word (maskOf fun (n : TallyIx) => bit (s.reg (addr (0xA1 + n) 0x11)) 12)
  | 0x12 => word (maskOf fun (n : TallyIx) => bit (s.reg (addr (0xA1 + n) 0x11)) 11)
  | 0x14 => word (maskOf fun (m : Fin 4) => s.x.tout[m])
  | 0x15 => word s.x.sleepE
  | 0x16 => word (s.x.sleepE / 65536)
  | 0x17 => word (s.x.sleepE / 4294967296)
  | _ => 0

/-- TLn; the counter and compare registers are read live (R346). -/
def tlView (s : State) (n : TallyIx) (off : Nat) : Word :=
  let v := s.x.tally[n]
  match off with
  | 0x11 => bitAt (if tlUpper s n then s.x.tally[evenOf n].run else v.run) 15 ||| bitAt v.down 14 ||| bitAt (tlUpper s n) 13 ||| bitAt v.suspect 10 ||| bitAt v.rNew 9
      ||| bitAt v.fNew 8 ||| bitAt v.lastFall 7 ||| at_ (min 127 v.edges) 0
  | 0x12 => half v.cnt false
  | 0x13 => half v.cnt true
  | 0x14 => half v.cmp false
  | 0x15 => half v.cmp true
  | 0x18 => half v.snap false
  | 0x19 => half v.snap true
  | 0x1A => half v.capR false
  | 0x1B => half v.capR true
  | 0x1C => half v.capF false
  | 0x1D => half v.capF true
  | 0x1E => half v.capP false
  | 0x1F => half v.capP true
  | _ => 0

/-- CAL_PROG: the step, pass and item of a run by the schedule of R361 to R364. -/
def calProg (s : State) : Word :=
  let c := s.x.cal
  let j := s.x.tick.count - c.since
  if c.kind == 0 then 0
  else if j < 16 then at_ 1 13
  else
    let k := j - 16
    match c.kind with
    | 1 =>
      let n := max 1 c.legs.length
      let item := match c.legs[k / 48 % n]? with | some l => l.val | none => 0
      at_ (if k % 48 < 24 then 2 else 3) 13 ||| bitAt (n ≤ k / 48) 12 ||| at_ item 0
    | 2 => at_ 4 13 ||| bitAt (20 ≤ k) 12 ||| at_ (k / 10 % 2) 0
    | _ => at_ 5 13 ||| bitAt (6 ≤ k) 12

/-- CAL. -/
def calView (s : State) (off : Nat) : Word :=
  let c := s.x.cal
  match off with
  | 0x18 => bitAt (c.kind != 0) 15 ||| bitAt c.done 14 ||| bitAt c.aborted 13 ||| bitAt c.ignored 12 ||| bitAt c.refused 11
      ||| bitAt c.fail 10 ||| at_ c.lastKind 8 ||| at_ c.refCause 5 ||| at_ c.abortCause 2
  | 0x19 => calProg s
  | 0x1A => at_ c.failTest 14 ||| at_ c.failValue 11 ||| at_ c.failItem 0
  | 0x1B => c.valid
  | 0x1C => c.last
  | 0x1D => half c.seq false
  | 0x1E => half c.seq true
  | 0x1F => bitAt c.saveBusy 15 ||| bitAt c.saveDone 14 ||| bitAt c.saveErr 13 ||| at_ c.slot 0
  | _ => 0

/-! ### Faults (R403) -/

/-- FAULT; FAULT_WORD_H as the port latched it (R381). -/
def faultView (s : State) (lat : Option Word) (off : Nat) : Word :=
  let c := s.x.col
  match off with
  | 0x10 => half c.word.toNat false
  | 0x11 => match lat with | some h => h | none => half c.word.toNat true
  | 0x12 => match c.first with | some b => bitAt true 15 ||| at_ b 0 | none => 0
  | 0x13 => c.firstTk
  | 0x1D => word c.resumeCnt
  | 0x1E => bitAt c.unfDone 15 ||| bitAt c.unfFail 14 ||| at_ c.unfPage 0
  | 0x1F => at_ c.actCode 13 ||| at_ c.actBit 0
  | 0x29 => c.stickyTk
  | 0x2A => at_ c.safeBit 0
  | 0x2B => c.safeTk
  | _ => 0

/-! ### Cascade (R452) -/

/-- The code of a ring state (R411). -/
def RgState.code : RgState → Nat
  | .off => 0 | .search => 1 | .listen => 2 | .align => 3 | .load => 4 | .ready => 5 | .member => 6 | .master => 7
  | .holdover => 8 | .dropped => 9

/-- RG_PORT_E and RG_PORT_W. -/
def portView (s : State) (east : Bool) : Word :=
  let p := portOfRing s east
  let st : Nat := if s.isFenced (portUnit east) then 3 else match p.state with
    | .down => 0 | .training => 1 | .up => 2 | .foreign => 4 | .tap => 5 | .wrap => 6
  at_ st 13 ||| at_ (p.flight % 4096) 0

/-- RING. -/
def ringView (s : State) (off : Nat) : Word :=
  let r := s.x.ring
  match off with
  | 0x12 => at_ (if ringFormed s && r.drops.any (fun d => nbit d.2 r.pos) then RgState.dropped.code else r.state.code) 12 ||| at_ r.topo 10 ||| at_ r.mpos 7 ||| bitAt r.holdNeed 6 ||| bitAt r.dup 5
  | 0x13 => at_ r.ready 8 ||| at_ r.memb 0
  | 0x14 => portView s true
  | 0x15 => portView s false
  | 0x16 => setBits 0 15 8 ((BitVec.ofInt 8 r.pherr).toNat) ||| at_ (r.hop % 16) 0
  | 0x17 => word r.e.crc
  | 0x18 => word r.w.crc
  | 0x1B => half (digest s) false
  | 0x1C => half (digest s) true
  | 0x1D => r.evtTk
  | 0x1E => bitAt r.imgBusy 15 ||| bitAt r.imgDone 14 ||| bitAt r.imgErr 13 ||| at_ (min 511 r.imgFrames) 0
  | 0x38 => word r.dropCnt
  | _ =>
    match member off 0x28 8 1 with
    | some t => let v := r.nav[ix8 t]; at_ (min 255 v.1) 8 ||| at_ (min 255 v.2) 0
    | none =>
    match member off 0x30 8 1 with
    | some q =>
      let v := r.know[ix8 q]
      -- of the own position, which sends itself no slot, the own top alert
      let al := if q == r.pos && ringMaster s then (ownCauses s).head?.map fun c => (c.1, c.2.1)
        else match v.slot with | some x => x.alert | none => none
      bitAt v.member 15 ||| bitAt v.missed 14 ||| bitAt v.leaving 13 |||
        (match al with | some (c, b) => bitAt true 12 ||| at_ c 9 ||| at_ b 4 | none => 0)
    | none => 0

/-! ### Host ports and buses (R485-R487) -/

/-- Does a page drive IRQ# with an enabled event (R462)? -/
def pageEvent (s : State) (page : Nat) : Bool := assigned page && PG_EVT_W s page &&& PG_EVTEN_W s page != 0

/-- SPI_IRQMAPi. -/
def irqMap (s : State) (i : Nat) : Word := word (maskOf fun (j : Fin 16) => pageEvent s (16 * i + j))

/-- SPI. -/
def spiView (s : State) (off : Nat) : Word :=
  match off with
  | 0x11 => at_ s.x.spi.hdr 8 ||| at_ s.x.spi.part 0
  | 0x12 => word s.x.spi.crcCnt
  | _ => match member off 0x20 16 1 with | some i => irqMap s i | none => 0

/-- ALERT_CAUSE of a cause list and its head (R473, R486). -/
def alertCause (l : List (Nat × Nat × Nat)) (head : Option (Nat × Nat)) : Word :=
  match l.find? fun c => some c.2 == head with
  | none => 0
  | some (c, b, q) => bitAt true 15 ||| at_ c 12 ||| at_ b 7 ||| at_ q 4 ||| at_ (min 15 l.length) 0

/-- The address of the TWM: 0x40 plus the strap value (R463). -/
def twmAddr (s : State) : Nat := 0x40 + s.x.pwr.addr.val

/-- TWM. -/
def twmView (s : State) (off : Nat) : Word :=
  let t := s.x.twm
  match off with
  | 0x11 => word (twmAddr s)
  | 0x12 => at_ t.errSr 12 ||| at_ t.errBit 8 ||| at_ t.errPec 4 ||| at_ t.errTmo 0
  | 0x14 => alertCause s.x.alert.list s.x.alert.head
  | 0x15 => at_ t.page 8 ||| at_ t.off 0
  | _ => 0

/-- TWP. -/
def twpView (s : State) (off : Nat) : Word :=
  let t := s.x.twp
  match off with
  | 0x13 => at_ (t.arbByte % 64) 3 ||| at_ t.arbBit 0
  | 0x14 => at_ t.late 8 ||| at_ t.early 0
  | 0x1C => bitAt t.busy 15 ||| bitAt t.done 14 ||| bitAt t.w 13 ||| bitAt t.err 12 ||| at_ t.cause 0
  | 0x1D => t.rd
  | _ => match member off 0x30 8 1 with | some i => t.tin[ix8 i] | none => 0

/-! ### Storeroom, larder (R506, R507), device and power (R525, R526), test (R533) -/

/-- STORE; STORE_DATA is the word at the port address (R34, R489), 0 from a fenced storeroom (R392). -/
def storeView (s : State) (off : Nat) : Word :=
  let v := s.x.store
  match off with
  | 0x10 => word v.addr
  | 0x11 => word (v.addr / 65536)
  | 0x12 => if s.isFenced .store then 0 else stGet v.mem v.addr
  | 0x14 => bitAt v.busy 15 ||| bitAt v.done 14 ||| bitAt v.aborted 13 ||| bitAt v.abortIgnored 12 ||| bitAt v.refused 11
      ||| at_ (min 2 v.waitB.length) 9
  | 0x16 => word v.eccCnt
  | 0x17 => bitAt v.validA 15 ||| bitAt v.validB 14 ||| bitAt v.loadedB 13 ||| bitAt v.noBank 12
  | 0x18 => word v.boots
  | 0x19 => word v.capSlot
  | 0x29 => at_ v.lost 8 ||| at_ v.queue.length 0
  | 0x2A => word v.seq
  | _ => 0

/-- The code of a larder state (R507). -/
def LarState.code : LarState → Nat
  | .off => 0 | .armed => 1 | .post => 2 | .frozen => 3 | .flush => 4

/-- LARDER. -/
def larderView (s : State) (off : Nat) : Word :=
  let l := s.x.larder
  match off with
  | 0x14 => at_ l.state.code 13 ||| bitAt l.flushed 12 ||| bitAt l.err 11
  | 0x15 => l.trigTk
  | 0x16 => at_ l.trigSrc 13 ||| at_ l.trigIdx 0
  | 0x17 => word l.missed
  | 0x18 => word l.prog
  | _ => 0

/-- The code of a device state (R456). -/
def DevState.code : DevState → Nat
  | .hold => 1 | .run => 2 | .safe => 4 | _ => 0

/-- DEV. -/
def devView (s : State) (off : Nat) : Word :=
  let p := s.x.pwr
  match off with
  -- in BOOT, in which nothing is read (R461), the register stands at its reset value
  | 0x16 => at_ (if s.x.dev = .boot then 1 else s.x.dev.code) 13 ||| bitAt p.conf 12 ||| bitAt p.autorun 11 ||| bitAt p.sleeping 10 ||| bitAt p.refused 9
      ||| at_ p.refCause 6
  | 0x19 => word p.rstCause
  | _ => match member off 0x12 4 1 with | some i => Config.devUid i | none => 0

/-- PWR. -/
def pwrView (s : State) (off : Nat) : Word :=
  let p := s.x.pwr
  match off with
  | 0x10 => bitAt p.vbias 15 ||| bitAt p.core 14 ||| bitAt p.io 13 ||| bitAt p.pll 12 ||| at_ p.ref 10 ||| bitAt p.slowRc 9
  | 0x13 => at_ p.wakeSrc 12 ||| at_ p.wakeIx 0
  | 0x14 => word p.sleeps
  | _ => 0

/-- TEST. -/
def testView (s : State) (off : Nat) : Word :=
  let t := s.x.test
  match off with
  | 0x11 => bitAt t.isOpen 15 ||| bitAt t.run.isSome 14 ||| bitAt t.done 13 ||| bitAt t.pass 12 ||| bitAt t.aborted 11
      ||| bitAt t.abortIgnored 10 ||| bitAt t.refused 9 ||| bitAt t.denied 8 ||| at_ t.refCause 6
  | 0x15 => word t.errCnt
  | 0x16 => t.meas
  | 0x17 => bitAt t.armed.isSome 0
  | 0x18 => t.endTk
  | _ => 0

/-! ### Headers (R561, R562) -/

/-- PG_STAT.ACTIVE (R562). -/
def pageActive (s : State) (page : Nat) : Bool :=
  if 0x08 ≤ page && page ≤ 0x0F then s.cp.trains[ix8 (page - 0x08)].state.switching
  else if h : 0x10 ≤ page ∧ page ≤ 0x27 then legSwitches s ⟨page - 0x10, by omega⟩
  else if 0x61 ≤ page && page ≤ 0x70 then s.cp.loops[ix16 (page - 0x61)].active
  else if 0x81 ≤ page && page ≤ 0x88 then clerkActive s (ix8 (page - 0x81))
  else if h : 0x41 ≤ page ∧ page ≤ 0x52 then
    let c : Conv := ⟨page - 0x41, by omega⟩
    let on := if page ≤ 0x50 then SL_CFG_EN s (page - 0x41) else if page == 0x52 then AX_CFG_EN s else true
    on && !(s.isFenced (.conv c))
  else if page == 0xC8 then portIn s true || portIn s false
  else s.x.dev != .boot && s.x.dev != .off

/-- PG_STAT. -/
def pageStat (s : State) (page : Nat) : Word :=
  let deg := 0x08 ≤ page && page ≤ 0x0F && s.cp.models[ix8 (page - 0x08)].degraded
    || 0x41 ≤ page && page ≤ 0x50 && s.cp.sup[ix16 (page - 0x41)].alt = .serving
  bitAt (PG_ERR_W s page &&& ~~~(PG_ERRMASK_W s page) != 0) 3 ||| bitAt deg 2
    ||| bitAt ((pageUnits page).any s.isFenced) 1 ||| bitAt (pageActive s page) 0

/-- The status bits of a register from offset 0x10, with what the reading port has latched. -/
def statusBits (s : State) (latT : Option (Word × Word)) (latF : Option Word) (page off : Nat) : Word :=
  if page == 0x00 then devView s off
  else if page == 0x01 then tickView s latT off
  else if 0x08 ≤ page && page ≤ 0x0F then trainView s (ix8 (page - 0x08)) off
  else if h : 0x10 ≤ page ∧ page ≤ 0x27 then legView s ⟨page - 0x10, by omega⟩ off
  else if page == 0x28 then poolView s off
  else if page == 0x30 then srcView s off
  else if h : 0x34 ≤ page ∧ page ≤ 0x37 then batView s ⟨page - 0x34, by omega⟩ off
  else if page == 0x38 then guardView s off
  else if page == 0x40 then adcView s off
  else if 0x41 ≤ page && page ≤ 0x50 then sliceView s (ix16 (page - 0x41)) off
  else if page == 0x51 then spareView s off
  else if page == 0x52 then auxView s off
  else if page == 0x58 then calView s off
  else if page == 0x60 then ceView s off
  else if 0x61 ≤ page && page ≤ 0x70 then loopView s (ix16 (page - 0x61)) off
  else if 0x74 ≤ page && page ≤ 0x77 then sectView s page off
  else if page == 0x78 then supvView s off
  else if page == 0x80 then clerkView s off
  else if 0x81 ≤ page && page ≤ 0x88 then ckView s (ix8 (page - 0x81)) off
  else if page == 0xA0 then tallyView s off
  else if 0xA1 ≤ page && page ≤ 0xB0 then tlView s (ix16 (page - 0xA1)) off
  else if page == 0xB8 then faultView s latF off
  else if page == 0xC0 then storeView s off
  else if page == 0xC1 then larderView s off
  else if page == 0xC8 then ringView s off
  else if page == 0xD0 then spiView s off
  else if page == 0xD1 then twmView s off
  else if page == 0xD2 then twpView s off
  else if page == 0xE0 then pwrView s off
  else if page == 0xF0 then testView s off
  else 0

/-- Registers that show a word of a unit instead of the stored one: the clerks' A to D, the sections' state words, the live address of
the storeroom's port (R489). -/
def unitHeld (page off : Nat) : Bool :=
  (page == 0xC0 && (off == 0x10 || off == 0x11)) ||
  (0x81 ≤ page && page ≤ 0x88 && 0x14 ≤ off && off < 0x1C) ||
  (0x74 ≤ page && page ≤ 0x77 && 0x10 ≤ off && 6 ≤ off % 8)

/-- The word a register holds in a state; 0 at a reserved offset (R3) and on a page that is not assigned (R565). -/
def regWord (s : State) (latT : Option (Word × Word)) (latF : Option Word) (page off : Nat) : Word :=
  if !(assigned page) then 0
  else if off == 0x02 then pageStat s page
  else if off < 0x10 then s.reg (addr page off)
  else if unitHeld page off || (0xA1 ≤ page && page ≤ 0xB0 && 0x12 ≤ off && off ≤ 0x15) then
    statusBits s latT latF page off
  else s.reg (addr page off) ||| statusBits s latT latF page off

/-- A snapshot seen as a state. -/
def asState (s : State) (v : Snap) : State := { s with cp := v.cp, x := v.x }

/-- Is the register of the immediate domain, read at its current value (R34)? -/
def immediate (page off : Nat) : Bool :=
  (0x10 ≤ off && off ≤ 0x18 && page == 0xF0) || (page == 0xC0 && off == 0x12) || immMask (addr page off) != 0

/-- What a clerk's LD reads (R311): the published snapshot; TXN and SNAP read 0, a Tally counter or compare the copy. -/
def clerkRead (s : State) (page off : Nat) : Word :=
  let v := asState s s.pub
  if page == 0x02 || page == 0x03 then 0
  else regWord v none none page off

/-- What a read in the published view returns to a port (R9, R31, R34): the immediate domain at its present value; TICK, TXN and
SNAP from the snapshot last published, which no hold freezes; the rest from the snapshot the port holds, else the
published one. -/
def portRead (s : State) (p : Port) (page off : Nat) : Word :=
  let now := asState s s.pub
  if page == 0x02 && 0x10 ≤ off then txnView (now.x.txn.get p) (now.x.hostUnits.any fun u => u.src == .txn p && u.tgt.isSome) off
  else if page == 0x03 && 0x10 ≤ off then snapView (now.x.snap.get p) off
  else if immediate page off then regWord s none none page off
  else if page == 0x01 || page == 0x02 || page == 0x03 then regWord now (s.x.tick.latch.get p) none page off
  else regWord (asState s ((s.views.get p).getD s.pub)) none (s.x.col.latchH.get p) page off

end Sys2Proof.Machine
end

