-- ==== Sys2Proof/Machine/Larder.lean ====
section
/-! DEFINITION. The larder's record of a tick (R502, R503). -/

namespace Sys2Proof.Machine

/-- Words 0 to 123 of the record of the present tick (R502), P0 and TICKNUM low half first. -/
def larderWords (s : State) (trig : Bool) : List Word :=
  let r (page off : Nat) : Word := regWord s none none page off
  let n := s.x.tick.num
  let w0 := bitAt true 15 ||| bitAt (!s.x.tick.trips.isEmpty) 14 ||| bitAt trig 13 ||| at_ s.x.dev.code 10 ||| 0x01
  [w0, word n, word (n / 65536), word (n / 4294967296), r 0xB8 0x10, r 0xB8 0x11, r 0x30 0x11, r 0x30 0x12]
    ++ (List.range 16).map (fun i => r (0x41 + i) 0x1D)
    ++ [r 0x51 0x13, r 0x78 0xD5, r 0x78 0xD4, r 0x28 0x18, r 0x28 0x19, r 0x28 0x1A, r 0x28 0x1B, r 0x01 0x16]
    ++ (List.range 8).map (fun t => r (0x08 + t) 0x29) ++ (List.range 8).map (fun t => r (0x08 + t) 0x2A)
    ++ (List.range 8).map (fun t => r (0x08 + t) 0x12) ++ (List.range 8).map (fun t => r (0x08 + t) 0x2C)
    ++ (List.range 24).map (fun n => r (0x10 + n) 0x17)
    ++ (List.range 16).map (fun l => r (0x61 + l) 0x1F)
    ++ (List.range 4).map (fun p => r (0x34 + p) 0x14) ++ (List.range 4).map (fun p => r (0x34 + p) 0x17)
    ++ (List.range 4).map (fun p => r (0x34 + p) 0x16)
    ++ (List.range 4).map (fun u => let a := (s.reg (addr 0xC1 (0x19 + u))).toNat; r (a / 256) (a % 256))
    ++ (List.range 4).map (fun p => r (0x34 + p) 0x13)

/-- The record of the tick takes the place of the one of its number (R502); the first at or after a trigger is the trigger
record (R503). -/
def larderWrite (s : State) : State :=
  let l := s.x.larder
  let post := l.state = .post
  if !(l.state = .armed || (post && !(l.recorded && l.left == 0))) then s
  else
    let trig := post && !l.recorded
    let ix := s.x.tick.num % 4096
    let rec_ : LarRec := { ix := ix, old := false, words := larderWords s trig }
    let s := s.modLar fun l => { l with recs := l.recs.filter (fun v => v.ix != ix) ++ [rec_] }
    if trig then s.modLar fun l => { l with recorded := true, trigTk := s.tickW, left := LAR_CFG_POST s }
    else if post then s.modLar fun l => { l with left := l.left - 1 }
    else s

/-- LARDER_RECORD at cycle 959. A double error of the record's ECC trips checker 5, which fences the storeroom (R36, R402,
R505). -/
def execLarderRecord (f : CheckFault) (s : State) : Host.Outcome State Fault Refusal :=
  if !(ticking s) then .next s
  else match f with
    | .ecc2 cyc => .next (larderWrite (raise (trip s 5 cyc [.store]) 0xC1 0))
    | .overrun cyc => .next (larderWrite (overrun s cyc []))
    | _ => .next (larderWrite s)

end Sys2Proof.Machine
end

