-- ==== Sys2Proof/Machine/Validate.lean ====
section
/-! DEFINITION. Validation of commit units (R5, R17, R133, R134, R228) and the drops of single writes (R127, R218, R290, R321,
R426). -/

namespace Sys2Proof.Machine

/-! ### Field values that the register tables mark as reserved (R5) -/

/-- Is a field of a word within bounds? -/
def fieldIn (v : Word) (hi lo a b : Nat) : Bool := a ≤ bits v hi lo && bits v hi lo ≤ b

/-- Are the four nibbles of a word all in a set? -/
def nibbles (v : Word) (f : Nat → Bool) : Bool := f (bits v 3 0) && f (bits v 7 4) && f (bits v 11 8) && f (bits v 15 12)

/-- TRAIN (R100). -/
def trainOk (off : Nat) (v : Word) : Bool :=
  match off with
  | 0x10 => !(bits v 15 14 == 1 && 2 ≤ bits v 9 8)
  | 0x18 | 0x19 | 0x1A | 0x28 => fieldIn v 6 0 0 100
  | 0x1E | 0x2D => fieldIn v 9 0 16 944
  | 0x21 => fieldIn v 7 0 1 255
  | 0x25 => v != 0
  | 0x26 => fieldIn v 12 8 1 24 && fieldIn v 4 0 1 24
  | _ => true

/-- LOOP (R116, R118, R142). -/
def loopOk (off : Nat) (v : Word) : Bool :=
  match off with
  | 0x11 => fieldIn v 6 0 0 95
  | 0x12 => fieldIn v 6 0 0 96
  | 0x13 => fieldIn v 15 12 0 6 && (bits v 15 12 != 6 || fieldIn v 3 0 0 1)
  | 0x1A => fieldIn v 15 12 0 4 && (bits v 15 12 != 4 || fieldIn v 3 0 0 7)
  | _ => true

/-- SUPV (R170, R172). -/
def supvOk (off : Nat) (v : Word) : Bool :=
  if off == 0xD1 then fieldIn v 7 0 2 255
  else if off == 0xD2 then fieldIn v 4 0 1 24
  else if 0x10 ≤ off && off < 0x90 && off % 16 == 8 then fieldIn v 7 0 1 255
  else if 0x10 ≤ off && off < 0x90 && off % 16 == 0xA then v != 0
  else true

/-- SRC (R204, R205). -/
def srcOk (off : Nat) (v : Word) : Bool :=
  match off with
  | 0x16 => v != 0
  | 0x17 => fieldIn v 14 0 1 32767
  | 0x18 | 0x19 | 0x35 | 0x3D | 0x45 | 0x4D => !(bit v 15)
  | 0x1C | 0x1D | 0x1E => fieldIn v 7 0 1 255
  | _ => true

/-- BAT (R217, R253). -/
def batOk (off : Nat) (v : Word) : Bool :=
  match off with
  | 0x10 => fieldIn v 10 9 0 2 && fieldIn v 5 0 1 32
  | 0x13 => fieldIn v 3 0 1 10 && bits v 3 0 != 9
  | 0x1C => 1000 ≤ v.toNat
  | 0x22 => fieldIn v 15 8 0 100 && fieldIn v 7 0 0 100
  | 0x23 => fieldIn v 9 0 0 500
  | 0x2D | 0x2F | 0x30 => v != 0
  | 0x3C => fieldIn v 15 12 0 12 && fieldIn v 11 8 1 10 && fieldIn v 5 0 1 63
  | 0x40 => fieldIn v 15 12 0 12 && fieldIn v 7 0 1 255
  | _ => true

/-- SLICE (R295). -/
def sliceOk (off : Nat) (v : Word) : Bool :=
  match off with
  | 0x10 => fieldIn v 13 12 0 2 && fieldIn v 11 9 0 4
  | 0x11 => fieldIn v 15 14 0 2 && fieldIn v 12 8 1 31
  | 0x13 => fieldIn v 15 13 0 4
  | 0x18 => fieldIn v 11 8 4 12 && fieldIn v 1 0 0 2
  | _ => true

/-- AUX (R297). -/
def auxOk (off : Nat) (v : Word) : Bool :=
  match off with
  | 0x11 => nibbles v (· ≤ 11)
  | 0x12 => fieldIn v 7 4 0 11 && fieldIn v 3 0 0 11
  | 0x14 => fieldIn v 15 14 0 2 && fieldIn v 12 8 1 31
  | 0x18 => fieldIn v 15 12 0 13 && fieldIn v 11 8 0 6 && fieldIn v 1 0 0 2
  | 0x20 | 0x24 | 0x28 | 0x2C => fieldIn v 11 8 0 13
  | _ => true

/-- CAL (R377). -/
def calOk (off : Nat) (v : Word) : Bool :=
  if off == 0x15 || (0x40 ≤ off && off < 0x70) then fieldIn v 14 8 64 127 && fieldIn v 6 0 64 127
  else if off == 0x16 then fieldIn v 7 4 1 7 && fieldIn v 3 0 1 15
  else if off == 0x74 then fieldIn v 6 0 64 127
  else true

/-- The least reaction code of a bit (R386). -/
def leastReact (b : Nat) : Nat := if b == 30 then 3 else if b == 31 then 4 else 0

/-- FLT_REACT0 to FLT_REACT7. -/
def reactOk (r : Nat) (v : Word) : Bool :=
  (List.range 4).all fun k => let c := bits v (4 * k + 3) (4 * k); leastReact (4 * r + k) ≤ c && c ≤ 4

/-- Does a written word carry no reserved value of a single register (R5, R561)? -/
def valueOk (page off : Nat) (v : Word) : Bool :=
  if off < 0x10 then off != 0x03 || bit v 0
  else if page == 0x00 then off != 0x17 || fieldIn v 2 0 0 4
  else if 0x08 ≤ page && page ≤ 0x0F then trainOk off v
  else if 0x10 ≤ page && page ≤ 0x27 then
    (if off == 0x12 then fieldIn v 15 6 0 959 else if off == 0x15 then fieldIn v 7 0 8 128 else true)
  else if page == 0x28 then !(0x10 ≤ off && off ≤ 0x15) || nibbles v fun n => n ≤ 7 || n == 15
  else if page == 0x30 then srcOk off v
  else if 0x34 ≤ page && page ≤ 0x37 then batOk off v
  else if page == 0x38 then (member off 0x20 4 16).isNone || fieldIn v 11 8 1 15
  else if page == 0x40 then
    (if off == 0x12 then fieldIn v 11 8 6 12 && fieldIn v 4 0 1 31 else if off == 0x13 then v != 0 else true)
  else if 0x41 ≤ page && page ≤ 0x50 then sliceOk off v
  else if page == 0x52 then auxOk off v
  else if page == 0x58 then calOk off v
  else if page == 0x60 then (member off 0x20 4 4).isNone || fieldIn v 3 0 0 12
  else if 0x61 ≤ page && page ≤ 0x70 then loopOk off v
  else if page == 0x78 then supvOk off v
  else if 0xA1 ≤ page && page ≤ 0xB0 then off != 0x10 || bits v 12 10 != 3
  else if page == 0xB8 then !(0x20 ≤ off && off ≤ 0x27) || reactOk (off - 0x20) v
  else if page == 0xC0 then
    (if off == 0x13 then fieldIn v 15 14 0 2 else if off == 0x20 then fieldIn v 15 12 1 6 else true)
  else if page == 0xC8 then
    (if off == 0x10 then fieldIn v 4 3 0 2 else if 0x20 ≤ off && off ≤ 0x27 then fieldIn v 7 0 0 192 else true)
  else if page == 0xD0 then off != 0x10 || fieldIn v 12 11 0 2
  else if page == 0xD2 then off != 0x11 || fieldIn v 6 0 0x08 0x77
  else if page == 0xE0 then off != 0x12 || fieldIn v 7 0 1 255
  else true

/-! ### Writes into the register store -/

/-- A write merged into the registers (R2): RW bits replaced, W1C bits cleared; the clerks' registers and the sections' state
words where they live (R107, R328); the lock bit of the guard can only be set (R229). The SNAP registers are banked and
handled apart (R30). -/
def rawWrite (s : State) (page off : Nat) (v : Word) : State :=
  let a := addr page off
  if page == 0x03 && 0x10 ≤ off then s
  else if 0x81 ≤ page && page ≤ 0x88 && 0x14 ≤ off && off < 0x1C then
    let c : ClerkIx := ix8 (page - 0x81)
    let k : Fin 4 := ⟨(off - 0x14) / 2 % 4, by omega⟩
    let r := s.cp.clerks[c]
    let old := (r.regs[k]).toNat
    let n := if off % 2 == 1 then old % 65536 + v.toNat * 65536 else old / 65536 * 65536 + v.toNat
    { s with cp := { s.cp with clerks := upd s.cp.clerks c { r with regs := upd r.regs k (BitVec.ofNat 32 n) } } }
  else
    match (if 0x74 ≤ page && page ≤ 0x77 then sectSlot page off else none) with
    | some (i, 6) => s.modSect i fun r => { r with w1 := v.toInt * 65536 }
    | some (i, 7) => s.modSect i fun r => { r with w2 := v.toInt * 65536 }
    | _ =>
      let rw := rwMask a
      let old := s.reg a
      let v' := if a == a_GUARD_LOCK then v ||| old else v
      s.setReg a (((old &&& ~~~rw) ||| (v' &&& rw)) &&& ~~~(v &&& w1cMask a))

/-! ### Values reserved in combination: "a commit that would leave" (R74, R120, R134, R174, R200, R207, R215, R237, R268, R266,
R274, R284, R332, R344, R349, R431) -/

/-- Train kinds as the registers hold them, adopted or not. -/
def regKind (s : State) (t : Train) : Nat := TR_CFG_KIND s t
/-- The mapping code of a leg in the registers. -/
def regMap (s : State) (n : Leg) : Nat := (newMap s n).1

/-- Trains: fold-back without a target (R74), two STORE trains of one port (R207). -/
def trainsBad (s : State) : Bool :=
  (List.finRange 8).any fun (t : Train) =>
    (FB_KNEE_KNEE s t != 0 && decide (TR_VTGT_I s t ≤ 0)) ||
    (regKind s t == 2 && (List.finRange 8).any fun (u : Train) => t < u && regKind s u == 2 && TR_CFG_TERM s u == TR_CFG_TERM s t)

/-- Loops: clamps crossed (R120), an enabled loop without a section (R134). -/
def loopsBad (s : State) : Bool :=
  (List.finRange 16).any fun (l : LoopIx) =>
    decide (LP_OMAX_I s l < LP_OMIN_I s l) || (LP_CFG_EN s l && LP_NSEC_NSEC s l == 0)

/-- Sources: NODE changed while the source is enabled in force (R174); a ride-through preset without its loop (R200). -/
def sourcesBad (old s : State) : Bool :=
  ((List.finRange 4).any fun (i : Src) => nbit (SRC_CTRL_EN old) i && SRCs_CFG_NODE s i != SRCs_CFG_NODE old i) ||
  (SRC_RIDE_EN s && !(SRC_PP_SUPP_V s &&
    (let l := ix16 (SRC_PP_SUPP_LOOP s)
     LP_CFG_EN s l && LP_CFG_CLOSED s l && !(LP_ROUTE_GROUP s l) &&
       (List.finRange 8).all fun (t : Train) => !(nbit (SRC_RIDE_TRAINS s) t) || routes s l t)))

/-- Batteries: thresholds less than 4 C apart (R215), timers of a valid guard (R254). -/
def batsBad (s : State) : Bool :=
  (List.finRange 4).any fun (p : BPort) =>
    let t (k : Nat) : Int := (s.reg (addr (batPage p) (0x1D + k))).toInt
    let tm (m : Nat) : Bool := m == 0 || 2880 < m
    decide (t 2 < t 1 + 40) || decide (t 3 < t 2 + 40) || decide (t 4 < t 3 + 40) ||
    (GDp_CFG_VALID s p && (tm (GDp_TMR_CC s p) || tm (GDp_TMR_PRE s p)))

/-- Is a slice the fast-word source of an enabled loop (R274)? -/
def fastSource (s : State) (i : Slice) : Bool :=
  (List.finRange 16).any fun (l : LoopIx) => LP_CFG_EN s l &&
    ((LP_SP_SRC_KIND s l == 2 && LP_SP_SRC_INDEX s l == i.val) || (LP_FB_SRC_KIND s l == 1 && LP_FB_SRC_INDEX s l == i.val))

/-- Conversion: privileged or low-power slices in pairs (R266), low power where it may not be (R274), windows crossed (R268),
more than four privileged slices (R284). -/
def convBad (s : State) : Bool :=
  4 < ((List.finRange 16).filter (privileged s)).length ||
  (List.finRange 16).any fun (i : Slice) =>
    let lp := SL_CFG_LP s i
    (inPair s i && (privileged s i || lp)) || decide (SL_WHI_I s i < SL_WLO_I s i) ||
    (lp && (privileged s i || fastSource s i ||
      ((List.finRange 8).any fun (t : Train) => regKind s t != 0 && (loSlice s t == i || hiSlice s t == i)) ||
      ((List.finRange 4).any fun (p : BPort) => GDp_CFG_VALID s p && (vslOf s p == i || islOf s p == i))))

/-- Tallies (R332, R344, R349). -/
def talliesBad (s : State) : Bool :=
  (List.finRange 16).any fun (n : TallyIx) =>
    let mode := TLn_CFG_MODE s n
    (mode == 1 && tlTop s n == 0) ||
    (TLn_CFG_LINK s n && (n.val % 2 == 1 || mode == 1 || mode == 3)) ||
    (TLn_CFG_TIMEBASE s n && (4 ≤ TLn_CFG_CLK s n || mode != 0))

/-- The slots of a loop. -/
def loopSlots (s : State) (l : LoopIx) (i : Nat) : Bool :=
  LP_FIRST_FIRST s l ≤ i && i < LP_FIRST_FIRST s l + LP_NSEC_NSEC s l

/-- Spanning trains (R431). -/
def spanBad (s : State) : Bool :=
  let cl (l : LoopIx) : Bool := nbit (RG_CLOOP_LOOPS s) l
  ((List.finRange 8).any fun (t : Train) => spanning s t &&
    (regKind s t == 2 || TR_CFG_ONELEG s t ||
      ((List.finRange 24).any fun (n : Leg) => (newMap s n).2 && regMap s n == t.val) ||
      ((List.finRange 16).any fun (l : LoopIx) => routes s l t && !(cl l)))) ||
  ((List.finRange 16).any fun (l : LoopIx) => LP_CFG_EN s l && !(cl l) &&
    (List.finRange 16).any fun (m : LoopIx) => cl m && (List.range 96).any fun (i : Nat) => loopSlots s l i && loopSlots s m i)

/-- Does a configuration hold a combination that is reserved? -/
def configBad (old s : State) : Bool :=
  trainsBad s || loopsBad s || sourcesBad old s || batsBad s || convBad s || talliesBad s || spanBad s

/-! ### Capacity (R133) -/

/-- Is a slot held by an oscillator in force? -/
def oscHeld (s : State) (i : Nat) : Bool := (List.finRange 4).any fun (o : OscIx) => s.cp.oscs[o].run && s.cp.oscs[o].slot.val == i
/-- Is a context held by an oscillator in force? -/
def ctxHeld (s : State) (l : LoopIx) : Bool := (List.finRange 4).any fun (o : OscIx) => s.cp.oscs[o].run && s.cp.oscs[o].ctx == l
/-- Does an enabled loop cover a slot, once more than `k` times? -/
def coveredBy (s : State) (i : Nat) : Nat := ((List.finRange 16).filter fun (l : LoopIx) => LP_CFG_EN s l && loopSlots s l i).length

/-- The cause of R133 that a configuration meets, the lowest first; 0 for none. -/
def capacityCause (s : State) : Nat :=
  let loops := (List.finRange 16).filter fun (l : LoopIx) => LP_CFG_EN s l
  let starting := ((List.finRange 4).filter fun (o : OscIx) => CE_OSCn_CFG_EN s o && !s.cp.oscs[o].run).length
  let freeCtxs := ((List.finRange 16).filter fun (l : LoopIx) => !(LP_CFG_EN s l) && !(ctxHeld s l)).length
  let freeSlots := ((List.range 96).filter fun i => coveredBy s i == 0 && !(oscHeld s i)).length
  if loops.any fun l => 96 < LP_FIRST_FIRST s l.val + LP_NSEC_NSEC s l.val then 1
  else if (List.range 96).any fun i => 1 < coveredBy s i || (coveredBy s i == 1 && oscHeld s i) then 2
  else if freeCtxs < starting || loops.any (ctxHeld s) then 3
  else if freeSlots < starting then 4
  else 0

/-! ### Writes dropped one by one -/

/-- Why a single write is dropped, with what the drop records. -/
inductive Drop where
  | coef (loops : Bool) (l : LoopIx) (i : Slot)
  | calwr (i : Slice)
  | lock (c : ClerkIx)
  | scope
  | phase (p : BPort)
  deriving DecidableEq, Repr

/-- Is a loop enabled and closed in force, its context not fenced (R127, R128, R393)? -/
def loopLocked (s : State) (l : LoopIx) : Bool := LP_CFG_EN s l && LP_CFG_CLOSED s l && !(s.isFenced (.loop l))

/-- Is the clerk STOPPED, or fenced, where it does not run either (R321, log entry 34)? -/
def clerkStopped (s : State) (c : ClerkIx) : Bool := clerkState s c == 0 || clerkState s c == 6

/-- Is a write dropped, judged against the state in force before the boundary? A write of cascade scope on a device that is not master counts as
that alone, whatever else would drop it (R127, R321, R426; DESIGN CHOICE, log entry 115). -/
def dropOf (s : State) (page off : Nat) (v : Word) : Option Drop :=
  if !(ringMaster s) && inScope s page off then some .scope
  else if h : 0x34 ≤ page ∧ page ≤ 0x37 then
    let p : BPort := ⟨page - 0x34, by omega⟩
    if off == 0x13 && (BP_PHASE_PHASE s p == 0 || BP_PHASE_PHASE s p == 9) then some (.phase p) else none
  else if 0x41 ≤ page && page ≤ 0x50 then
    let i : Slice := ix16 (page - 0x41)
    if (off == 0x16 || off == 0x17) && privileged s i then some (.calwr i) else none
  else if 0x61 ≤ page && page ≤ 0x70 then
    let l : LoopIx := ix16 (page - 0x61)
    if (off == 0x11 || off == 0x12) && loopLocked s l then some (.coef true l 0) else none
  else if 0x74 ≤ page && page ≤ 0x77 then
    match sectSlot page off with
    | none => none
    | some (i, _) =>
      match slotOsc s i with
      | some o => if s.isFenced (.loop s.cp.oscs[o].ctx) then none else some (.coef false s.cp.oscs[o].ctx i)
      | none =>
        match slotLoop s i with
        | some l => if loopLocked s l then some (.coef false l i) else none
        | none => none
  else if 0x81 ≤ page && page ≤ 0x88 then
    let c : ClerkIx := ix8 (page - 0x81)
    let sel := off == 0x10 && bit v 2 != CK_CTRL_LISTSEL s c
    if (sel || (0x14 ≤ off && off < 0x1C)) && !(clerkStopped s c) then some (.lock c) else none
  else if 0x90 ≤ page && page ≤ 0x9F && 0x10 ≤ off then
    let c : ClerkIx := ix8 ((page - 0x90) / 2)
    if CK_CTRL_LISTSEL s c && !(clerkStopped s c) then some (.lock c) else none
  else none

/-- What is left of a unit's writes once the dropped ones are out, and the drops. Of CK_CTRL only LISTSEL is dropped. A
configuration load is under none of these rules. -/
def filterWrites (s : State) (load : Bool) (l : List StagedWrite) : List StagedWrite × List Drop :=
  if load then (l, [])
  else l.foldl (fun (r : List StagedWrite × List Drop) w =>
    match dropOf s w.page w.off w.val with
    | none => (r.1 ++ [w], r.2)
    | some d =>
      if 0x81 ≤ w.page && w.page ≤ 0x88 && w.off == 0x10 then
        (r.1 ++ [{ w with val := setBit w.val 2 (CK_CTRL_LISTSEL s (w.page - 0x81)) }], r.2 ++ [d])
      else (r.1, r.2 ++ [d])) ([], [])

/-- The indications of a drop. -/
def markDrop (s : State) (d : Drop) : State :=
  match d with
  | .coef loops l i =>
    (({ s with cp := { s.cp with ce := { s.cp.ce with lockKind := loops, lockLoop := l, lockSlot := i } } }).orReg a_CE_ERR
      (oneHot 0)).evt 0x60 1
  | .calwr i => s.evt (slPage i) 5
  | .lock c => s.evt (0x81 + c.val) 5
  | .scope => s.evt 0xC8 7
  | .phase p => s.evt (batPage p) 7

/-! ### The verdict on a unit (R17, R134) -/

/-- A unit's writes in a configuration. -/
def applyAll (cfg : State) (l : List StagedWrite) : State := l.foldl (fun s w => rawWrite s w.page w.off w.val) cfg

/-- A write that the guard's lock judges (R228). -/
def guardWrite (w : StagedWrite) : Bool := w.page == 0x38 && w.off != 0x04 && w.off != 0x06

/-- The cause that fails a unit, in the order of R17: 3 a reserved value, 2 capacity, 4 the guard's lock (log entry 33). `now`
is the state in force, `cfg` the configuration that the earlier units leave. -/
def unitCause (now cfg : State) (load : Bool) (all kept : List StagedWrite) : Option Nat :=
  let new := applyAll cfg kept
  if !(all.all fun w => valueOk w.page w.off w.val) || configBad cfg new then some 3
  else if capacityCause new != 0 then some 2
  else if !load && all.any guardWrite && (now.x.dev != .hold || GUARD_LOCK_LOCK cfg) then some 4
  else none

end Sys2Proof.Machine
end

