-- ==== Sys2Proof/Machine/Staging.lean ====
section
/-! DEFINITION. Host writes on their way to a boundary: staging, the TXN and SNAP banks (R12-R14, R22-R33, R50, R51, R567), and the
immediate domain (R34). -/

namespace Sys2Proof.Machine

/-! ### The boundary a write targets -/

/-- Does the port serve: the device out of OFF, BOOT and SLEEP, the port not fenced (R392, R461, R470)? -/
def portLive (s : State) (p : Port) : Bool :=
  hostLive s && !s.isFenced (match p with | .spi => .spi | .twm => .twm)

/-- The tick count of the boundary at which a write completed at a cycle of the present tick takes effect (R13, R14). -/
def dueOf (s : State) (cyc : Nat) : Nat :=
  s.x.tick.count + (if cyc ≤ 899 then 1 else 2) + (if ringFormed s then 1 else 0)

/-- Is the register one that a write reaches through staging: it has RW or W1C bits and is not immediate (R2, R4, R34)? -/
def stageable (page off : Nat) : Bool :=
  !(immediate page off) && (rwMask (addr page off) ||| w1cMask (addr page off)) != 0

/-- A write joins the unit of its port's non-transaction writes for a boundary (R16). -/
def stageHost (s : State) (p : Port) (w : StagedWrite) : State :=
  let due := dueOf s w.cyc
  let mine (u : CommitUnit) : Bool := u.src == .host p && u.due == due
  let l := s.x.hostUnits
  let l' := if l.any mine then
      l.map fun u => if mine u then { u with writes := u.writes ++ [w], tick := w.tick, cyc := w.cyc } else u
    else l ++ [{ src := .host p, due := due, writes := [w], tick := w.tick, cyc := w.cyc }]
  { s with x := { s.x with hostUnits := l' } }

/-! ### The TXN bank (R22-R29, R50, R567) -/

/-- Update a port's TXN bank. -/
def State.modTxn (s : State) (p : Port) (f : TxnBank → TxnBank) : State :=
  { s with x := { s.x with txn := s.x.txn.put p (f (s.x.txn.get p)) } }

/-- TXN_STAT bits 9:1 cleared (R50). -/
def TxnBank.clear (b : TxnBank) : TxnBank :=
  { b with badcmd := false, aborted := false, abortIgnored := false, tmo := false, fullBit := false, late := false
           collide := false, reject := false, done := false }

/-- The commit units of a port's transactions that wait for their boundary, in the order of their commands. -/
def txnUnits (s : State) (p : Port) : List CommitUnit := s.x.hostUnits.filter fun u => u.src == .txn p

/-- What the bank of a port is doing (R27, R567). A unit waits until its boundary, whatever the bank does meanwhile. -/
def txnPhase (s : State) (p : Port) : TxnPhase :=
  if (s.x.txn.get p).opened then .opened
  else if (txnUnits s p).any (·.tgt.isSome) then .pending
  else if (txnUnits s p).isEmpty then .idle
  else .waiting

/-- A transaction open for 65,536 ticks is discarded (R29). -/
def txnExpire (s : State) (p : Port) : State :=
  let b := s.x.txn.get p
  if b.opened && 65536 ≤ b.since then
    s.modTxn p fun b => { b with opened := false, writes := [], full := false, tmo := true }
  else s

/-- CMD has no meaning in this state of the bank (R567). -/
def badCmd (s : State) (p : Port) : State := s.modTxn p fun b => { b with badcmd := true }

/-- OPEN (R23, R27, R567). -/
def txnOpen (s : State) (p : Port) : State :=
  let s := txnExpire s p
  match txnPhase s p with
  | .opened | .pending => badCmd s p
  | _ => s.modTxn p fun b => { b.clear with opened := true, writes := [], full := false, since := 0 }

/-- The open transaction is rejected with a cause. -/
def txnReject (s : State) (p : Port) (cause : Nat) (late : Bool) : State :=
  s.modTxn p fun b => { b with
    opened := false, writes := [], full := false, reject := true, rejCause := cause, late := b.late || late }

/-- The open transaction becomes one commit unit, of a COMMIT_AT with its target (R16, R25, R26). -/
def txnUnit (s : State) (p : Port) (due cyc : Nat) (tgt : Option Nat) : State :=
  let b := s.x.txn.get p
  let u : CommitUnit := { src := .txn p, due := due, writes := b.writes, tick := s.x.tick.count, cyc := cyc, tgt := tgt }
  let s := s.modTxn p fun b => { b with opened := false, writes := [], full := false }
  { s with x := { s.x with hostUnits := s.x.hostUnits ++ [u] } }

/-- COMMIT completes at a cycle (R24, R25, R567). -/
def txnCommit (s : State) (p : Port) (cyc : Nat) : State :=
  let s := txnExpire s p
  let b := s.x.txn.get p
  if !b.opened then badCmd s p
  else if b.full then txnReject s p 5 false
  else txnUnit s p (dueOf s cyc) cyc none

/-- COMMIT_AT completes at a cycle (R26, R567): the next tick whose number ends as TXN_TGT. -/
def txnCommitAt (s : State) (p : Port) (cyc : Nat) : State :=
  let s := txnExpire s p
  let b := s.x.txn.get p
  let d0 := (b.tgt.toNat + 65536 - s.x.tick.num % 65536) % 65536
  let d := if d0 == 0 then 65536 else d0
  if !b.opened then badCmd s p
  else if b.full then txnReject s p 5 false
  else if d ≤ 32767 && dueOf s cyc ≤ s.x.tick.count + d then txnUnit s p (s.x.tick.count + d) cyc (some b.tgt.toNat)
  else txnReject s p 6 true

/-- TICKNUM has jumped over a sleep: a COMMIT_AT waits for the next tick whose number ends as its target (R26). A target that the
first tick after the sleep bears acts at the next boundary (DEDUCED, log entry 35). -/
def txnRetarget (s : State) : State :=
  { s with x := { s.x with hostUnits := s.x.hostUnits.map fun u => match u.tgt with
    | none => u
    | some t => { u with due := s.x.tick.count + max 1 ((t + 65536 - s.x.tick.num % 65536) % 65536) } } }

/-- ABORT completes at a cycle (R28, R567): of several transactions the open one, else the one committed last (DEDUCED, log entry
35). It loses from cycle 900 of the tick before the boundary, in the cycle 0 at which the transaction took effect, and once the master
has decided the transaction (log entry 35). -/
def txnAbort (s : State) (p : Port) (cyc : Nat) : State :=
  let s := txnExpire s p
  let b := s.x.txn.get p
  if b.opened then s.modTxn p fun b => { b with opened := false, writes := [], full := false, aborted := true }
  else if b.doneAt == some s.x.tick.count && cyc == 0 then s.modTxn p fun b => { b with abortIgnored := true }
  else match (txnUnits s p).getLast? with
  | none => badCmd s p
  | some u =>
    if u.decided || (u.due == s.x.tick.count + 1 && 900 ≤ cyc) then s.modTxn p fun b => { b with abortIgnored := true }
    else
      let s := s.modTxn p fun b => { b with aborted := true }
      { s with x := { s.x with hostUnits := dropLastTxn s.x.hostUnits p } }

/-- A write of TXN_CTRL completes (R50). -/
def txnCtrl (s : State) (p : Port) (v : Word) (cyc : Nat) : State :=
  match bits v 2 0 with
  | 0 => (txnExpire s p).modTxn p TxnBank.clear
  | 1 => txnOpen s p
  | 2 => txnCommit s p cyc
  | 3 => txnAbort s p cyc
  | 4 => txnCommitAt s p cyc
  | _ => badCmd (txnExpire s p) p

/-- TXN_TGT is latched at write completion (R50). -/
def txnTgt (s : State) (p : Port) (v : Word) : State := s.modTxn p fun b => { b with tgt := v }

/-- A write is held in the open transaction (R23, R24). -/
def txnHold (s : State) (p : Port) (w : StagedWrite) : State :=
  s.modTxn p fun b =>
    let same (x : StagedWrite) : Bool := x.page == w.page && x.off == w.off
    if b.writes.any same then { b with writes := b.writes.map fun x => if same x then w else x }
    else if 256 ≤ b.writes.length then { b with full := true, fullBit := true }
    else { b with writes := b.writes ++ [w] }

/-- TXN_CLEAR. -/
def execTxnClear (p : Port) (s : State) : Host.Outcome State Fault Refusal :=
  if portLive s p then .next ((txnExpire s p).modTxn p TxnBank.clear) else .next s
/-- TXN_OPEN. -/
def execTxnOpen (p : Port) (s : State) : Host.Outcome State Fault Refusal :=
  if portLive s p then .next (txnOpen s p) else .next s
/-- TXN_COMMIT completing at a cycle. -/
def execTxnCommit (p : Port) (cyc : Nat) (s : State) : Host.Outcome State Fault Refusal :=
  if portLive s p then .next (txnCommit s p cyc) else .next s
/-- TXN_COMMIT_AT completing at a cycle. -/
def execTxnCommitAt (p : Port) (cyc : Nat) (s : State) : Host.Outcome State Fault Refusal :=
  if portLive s p then .next (txnCommitAt s p cyc) else .next s
/-- TXN_ABORT completing at a cycle. -/
def execTxnAbort (p : Port) (cyc : Nat) (s : State) : Host.Outcome State Fault Refusal :=
  if portLive s p then .next (txnAbort s p cyc) else .next s
/-- TXN_UNDEFINED_CMD: codes 5 to 7 (R567). -/
def execTxnUndefinedCmd (p : Port) (s : State) : Host.Outcome State Fault Refusal :=
  if portLive s p then .next (badCmd (txnExpire s p) p) else .next s
/-- TXN_TGT_WRITE. -/
def execTxnTgtWrite (p : Port) (v : Word) (s : State) : Host.Outcome State Fault Refusal :=
  if portLive s p then .next (txnTgt s p v) else .next s
/-- TXN_TIMEOUT (R29). -/
def execTxnTimeout (p : Port) (s : State) : Host.Outcome State Fault Refusal := .next (txnExpire s p)

/-! ### The SNAP bank (R30-R33, R51) -/

/-- Update a port's SNAP bank. -/
def State.modSnap (s : State) (p : Port) (f : SnapBank → SnapBank) : State :=
  { s with x := { s.x with snap := s.x.snap.put p (f (s.x.snap.get p)) } }

/-- HOLD = 1 takes effect at this cycle 0: the view is frozen at the snapshot just published, unless it is held (R30, R33). -/
def snapHold (s : State) (p : Port) : State :=
  if (s.x.snap.get p).held then s
  else
    let s := s.modSnap p fun b => { b with hold := true, held := true, tnum := word s.pub.x.tick.num, left := 4096 }
    { s with views := s.views.put p (some s.pub) }

/-- HOLD = 0 takes effect (R32). -/
def snapRelease (s : State) (p : Port) : State :=
  let s := s.modSnap p fun b => { b with hold := false, held := false, left := 0 }
  { s with views := s.views.put p none }

/-- The hold ends after 4096 ticks: HOLD is cleared and EXPIRED set; the view stays frozen until the next swap (R32). -/
def snapExpire (s : State) (p : Port) : State :=
  let b := s.x.snap.get p
  if b.hold && b.held && b.left == 0 then s.modSnap p fun b => { b with hold := false, expired := true } else s

/-- At a swap of the published snapshot a view whose hold has expired is unfrozen (R32). -/
def snapSwap (s : State) (p : Port) : State :=
  let b := s.x.snap.get p
  if b.held && !b.hold then snapRelease s p else s

/-- SNAP_HOLD. -/
def execSnapHold (p : Port) (s : State) : Host.Outcome State Fault Refusal := .next (snapHold s p)
/-- SNAP_RELEASE. -/
def execSnapRelease (p : Port) (s : State) : Host.Outcome State Fault Refusal := .next (snapRelease s p)
/-- SNAP_HOLD_EXPIRY. -/
def execSnapHoldExpiry (p : Port) (s : State) : Host.Outcome State Fault Refusal := .next (snapExpire s p)

/-- What the writes of a boundary to a port's SNAP bank do: the last write of HOLD acts, EXPIRED is W1C (R30, R33, R51). -/
def snapWrites (s : State) (p : Port) (l : List StagedWrite) : State :=
  let s := if l.any fun w => w.page == 0x03 && w.off == 0x11 && bit w.val 1 then s.modSnap p fun b => { b with expired := false }
    else s
  match (l.filter fun w => w.page == 0x03 && w.off == 0x10).getLast? with
  | none => s
  | some w => if bit w.val 0 then snapHold s p else snapRelease s p

/-! ### The TICK page (R49) -/

/-- A read of TK_NUM_L latches TK_NUM_M and TK_NUM_H for the port, from the same snapshot. -/
def tickLatch (s : State) (p : Port) : State :=
  let n := s.pub.x.tick.num
  s.modTick fun t => { t with latch := t.latch.put p (some (word (n / 65536), word (n / 4294967296))) }
/-- TK_NUM_L_READ. -/
def execTkNumLRead (p : Port) (s : State) : Host.Outcome State Fault Refusal :=
  if portLive s p then .next (tickLatch s p) else .next s
/-- TK_CNT_CLR: CNT_CLR takes effect. -/
def execTkCntClr (s : State) : Host.Outcome State Fault Refusal := .next (s.modTick fun t => { t with rbCnt := 0 })

/-! ### The immediate domain (R34) and a completed write -/

/-- Is the register one of the host-port configuration (R34)? -/
def portConfig (page off : Nat) : Bool :=
  (page == 0xD0 || page == 0xD1 || page == 0xD2) && immMask (addr page off) != 0

/-- A write of a configuration register acts at the end of its transaction (R34). A reserved value is not taken (R5; there is no
commit to reject, log entry 36). -/
def portConfigWrite (s : State) (page off : Nat) (v : Word) : State :=
  let a := addr page off
  if !(portConfig page off) then s
  else if !(valueOk page off v) then raise s 0x00 0
  else s.setReg a ((s.reg a &&& ~~~(immMask a)) ||| (v &&& immMask a))

/-- HOST_PORT_CONFIG_WRITE. -/
def execHostPortConfigWrite (page off : Nat) (v : Word) (s : State) : Host.Outcome State Fault Refusal :=
  if hostLive s then .next (portConfigWrite s page off v) else .next s

/-- A free bit: what only the outside knows. -/
def freeBit (s : State) : Bool × State := ((Config.freeWord s.free).getLsbD 0, { s with free := s.free + 1 })

/-- A word written through a port completes at a cycle (R4, R12, R22-R24, R34, R565). Configuration of the ports is left to the end
of the transaction. -/
def hostWrite (s : State) (p : Port) (page off : Nat) (v : Word) (cyc : Nat) : State :=
  let s := txnExpire s p
  let w : StagedWrite := { page := page, off := off, val := v, tick := s.x.tick.count, cyc := cyc }
  if !(assigned page) then s
  else if page == 0x02 && off == 0x10 then txnCtrl s p v cyc
  else if page == 0x02 && off == 0x11 then txnTgt s p v
  else if page == 0xF0 && 0x10 ≤ off then
    let (ext, s) := freeBit s
    testWrite s p off v cyc ext
  else if page == 0xC0 && off == 0x12 then storeWrite s v
  else if h : 0xA1 ≤ page ∧ page ≤ 0xB0 ∧ 0x12 ≤ off ∧ off ≤ 0x15 then
    let n : TallyIx := ⟨page - 0xA1, by omega⟩
    match off with
    | 0x12 => cntLWrite s n v
    | 0x13 => cntHWrite s n ⟨v, cyc + 2⟩
    | 0x14 => cmpLWrite s n v
    | _ => cmpHWrite s n ⟨v, cyc + 2⟩
  else if !(stageable page off) then s
  else if page == 0x02 || page == 0x03 then stageHost s p w
  else if (s.x.txn.get p).opened then txnHold s p w
  else stageHost s p w

/-- Activity addressed to the device on a port (R397). -/
def touch (s : State) (p : Port) : State := { s with x := { s.x with idle := s.x.idle.put p 0 } }

/-- REGISTER_WRITE: a write of one word through a host port, completing at a cycle of the tick. -/
def execRegisterWrite (p : Port) (page off : Nat) (v : Word) (cyc : Nat) (s : State) : Host.Outcome State Fault Refusal :=
  if !(portLive s p) then .next (touch s p)
  else
    let s := touch s p
    if portConfig page off then .next (portConfigWrite s page off v) else .next (hostWrite s p page off v cyc)

end Sys2Proof.Machine
end

