-- ==== Sys2Proof/Machine/Commit.lean ====
section
/-! DEFINITION. Commit units at their boundary: order, verdict, application, reports (R16-R21, R314). -/

namespace Sys2Proof.Machine

/-! ### The order of R19 -/

/-- The place of a host write or unit: completion tick and cycle, TWM before SPI. -/
structure Place where
  tick : Nat
  cyc : Nat
  rank : Nat
  deriving DecidableEq, Repr

/-- Does a place come before another, or with it? -/
def Place.le (a b : Place) : Bool :=
  a.tick < b.tick || (a.tick == b.tick && (a.cyc < b.cyc || (a.cyc == b.cyc && a.rank ≤ b.rank)))

/-- Insert after everything that comes before or with it. -/
def placeInsert {α : Type} (k : Place) (a : α) : List (Place × α) → List (Place × α)
  | [] => [(k, a)]
  | (j, b) :: t => if j.le k then (j, b) :: placeInsert k a t else (k, a) :: (j, b) :: t

/-- A list in the order of the places, equal places in their given order. -/
def placeSort {α : Type} (l : List (Place × α)) : List α :=
  (l.foldl (fun r x => placeInsert x.1 x.2 r) []).map (·.2)

/-- The rank of a source among equal completions. -/
def UnitSrc.rank : UnitSrc → Nat
  | .host .twm | .txn .twm => 0
  | _ => 1

/-- The place of a unit. -/
def CommitUnit.place (u : CommitUnit) : Place := ⟨u.tick, u.cyc, u.src.rank⟩

/-- The clerk of a unit, for the order CK0 to CK7. -/
def UnitSrc.clerkNo : UnitSrc → Nat
  | .clerk c => c.val
  | _ => 8

/-- The units of a boundary in the order of R19; a port's non-transaction unit stands at its last write. -/
def unitsDue (s : State) (k : Nat) : List CommitUnit :=
  placeSort ((s.cp.clerkUnits.filter (·.due == k)).map fun (u : CommitUnit) => (⟨u.src.clerkNo, 0, 0⟩, u)) ++
  placeSort ((s.x.hostUnits.filter (·.due == k)).map fun (u : CommitUnit) => (u.place, u))

/-! ### The verdict (R17) -/

/-- A unit with its verdict: `u.reject` is none where it survives, with what is left of its writes and its drops; `cap` the
cause of R133. -/
structure Judged where
  u : CommitUnit
  kept : List StagedWrite
  drops : List Drop
  cap : Nat
  deriving DecidableEq, Repr

/-- A unit is judged on the configuration that the units before it leave. What the master's decision has let pass is not judged again: a
unit takes effect whole or not at all (R17, R427). -/
def judgeOne (now : State) (r : State × List Judged) (u : CommitUnit) : State × List Judged :=
  let (kept, drops) := filterWrites now false u.writes
  let cause := match u.reject with
    | some c => some c
    | none => if u.decided then none else unitCause now r.1 false u.writes kept
  match cause with
  | some c => (r.1, r.2 ++ [⟨{ u with reject := some c }, [], [], if c == 2 then capacityCause (applyAll r.1 kept) else 0⟩])
  | none => (applyAll r.1 kept, r.2 ++ [⟨u, kept, drops, 0⟩])

/-- The units of a boundary judged in order, against the state in force. -/
def judgeAll (s : State) (k : Nat) : List Judged := ((unitsDue s k).foldl (judgeOne s) (s, [])).2

/-! ### Reports (R17, R18, R314, R134, R228) -/

/-- What a rejection for a cause sets besides its bank. -/
def reportCause (s : State) (cause cap : Nat) : State :=
  match cause with
  | 2 => ((({ s with cp := { s.cp with ce := { s.cp.ce with capCause := cap } } }).orReg a_CE_ERR (oneHot 1)).evt 0x60 0)
  | 3 => raise s 0x00 0
  | 4 => s.evt 0x38 0
  | _ => s

/-- A bank reports a rejection (R17, R18). -/
def bankReject (s : State) (p : Port) (cause : Nat) : State := s.modTxn p fun b => { b with reject := true, rejCause := cause }

/-- A rejected unit reports to its source. -/
def reportReject (s : State) (src : UnitSrc) (cause cap : Nat) : State :=
  let s := reportCause s cause cap
  match src with
  | .clerk c =>
    let s := { s with cp := { s.cp with clerks := upd s.cp.clerks c { s.cp.clerks[c] with rejCause := cause } } }
    (s.orReg (a_CK_STAT c) (oneHot 11)).evt (0x81 + c.val) 2
  | .host p | .txn p => bankReject s p cause
  | .batch => s

/-! ### Application (R19-R21) -/

/-- The surviving writes in the order in which they are applied. -/
def applyOrder (l : List Judged) : List StagedWrite :=
  let ok := l.filter fun j => j.u.reject.isNone
  let clerk := (ok.filter fun j => j.u.src.clerkNo < 8).flatMap (·.kept)
  let host := (ok.filter fun j => j.u.src.clerkNo == 8).flatMap fun (j : Judged) => match j.u.src with
    | .txn _ => [(j.u.place, j.kept)]
    | _ => j.kept.map fun w => ((⟨w.tick, w.cyc, j.u.src.rank⟩ : Place), [w])
  clerk ++ (placeSort host).flatten

/-- Do two units write a common register? -/
def shareReg (a b : Judged) : Bool := a.kept.any fun v => b.kept.any fun w => v.page == w.page && v.off == w.off

/-- A clerk's write was overwritten (R20). -/
def markOvr (s : State) (c : ClerkIx) : State := (s.orReg (a_CK_STAT c) (oneHot 12)).evt (0x81 + c.val) 1

/-- The port of a unit. -/
def UnitSrc.port? : UnitSrc → Option Port
  | .host p | .txn p => some p
  | _ => none

/-- Collisions at a boundary (R20): a host unit with a clerk's, a clerk's with that of a higher clerk. -/
def collisions (s : State) (l : List Judged) : State :=
  let ok := l.filter fun j => j.u.reject.isNone
  ok.foldl (fun s a => match a.u.src with
    | .clerk c => ok.foldl (fun s b =>
        if !(shareReg a b) then s
        else match b.u.src with
          | .clerk d => if c < d then markOvr s c else s
          | .host p | .txn p => (markOvr s c).modTxn p fun t => { t with collide := true }
          | .batch => s) s
    | _ => s) s

/-- A transaction that took effect (R28, R50). -/
def markDone (s : State) (j : Judged) : State :=
  match j.u.src, j.u.reject with
  | .txn p, none => s.modTxn p fun b => { b with done := true, last := s.tickW, doneAt := some s.x.tick.count }
  | _, _ => s

/-- The writes of a port's surviving non-transaction unit to its SNAP bank. -/
def portSnap (l : List Judged) (p : Port) : List StagedWrite :=
  (l.filter fun j => j.u.src == .host p && j.u.reject.isNone).flatMap (·.kept)

/-- The units of a boundary take effect in the present cycle 0: writes in order, then drops, rejections, collisions and what is
done. SNAP and the W1C bits of FAULT_WORD are left to the boundary's end. Answers the writes applied, in order. -/
def applyUnits (s : State) (l : List Judged) : State × List StagedWrite :=
  let ws := applyOrder l
  let s := applyAll s ws
  let s := l.foldl (fun s j => if j.u.reject.isNone then j.drops.foldl markDrop s else s) s
  let s := l.foldl (fun s j => match j.u.reject with | some c => reportReject s j.u.src c j.cap | none => s) s
  let s := l.foldl markDone (collisions s l)
  (s, ws)

/-! ### COMMIT_VALIDATION (R6, R17, R35) -/

/-- A unit with the verdict found for it. -/
def withVerdict (l : List Judged) (u : CommitUnit) : CommitUnit :=
  match l.find? fun j => { j.u with reject := none } == { u with reject := none } with
  | some j => { u with reject := j.u.reject }
  | none => u

/-- COMMIT_VALIDATION at cycles 944-959: the units of the next boundary get their verdict. A staging ECC error trips checker 4
and an overrun checker 6, neither with a unit (R36, R402). -/
def execCommitValidation (f : CheckFault) (s : State) : Host.Outcome State Fault Refusal :=
  if !(ticking s) then .next s
  else
    let s := match f with
      | .ecc2 cyc => trip s 4 cyc []
      | .overrun cyc => overrun s cyc []
      | _ => s
    let l := judgeAll s (s.x.tick.count + 1)
    .next { s with
      cp := { s.cp with clerkUnits := s.cp.clerkUnits.map (withVerdict l) }
      x := { s.x with hostUnits := s.x.hostUnits.map (withVerdict l) } }

/-! ### The staged view (R11) -/

/-- The entries of a batch as writes. -/
def entryWrites (s : State) (l : List BatchEntry) : List StagedWrite :=
  l.map fun e => { page := e.page, off := e.off, val := e.val, tick := s.x.tick.count, cyc := 0 }

/-- The batches due at a boundary, in order. -/
def batchDue (s : State) (k : Nat) : List BatchEntry := (s.x.ring.batches.filter fun b => b.1 == k).flatMap (·.2)

/-- What the next boundary will apply to a register, as far as the port sees it: the units of that boundary and then, in a ring, the
batch the device holds for it (R428); a held snapshot does not matter (R31). A unit that an illegal instruction has discarded does not
count; the verdict of R17 is not foreseen. -/
def stagedRead (s : State) (p : Port) (page off : Nat) : Word :=
  let base := portRead { s with views := ⟨none, none⟩ } p page off
  let mine (w : StagedWrite) : Bool := w.page == page && w.off == off
  let b := s.x.txn.get p
  let merge (v : Word) (w : StagedWrite) : Word :=
    let a := addr page off
    ((v &&& ~~~(rwMask a)) ||| (w.val &&& rwMask a)) &&& ~~~(w.val &&& w1cMask a)
  let banked := page == 0x03 && 0x10 ≤ off
  if !(stageable page off) then base
  else match (if b.opened then b.writes.filter mine else []).getLast? with
    | some w => merge base w
    | none =>
      let us := (unitsDue s (s.x.tick.count + 1)).filter fun u => !banked || u.src == .host p
      let ws := applyOrder (us.map fun u => ⟨{ u with reject := if u.reject == some 7 then some 7 else none }, u.writes, [], 0⟩)
      let wb := if ringFormed s then entryWrites s (batchDue s (s.x.tick.count + 1)) else []
      ((ws ++ wb).filter mine).foldl merge base

end Sys2Proof.Machine
end

