-- ==== Sys2Proof/Machine/Clerk.lean ====
section
/-! DEFINITION. The clerks: instructions, slots, states, event queue, results of requests (R298-R329). -/

namespace Sys2Proof.Machine

/-- Update a clerk. -/
def State.modCk (s : State) (c : ClerkIx) (f : ClerkSt → ClerkSt) : State :=
  { s with cp := { s.cp with clerks := upd s.cp.clerks c (f s.cp.clerks[c]) } }

/-! ### Flags and operands (R304, R305) -/

/-- The value of an operand: an immediate extended as the opcode says, or a register. -/
def ckOperand (v : ClerkSt) (o : CkOp) (sign : Bool) : BitVec 32 :=
  match o with
  | .imm w => if sign then w.signExtend 32 else w.zeroExtend 32
  | .reg r => v.regs[r]

/-- Rd takes a value, Z and N follow it. -/
def ckPut (v : ClerkSt) (d : Fin 4) (x : BitVec 32) : ClerkSt :=
  { v with regs := upd v.regs d x, z := x == 0, n := x.getLsbD 31 }

/-- The next instruction follows; one of the four of the tick is used. -/
def ckNext (v : ClerkSt) : ClerkSt := { v with pc := v.pc + 1, count := v.count + 1 }

/-- May an instruction of the clerk run now: in RUNNING, with its slot not ended (R302, R303)? -/
def ckReady (s : State) (c : ClerkIx) : Bool :=
  ticking s && clerkState s c == 1 && !s.cp.clerks[c].ended && s.cp.clerks[c].count < 4

/-- An instruction of a clerk that may run. -/
def ckWhen (s : State) (c : ClerkIx) (t : State) : Host.Outcome State Fault Refusal := .next (if ckReady s c then t else s)

/-! ### The instructions (R305-R310, R315, R318) -/

/-- NOP. -/
def ckNop (s : State) (c : ClerkIx) : State := s.modCk c ckNext

/-- The offset of LD and ST: with X = 1 D[7:0] is added, mod 256. -/
def ckOffset (v : ClerkSt) (x : Bool) (off : Byte) : Nat :=
  if x then (off.toNat + (v.regs[(3 : Fin 4)]).toNat % 256) % 256 else off.toNat

/-- LD: a register of the published snapshot (R311). -/
def ckLd (s : State) (c : ClerkIx) (sx : Bool) (d : Fin 4) (page : Byte) (x : Bool) (off : Byte) : State :=
  let w := clerkRead s page.toNat (ckOffset s.cp.clerks[c] x off)
  s.modCk c fun v => ckNext (ckPut v d (if sx then w.signExtend 32 else w.zeroExtend 32))

/-- LDI. -/
def ckLdi (s : State) (c : ClerkIx) (d : Fin 4) (hi : Bool) (i : Word) : State :=
  s.modCk c fun v => ckNext (ckPut v d
    (if hi then i ++ (v.regs[d]).truncate 16 else i.signExtend 32))

/-- The tick count of the boundary of a clerk's writes of this tick (R15). -/
def clerkDue (s : State) : Nat := s.x.tick.count + (if ringFormed s then 2 else 1)

/-- A clerk's write enters its commit unit; a later one to the same register replaces it (R312). -/
def ckStage (s : State) (c : ClerkIx) (page off : Nat) (w : Word) : State :=
  let due := clerkDue s
  let now := s.x.tick.count
  let sw : StagedWrite := { page := page, off := off, val := w, tick := now, cyc := 800 + 12 * c.val }
  let mine (u : CommitUnit) : Bool := u.src == .clerk c && u.due == due
  let same (x : StagedWrite) : Bool := x.page == page && x.off == off
  let l := s.cp.clerkUnits
  let l' := if l.any mine then l.map fun u => if mine u then
        { u with writes := if u.writes.any same then u.writes.map (fun x => if same x then sw else x) else u.writes ++ [sw] }
      else u
    else l ++ [{ src := .clerk c, due := due, writes := [sw], tick := now, cyc := 800 + 12 * c.val }]
  { s with cp := { s.cp with clerkUnits := l' } }

/-- Is an ST denied (R313)? -/
def ckDenied (s : State) (c : ClerkIx) (page off : Nat) : Bool :=
  let g := page / 4
  !(bit (s.reg (addr (0x81 + c) (0x24 + g / 16))) (g % 16)) || page == 0x02 || page == 0x03 || immediate page off

/-- A clerk's write: ignored on a page that is not assigned (R565) and at a reserved or read-only offset, denied (R313), or
staged. -/
def ckWrite (s : State) (c : ClerkIx) (page off : Nat) (w : Word) : State :=
  if !(assigned page) then s
  else if ckDenied s c page off then
    let s := (s.modCk c fun v => { v with denyPage := page, denyOff := off }).orReg (a_CK_STAT c) (oneHot 10)
    raise s (0x81 + c.val) 2
  else if stageable page off then ckStage s c page off w
  else s

/-- ST. -/
def ckSt (s : State) (c : ClerkIx) (r : Fin 4) (page : Byte) (x : Bool) (off : Byte) : State :=
  let v := s.cp.clerks[c]
  (ckWrite s c page.toNat (ckOffset v x off) ((v.regs[r]).truncate 16)).modCk c ckNext

/-- ADD: C is the carry out of bit 31. -/
def ckAdd (s : State) (c : ClerkIx) (d : Fin 4) (o : CkOp) : State :=
  s.modCk c fun v =>
    let a := v.regs[d]
    let b := ckOperand v o true
    ckNext { ckPut v d (a + b) with c := decide (4294967296 ≤ a.toNat + b.toNat) }

/-- SUB: C = 1 on borrow. -/
def ckSub (s : State) (c : ClerkIx) (d : Fin 4) (o : CkOp) : State :=
  s.modCk c fun v =>
    let a := v.regs[d]
    let b := ckOperand v o true
    ckNext { ckPut v d (a - b) with c := decide (a.toNat < b.toNat) }

/-- AND. -/
def ckAnd (s : State) (c : ClerkIx) (d : Fin 4) (o : CkOp) : State :=
  s.modCk c fun v => ckNext (ckPut v d (v.regs[d] &&& ckOperand v o false))

/-- OR. -/
def ckOr (s : State) (c : ClerkIx) (d : Fin 4) (o : CkOp) : State :=
  s.modCk c fun v => ckNext (ckPut v d (v.regs[d] ||| ckOperand v o false))

/-- A shift by a signed amount with the last bit shifted out (R305, R306). -/
def ckShift (x : BitVec 32) (amt : Int) (arith : Bool) : BitVec 32 × Bool :=
  let n := amt.natAbs
  let fill := arith && x.getLsbD 31
  if amt == 0 then (x, false)
  else if 0 < amt then (x <<< n, n ≤ 32 && x.getLsbD (32 - n))
  else (if arith then x.sshiftRight n else x >>> n, if n ≤ 32 then x.getLsbD (n - 1) else fill)

/-- SH: the amount is the immediate, or bits 7:0 of the register as a signed byte (R306). -/
def ckSh (s : State) (c : ClerkIx) (a : Bool) (d : Fin 4) (o : CkOp) : State :=
  s.modCk c fun v =>
    let amt : Int := match o with
      | .imm w => w.toInt
      | .reg r => ((v.regs[r]).truncate 8 : BitVec 8).toInt
    let (x, out) := ckShift v.regs[d] amt a
    ckNext { ckPut v d x with c := out }

/-- CMP. -/
def ckCmp (s : State) (c : ClerkIx) (d : Fin 4) (o : CkOp) : State :=
  s.modCk c fun v =>
    let a := v.regs[d]
    let b := ckOperand v o true
    ckNext { v with z := a == b, n := decide (a.toInt < b.toInt), c := decide (a.toNat < b.toNat) }

/-- Does a branch condition hold (R307)? -/
def ckCond (v : ClerkSt) (k : Fin 8) : Bool :=
  match k.val with
  | 0 => true
  | 1 => v.z
  | 2 => !v.z
  | 3 => v.n
  | 4 => !v.n
  | 5 => v.c
  | 6 => !v.c
  | _ => v.z || v.n

/-- BR to a target of 0 to 239. -/
def ckBr (s : State) (c : ClerkIx) (k : Fin 8) (target : Nat) : State :=
  s.modCk c fun v => let w := ckNext v; if ckCond v k then { w with pc := target } else w

/-- WAIT (R308). -/
def ckWait (s : State) (c : ClerkIx) (o : CkOp) : State :=
  s.modCk c fun v =>
    let n := (ckOperand v o false).toNat % 65536
    { ckNext v with run := .wait, wait := max 1 n, ended := true }

/-- The register bit of a condition meets it, and the timer does (R309). -/
def ckMet (s : State) (c : ClerkIx) (k : WaitCond) : Bool × Bool :=
  let t := s.cp.clerks[c].timers[k.t] == 0
  (k.mode != 2 && (bit (clerkRead s k.page k.off) k.bit == k.p), k.mode != 0 && t)

/-- WAITC: the clerk goes on if the condition is met, else it waits for it and its tick ends (R309). The PC stays at the WAITC while
it waits. -/
def ckWaitc (s : State) (c : ClerkIx) (k : WaitCond) : State :=
  let (b, t) := ckMet s c k
  s.modCk c fun v =>
    if b || t then { ckNext v with run := .running, z := b }
    else { v with count := v.count + 1, run := .waitc, cond := k, ended := true }

/-- EVT: a record for the event queue (R315). -/
def ckEvt (s : State) (c : ClerkIx) (r : Fin 4) (l : Bool) (code : Word) : State :=
  s.modCk c fun v => ckNext { v with
    events := v.events ++ [{ clerk := c, ledger := l, code := code, data := (v.regs[r]).truncate 16 }] }

/-- TSTART (R310). -/
def ckTstart (s : State) (c : ClerkIx) (t : Fin 4) (unit : Fin 3) (o : CkOp) : State :=
  s.modCk c fun v =>
    let n := match o with
      | .imm w => w.toNat * 256 ^ unit.val
      | .reg r => (v.regs[r]).toNat
    ckNext { v with timers := upd v.timers t n }

/-- TCHK. -/
def ckTchk (s : State) (c : ClerkIx) (t : Fin 4) : State :=
  s.modCk c fun v => ckNext { v with z := v.timers[t] == 0, n := false }

/-- A pack-bus request of a clerk (R318). -/
def ckRequest (s : State) (c : ClerkIx) (r : PbReq) : State :=
  s.modCk c fun v =>
    if v.req then ckNext { v with z := false } else ckNext { v with req := true, reqNew := some r, z := true }

/-- PBR. -/
def ckPbr (s : State) (c : ClerkIx) (w : Bool) (a : BitVec 7) (cmd : Byte) : State :=
  ckRequest s c { who := some c, write := false, word := w, addr := a.toNat, cmd := cmd.toNat, data := 0 }

/-- PBW. -/
def ckPbw (s : State) (c : ClerkIx) (w : Bool) (r : Fin 4) (a : BitVec 7) (cmd : Byte) : State :=
  ckRequest s c { who := some c, write := true, word := w, addr := a.toNat, cmd := cmd.toNat
                  data := (s.cp.clerks[c].regs[r]).truncate 16 }

/-- HALT (R301). -/
def ckHalt (s : State) (c : ClerkIx) : State :=
  (s.modCk c fun v => { ckNext v with run := .halted, ended := true }).evt (0x81 + c.val) 3

/-- CK_FLT outlasts a rollback, so it is written into the checkpoint too (R402). -/
def ckFault (s : State) (c : ClerkIx) (cause : Nat) : State :=
  let pc := min 239 s.cp.clerks[c].pc
  let s := s.modCk c fun v => { v with fltCause := cause, fltPc := pc, ended := true }
  { s with ck := { s.ck with clerks := upd s.ck.clerks c { s.ck.clerks[c] with fltCause := cause, fltPc := pc } } }

/-- An illegal instruction (R323): 1 OPCODE, 2 RESERVED_BITS, 3 TARGET, 4 END. The clerk's unit of the tick is discarded. -/
def ckIllegal (s : State) (c : ClerkIx) (cause : Nat) : State :=
  let due := clerkDue s
  let s := (ckFault s c cause).modCk c fun v => { v with illegal := true }
  let mine (u : CommitUnit) : Bool := u.src == .clerk c && u.due == due
  let l := s.cp.clerkUnits.map fun u => if mine u then { u with reject := some 7 } else u
  let s := { s with cp := { s.cp with clerkUnits := l } }
  raise s (0x81 + c.val) 0

/-! ### Encoding (R304, R305) -/

/-- A decoded instruction. -/
inductive CkInstr where
  | nop
  | ld (sx : Bool) (d : Fin 4) (page : Byte) (x : Bool) (off : Byte)
  | ldi (d : Fin 4) (hi : Bool) (i : Word)
  | st (r : Fin 4) (page : Byte) (x : Bool) (off : Byte)
  | add (d : Fin 4) (o : CkOp)
  | sub (d : Fin 4) (o : CkOp)
  | and (d : Fin 4) (o : CkOp)
  | or (d : Fin 4) (o : CkOp)
  | sh (a : Bool) (d : Fin 4) (o : CkOp)
  | cmp (d : Fin 4) (o : CkOp)
  | br (k : Fin 8) (target : Nat)
  | wait (o : CkOp)
  | waitc (k : WaitCond)
  | evt (r : Fin 4) (l : Bool) (code : Word)
  | tstart (t : Fin 4) (unit : Fin 3) (o : CkOp)
  | tchk (t : Fin 4)
  | pbr (w : Bool) (a : BitVec 7) (cmd : Byte)
  | pbw (w : Bool) (r : Fin 4) (a : BitVec 7) (cmd : Byte)
  | halt
  | illegal (cause : Nat)
  deriving DecidableEq, Repr

/-- A field of an instruction word. -/
def ckField (w : BitVec 32) (hi lo : Nat) : Nat := (w.toNat >>> lo) % 2 ^ (hi - lo + 1)

/-- The operand form of a word; none where a reserved bit of it is not 0. -/
def ckForm (w : BitVec 32) : Option CkOp :=
  let r := ckField w 17 16
  let i : Word := w.truncate 16
  if w.getLsbD 23 then (if r == 0 then some (.imm i) else none)
  else if i == 0 then some (.reg ⟨r % 4, by omega⟩) else none

/-- The fields of a word that must be 0 are 0. -/
def ckZero (w : BitVec 32) (l : List (Nat × Nat)) : Bool := l.all fun p => ckField w p.1 p.2 == 0

/-- The instruction of a word (R305, R323). -/
def ckDecode (w : BitVec 32) : CkInstr :=
  let r : Fin 4 := ⟨ckField w 25 24 % 4, by omega⟩
  let b26 := w.getLsbD 26
  let b23 := w.getLsbD 23
  let x := w.getLsbD 15
  let page : Byte := BitVec.ofNat 8 (ckField w 23 16)
  let off : Byte := w.truncate 8
  let i : Word := w.truncate 16
  let a : BitVec 7 := BitVec.ofNat 7 (ckField w 22 16)
  let chk (l : List (Nat × Nat)) (k : CkInstr) : CkInstr := if ckZero w l then k else .illegal 2
  let form (l : List (Nat × Nat)) (k : CkOp → CkInstr) : CkInstr :=
    match ckForm w with
    | some o => chk l (k o)
    | none => .illegal 2
  match ckField w 31 27 with
  | 0x00 => chk [(26, 0)] .nop
  | 0x01 => chk [(14, 8)] (.ld b26 r page x off)
  | 0x02 => chk [(26, 26), (22, 16)] (.ldi r b23 i)
  | 0x03 => chk [(26, 26), (14, 8)] (.st r page x off)
  | 0x04 => form [(26, 26), (22, 18)] (.add r ·)
  | 0x05 => form [(26, 26), (22, 18)] (.sub r ·)
  | 0x06 => form [(26, 26), (22, 18)] (.and r ·)
  | 0x07 => form [(26, 26), (22, 18)] (.or r ·)
  | 0x08 => form [(22, 18)] (.sh b26 r ·)
  | 0x09 => form [(26, 26), (22, 18)] (.cmp r ·)
  | 0x0A =>
    let k : Fin 8 := ⟨ckField w 26 24 % 8, by omega⟩
    if !(ckZero w [(23, 16)]) then .illegal 2
    else if 240 ≤ i.toNat then .illegal 3
    else .br k i.toNat
  | 0x0B => form [(26, 24), (22, 18)] .wait
  | 0x0C =>
    let mode := ckField w 11 10
    let k : WaitCond := { p := b26, t := r, page := page.toNat, off := off.toNat, bit := ckField w 15 12, mode := mode }
    if mode == 3 then .illegal 2
    else if mode == 2 then chk [(26, 26), (23, 12), (9, 0)] (.waitc k)
    else chk [(9, 8)] (.waitc k)
  | 0x0D => chk [(26, 26), (22, 16)] (.evt r b23 i)
  | 0x0E =>
    let u := ckField w 19 18
    if h : u < 3 then
      (if !b23 && u != 0 then .illegal 2 else form [(26, 26), (22, 20)] (.tstart r ⟨u, h⟩ ·))
    else .illegal 2
  | 0x0F => chk [(26, 26), (23, 0)] (.tchk r)
  | 0x10 => chk [(25, 23), (15, 8)] (.pbr b26 a off)
  | 0x11 => chk [(23, 23), (15, 8)] (.pbw b26 r a off)
  | 0x12 => chk [(26, 0)] .halt
  | _ => .illegal 1

/-- Run a decoded instruction. -/
def ckRun (s : State) (c : ClerkIx) (i : CkInstr) : State :=
  match i with
  | .nop => ckNop s c
  | .ld sx d page x off => ckLd s c sx d page x off
  | .ldi d hi v => ckLdi s c d hi v
  | .st r page x off => ckSt s c r page x off
  | .add d o => ckAdd s c d o
  | .sub d o => ckSub s c d o
  | .and d o => ckAnd s c d o
  | .or d o => ckOr s c d o
  | .sh a d o => ckSh s c a d o
  | .cmp d o => ckCmp s c d o
  | .br k t => ckBr s c k t
  | .wait o => ckWait s c o
  | .waitc k => ckWaitc s c k
  | .evt r l code => ckEvt s c r l code
  | .tstart t u o => ckTstart s c t u o
  | .tchk t => ckTchk s c t
  | .pbr w a cmd => ckPbr s c w a cmd
  | .pbw w r a cmd => ckPbw s c w r a cmd
  | .halt => ckHalt s c
  | .illegal cause => ckIllegal s c cause

/-- The word of an instruction of the user list (R320). -/
def ckFetch (s : State) (c : ClerkIx) (i : Nat) : BitVec 32 :=
  let page := 0x90 + 2 * c.val + i / 120
  let off := 0x10 + 2 * (i % 120)
  (s.reg (addr page (off + 1)) : BitVec 16) ++ (s.reg (addr page off) : BitVec 16)

/-- One instruction of the user list; past instruction 239 it is illegal (R323). -/
def ckStep (s : State) (c : ClerkIx) : State :=
  let pc := s.cp.clerks[c].pc
  if 240 ≤ pc then ckIllegal s c 4 else ckRun s c (ckDecode (ckFetch s c pc))

/-- The re-test of a WAITC as the first instruction of a slot (R309). -/
def ckRetest (s : State) (c : ClerkIx) : State := ckWaitc s c s.cp.clerks[c].cond

/-- At most n more instructions of the slot (R302, R303). -/
def ckSlot : Nat → State → ClerkIx → State
  | 0, s, _ => s
  | n + 1, s, c =>
    let v := s.cp.clerks[c]
    if v.ended || 4 ≤ v.count then s
    else if clerkState s c == 1 then ckSlot n (ckStep s c) c
    else if clerkState s c == 3 && v.count == 0 then ckSlot n (ckRetest s c) c
    else s

/-! ### The instructions as commands -/

/-- NOP. -/
def execNop (c : ClerkIx) (s : State) : Host.Outcome State Fault Refusal := ckWhen s c (ckNop s c)
/-- LD. -/
def execLd (c : ClerkIx) (sx : Bool) (d : Fin 4) (page : Byte) (x : Bool) (off : Byte) (s : State) :
    Host.Outcome State Fault Refusal := ckWhen s c (ckLd s c sx d page x off)
/-- LDI. -/
def execLdi (c : ClerkIx) (d : Fin 4) (hi : Bool) (i : Word) (s : State) : Host.Outcome State Fault Refusal :=
  ckWhen s c (ckLdi s c d hi i)
/-- ST. -/
def execSt (c : ClerkIx) (r : Fin 4) (page : Byte) (x : Bool) (off : Byte) (s : State) : Host.Outcome State Fault Refusal :=
  ckWhen s c (ckSt s c r page x off)
/-- ADD. -/
def execAdd (c : ClerkIx) (d : Fin 4) (o : CkOp) (s : State) : Host.Outcome State Fault Refusal := ckWhen s c (ckAdd s c d o)
/-- SUB. -/
def execSub (c : ClerkIx) (d : Fin 4) (o : CkOp) (s : State) : Host.Outcome State Fault Refusal := ckWhen s c (ckSub s c d o)
/-- AND. -/
def execAnd (c : ClerkIx) (d : Fin 4) (o : CkOp) (s : State) : Host.Outcome State Fault Refusal := ckWhen s c (ckAnd s c d o)
/-- OR. -/
def execOr (c : ClerkIx) (d : Fin 4) (o : CkOp) (s : State) : Host.Outcome State Fault Refusal := ckWhen s c (ckOr s c d o)
/-- SH. -/
def execSh (c : ClerkIx) (a : Bool) (d : Fin 4) (o : CkOp) (s : State) : Host.Outcome State Fault Refusal :=
  ckWhen s c (ckSh s c a d o)
/-- CMP. -/
def execCmp (c : ClerkIx) (d : Fin 4) (o : CkOp) (s : State) : Host.Outcome State Fault Refusal := ckWhen s c (ckCmp s c d o)
/-- BR; a target of 240 or more is illegal (R323). -/
def execBr (c : ClerkIx) (k : Fin 8) (target : Nat) (s : State) : Host.Outcome State Fault Refusal :=
  ckWhen s c (if 240 ≤ target then ckIllegal s c 3 else ckBr s c k target)
/-- WAIT. -/
def execWait (c : ClerkIx) (o : CkOp) (s : State) : Host.Outcome State Fault Refusal := ckWhen s c (ckWait s c o)
/-- WAITC in mode 0 to 2. -/
def execWaitc (c : ClerkIx) (p : Bool) (t : Fin 4) (page : Byte) (b : Fin 16) (mode : Fin 3) (off : Byte) (s : State) :
    Host.Outcome State Fault Refusal :=
  ckWhen s c (ckWaitc s c { p := p, t := t, page := page.toNat, off := off.toNat, bit := b.val, mode := mode.val })
/-- WAITC_RETEST: a clerk in WAITC tests its condition as the first instruction of its slot (R309). -/
def execWaitcRetest (c : ClerkIx) (s : State) : Host.Outcome State Fault Refusal :=
  if ticking s && clerkState s c == 3 && !s.cp.clerks[c].ended && s.cp.clerks[c].count == 0 then .next (ckRetest s c) else .next s
/-- WAIT_END: the wait count has reached 0 (R301). -/
def execWaitEnd (c : ClerkIx) (s : State) : Host.Outcome State Fault Refusal :=
  if clerkState s c == 2 && s.cp.clerks[c].wait == 0 then .next (s.modCk c fun v => { v with run := .running }) else .next s
/-- EVT. -/
def execEvt (c : ClerkIx) (r : Fin 4) (l : Bool) (code : Word) (s : State) : Host.Outcome State Fault Refusal :=
  ckWhen s c (ckEvt s c r l code)
/-- TSTART; with a register operand the unit is 0 (R310). -/
def execTstart (c : ClerkIx) (t : Fin 4) (unit : Fin 3) (o : CkOp) (s : State) : Host.Outcome State Fault Refusal :=
  ckWhen s c (match o with
    | .reg _ => if unit == 0 then ckTstart s c t unit o else ckIllegal s c 2
    | .imm _ => ckTstart s c t unit o)
/-- TCHK. -/
def execTchk (c : ClerkIx) (t : Fin 4) (s : State) : Host.Outcome State Fault Refusal := ckWhen s c (ckTchk s c t)
/-- PBR. -/
def execPbr (c : ClerkIx) (w : Bool) (a : BitVec 7) (cmd : Byte) (s : State) : Host.Outcome State Fault Refusal :=
  ckWhen s c (ckPbr s c w a cmd)
/-- PBW. -/
def execPbw (c : ClerkIx) (w : Bool) (r : Fin 4) (a : BitVec 7) (cmd : Byte) (s : State) : Host.Outcome State Fault Refusal :=
  ckWhen s c (ckPbw s c w r a cmd)
/-- HALT. -/
def execHalt (c : ClerkIx) (s : State) : Host.Outcome State Fault Refusal := ckWhen s c (ckHalt s c)
/-- ILLEGAL_INSTRUCTION: a word that decodes to no instruction; execution past instruction 239 is cause 4 (R323). -/
def execIllegalInstruction (c : ClerkIx) (w : BitVec 32) (s : State) : Host.Outcome State Fault Refusal :=
  if !(ckReady s c) then .next s
  else if 240 ≤ s.cp.clerks[c].pc then .next (ckIllegal s c 4)
  else match ckDecode w with
    | .illegal cause => .next (ckIllegal s c cause)
    | _ => .next s

/-! ### Starting, stopping, pausing (R301, R321) -/

/-- RUN = 1 in force starts a clerk from STOPPED; RUN = 0 stops one that is not fenced. -/
def ckRunBit (s : State) (c : ClerkIx) : State :=
  let k := clerkState s c
  if CK_CTRL_RUN s c then (if k == 0 then ckStart s c else s)
  else if k != 0 && k != 6 then ckStop s c else s

/-- CLERK_RUN: RUN = 1 takes effect. -/
def execClerkRun (c : ClerkIx) (s : State) : Host.Outcome State Fault Refusal :=
  .next (ckRunBit (set_CK_CTRL_RUN s c true) c)
/-- CLERK_STOP: RUN = 0 takes effect. -/
def execClerkStop (c : ClerkIx) (s : State) : Host.Outcome State Fault Refusal :=
  .next (ckRunBit (set_CK_CTRL_RUN s c false) c)
/-- CLERK_LIST_SELECT: a write of LISTSEL takes effect, or is dropped with LOCKWR on a clerk that is not STOPPED (R321). -/
def execClerkListSelect (c : ClerkIx) (user : Bool) (s : State) : Host.Outcome State Fault Refusal :=
  if clerkStopped s c then .next (set_CK_CTRL_LISTSEL s c user)
  else if CK_CTRL_LISTSEL s c == user then .next s
  else .next (markDrop s (.lock c))

/-- A clerk at a cycle 0, after a rollback too (R325): RUN and the pause (R301); timers and wait count run if it is now in
RUNNING, WAIT or WAITC (R300); a wait that ends; a new slot. -/
def ckBoundary (s : State) (c : ClerkIx) : State :=
  let s := ckRunBit s c
  let s := s.modCk c fun v => { v with paused := !(ckPermitted s c) && (v.run = .running || v.run = .wait || v.run = .waitc) }
  let s := if clerkActive s c then s.modCk c fun v => { v with timers := v.timers.map (· - 1), wait := v.wait - 1 } else s
  s.modCk c fun v =>
    let run := if v.run = .wait && v.wait == 0 && !v.paused then .running else v.run
    { v with run := run, count := 0, ended := false }

/-! ### The event queue (R315-R317) -/

/-- A record enters at a boundary; a full queue drops it. -/
def eqPut (s : State) (r : EvtRec) : State :=
  let s := if r.ledger then ledgerPut s { kind := 5, sub := r.clerk.val, pay := [r.code, r.data], tick := s.x.tick.num } else s
  if 32 ≤ s.cp.eq.length then
    ({ s with cp := { s.cp with eqLost := satInc 255 s.cp.eqLost } }).evt 0x80 1
  else
    (({ s with cp := { s.cp with eq := s.cp.eq ++ [{ r with tick := s.tickW }] } }).evt 0x80 0).evt (0x81 + r.clerk.val) 0

/-- The records of the last tick enter, in clerk order and order of issue. -/
def eqEnter (s : State) : State :=
  let l := (List.finRange 8).flatMap fun (c : ClerkIx) => s.cp.clerks[c].events
  l.foldl eqPut (forAll (n := 8) s fun s c => s.modCk c fun v => { v with events := [] })

/-- POP takes effect. -/
def eqPop (s : State) : State := { s with cp := { s.cp with eq := s.cp.eq.drop 1 } }
/-- EVENT_POP. -/
def execEventPop (s : State) : Host.Outcome State Fault Refusal := .next (eqPop s)
/-- EQ_LOST_CLR. -/
def execEqLostClr (s : State) : Host.Outcome State Fault Refusal := .next { s with cp := { s.cp with eqLost := 0 } }

/-! ### Requests and results of the pack bus (R318, R319, R474, R475) -/

/-- A request reaches the queue at a cycle 0. -/
def pbEnter (s : State) (r : PbReq) : State :=
  let t := s.x.twp
  let since := if t.queue.isEmpty then s.x.tick.count else t.since
  let s := { s with x := { s.x with twp := { t with queue := t.queue ++ [r], since := since } } }
  match r.who with
  | some c => s.modCk c fun v => { v with pbBusy := true, pbDone := false, pbW := r.write }
  | none => { s with x := { s.x with twp := { s.x.twp with busy := true, done := false, w := r.write } } }

/-- The clerks' requests of the last tick enter, in clerk order, one of each clerk at a time (R474): a clerk that was started anew while its request
stands waits with the next one until that has ended (DEDUCED, log entry 119). -/
def pbRequests (s : State) : State :=
  forAll (n := 8) s fun s c =>
    match s.cp.clerks[c].reqNew with
    | some r =>
      if s.x.twp.queue.any (·.who == some c) then s
      else pbEnter (s.modCk c fun v => { v with reqNew := none }) r
    | none => s

/-- A result is published at a cycle 0 (R319, R475). -/
def pbResult (s : State) (x : PbReq × Nat × Word) : State :=
  let (r, cause, d) := x
  let read := !r.write && cause == 0
  let val : Word := if r.word then d else d &&& 0x00FF
  match r.who with
  | some c =>
    (s.modCk c fun v => { v with
      pbBusy := false, pbDone := true, pbErr := cause != 0, pbCause := cause, req := false
      pbRd := if read then val else v.pbRd }).evt (0x81 + c.val) 4
  | none =>
    let t := s.x.twp
    ({ s with x := { s.x with twp := { t with
      busy := false, done := true, err := cause != 0, cause := cause, rd := if read then val else t.rd } } }).evt 0xD2 0

/-- The results that wait are published. -/
def pbResults (s : State) : State :=
  let l := s.x.twp.results
  l.foldl pbResult { s with x := { s.x with twp := { s.x.twp with results := [] } } }

end Sys2Proof.Machine
end

