-- ==== Sys2Proof/Machine/Factory.lean ====
section
/-! DEFINITION. The factory lists, by the behaviour that their chapters state (R187-R194, R203, R219-R227, R234, R244, R252, R298,
R504), and CLERK_SLOT. The words of the ROM are not printed, so a list is one meaning per pass; in which slot a pass ends is
an operand (log entry 37). -/

namespace Sys2Proof.Machine

/-- Update what a factory list remembers. -/
def State.modFact (s : State) (c : ClerkIx) (f : FactSt → FactSt) : State := s.modCk c fun v => { v with fact := f v.fact }

/-- The published snapshot as a state: all a list reads (R311). -/
def seen (s : State) : State := asState s s.pub

/-- A word with one field changed. -/
def fieldPut (w : Word) (hi lo v : Nat) : Word := setBits w hi lo v

/-- A list writes a register unless it reads the value already. -/
def listPut (s : State) (c : ClerkIx) (page off : Nat) (w : Word) : State :=
  if clerkRead s page off == w then s else ckWrite s c page off w

/-! ### CK0, the source list (R187-R194, R203) -/

/-- Is a source good at this pass: in window and not switched off (R188)? -/
def srcGood (v : State) (i : Src) : Bool := inWindow v i && !v.x.src[i].ovOff

/-- The tick count of each source's first good pass. -/
def goodSince (v : State) (now : Nat) (old : Vector (Option Nat) 4) : Vector (Option Nat) 4 :=
  tab fun (i : Src) => if srcGood v i then some (old[i].getD now) else none

/-- Is a source qualified (R188)? -/
def srcQual (s : State) (v : State) (i : Src) : Bool :=
  SRCs_CFG_USE v i && srcGood v i && (match (s.cp.clerks[(0 : ClerkIx)]).fact.good[i] with
    | some k => k + SRC_QUAL_QUAL v * 256 ≤ s.x.tick.count
    | none => false)

/-- The target of a node (R189). -/
def srcTarget (s v : State) (k : Fin 2) : Option Src :=
  ((List.finRange 4).filter fun (i : Src) => srcNode v i == k && srcQual s v i).foldl (fun (a : Option Src) i => match a with
    | none => some i
    | some b => if SRCs_CFG_PRIO v i < SRCs_CFG_PRIO v b then some i else a) none

/-- What the source list decides for a node at a pass: the EN bits, the active source, the plan. -/
structure NodePass where
  en : Nat
  act : Option Src
  plan : Option SwPlan
  deriving DecidableEq, Repr

/-- An EN bit set or cleared. -/
def enBit (en : Nat) (i : Src) (b : Bool) : Nat := (setBit (word en) i.val b).toNat

/-- The node without an active source takes its target, if there is one (R190). -/
def nodeTake (r : NodePass) (t : Option Src) : NodePass :=
  match t with
  | some i => { en := enBit r.en i true, act := some i, plan := none }
  | none => { r with act := none, plan := none }

/-- A planned switch that is running (R191). It is given up when one of its sources is lost (log entry 38). While its first write is not in
force, undone by the host or rejected (R20, R194), the list writes it again and the time starts anew (DEDUCED, log entry 118). -/
def nodePlan (s v : State) (r : NodePass) (p : SwPlan) (t : Option Src) : NodePass :=
  let now := s.x.tick.count
  if p.mbb then
    if !(srcQual s v p.old) then nodeTake { r with en := enBit r.en p.old false } t
    else if !(srcQual s v p.new) then { r with en := enBit r.en p.new false, plan := none }
    else if !(nbit (SRC_CTRL_EN v) p.new) then { r with en := enBit r.en p.new true, plan := some { p with since := clerkDue s } }
    else if p.since + SRC_OVL_OVL v ≤ now then { en := enBit r.en p.old false, act := some p.new, plan := none }
    else r
  else if !(srcQual s v p.new) then nodeTake r t
  else if nbit (SRC_CTRL_EN v) p.old then { r with en := enBit r.en p.old false, plan := some { p with since := clerkDue s } }
  else if p.since + SRC_GAP_GAP v ≤ now then { en := enBit r.en p.new true, act := some p.new, plan := none }
  else r

/-- A node at a pass (R189-R192). A source whose EN the host has cleared is active no more (R194: the list may undo the change; DEDUCED,
log entry 118). -/
def nodePass (s v : State) (k : Fin 2) (r : NodePass) : NodePass :=
  let t := srcTarget s v k
  match r.plan with
  | some p => nodePlan s v r p t
  | none =>
    match r.act with
    | none => nodeTake r t
    | some x =>
      if !(srcQual s v x) then nodeTake { r with en := enBit r.en x false } t
      else if !(nbit (SRC_CTRL_EN v) x) then nodeTake r t
      else match t with
        | none => r
        | some t =>
          if !(SRC_PP_REVERT v) || SRCs_CFG_PRIO v x ≤ SRCs_CFG_PRIO v t then r
          else
            let near := (v.x.src[x].v : Int) - (v.x.src[t].v : Int)
            let since := clerkDue s
            if near.natAbs ≤ SRC_DV v && inWindow v x && inWindow v t then
              { r with en := enBit r.en t true, plan := some ⟨x, t, true, since⟩ }
            else if inWindow v x && !(SRC_RIDE_EN v && (List.finRange 8).any (rideEligible v)) then r
            else { en := enBit r.en x false, act := none, plan := some ⟨x, t, false, since⟩ }

/-- The limit of a source that becomes active is written for its node (R193). -/
def limitPut (s v : State) (c : ClerkIx) (old new : Option Src) (off : Nat) : State :=
  match new with
  | some i => if old != new && SRCs_ILIM v i != 0 then ckWrite s c 0x30 off (word (SRCs_ILIM v i)) else s
  | none => s

/-- With AUTORUN, an intake train starts at the first pass that finds its node LIVE (R203). -/
def startIntakes (s v : State) (c : ClerkIx) : State :=
  forAll (n := 8) s fun s t =>
    if trKind v t == 1 && v.x.nodes[trNode v t].state = .live && !((s.cp.clerks[c]).fact.started[t]) then
      listPut (s.modFact c fun f => { f with started := upd f.started t true }) c (0x08 + t.val) 0x11 (setBit (TR_CTRL_W v t) 0 true)
    else s

/-- The active source of a node that the list does not drive (R194): the one remembered, else the lowest-numbered of the node, that is
enabled and good; none where there is none (DEDUCED, log entry 38). -/
def nodeActive (v : State) (k : Fin 2) (old : Option Src) : Option Src :=
  let on (i : Src) : Bool := srcNode v i == k && nbit (SRC_CTRL_EN v) i && srcGood v i
  match old with
  | some i => if on i then some i else (List.finRange 4).find? on
  | none => (List.finRange 4).find? on

/-- What a pass writes: the enables, the limits, SRC_LIST_STAT and the starts; `x` and `y` are the nodes' states before, `a` and `b`
after. -/
def sourceWrites (s v : State) (c : ClerkIx) (x y a b : NodePass) : State :=
  let s := if b.en != SRC_CTRL_EN v then ckWrite s c 0x30 0x10 (fieldPut (SRC_CTRL_W v) 3 0 b.en) else s
  let s := if SRC_CTRL_AUTO v then limitPut (limitPut s v c x.act a.act 0x18) v c y.act b.act 0x19 else s
  let s := s.modFact c fun f => { f with act := upd (upd f.act 0 a.act) 1 b.act, plan := upd (upd f.plan 0 a.plan) 1 b.plan }
  let half (n : Option Src) (lo : Nat) : Word := match n with
    | some i => bitAt true (lo + 3) ||| at_ i.val lo
    | none => 0
  let s := ckWrite s c 0x30 0x1F (half b.act 12 ||| half a.act 8 ||| at_ ((SRC_LIST_STAT_PASS v + 1) % 256) 0)
  if !(SRC_CTRL_AUTO v) || !v.x.pwr.autorun then s else startIntakes s v c

/-- A pass of the source list. -/
def sourcePass (s : State) (c : ClerkIx) : State :=
  let v := seen s
  let now := s.x.tick.count
  let s := s.modFact c fun f => { f with good := goodSince v now f.good }
  let f := (s.cp.clerks[c]).fact
  let en := SRC_CTRL_EN v
  let auto := SRC_CTRL_AUTO v
  let r0 : NodePass := { en := en, act := f.act[(0 : Fin 2)], plan := f.plan[(0 : Fin 2)] }
  let a := if auto then nodePass s v 0 r0 else { r0 with act := nodeActive v 0 r0.act, plan := none }
  let r1 : NodePass := { en := a.en, act := f.act[(1 : Fin 2)], plan := f.plan[(1 : Fin 2)] }
  let b := if auto then nodePass s v 1 r1 else { r1 with act := nodeActive v 1 r1.act, plan := none }
  sourceWrites s v c r0 r1 a b

/-! ### CK1 to CK4, the charge lists (R219-R227, R234, R244, R245) -/

/-- The phase QUAL with the train stopped and the string released (R220, R221). -/
def chargeQual (s v : State) (c : ClerkIx) (p : BPort) (t : Option Train) : State :=
  let s := match t with
    | some t => listPut s c (0x08 + t.val) 0x11 (setBit (TR_CTRL_W v t) 0 false)
    | none => s
  let s := listPut s c (batPage p) 0x12 (setBit (setBit (BP_CTRL_W v p) 14 false) 13 false)
  listPut s c (batPage p) 0x13 1

/-- RUN and BATEN written to 0. -/
def chargeOff (s v : State) (c : ClerkIx) (p : BPort) (t : Option Train) : State :=
  let s := match t with
    | some t => listPut s c (0x08 + t.val) 0x11 (setBit (TR_CTRL_W v t) 0 false)
    | none => s
  listPut s c (batPage p) 0x12 (setBit (setBit (BP_CTRL_W v p) 14 false) 13 false)

/-- The set-up of CELLAR (R219): one leg in DUTY and diode emulation, the ICH loop open at LP_OPEN_OUT. -/
def cellarSetup (s v : State) (c : ClerkIx) (p : BPort) (t : Train) : State :=
  let l := ix16 (BP_LOOPS_ICH v p)
  let s := listPut s c (0x08 + t.val) 0x10 (setBit (setBit (setBit (TR_CFG_W v t) 13 true) 11 true) 10 true)
  let s := listPut s c (0x61 + l.val) 0x10 (setBit (setBit (LP_CFG_W v l) 14 false) 12 true)
  s.modFact c fun f => { f with cellar := true }

/-- At entry to CELLAR LP_OPEN_OUT is 0 (R222). -/
def cellarEntry (s v : State) (c : ClerkIx) (p : BPort) (t : Train) : State :=
  listPut (cellarSetup s v c p t) c (0x61 + (ix16 (BP_LOOPS_ICH v p)).val) 0x1E 0

/-- PEAK, without what CELLAR set (R219). -/
def peakSetup (s v : State) (c : ClerkIx) (t : Train) : State :=
  let cfg := TR_CFG_W v t
  let cfg := if (s.cp.clerks[c]).fact.cellar then setBit (setBit cfg 11 false) 10 false else cfg
  listPut s c (0x08 + t.val) 0x10 (setBit cfg 13 false)

/-- PEAK with the ICH loop closed, BUMPLESS (R219). -/
def closedSetup (s v : State) (c : ClerkIx) (p : BPort) (t : Train) : State :=
  let l := ix16 (BP_LOOPS_ICH v p)
  let s := listPut (peakSetup s v c t) c (0x61 + l.val) 0x10 (setBit (setBit (LP_CFG_W v l) 14 true) 13 true)
  s.modFact c fun f => { f with cellar := false }

/-- The train and the ICH loop as the phase of the pass has them, whoever wrote it (R219): CELLAR's set-up, with its entry where the
list did not make it; in PRE the loop closed; PEAK in PRE, CC and CV. What CELLAR set is undone in every other phase but SUSPEND and
DISCHARGE, from which the port goes back (DEDUCED, log entry 109). -/
def phaseSetup (s v : State) (c : ClerkIx) (p : BPort) (t : Train) (ph : Nat) : State :=
  let f := (s.cp.clerks[c]).fact
  match ph with
  | 2 => if f.entry then cellarEntry s v c p t else cellarSetup s v c p t
  | 3 => closedSetup s v c p t
  | 8 | 10 => s
  | _ => if f.cellar then closedSetup s v c p t else if ph == 4 || ph == 5 then peakSetup s v c t else s

/-- The list writes a phase, with its set-up where it enters or leaves CELLAR or starts the train. -/
def chargeTo (s v : State) (c : ClerkIx) (p : BPort) (t : Train) (old new : Nat) : State :=
  let s := if new == 2 then cellarEntry s v c p t
    else if (old == 1 || old == 2) && new != 8 && new != 10 then closedSetup s v c p t else s
  listPut (s.modFact c fun f => { f with wrote := some new }) c (batPage p) 0x13 (word new)

/-- Do the QUAL checks hold (R220)? -/
def qualOk (v : State) (p : BPort) (t : Option Train) : Bool :=
  let b := v.cp.bat[p]
  let bad (i : Slice) : Bool := v.isFenced (.conv ⟨i.val, by omega⟩)
  v.x.batHw[p].present && (b.ntcA.valid || b.ntcB.valid) && b.window != .cold && b.window != .hot &&
  decide ((GDp_VMIN_EN v p : Int) ≤ b.v) && decide (b.v ≤ (GDp_VMAX v p : Int)) && !b.trips.any && BP_CTRL_EN v p &&
  !(bad (vslOf v p)) && !(bad (islOf v p)) &&
  (match t with
    | some t => v.cp.trains[t].state = .off && !(bad (loSlice v t)) && !(bad (hiSlice v t))
    | none => false)

/-- QUAL (R220). -/
def chargeQualPass (s v : State) (c : ClerkIx) (p : BPort) (t : Option Train) : State :=
  let now := s.x.tick.count
  let l := ix16 (BP_LOOPS_ICH v p)
  let s := listPut s c (0x61 + l.val) 0x14 0
  if !(qualOk v p t) then
    let s := s.modFact c fun f => { f with since := none, conn := false }
    chargeOff s v c p t
  else
    let s := s.modFact c fun f => { f with since := some (f.since.getD now) }
    let f := (s.cp.clerks[c]).fact
    let dwell := match f.since with | some k => k + BP_QUAL v p * 256 ≤ now | none => false
    if !dwell then
      (if f.conn then s else listPut s c (batPage p) 0x12 (setBit (setBit (BP_CTRL_W v p) 14 false) 13 false))
    else if !f.conn then
      ckWrite (s.modFact c fun f => { f with conn := true }) c (batPage p) 0x12 (setBit (setBit (BP_CTRL_W v p) 14 true) 13 false)
    else if v.x.batEn[p] then
      match t with
      | some t =>
        let bv := v.cp.bat[p].v
        let new := if bv < (BP_VPRE v p : Int) then 2 else if bv < (BP_VCC v p : Int) then 3
          else if bv < (BP_VRECHG v p : Int) then 4 else 7
        let s := chargeTo s v c p t 1 new
        ckWrite (s.modFact c fun f => { f with since := none, conn := false }) c (0x08 + t.val) 0x11
          (setBit (setBit (TR_CTRL_W v t) 1 false) 0 true)
      | none => s
    else s

/-- Ticks of a number of seconds, times 3 (2.4 µs a tick). -/
def secs3 (n : Nat) : Nat := n * 1250000

/-- Does the CV loop win the train's selector, as CE_SELt.LOOP names the winner (R123, R220)? -/
def cvWins (v : State) (p : BPort) (t : Train) : Bool :=
  v.cp.ceSel[t].valid && v.cp.ceSel[t].loop.val == BP_LOOPS_CV v p

/-- The trigger of a phase that is tested at 4 passes, with the phase it leads to (R220). -/
def passTrigger (v : State) (p : BPort) (t : Train) (ph : Nat) (f : FactSt) : Option (Bool × Nat) :=
  let bv := v.cp.bat[p].v
  let rech := decide (bv < (BP_VRECHG v p : Int))
  match ph with
  | 2 => some (decide ((BP_VPRE v p : Int) ≤ bv), 3)
  | 3 => some (decide ((BP_VCC v p : Int) ≤ bv), 4)
  | 4 => some (cvWins v p t, 5)
  | 6 | 7 => some (rech, 4)
  | 10 => some (!v.cp.trains[t].dir, if (f.disch == 6 || f.disch == 7) && rech then 4 else f.disch)
  | _ => none

/-- The cellar rule (R222). -/
def cellarRule (s v : State) (c : ClerkIx) (p : BPort) : State :=
  let l := ix16 (BP_LOOPS_ICH v p)
  let i := v.cp.bat[p].i
  let step : Int := BP_CEL_STEP v p
  let o := LP_OPEN_OUT_I v l
  let lim : Int := BP_ICEL v p
  let o' := if i < lim then o + step else if lim + lim / 8 < i then o - step else o
  listPut s c (0x61 + l.val) 0x1E (wordI (clampI 0 (min 32767 (BP_CEL_DMAX v p)) o'))

/-- The count of termination in CV (R225). A pass counts the ticks since the last one; the first after the port's oscillator has stopped
counts none of them (R247). -/
def termCount (s v : State) (c : ClerkIx) (p : BPort) (t : Train) : State :=
  let o := v.cp.oscs[p]
  if cvWins v p t && !o.run && !o.stopping then
    let f := (s.cp.clerks[c]).fact
    let dt := if f.oscOn then 0 else s.x.tick.count - f.last
    s.modFact c fun f => { f with term := if v.cp.bat[p].i < (BP_ITERM v p : Int) then f.term + dt else 0 }
  else s

/-- The set-point of the ICH loop in a phase (R219, R245); none where the list leaves it. Of the three lists that BP_CFG.CHEM names only the
one for VRLA floats in MAINT (R227, R298). -/
def ichSp (v : State) (p : BPort) (ph : Nat) (probing : Bool) : Option Word :=
  let eff := wordI v.cp.bat[p].ichEff
  match ph with
  | 1 | 8 | 9 => some 0
  | 3 | 4 | 5 => some eff
  | 6 => some (if probing then wordI v.cp.bat[p].bias else 0)
  | 7 => some (if probing then wordI v.cp.bat[p].bias else if BP_CFG_CHEM v p == 2 && BP_VFLOAT v p != 0 then eff else 0)
  | _ => none

/-- The probe of a port (R244, R247, R248): step 1 waits for the start in a tick of its own, 2 for RUN at the next pass, 3 runs, 4
stops until RUN reads 0. From step 1 on the ICH set-point of DONE and MAINT is the bias (R245). -/
def probePass (s v : State) (c : ClerkIx) (p : BPort) (ph : Nat) : State :=
  let o := v.cp.oscs[p]
  let w := v.cp.bat[p].window
  let want := BP_CTRL_PROBE v p && probePhase ph && w != .cold && w != .hot
  let step (k : Nat) (s : State) : State := s.modFact c fun f => { f with probe := k }
  let cfg := 0x20 + 4 * p.val
  let stop (s : State) : State := listPut s c 0x60 cfg (setBit (CE_OSCn_CFG_W v p) 15 false)
  match (s.cp.clerks[c]).fact.probe with
  | 0 => if want && !o.run && !o.stopping then step 1 s else s
  | 1 => if want then s else step 0 s
  | 2 => if o.run then (if want then step 3 s else step 4 (stop s)) else step 0 (probeDiscard s p 5)
  | 3 => if !want || v.cp.bat[p].probe.ended then step 4 (stop s) else s
  | _ => if o.run then s else step 0 s

/-- The start of a probe, in a tick of its own (R244). -/
def probeStart (s : State) (c : ClerkIx) (p : BPort) : State :=
  let v := seen s
  let cfg := 0x20 + 4 * p.val
  let w := at_ 1 15 ||| at_ 1 14 ||| at_ (BP_LOOPS_ICH v p) 4 ||| at_ (BP_PROBE_FREQ v p) 0
  let s := ckWrite s c 0x60 cfg w
  (ckWrite s c 0x60 (cfg + 1) (wordI v.cp.bat[p].amp)).modFact c fun f => { f with probe := 2, startAt := clerkDue s }

/-- A phase newly seen restarts the counts. Where the list did not write it, the phase before SUSPEND or DISCHARGE is the one last seen
(R220). -/
def phaseSeen (s : State) (c : ClerkIx) (ph : Nat) : State :=
  let now := s.x.tick.count
  s.modFact c fun f =>
    if f.phase == ph then { f with entry := false }
    else { f with
      phase := ph, n := 0, term := 0, conn := false, since := if ph == 6 then some now else none
      entry := f.wrote != some ph, wrote := none
      susp := if ph == 8 && f.wrote != some 8 then f.phase else f.susp
      disch := if ph == 10 && f.wrote != some 10 then f.phase else f.disch }

/-- The rules of the running phase: the cellar's step (R222), the count toward the end of CV, and the triggers of R220. -/
def chargeRules (s v : State) (c : ClerkIx) (p : BPort) (t : Train) (ph : Nat) : State :=
  let now := s.x.tick.count
  let s := if ph == 2 && !(s.cp.clerks[c]).fact.entry then cellarRule s v c p else s
  let s := if ph == 5 then termCount s v c p t else s
  let f := (s.cp.clerks[c]).fact
  let rest := match f.since with | some k => secs3 (BP_TREST v p) ≤ 3 * (now - k) | none => false
  if ph == 5 && secs3 (BP_TTERM v p) ≤ 3 * f.term then chargeTo s v c p t 5 6
  else if ph == 6 && rest then chargeTo s v c p t 6 7
  else match passTrigger v p t ph f with
    | some (b, new) =>
      let n := if b then f.n + 1 else 0
      let s := s.modFact c fun f => { f with n := n }
      if 4 ≤ n then chargeTo s v c p t ph new else s
    | none => s

/-- In the phases from CELLAR to DISCHARGE the string is connected, and the train runs once BAT_EN is in force (R219), whoever wrote the
phase. -/
def chargeOn (s v : State) (c : ClerkIx) (p : BPort) (t : Train) : State :=
  let s := listPut s c (batPage p) 0x12 (setBit (setBit (BP_CTRL_W v p) 14 true) 13 false)
  if v.x.batEn[p] then listPut s c (0x08 + t.val) 0x11 (setBit (TR_CTRL_W v t) 0 true) else s

/-- The phases from CELLAR to DISCHARGE (R220, R221, R234). -/
def chargeRunPass (s v : State) (c : ClerkIx) (p : BPort) (t : Train) (ph : Nat) : State :=
  let st := v.cp.trains[t].state
  let w := v.cp.bat[p].window
  let cold := w = .cold || w = .hot
  if v.x.dev = .run && (st = .hold || st = .fenced) then chargeQual s v c p (some t)
  else if !(BP_CTRL_EN v p) then chargeQual s v c p (some t)
  else
  let s := chargeOn s v c p t
  if ph != 10 && v.cp.trains[t].dir then
    chargeTo (s.modFact c fun f => { f with disch := ph }) v c p t ph 10
  else if ph ≤ 7 && cold then chargeTo (s.modFact c fun f => { f with susp := ph }) v c p t ph 8
  else if ph == 8 && !cold then chargeTo s v c p t ph (s.cp.clerks[c]).fact.susp
  else chargeRules s v c p t ph

/-- A pass of the charge list of a port. -/
def chargePass (s : State) (c : ClerkIx) (p : BPort) : State :=
  let v := seen s
  let ph := BP_PHASE_PHASE v p
  let t := storeTrain v p
  let s := phaseSeen s c ph
  let s := probePass s v c p ph
  let s := match t with | some t => phaseSetup s v c p t ph | none => s
  let s := match ph, t with
    | 0, t => chargeOff s v c p t
    | 1, t => chargeQualPass s v c p t
    | 9, t => if [3, 6, 7, 8].contains v.cp.bat[p].cause then chargeOff s v c p t else s
    | _, some t => chargeRunPass s v c p t ph
    | _, none => chargeQual s v c p none
  let o := v.cp.oscs[p]
  let s := s.modFact c fun f => { f with oscOn := o.run || o.stopping }
  let probing := (s.cp.clerks[c]).fact.probe != 0
  let s := match ichSp v p ph probing with
    | some w => listPut s c (0x61 + (ix16 (BP_LOOPS_ICH v p)).val) 0x14 w
    | none => s
  let running := match t with | some t => TR_CTRL_RUN v t | none => false
  if running && ph != 0 && ph != 1 then
    listPut s c (0x61 + (ix16 (BP_LOOPS_CV v p)).val) 0x14 (wordI v.cp.bat[p].vcvEff) else s

/-! ### CK5, the ledger list (R252, R504) -/

/-- One record for the ledger, appended through the staged registers (R501). -/
def listAppend (s : State) (c : ClerkIx) (kind sub : Nat) (pay : List Nat) : State :=
  let s := ckWrite s c 0xC0 0x20 (at_ kind 12 ||| at_ sub 8)
  let s := (pay.mapIdx fun i w => (i, w)).foldl (fun s x => ckWrite s c 0xC0 (0x21 + x.1) (word x.2)) s
  ckWrite s c 0xC0 0x28 1

/-- A change of a wrapping 16-bit counter. -/
def wrapDiff (a b : Nat) : Nat := (a + 65536 - b) % 65536

/-- A pass of the ledger list: each window that ended with a valid result, the counters every 57.6 s, one record a pass, and the
flush of a frozen larder. -/
def ledgerPass (s : State) (c : ClerkIx) : State :=
  let v := seen s
  let now := s.x.tick.count
  let done := (List.finRange 4).filter fun (p : BPort) =>
    (s.cp.clerks[c]).fact.run[p] && !v.cp.bat[p].probe.run && v.cp.bat[p].probe.valid
  let s := s.modFact c fun f =>
    let due := f.appended + 24000000 ≤ now
    { f with
      imp := f.imp ++ done, run := tab fun (p : BPort) => v.cp.bat[p].probe.run
      ctr := if due then List.finRange 4 else f.ctr, appended := if due then now else f.appended }
  let l := v.x.larder
  let found := l.state = .frozen && !l.flushed
  let s := if found && !(s.cp.clerks[c]).fact.lar then ckWrite s c 0xC1 0x13 4 else s
  let s := s.modFact c fun f => { f with lar := found }
  let f := (s.cp.clerks[c]).fact
  match f.imp, f.ctr with
  | p :: t, _ =>
    let r := v.cp.bat[p].probe
    let s := listAppend s c 4 p.val [r.freq, r.mag, (wordI r.ph).toNat, (orInvalid (bpTemp v p)).toNat, (BP_PROBE_ZR v p).toNat]
    s.modFact c fun f => { f with imp := t }
  | [], p :: t =>
    let b := v.cp.bat[p]
    let new := (b.eIn % 65536, b.eOut % 65536, b.cycles % 65536)
    let old := f.old[p]
    let s := listAppend s c 2 p.val
      [wrapDiff new.1 old.1, 0, wrapDiff new.2.1 old.2.1, 0, wrapDiff new.2.2 old.2.2]
    s.modFact c fun f => { f with ctr := t, old := upd f.old p new }
  | [], [] => s

/-! ### CK6, housekeeping (R298) -/

/-- One slot of the housekeeping list: a trace every 3600 s in RUN, and the die temperature's events. -/
def housePass (s : State) (c : ClerkIx) : State :=
  let v := seen s
  let s := if v.x.dev = .run then s.modFact c fun f => { f with runTicks := f.runTicks + 1 } else s
  let s := if secs3 3600 ≤ 3 * (s.cp.clerks[c]).fact.runTicks then
      ckWrite (s.modFact c fun f => { f with runTicks := 0 }) c 0x40 0x19 1 else s
  let f := (s.cp.clerks[c]).fact
  let post (s : State) (code : Word) (t : Int) (hot : Bool) : State :=
    (s.modFact c fun f => { f with hot := hot }).modCk c fun v => { v with
      events := v.events ++ [{ clerk := c, ledger := false, code := code, data := wordI t }] }
  match v.x.ax.dieTemp with
  | some t =>
    if 1100 < t && !f.hot then post s 0x0601 t true
    else if t < 1050 && f.hot then post s 0x0602 t false
    else s
  | none => s

/-! ### The slot (R298, R302) -/

/-- Does the pass of a factory list end in this slot: as the operand says, between the first slot whose snapshot shows what the last pass
wrote (R15; the second, in a formed ring the third) and the limit of R187 and R219? After a start of a probe, not before the snapshot can
show it (R244). -/
def passEnds (s : State) (c : ClerkIx) (pass : Bool) (limit : Nat) : Bool :=
  let f := (s.cp.clerks[c]).fact
  let n := f.ticks + 1
  (pass && (if ringFormed s then 3 else 2) ≤ n && (f.probe != 2 || f.startAt < s.x.tick.count)) || limit ≤ n

/-- What the manual does not print of a clerk that runs its ROM: registers, flags, PC, timers (free values, log entry 37). -/
def romValues (s : State) (c : ClerkIx) : State :=
  let r (i : Nat) : Nat := (Config.freeWord (s.free + i)).toNat
  let s := s.modCk c fun v => { v with
    regs := tab fun (k : Fin 4) => BitVec.ofNat 32 (r (2 * k) + 65536 * r (2 * k + 1))
    timers := tab fun (k : Fin 4) => r (8 + 2 * k) + 65536 * r (9 + 2 * k)
    wait := r 16, pc := r 17 % 240, z := (r 18).testBit 0, n := (r 18).testBit 1, c := (r 18).testBit 2 }
  { s with free := s.free + 19 }

/-- A slot of a factory list. -/
def factorySlot (s : State) (c : ClerkIx) (pass : Bool) : State :=
  if clerkState s c != 1 then s
  else if c.val == 7 then ckHalt s c
  else
    let limit := if c.val == 0 then 16 else 64
    let ends := passEnds s c pass limit
    let port : BPort := ⟨(c.val + 3) % 4, by omega⟩
    let s := match c.val with
      | 0 => if ends then sourcePass s c else s
      | 5 => if ends then ledgerPass s c else s
      | 6 => housePass s c
      | _ =>
        if (s.cp.clerks[c]).fact.probe == 1 && !ends && (s.cp.clerks[c]).fact.ticks + 4 < limit then probeStart s c port
        else if ends then chargePass s c port else s
    let now := s.x.tick.count
    let s := s.modFact c fun f => if ends then { f with ticks := 0, last := now } else { f with ticks := f.ticks + 1 }
    (romValues s c).modCk c fun v => { v with ended := true }

/-- The clerk as its slot has it at a cycle: the instructions of a user list before it are done, three cycles each (R302). -/
def slotUpTo (s : State) (c : ClerkIx) (cyc : Nat) : State :=
  if CK_CTRL_LISTSEL s c then ckSlot (min 4 ((cyc - (800 + 12 * c.val)) / 3)) s c else s

/-- CLERK_SLOT of clerk c: its factory list, or at most four instructions of its user list (R302). `pass`: the pass of the factory
list ends in this slot. A parity error trips checker 3 at its instruction (R324), an overrun checker 6; both fence the clerk (R402). -/
def execClerkSlot (c : ClerkIx) (pass : Bool) (f : CheckFault) (s : State) : Host.Outcome State Fault Refusal :=
  if !(ticking s) || s.x.dev = .safe then .next s
  else match f with
    | .parity cyc | .ecc2 cyc | .selfCheck cyc =>
      .next (raise (trip (ckFault (slotUpTo s c cyc) c 5) 3 cyc [.clerk c]) (0x81 + c.val) 1)
    | .overrun cyc => .next (overrun s cyc [.clerk c])
    | _ => .next (if CK_CTRL_LISTSEL s c then ckSlot 4 s c else factorySlot s c pass)

end Sys2Proof.Machine
end

