-- ==== Sys2Proof/Machine/Ports.lean ====
section
/-! DEFINITION. The SPI port, the management target, alerts and the pack bus (R453-R484). -/

namespace Sys2Proof.Machine

/-! ### CRC-8 (R459, R467) -/

/-- One bit of CRC-8 with the polynomial x^8 + x^2 + x + 1. -/
def crc8Bit (c : Byte) : Byte := if c.getLsbD 7 then (c <<< 1) ^^^ 0x07 else c <<< 1
/-- One byte. -/
def crc8Byte (c b : Byte) : Byte := (List.range 8).foldl (fun c _ => crc8Bit c) (c ^^^ b)
/-- CRC-8 of bytes from an initial value. -/
def crc8 (init : Byte) (l : List Byte) : Byte := l.foldl crc8Byte init

/-! ### What a port's read does -/

/-- A word read by a port: TK_NUM_L and FAULT_WORD_L latch their high halves (R49, R381), STORE_DATA steps the address (R489); else
the selected view (R11, R455). -/
def hostRead (s : State) (p : Port) (staged : Bool) (page off : Nat) (e : StoreEcc) : State × Word :=
  if page == 0xC0 && off == 0x12 then
    let s := storeRead s e
    (s, s.x.store.out)
  else
    let s := if page == 0x01 && off == 0x10 then tickLatch s p
      else if page == 0xB8 && off == 0x10 then faultLatch s p else s
    (s, if staged then stagedRead s p page off else portRead s p page off)

/-- The offset of the k-th word of a burst (R457). -/
def burstOff (ai : Bool) (off k : Nat) : Nat := if ai then (off + k) % 256 else off

/-- n words of a burst, from its k0-th on, with what the storeroom meets at each. -/
def readWords (s : State) (p : Port) (staged ai : Bool) (page off k0 n : Nat) (e : List StoreEcc) : State × List Word :=
  (List.range n).foldl (fun (r : State × List Word) k =>
    let (s, w) := hostRead r.1 p staged page (burstOff ai off (k0 + k)) (e.getD k .good)
    (s, r.2 ++ [w])) (s, [])

/-- A write word of a burst: configuration of the ports is left to the end of the transaction (R34). -/
def burstWrite (s : State) (p : Port) (page off : Nat) (v : Word) (cyc : Nat) : State :=
  if portConfig page off then s else hostWrite s p page off v cyc

/-- The configuration writes of a burst, at its end. -/
def configWrites (s : State) (l : List (Nat × Nat × Word)) : State :=
  l.foldl (fun s w => if portConfig w.1 w.2.1 then portConfigWrite s w.1 w.2.1 w.2.2 else s) s

/-- What a checker reports of a port's logic: parity sets PARITY of its page, and the next fence decision fences the port (R483); an ECC
error of the staging trips checker 4 (R36, R402). -/
def portCheck (s : State) (u : FenceUnit) (b : Nat) (f : CheckFault) : State :=
  match f with
  | .parity _ => raise (s.modCol fun c => { c with inherent := c.inherent ++ [u] }) (unitPage u) b
  | .ecc2 cyc => trip s 4 cyc []
  | _ => s

/-! ### SPI (R453-R461) -/

/-- Update the SPI port. -/
def State.modSpi (s : State) (f : SpiSt → SpiSt) : State := { s with x := { s.x with spi := f s.x.spi } }

/-- The status word, from the published snapshot (R456). -/
def spiStatus (s : State) : Word :=
  let v := s.pub.x
  bitAt v.alert.irq 15 ||| bitAt v.alert.alert 14 ||| bitAt v.col.fltLow 13 ||| bitAt v.spi.prevCrc 12
    ||| bitAt v.spi.prevErr 11 ||| at_ v.dev.code 8 ||| at_ (v.tick.num % 256) 0

/-- The header CRC: over the command and address words (R459). -/
def spiHdrCrc (cmd ad : Word) : Byte := crc8 0xFF [hiByte cmd, loByte cmd, hiByte ad, loByte ad]
/-- The CRC of a data word: page, offset, high byte, low byte (R459). -/
def spiWordCrc (page off : Nat) (w : Word) : Byte := crc8 0xFF [BitVec.ofNat 8 page, BitVec.ofNat 8 off, hiByte w, loByte w]

/-- How a header is taken (R460): its CRC is wrong, or its reserved bits are not 0. -/
def spiHdrBad (s : State) (cmd ad : Word) (crc : Byte) : Bool × Bool :=
  (SPI_CFG_CRC s && crc != spiHdrCrc cmd ad, bits cmd 12 0 != 0)

/-- An ignored frame (R460). -/
def spiIgnore (s : State) (crcBad resBad : Bool) : State :=
  let s := s.modSpi fun v => { v with
    hdr := satInc 255 v.hdr, prevCrc := crcBad, prevErr := resBad, crcCnt := if crcBad then satInc 0xFFFF v.crcCnt else v.crcCnt }
  if crcBad then raise s 0xD0 0 else s

/-- MISO between the status word and the data (R456): the address word, the header CRC byte, the dummy word of a read. -/
def spiLead (s : State) (read : Bool) : List Byte :=
  [0, 0] ++ (if SPI_CFG_CRC s then [0] else []) ++ (if read && SPI_CFG_DUMMY s then [0, 0] else [])

/-- MISO of data words from the k-th of a frame on, each with its CRC byte; an ignored frame carries 0. -/
def spiOut (s : State) (fr : SpiFrame) (l : List Word) : List Byte :=
  let out := (l.mapIdx fun k w =>
    [hiByte w, loByte w] ++ (if SPI_CFG_CRC s then [spiWordCrc fr.page (burstOff fr.ai fr.off (fr.k + k)) w] else [])).flatten
  if fr.mode = .ignored then out.map fun _ => 0 else out

/-- A frame ends, inside a word or not (R460). -/
def spiEnd (s : State) (part crcBad : Bool) : State :=
  s.modSpi fun v => { v with prevCrc := crcBad, prevErr := part, part := if part then satInc 255 v.part else v.part }

/-- The header of a frame: the status word, and how its data words will be taken (R455, R456, R460, R461); RW gives the direction. -/
def spiHead (s : State) (cmd ad : Word) (crc : Byte) : State :=
  let read := bit cmd 15
  let fr (m : SpiMode) : SpiFrame :=
    { mode := m, read := read, page := bits ad 15 8, off := bits ad 7 0, ai := bit cmd 14, view := bit cmd 13 }
  let status := spiStatus s
  let take (s : State) (m : SpiMode) : State := s.modSpi fun v => { v with
    status := status, miso := spiLead s read, frame := some (fr m) }
  if s.x.dev = .boot then take s .zeros
  else
    let (crcBad, resBad) := spiHdrBad s cmd ad crc
    if crcBad || resBad then take (spiIgnore s crcBad resBad) .ignored else take s .live

/-- CS# rises: the end of R460, and the port configuration of the frame (R34). -/
def spiClose (s : State) (part : Bool) (fr : SpiFrame) : State :=
  let s := if fr.mode = .live then configWrites (spiEnd s part fr.bad) fr.cfg else s
  s.modSpi fun v => { v with frame := none }

/-- A frame whose CS# rises before the header is whole: no register is named, and a cut inside a word or the CRC byte counts (R460). -/
def spiShort (s : State) (part : Bool) : State :=
  let status := spiStatus s
  let s := s.modSpi fun v => { v with status := status, miso := [], frame := none }
  if s.x.dev = .boot then s else spiEnd s part false

/-- What a command carries of a frame: its header where the frame begins in it, then `data` on the frame, in the direction that its RW gives,
then its end. A port that is off or fenced takes nothing (R392, R461). -/
def spiFrame (read : Bool) (cmd ad : Word) (crc : Byte) (cut : SpiCut) (f : CheckFault)
    (data : State → SpiFrame → State × SpiFrame) (s : State) : State :=
  let s := touch s .spi
  if s.x.dev != .boot && !(portLive s .spi) then s.modSpi fun v => { v with frame := none }
  else
    let s := if s.x.dev = .boot then s else portCheck s .spi 1 f
    if cut.short then spiShort s cut.inWord
    else
      let s := if cut.piece.begins then spiHead s cmd ad crc else s
      match s.x.spi.frame with
      | none => s
      | some fr =>
        let r := if fr.read == read then data s fr else (s, fr)
        if cut.piece.ends then spiClose r.1 cut.inWord r.2 else r.1.modSpi fun v => { v with frame := some r.2 }

/-- n data words of a read frame, each from the snapshot in force (R10). -/
def spiReadData (n : Nat) (e : List StoreEcc) (s : State) (fr : SpiFrame) : State × SpiFrame :=
  let (s, l) := if fr.mode = .live then readWords s .spi fr.view fr.ai fr.page fr.off fr.k n e else (s, List.replicate n 0)
  (s.modSpi fun v => { v with miso := v.miso ++ spiOut s fr l }, { fr with k := fr.k + n })

/-- Data words of a write frame, each completed in the present tick (R12); a wrong data CRC discards it and every later word (R460). -/
def spiWriteData (l : List SpiWord) (s : State) (fr : SpiFrame) : State × SpiFrame :=
  if fr.mode != .live || fr.bad then (s, fr)
  else
    let put := l.mapIdx fun k (w : SpiWord) => (burstOff fr.ai fr.off (fr.k + k), w)
    let good := put.takeWhile fun x => !(SPI_CFG_CRC s) || x.2.crc == spiWordCrc fr.page x.1 x.2.data
    let bad := good.length < put.length
    let s := good.foldl (fun s x => burstWrite s .spi fr.page x.1 x.2.data x.2.cyc) s
    let s := if bad then raise (s.modSpi fun v => { v with crcCnt := satInc 0xFFFF v.crcCnt }) 0xD0 0 else s
    (s, { fr with k := fr.k + l.length, bad := bad, cfg := fr.cfg ++ good.map fun x => (fr.page, x.1, x.2.data) })

/-- SPI_READ: a read frame, or the part of one between two cuts at cycle 0: its header, where the frame begins in it, with its header CRC
byte; n data words whose first bit is driven in the present tick; `part`: CS# rises inside a further word. -/
def execSpiRead (cmd ad : Word) (crc : Byte) (n : Nat) (part : SpiCut) (e : List StoreEcc) (f : CheckFault) (s : State) :
    Host.Outcome State Fault Refusal := .next (spiFrame true cmd ad crc part f (spiReadData n e) s)

/-- SPI_WRITE: a write frame, or the part of one between two cuts, with the data words that complete in the present tick in order;
`part`: CS# rises inside a further word or CRC byte. -/
def execSpiWrite (cmd ad : Word) (crc : Byte) (l : List SpiWord) (part : SpiCut) (f : CheckFault) (s : State) :
    Host.Outcome State Fault Refusal := .next (spiFrame false cmd ad crc part f (spiWriteData l) s)

/-- SPI_CTRL.CNT_CLR takes effect. -/
def spiCntClr (s : State) : State := s.modSpi fun v => { v with hdr := 0, part := 0, crcCnt := 0 }
/-- SPI_CNT_CLR. -/
def execSpiCntClr (s : State) : Host.Outcome State Fault Refusal := .next (spiCntClr s)

/-! ### The management target (R463-R470) -/

/-- Update the management target. -/
def State.modTwm (s : State) (f : TwmSt → TwmSt) : State := { s with x := { s.x with twm := f s.x.twm } }

/-- The address byte of a transaction. -/
def twmAddrByte (s : State) (read : Bool) : Byte := BitVec.ofNat 8 (2 * twmAddr s + read.toNat)

/-- The pointer. -/
def TwmSt.ptr (v : TwmSt) : Nat × Nat × Nat := (v.cmd, v.page, v.off)
/-- The pointer takes a value. -/
def TwmSt.setPtr (v : TwmSt) (p : Nat × Nat × Nat) : TwmSt := { v with cmd := p.1, page := p.2.1, off := p.2.2 }

/-- A transaction is over: nothing of it continues. -/
def twmOver (s : State) : State := s.modTwm fun v => { v with sofar := [], before := none, reading := false }

/-- An abort (R468): the pointer as before the transaction, and one count. -/
def twmAbort (s : State) (f : TwmSt → TwmSt) : State :=
  twmOver (s.modTwm fun v => f (v.setPtr (v.before.getD v.ptr)))

/-- A wrong or missing PEC (R467). -/
def twmPecError (s : State) : State :=
  raise (twmAbort s fun v => { v with errPec := satInc 15 v.errPec, acked := false }) 0xD1 1

/-- An event that ends a transaction early (R468); none where it ends whole. -/
def twmEarly (s : State) (e : TwmEnd) : Option State :=
  match e with
  | .atAck => some (twmAbort s fun v => { v with errSr := satInc 15 v.errSr })
  | .inByte => some (twmAbort s fun v => { v with errBit := satInc 15 v.errBit })
  | .shortPointer => some (twmAbort s id)
  | _ => none

/-- A transaction, or a part of one: a port that is off NACKs its address, whose match is a wake source (R470, R521); a fenced one
ignores it (R392). `begins`: the address is sent in it. -/
def twmStart (begins : Bool) (s : State) (f : CheckFault) : State × Bool :=
  let s := touch (if begins then wakeBy s .twm else s) .twm
  if portLive s .twm then (portCheck (s.modTwm fun v => { v with acked := true }) .twm 0 f, true)
  else (s.modTwm fun v => { v with acked := false, sent := [], reading := false }, false)

/-- TWM_POINTER_WRITE: CMD, page, offset, and the PEC byte if one is sent; it ends with P, or with Sr before a read. -/
def execTwmPointerWrite (q : TwmPtr) (pec : Option Byte) (e : TwmEnd) (f : CheckFault) (s : State) :
    Host.Outcome State Fault Refusal :=
  match twmStart true s f with
  | (s, false) => .next s
  | (s, true) =>
    match twmEarly s e with
    | some t => .next t
    | none =>
      let l := [twmAddrByte s false, q.cmd, q.page, q.off]
      if TWM_CFG_PEC s && pec != some (crc8 0 l) then .next (twmPecError s)
      else
        let old := s.x.twm.ptr
        let s := s.modTwm fun v => v.setPtr (q.cmd.toNat, q.page.toNat, q.off.toNat)
        if e = .restart then .next (s.modTwm fun v => { v with sofar := l ++ pec.toList, before := some old })
        else .next (twmOver s)

/-- The words of a data write: low byte first, an odd final byte discarded (R465). -/
def wordsOf : List Byte → List Word
  | lo :: hi :: t => ofBytes hi lo :: wordsOf t
  | _ => []

/-- The pointer moves on by n words under AI (R464). -/
def twmStep (s : State) (n : Nat) : State :=
  s.modTwm fun v => { v with off := burstOff (nbit v.cmd 6) v.off n }

/-- TWM_DATA_WRITE: its words take effect at the STOP, at a cycle of the tick (R465). -/
def execTwmDataWrite (q : TwmPtr) (data : List Byte) (pec : Option Byte) (e : TwmEnd) (cyc : Nat) (f : CheckFault) (s : State) :
    Host.Outcome State Fault Refusal :=
  match twmStart true s f with
  | (s, false) => .next s
  | (s, true) =>
    match twmEarly s e with
    | some t => .next t
    | none =>
      if TWM_CFG_PEC s && pec != some (crc8 0 ([twmAddrByte s false, q.cmd, q.page, q.off] ++ data)) then .next (twmPecError s)
      else
        let s := twmOver (s.modTwm fun v => v.setPtr (q.cmd.toNat, q.page.toNat, q.off.toNat))
        if e = .restart then .next (s.modTwm fun v => { v with errBit := satInc 15 v.errBit })
        else
          let ai := q.cmd.getLsbD 6
          let put := (wordsOf data).mapIdx fun k w => (q.page.toNat, burstOff ai q.off.toNat k, w)
          let s := put.foldl (fun s x => burstWrite s .twm x.1 x.2.1 x.2.2 cyc) s
          .next (configWrites (twmStep s put.length) put)

/-- The read count N of the CMD byte (R464). -/
def twmCount (s : State) : Nat := let k := s.x.twm.cmd % 64; if k == 0 then 64 else k

/-- The words a read of n bytes has begun: with PEC at most N (R464, R466). -/
def twmReadWords (s : State) (n : Nat) : Nat := if TWM_CFG_PEC s then min (twmCount s) ((n + 1) / 2) else (n + 1) / 2

/-- The high byte of a word whose low byte is sent, from the snapshot in force now (R10); reading has had its effects. -/
def twmHigh (s : State) (staged : Bool) (page off : Nat) : Byte :=
  hiByte (if page == 0xC0 && off == 0x12 then s.x.store.out
    else if staged then stagedRead s .twm page off else portRead s .twm page off)

/-- The next byte of a read: of a word from the pointer on, low byte first; with PEC, after N words the PEC and then 0xFF (R464, R466,
R467). -/
def twmSend (s : State) (e : StoreEcc) : State :=
  let v := s.x.twm
  let j := v.sent.length
  let put (s : State) (b : Byte) : State := s.modTwm fun v => { v with sent := v.sent ++ [b] }
  let off := burstOff (nbit v.cmd 6) v.off (j / 2)
  if TWM_CFG_PEC s && 2 * twmCount s ≤ j then
    put s (if j == 2 * twmCount s then crc8 0 (v.sofar ++ [twmAddrByte s true] ++ v.sent) else 0xFF)
  else if j % 2 == 0 then
    let (s, w) := hostRead s .twm (nbit v.cmd 7) v.page off e
    put s (loByte w)
  else put s (twmHigh s (nbit v.cmd 7) v.page off)

/-- The bytes whose first bit is driven in the present tick; the k-th word begun in it meets the k-th result of the storeroom. -/
def twmSendAll (s : State) (n : Nat) (ecc : List StoreEcc) : State :=
  let j := s.x.twm.sent.length
  (List.range n).foldl (fun s i => twmSend s (ecc.getD ((j + i) / 2 - (j + 1) / 2) .good)) s

/-- TWM_READ: a read, or the part of one between two cuts at cycle 0: the host takes n bytes at the pointer (R464, R466, R467), each
from the snapshot in force at its first bit (R10); then its end, an abort among them, which leaves the pointer (R468). -/
def execTwmRead (n : Nat) (e : TwmCut) (ecc : List StoreEcc) (f : CheckFault) (s : State) :
    Host.Outcome State Fault Refusal :=
  match twmStart e.piece.begins s f with
  | (s, false) => .next s
  | (s, true) =>
    let s := if e.piece.begins then s.modTwm fun v => { v with sent := [], reading := true } else s
    if !s.x.twm.reading then .next s
    else
      let s := twmSendAll s n ecc
      if !e.piece.ends then .next s
      else .next ((twmEarly s e.stop).getD (twmOver (twmStep s (twmReadWords s s.x.twm.sent.length))))

/-- TWM_SCL_TIMEOUT: SCL low for more than 25 ms (R468). -/
def execTwmSclTimeout (s : State) : Host.Outcome State Fault Refusal :=
  if portLive s .twm && TWM_CFG_TMO s then
    .next (raise (twmAbort s fun v => { v with errTmo := satInc 15 v.errTmo }) 0xD1 2)
  else .next s

/-- TWM_CTRL.CNT_CLR takes effect. -/
def twmCntClr (s : State) : State := s.modTwm fun v => { v with errSr := 0, errBit := 0, errPec := 0, errTmo := 0 }
/-- TWM_CNT_CLR. -/
def execTwmCntClr (s : State) : Host.Outcome State Fault Refusal := .next (twmCntClr s)

/-! ### IRQ# and ALERT# (R462, R471, R472) -/

/-- IRQ# asserted: an enabled event on a page, or a fault bit with FLT_IRQEN (R383, R462). -/
def irqWanted (s : State) : Bool :=
  (List.range 256).any (pageEvent s) ||
  (List.range 32).any fun b => s.x.col.word.getLsbD b && enabled (FLT_IRQEN_L_W s) (FLT_IRQEN_H_W s) b

/-- The head of the cause list: it moves only when a FAULT_WORD bit clears or a member's top alert changes (R473), and when it leaves the list
(DEDUCED, log entry 119: a list has no head outside it). -/
def alertHead (s : State) (a : AlertSt) (l : List (Nat × Nat × Nat)) : Option (Nat × Nat) :=
  let own := s.x.ring.pos
  let others (x : List (Nat × Nat × Nat)) := x.filter (·.2.2 != own)
  let kept := a.list.all (fun c => c.2.2 != own || s.x.col.word.getLsbD c.2.1) && others a.list == others l
  if kept && l.any (a.head == some ·.2) then a.head else l.head?.map (·.2)

/-- The pins at a cycle 0, from the snapshot just published; the members' alerts from the slots in use, which a rollback leaves
(R449, R450). After a winning response ALERT# waits for a cause that was not in
the list then (R472); a member in a formed ring never drives it (R449). -/
def pinsBoundary (s : State) : State :=
  let v := asState s s.pub
  let v := v.modRing fun r => { r with inUse := s.x.ring.inUse }
  let l := causeList v
  let a := s.x.alert
  let new := match a.answered with
    | some old => l.any fun c => !(old.any (·.2 == c.2))
    | none => !l.isEmpty
  let mute := v.x.ring.state = .member || v.x.ring.state = .holdover
  let a' : AlertSt := { list := l, head := alertHead v a l, alert := new && !mute, irq := irqWanted v, answered := if new || l.isEmpty then none else a.answered }
  { s with x := { s.x with alert := a' }, pub := { s.pub with x := { s.pub.x with alert := a' } } }

/-- ALERT_RESPONSE: a read of the alert response address. `lost`: another device of a lower address answered too (R472). -/
def execAlertResponse (lost : Bool) (s : State) : Host.Outcome State Fault Refusal :=
  if s.x.alert.alert && portLive s .twm then
    let s := s.modTwm fun v => { v with sent := [twmAddrByte s false] }
    if lost then .next s
    else .next { s with x := { s.x with alert := { s.x.alert with alert := false, answered := some s.x.alert.list } } }
  else .next s

/-! ### The pack bus (R474-R482) -/

/-- Update the pack bus. -/
def State.modTwp (s : State) (f : TwpSt → TwpSt) : State := { s with x := { s.x with twp := f s.x.twp } }

/-- Does the TWP drive its bus (R474)? -/
def twpOn (s : State) : Bool := TWP_CFG_EN s && working s && !s.isFenced .twp

/-- Requests that end when they are served: FENCED, or SELF at once (R477, R481). -/
def pbServe : Nat → State → State
  | 0, s => s
  | n + 1, s =>
    if s.x.twp.onBus then s
    else match s.x.twp.queue with
      | [] => s
      | r :: _ =>
        if s.isFenced .twp || !(TWP_CFG_EN s) then pbServe n (pbFinish s 7 0)
        else if TWP_CFG_TEN s && r.addr == TWP_TADDR_ADDR s then pbServe n (pbFinish s 8 0)
        else s

/-- GO takes effect (R475). -/
def pbGo (s : State) : State :=
  if s.x.twp.busy then s
  else pbEnter s { who := none, write := PB_ADDR_W s, word := PB_ADDR_WORD s, addr := PB_ADDR_ADDR s, cmd := PB_CMD_CMD s, data := PB_WDATA_W s }

/-- PACK_BUS_GO. -/
def execPackBusGo (s : State) : Host.Outcome State Fault Refusal := .next (pbServe 9 (pbGo s))

/-- A transaction that a TWP off now had on the bus is over (R474): with EN = 0 its request ends with FENCED (R481); in SAFE and SLEEP it waits to
start again (DESIGN CHOICE, log entry 119: no rule says what becomes of it). -/
def twpCut (s : State) : State :=
  if !s.x.twp.onBus || twpOn s then s
  else if !(TWP_CFG_EN s) then pbFinish s 7 0
  else s.modTwp fun v => { v with onBus := false, since := s.x.tick.count }

/-- The bytes that the controller sends of a transaction (R476): a write's with its PEC, a read's up to addr+R. -/
def pbBytes (s : State) (r : PbReq) : List Byte :=
  let ad (k : Nat) : Byte := BitVec.ofNat 8 (2 * r.addr + k)
  let cmd : Byte := BitVec.ofNat 8 r.cmd
  if r.write then
    let l := [ad 0, cmd, loByte r.data] ++ (if r.word then [hiByte r.data] else [])
    if TWP_CFG_PEC s then l ++ [crc8 0 l] else l
  else [ad 0, cmd, ad 1]

/-- TWP_TRANSACTION_START: the head request starts on a free bus (R476, R477). -/
def execTwpTransactionStart (f : CheckFault) (s : State) : Host.Outcome State Fault Refusal :=
  let s := if hostLive s then portCheck s .twp 0 f else s
  let s := pbServe 9 (twpCut s)
  match s.x.twp.queue with
  | r :: _ => .next (if twpOn s then s.modTwp fun v => { v with onBus := true, wire := pbBytes s r } else s)
  | [] => .next s

/-- The transaction is to start again, or the request ends with a cause (R479). -/
def pbRetry (s : State) (cause : Nat) : State :=
  if s.x.twp.tries < PB_RETRY_RETRY s then
    s.modTwp fun v => { v with onBus := false, tries := v.tries + 1, since := s.x.tick.count }
  else pbFinish s cause 0

/-- A read whose bytes are all there ends with its value, low byte first, or by its PEC over every byte of the transaction with PEC (R467,
R476, R481). A byte that the target does not send reads as ones, since nothing drives the bus low (DEDUCED, log entry 119). -/
def pbReadEnd (s : State) (r : PbReq) (rx : List Byte) : State :=
  let byte (k : Nat) : Byte := rx.getD k 0xFF
  let l := (List.range (if r.word then 2 else 1)).map byte
  let good := !(TWP_CFG_PEC s) || byte l.length == crc8 0 (s.x.twp.wire ++ l)
  if good then pbFinish s 0 (ofBytes (l.getD 1 0) (byte 0)) else pbFinish s 5 0

/-- PACK_BUS_DONE: the transaction on the bus ends as the wire says (R476, R479, R481); the result is published at the next
cycle 0 (R319). -/
def execPackBusDone (w : PbWire) (s : State) : Host.Outcome State Fault Refusal :=
  let s := twpCut s
  match s.x.twp.onBus, s.x.twp.queue with
  | true, r :: _ => (match w with
    | .whole rx => .next (if r.write then pbFinish s 0 0 else pbReadEnd s r rx)
    | .nackAddr => .next (if TWP_CFG_NACKRT s then pbRetry s 1 else pbFinish s 1 0)
    | .nackData => .next (pbFinish s 2 0))
  | _, _ => .next s

/-- TWP_ARB_LOSS in a byte and bit of the transaction (R478). -/
def execTwpArbLoss (byte : Nat) (b : Fin 8) (s : State) : Host.Outcome State Fault Refusal :=
  let s := twpCut s
  if !(s.x.twp.onBus) then .next s
  else
    let s := if byte == 0 then s.modTwp fun v => { v with early := satInc 255 v.early }
      else (s.modTwp fun v => { v with late := satInc 255 v.late, arbByte := byte, arbBit := b.val }).orReg a_TWP_ERR (oneHot 15)
    .next (pbRetry s 3)

/-- TWP_SCL_TIMEOUT (R480). -/
def execTwpSclTimeout (s : State) : Host.Outcome State Fault Refusal :=
  if !(twpOn s) then .next s
  else
    let s := if s.x.twp.onBus then pbFinish s 4 0 else s
    .next (raise s 0xD2 1)

/-- TWP_BUS_BUSY_TIMEOUT: 41,667 ticks without a free bus (R477). -/
def execTwpBusBusyTimeout (s : State) : Host.Outcome State Fault Refusal :=
  let v := s.x.twp
  if !v.onBus && !v.queue.isEmpty && v.since + 41667 ≤ s.x.tick.count then .next (pbFinish s 6 0) else .next s

/-- Does the peer target answer (R482)? -/
def peerOn (s : State) : Bool := twpOn s && TWP_CFG_TEN s

/-- TWP_PEER_WRITE: an index byte and data bytes, low byte first; they take effect at the STOP. -/
def execTwpPeerWrite (ix : Byte) (data : List Byte) (stop : Bool) (s : State) : Host.Outcome State Fault Refusal :=
  if !(peerOn s) then .next s
  else if !(16 ≤ ix.toNat && ix.toNat ≤ 23) then
    .next (s.modTwp fun v => { v with acked := ix.toNat ≤ 23 && data.isEmpty })
  else
    let s := s.modTwp fun v => { v with acked := true }
    let l := (wordsOf data).mapIdx fun k w => (ix8 (ix.toNat - 16 + k), w)
    if !stop || l.isEmpty then .next s
    else .next ((s.modTwp fun v => { v with tin := l.foldl (fun t x => upd t x.1 x.2) v.tin }).evt 0xD2 1)

/-- The next byte that a peer reads at an index, low byte first: of TWP_TOUT of the published snapshot (R10, R482); the indices that
peers only write give free values. -/
def peerSend (s : State) (ix : Nat) : State :=
  let j := s.x.twp.sent.length
  let put (s : State) (b : Byte) : State := s.modTwp fun v => { v with sent := v.sent ++ [b] }
  if 16 ≤ ix then { put s (loByte (Config.freeWord s.free)) with free := s.free + 1 }
  else
    let w := TWP_TOUTi_W (asState s s.pub) ((ix + j / 2) % 16)
    put s (if j % 2 == 0 then loByte w else hiByte w)

/-- TWP_PEER_READ: a peer's read at an index, or the part of one between two cuts at cycle 0, of n bytes; the index byte comes with its
beginning. An index above 23 is not acknowledged (R482). -/
def execTwpPeerRead (ix : Byte) (n : PeerBytes) (s : State) : Host.Outcome State Fault Refusal :=
  if !(peerOn s) then .next s
  else
    let s := if !n.piece.begins then s
      else s.modTwp fun v => { v with
        acked := ix.toNat < 24, sent := [], peerIx := if ix.toNat < 24 then some ix.toNat else none }
    match s.x.twp.peerIx with
    | none => .next s
    | some i =>
      let s := (List.range n.n).foldl (fun s _ => peerSend s i) s
      .next (if n.piece.ends then s.modTwp fun v => { v with peerIx := none } else s)

end Sys2Proof.Machine
end

