-- ==== Sys2Proof/Machine/Power.lean ====
section
/-! DEFINITION. Supplies, the commands of DEV_CTRL, clocks, sleep and wake (R508-R511, R514-R524). -/

namespace Sys2Proof.Machine

/-! ### DEV_CTRL (R515) -/

/-- A command is refused with a cause. -/
def devRefuse (s : State) (cause : Nat) : State := s.modPwr fun p => { p with refused := true, refCause := cause }
/-- A command is accepted. -/
def devAccept (s : State) : State := s.modPwr fun p => { p with refused := false, refCause := 0 }

/-- RUN (R515). -/
def devRun (s : State) : State :=
  if s.x.dev ≠ .hold then devRefuse s 1
  else if !(s.x.pwr.conf) then devRefuse s 2
  else if graveLine s || s.x.col.word.getLsbD 30 then devRefuse s 3
  else enterRun ((devAccept s).modPwr fun p => { p with autoPend := false })

/-- HOLD (R515). -/
def devHold (s : State) : State :=
  if s.x.dev ≠ .run then devRefuse s 1 else enterHold (devAccept s) false

/-- SLEEP starts the entry: DEV_STAT.SLEEPING reads 1 (R515, R519). -/
def devSleep (s : State) : State :=
  let busy := (List.finRange 8).any fun (t : Train) => s.cp.trains[t].state != .off && s.cp.trains[t].state != .fenced
  let ring := match s.x.ring.state with | .off | .search | .dropped => true | _ => false
  if !(working s) then devRefuse s 1
  else if busy then devRefuse s 4
  else if !ring then devRefuse s 5
  else (devAccept s).modPwr fun p => { p with sleeping := true, sleepFrom := s.x.dev }

/-- RESET, with the key in force at its boundary (R515, R516). -/
def devReset (s : State) (key : Word) : State :=
  if key == 0xB0B7 then deviceReset s 4 else devRefuse s 6

/-- DEVICE_RUN. -/
def execDeviceRun (s : State) : Host.Outcome State Fault Refusal := .next (if hostLive s then startTrains s (devRun s) else s)
/-- DEVICE_HOLD. -/
def execDeviceHold (s : State) : Host.Outcome State Fault Refusal := .next (if hostLive s then devHold s else s)
/-- DEVICE_SLEEP. -/
def execDeviceSleep (s : State) : Host.Outcome State Fault Refusal := .next (if hostLive s then devSleep s else s)

/-- AUTORUN_ENTRY at tick 834 or, with WAIT, when the ring is reached or 41,667 ticks have passed (R447, R514). -/
def execAutorunEntry (s : State) : Host.Outcome State Fault Refusal :=
  let age := s.x.tick.count - s.x.pwr.holdAt
  let ring := s.x.ring.state = .member || s.x.ring.state = .master
  if !(s.x.pwr.autoPend && s.x.dev = .hold && 834 ≤ age) then .next s
  else if RG_CFG_WAIT s && !ring && age < 41667 then .next s
  else
    let s := s.modPwr fun p => { p with autoPend := false }
    .next (if graveLine s then devRefuse s 3 else startTrains s (enterRun s))

/-! ### Supplies and clocks (R508-R510, R516-R518) -/

/-- Is the device powered? -/
def powered (s : State) : Bool := s.x.dev != .off

/-- The rails fall: what is not in the storeroom is gone, and with VBIAS the always-on registers too (R399). -/
def powerLost (s : State) : State :=
  let s := cutCheck (cutOff s)
  let r := State.reset
  let off : State := { r with
    pending := s.pending, free := s.free
    x := { r.x with dev := .off, store := { r.x.store with mem := s.x.store.mem }
                    pwr := { r.x.pwr with vstart := false, vbias := s.x.pwr.vbias, supply := s.x.pwr.supply } } }
  if s.x.pwr.supply then keepSticky s off else off

/-- POWER_UP: VSTART rises above 8.5 V (R509, R511); the straps as BOOT samples them (R512). -/
def execPowerUp (p : Straps) (s : State) : Host.Outcome State Fault Refusal :=
  let s := s.modPwr fun v => { v with vstart := true }
  .next (if powered s then s else deviceReset (strapsAt p s) 1)

/-- POWER_DOWN: VSTART falls below 8.0 V and the start regulator turns off (R509). VBIAS carries the device until its brown-out, but not in
SLEEP, where the rails hang on the start regulator (R519). -/
def execPowerDown (s : State) : Host.Outcome State Fault Refusal :=
  let s := s.modPwr fun v => { v with vstart := false }
  .next (if !(powered s) || (s.x.pwr.supply && s.x.dev ≠ .sleep) then s else powerLost s)

/-- VBIAS_GOOD: the core buck starts (R509, R512, R522). -/
def execVbiasGood (s : State) : Host.Outcome State Fault Refusal :=
  .next (s.modPwr fun v => { v with vbias := true, supply := true, core := v.core || s.x.dev != .off, io := v.io || s.x.dev != .off })

/-- DEVICE_RESET, with the value of DEV_RSTKEY at the boundary (R515, R516). -/
def execDeviceReset (key : Word) (s : State) : Host.Outcome State Fault Refusal :=
  .next (if hostLive s then devReset s key else s)

/-- RESET_PIN (R511, R516). -/
def execResetPin (s : State) : Host.Outcome State Fault Refusal :=
  .next (if powered s then deviceReset s 2 else s)

/-- The loss of VSTART and VBIAS, which clears the always-on registers (R391, R399). -/
def suppliesLost (s : State) : State :=
  keepSticky State.reset (s.modPwr fun v => { v with vstart := false, vbias := false, supply := false })

/-- BROWN_OUT of the core rail, or of VBIAS with VSTART (R510): a reset at once, from the start as the rails fell (R516). -/
def execBrownOut (core : Bool) (s : State) : Host.Outcome State Fault Refusal :=
  let s := if core then s else suppliesLost s
  .next (if powered s then (deviceReset s 8).modPwr fun v => { v with core := false, io := core } else s)

/-- SUPPLY_MONITOR_TRIP of a cause of R510, bits 2 to 6: VBIAS_UV, VBIAS_OV, CORE, IO, VSTART_OV. A rail that trips low no longer
reads good in PWR_STAT (DEDUCED, log entry 50). -/
def execSupplyMonitorTrip (i : Fin 5) (s : State) : Host.Outcome State Fault Refusal :=
  if !(powered s) then .next s
  else
    let s := match i with
      | 0 => s.modPwr fun v => { v with vbias := false }
      | 2 => s.modPwr fun v => { v with core := false }
      | 3 => s.modPwr fun v => { v with io := false }
      | _ => s
    .next (raise s 0xE0 (2 + i.val))

/-- CLOCK_MONITOR_TRIP: the PLL unlocks, or the reference fails, which a ring member in holdover does not report (R518). -/
def execClockMonitorTrip (pll : Bool) (s : State) : Host.Outcome State Fault Refusal :=
  if !(powered s) then .next s
  else if pll then .next (raise (s.modPwr fun v => { v with pll := false }) 0xE0 1)
  else if s.x.ring.state = .holdover then .next s
  else .next (raise s 0xE0 0)

/-- SLOW_CLOCK_FAIL: the RC oscillator takes over (R518). -/
def execSlowClockFail (s : State) : Host.Outcome State Fault Refusal :=
  if !(powered s) then .next s
  else .next ((s.modPwr fun v => { v with slowRc := true }).evt 0xE0 0)

/-! ### Sleep and wake (R519-R523) -/

/-- SLEEP_ENTRY: at the first cycle 0 after the array is idle, the Tallies and the tick stop (R519, R520), and a background
calibration and a run of tap calibration end (R289, R371). -/
def execSleepEntry (s : State) : Host.Outcome State Fault Refusal :=
  if !(s.x.pwr.sleeping && working s && s.x.store.op.isNone) then .next s
  else
    let run := s.x.cal
    let s := (setDev (testClose (bgCancel s.allLegsLow)) .sleep).modPwr fun v => { v with
      stopped := true, pll := false, sleepFrom := s.x.dev
      -- a wake waits for VBIAS anew (R522), but not one that ends the entry before its rails move (DEDUCED, log entry 50)
      vbias := v.vbias && v.waking }
    let s := if run.kind == 0 then s else calRelease run (calAbortWith s 2)
    .next { s with x := { s.x with tout := Vector.replicate 4 false, alert := { s.x.alert with irq := false } } }

/-- WAKE: the first enabled source to fire ends SLEEP, or an entry that is under way (R519, R521). -/
def execWake (w : WakeSource) (s : State) : Host.Outcome State Fault Refusal := .next (wakeBy s w)

/-- WAKE_COMPLETE: the first tick after a sleep of E slow cycles starts in the entry state, with the make-up of the Tallies and of
TICKNUM (R349, R522, R523). -/
def execWakeComplete (e : Nat) (s : State) : Host.Outcome State Fault Refusal :=
  if !(s.x.dev = .sleep && s.x.pwr.waking && s.x.pwr.vbias) then .next s
  else
    let x := e * 390625 + s.x.pwr.rem
    let s := (setDev s s.x.pwr.sleepFrom).modPwr fun v => { v with
      stopped := false, sleeping := false, waking := false, pll := true, sleeps := satInc 0xFFFF v.sleeps, rem := x % 30720 }
    let s := s.modTick fun t => { t with num := (t.num + x / 30720) % 281474976710656 }
    let s := forAll (n := 16) (txnRetarget { s with x := { s.x with sleepE := e } }) (tlWake e)
    let s := tlTickEdges (forAll (n := 8) (tlCopy s) ckBoundary)
    .next (pinsBoundary { s with pub := ⟨s.cp, s.x⟩ })

/-- WAKE_VBIAS_TIMEOUT: VBIAS is not good in time and the device sleeps on (R522). -/
def execWakeVbiasTimeout (s : State) : Host.Outcome State Fault Refusal :=
  if s.x.dev = .sleep && s.x.pwr.waking && !s.x.pwr.vbias then
    .next ((s.modPwr fun v => { v with waking := false }).evt 0xE0 1)
  else .next s

end Sys2Proof.Machine
end

