-- ==== Sys2Proof/Machine/Hooks.lean ====
section
/-! DEFINITION. What writes of command registers do at the boundary at which they take effect. -/

namespace Sys2Proof.Machine

/-- The self-clearing bits of a register: they read 0 once they have acted (R49, R141, R253, R295, R327, R352, R377, R452, R485-R487,
R506, R507, R525, R561). -/
def selfClear (page off : Nat) : Word :=
  if off == 0x03 then 0x0002
  else if 0x34 ≤ page && page ≤ 0x37 && off == 0x12 then 0x2000
  else if 0x41 ≤ page && page ≤ 0x50 && off == 0x1B then 0x0003
  else match page, off with
    | 0x00, 0x17 => 0x0007
    | 0x00, 0x18 => 0xFFFF
    | 0x01, 0x17 => 0x0001
    | 0x58, 0x17 => 0x0002
    | 0x60, 0x15 => 0x0001
    | 0x80, 0x17 => 0x0003
    | 0xA0, 0x10 => 0xFFFF
    | 0xC0, 0x28 => 0x0001
    | 0xC1, 0x13 => 0x0007
    | 0xC8, 0x11 => 0x0003
    | 0xD0, 0x13 => 0x0001
    | 0xD1, 0x13 => 0x0001
    | 0xD2, 0x1B => 0x0001
    | _, _ => 0

/-- The self-clearing bits of a register are cleared; UNFENCE_REQ stands while a self-check of its page runs (R394). -/
def clearSelf (s : State) (r : Nat × Nat) : State :=
  let m := selfClear r.1 r.2
  if r.2 == 0x03 then reqClear s r.1
  else if m == 0 then s else s.setReg (addr r.1 r.2) (s.reg (addr r.1 r.2) &&& ~~~m)

/-- The registers that a boundary's writes reach, each once. -/
def written (ws : List StagedWrite) : List (Nat × Nat) := (ws.map fun w => (w.page, w.off)).eraseDups

/-- A write of LAR_CTRL (R503, R504, R507). -/
def larCtrl (s : State) (w : Word) : State :=
  let s := if bit w 0 then larderArm s else s
  let s := if bit w 1 then larderTrigger s 4 0 else s
  if bit w 2 then larderFlush s else s

/-- A write of STORE_CMD (R490, R494, R506). -/
def storeCmd (s : State) (w : Word) : State :=
  match bits w 15 14 with
  | 1 => storeErase s (bits w 9 0)
  | 2 => storeProg s
  | _ => storeAbort s

/-- A write of CAL_CMD (R357, R370, R377). -/
def calCmd (s : State) (w : Word) : State :=
  let k := bits w 15 14
  if k == 0 then calFreeSource s.x.cal (calAbort s) else calStart s k (bits w 10 8)

/-- A write of SL_SYSCAL (R281, R282). -/
def sysCmd (s : State) (i : Slice) (w : Word) : State :=
  let k := bits w 1 0
  if k == 0 then sysAbort s i else sysStart s i k

/-- A write of AX_SYSCAL. -/
def axCmd (s : State) (w : Word) : State :=
  let k := bits w 1 0
  if k == 0 then axCalAbort s else axCalStart s k

/-- A write of CLR_EQ_CTRL (R317). -/
def eqCtrl (s : State) (w : Word) : State :=
  let s := if bit w 0 then eqPop s else s
  if bit w 1 then { s with cp := { s.cp with eqLost := 0 } } else s

/-- A write of SL_CTRL (R263, R295). -/
def slCtrl (s : State) (i : Slice) (w : Word) : State :=
  let s := if bit w 1 then s.modSl i fun v => { v with ovr := 0 } else s
  if bit w 0 then fineTrigger s i 0 else s

/-- A write of RG_CTRL (R448, R452). -/
def rgCtrl (s : State) (w : Word) : State :=
  let s := if bit w 1 then ringCntClr s else s
  if bit w 0 then s.modRing fun r => { r with leave := true } else s

/-- What one written register does besides holding its value; `old` is the state before the boundary's writes. -/
def hook (old s : State) (r : Nat × Nat) : State :=
  let page := r.1
  let off := r.2
  let s := calForget s page off
  let w := s.reg (addr page off)
  if 0x34 ≤ page && page ≤ 0x37 then
    let p : BPort := ⟨(page - 0x34) % 4, by omega⟩
    if off == 0x12 && bit w 13 then bpRestart s p else s
  else if 0x41 ≤ page && page ≤ 0x50 then
    let i : Slice := ix16 (page - 0x41)
    if off == 0x1B then slCtrl s i w else if off == 0x18 then sysCmd s i w else s
  else if 0x61 ≤ page && page ≤ 0x70 then
    let l : LoopIx := ix16 (page - 0x61)
    if off == 0x10 && w != old.reg (addr page off) then loopAfterCommit (old.reg (addr page off)) s l else s
  else match page, off with
    | 0x01, 0x17 => if bit w 0 then s.modTick fun t => { t with rbCnt := 0 } else s
    | 0x40, 0x19 => if bit w 0 then traceRequest s else traceAbort s
    | 0x52, 0x18 => axCmd s w
    | 0x58, 0x10 => calCmd s w
    | 0x58, 0x17 => if bit w 1 then calSave s else s
    | 0x60, 0x15 => if bit w 0 then { s with cp := { s.cp with ce := { s.cp.ce with eccCnt := 0 } } } else s
    | 0x80, 0x17 => eqCtrl s w
    | 0xA0, 0x10 => tlSync s w
    | 0xC0, 0x10 => loadAddr s
    | 0xC0, 0x11 => loadAddr s
    | 0xC0, 0x13 => storeCmd s w
    | 0xC1, 0x13 => larCtrl s w
    | 0xC8, 0x11 => rgCtrl s w
    | 0xD0, 0x13 => if bit w 0 then spiCntClr s else s
    | 0xD1, 0x13 => if bit w 0 then twmCntClr s else s
    | _, _ => s

/-- Readmission requests act after every other write (R394). -/
def hookUnfence (s : State) (r : Nat × Nat) : State :=
  if r.2 == 0x03 && bit (s.reg (addr r.1 0x03)) 1 then unfence s r.1 else s

/-- LG_CTRL.APPEND written (R501). -/
def hookAppend (s : State) (l : List (Nat × Nat)) : State :=
  if l.contains (0xC0, 0x28) && bit (s.reg (addr 0xC0 0x28)) 0 then ledgerAppend s else s

/-- The pack bus's GO written (R475). -/
def hookGo (s : State) (l : List (Nat × Nat)) : State :=
  if l.contains (0xD2, 0x1B) && bit (s.reg (addr 0xD2 0x1B)) 0 then pbGo s else s

/-- The two, in a load, where no boundary's records or requests stand before them. -/
def hookAppends (s : State) (l : List (Nat × Nat)) : State := hookGo (hookAppend s l) l

/-- What enters a queue at a boundary: the event records, with their ledger copies, before an append (R315, R501); the clerks'
requests before the host's (R474). -/
def hookQueues (s : State) (l : List (Nat × Nat)) : State :=
  pbServe 9 (twpCut (hookGo (pbRequests (pbResults (hookAppend (eqEnter s) l))) l))

/-- A write of DEV_CTRL, with the key of the same boundary (R515). -/
def hookDevice (s : State) (l : List (Nat × Nat)) : State :=
  if !(l.contains (0x00, 0x17)) then s
  else match bits (s.reg (addr 0x00 0x17)) 2 0 with
    | 1 => devRun s
    | 2 => devHold s
    | 3 => devSleep s
    | 4 => devReset s (s.reg (addr 0x00 0x18))
    | _ => s

/-- What the written registers do to their units, readmissions last (R394); `old` is the state before the writes. -/
def hookUnits (old s : State) (l : List (Nat × Nat)) : State := l.foldl hookUnfence (l.foldl (hook old) (fineRestart old s))

/-- Everything the writes of a boundary do, but for the W1C bits of FAULT_WORD and the SNAP banks. A reset leaves nothing of the
rest. -/
def hooks (old s : State) (ws : List StagedWrite) : State :=
  let l := written ws
  let s := hookDevice (hookQueues (hookUnits old s l) l) l
  if s.x.dev = .boot then s else l.foldl clearSelf s

/-- The W1C writes of FAULT_WORD, after every other commit of the boundary (R379). -/
def faultWrites (s : State) (ws : List StagedWrite) : State :=
  ws.foldl (fun s w =>
    if w.page == 0xB8 && w.off == 0x10 then faultClear s false w.val
    else if w.page == 0xB8 && w.off == 0x11 then faultClear s true w.val else s) s

end Sys2Proof.Machine
end

