-- ==== Sys2Proof/Machine/RingTx.lean ====
section
/-! DEFINITION. The master's commit decision and tick frame, the batch on a member, and the image frames a joining device takes
(R413-R417, R425-R432, R442, R444, R446). -/

namespace Sys2Proof.Machine

/-! ### The commit decision (R427) -/

/-- What the decision has done so far: the cascade configuration, the number of entries, the units that stay, the rejected ones with
cause and capacity cause, and the scope writes taken, with their drops. -/
structure Decision where
  cfg : State
  count : Nat := 0
  stay : List CommitUnit := []
  out : List (CommitUnit × Nat × Nat) := []
  took : List Judged := []
  deriving DecidableEq, Repr

/-- One unit of the master at the decision: judged whole, once (R17, R427); its drops are judged on the configuration `pre` before
boundary k + 2 (R128). What is not of cascade scope stays for the boundary. -/
def decideOne (pre : State) (d : Decision) (u : CommitUnit) : Decision :=
  let wide (w : StagedWrite) : Bool := inScope pre w.page w.off
  if u.decided || !(u.writes.any wide) then { d with stay := d.stay ++ [u] }
  else
    let kept := (filterWrites pre false u.writes).1
    let (scope, drops) := filterWrites pre false (u.writes.filter wide)
    let cause := match u.reject with
      | some c => some c
      | none => unitCause pre d.cfg false u.writes kept
    match cause with
    | some c => { d with out := d.out ++ [(u, c, if c == 2 then capacityCause (applyAll d.cfg kept) else 0)] }
    | none =>
      if 62 < d.count + scope.length then { d with out := d.out ++ [(u, 5, 0)] }
      else
        { cfg := applyAll d.cfg kept, count := d.count + scope.length
          stay := d.stay ++ [{ u with writes := u.writes.filter fun w => !(wide w), decided := true }]
          out := d.out, took := d.took ++ [⟨u, scope, drops, 0⟩] }

/-- The configuration that boundary k + 1 will leave. -/
def nextConfig (s : State) : State :=
  let k := s.x.tick.count + 1
  applyAll (applyAll s (applyOrder (judgeAll s k))) (entryWrites s (batchDue s k))

/-- The decision over the units that boundary k + 2 will commit. -/
def decideAll (s : State) : Decision :=
  let pre := nextConfig s
  (unitsDue s (s.x.tick.count + 2)).foldl (decideOne pre) { cfg := pre }

/-- The entries of the batch, write by write in the order of R19 (R427). -/
def Decision.entries (d : Decision) : List BatchEntry :=
  (applyOrder d.took).map fun w => { page := w.page, off := w.off, val := w.val }

/-- The units of the boundary are replaced by those that stay; collisions and drops are marked, and the rejected ones report. -/
def takeDecision (s : State) (d : Decision) : State :=
  let k := s.x.tick.count
  let clerk (u : CommitUnit) : Bool := u.src.clerkNo < 8
  let s : State := { s with
    cp := { s.cp with clerkUnits := (s.cp.clerkUnits.filter fun u => u.due != k + 2) ++ d.stay.filter clerk }
    x := { s.x with hostUnits := (s.x.hostUnits.filter fun u => u.due != k + 2) ++ d.stay.filter fun u => !(clerk u) } }
  let s := d.took.foldl (fun s j => j.drops.foldl markDrop s) (collisions s d.took)
  d.out.foldl (fun s x => reportReject s x.1.src x.2.1 x.2.2) s

/-! ### The batch header (R416, R442, R444, R446) -/

/-- Positions with a missed slot or LEAVE, not yet named (R442). -/
def lostPositions (s : State) : Nat :=
  let r := s.x.ring
  let named := r.drops.foldl (fun a d => a ||| d.2) 0
  maskOf fun (q : Pos) => nbit r.memb q && !(nbit named q) &&
    (r.know[q].missed || r.know[q].leaving || (q.val == r.pos && r.leave))

/-- The drop mask of this tick: what the slots of two ticks ago showed. -/
def dropMask (s : State) : Nat × Nat :=
  let m := lostPositions s
  let r := s.x.ring
  if r.gathered + 2 ≤ s.x.tick.num then (r.dropNext ||| m, 0) else (r.dropNext, m &&& (255 - r.dropNext))

/-- Positions that announce READY (R446). -/
def readyMask (s : State) : Nat :=
  maskOf fun (q : Pos) => s.x.ring.heard.any fun c => c.1.pos == q && c.1.ready && s.x.tick.count < c.2 + 64

/-- The join position and entry tick in the header: E is at least 4 ticks after the decision (R446, log entry 28). -/
def joinHeader (s : State) : Option (Nat × Word) :=
  let r := s.x.ring
  match r.joinSent with
  | some j => some j
  | none => ((List.finRange 8).find? fun (q : Pos) => nbit (readyMask s) q && !(nbit r.memb q)).map fun (q : Pos) =>
    (q.val, word (s.x.tick.num + 4 + Config.entryDelay s.x.tick.num))

/-- Does every member, the master included, hear a member as its neighbour on both sides (R444)? -/
def allHear (s : State) : Bool :=
  let r := s.x.ring
  let known (a : Option Announce) : Bool := match a with | some a => nbit r.memb a.pos | none => false
  portIn s true && portIn s false && known r.heardE && known r.heardW && (List.finRange 8).all fun (q : Pos) =>
    !(nbit r.memb q) || q.val == r.pos || (match r.know[q].slot with
      | some w => known w.east && known w.west
      | none => false)

/-- The topology as the master marks it (R441); from the tick frame of the heal tick on the loop is a ring (R444). -/
def ringTopo (s : State) : State :=
  let r := s.x.ring
  if r.topo == 2 then (if r.heal == some (s.x.tick.num % 65536) then loopHealed s else s)
  else if portIn s true && portIn s false then s.modRing fun r => { r with topo := 1 }
  else
    let s' := s.modRing fun r => { r with topo := 2 }
    if r.topo == 1 then ringEvent s' 1 else s'

/-- The header's decisions: entry, heal, drops. -/
def ringHeader (s : State) : State :=
  let s := ringTopo s
  let num := s.x.tick.num
  let r := s.x.ring
  let s := match r.joinSent with
    | some (p, e) =>
      if e == word num then s.modRing fun r => { r with
        joinSent := none, memb := maskOf fun (q : Pos) => nbit r.memb q || q.val == p
        know := tab fun q => if q.val == p then { member := true } else r.know[q] }
      else s
    | none => (match joinHeader s with
      | some j => (s.modRing fun r => { r with joinSent := some j }).evt 0xC8 5
      | none => s)
  let s := if s.x.ring.topo == 2 && s.x.ring.heal.isNone && allHear s && s.x.dev ≠ .safe then
      s.modRing fun r => { r with heal := some ((num + 1 + Config.healDelay num) % 65536) } else s
  let (m, next) := dropMask s
  let due := s.x.tick.count + 2
  s.modRing fun r => { r with
    ready := readyMask s, dropNext := next, drops := if m == 0 then r.drops else r.drops ++ [(due, m)] }

/-- The port on which the master starts the loop: E if that is up, else W (R414); a port to a device that joins is none of the loop (R445). -/
def loopStart (s : State) : Option Bool :=
  [true, false].find? fun e => portIn s e && (portOfRing s e).state != .tap

/-- The tick frame of the tick (R414, R416), without a hop made. -/
def buildFrame (s : State) (entries : List BatchEntry) (drop : Nat) : TickFrame :=
  let r := s.x.ring
  let pos (n : Nat) : Pos := ⟨n % 8, by omega⟩
  { east := (loopStart s).getD true, markerOk := true, hop := 0, mpos := ownPos s, line := r.topo == 2, num := s.x.tick.num, memb := r.memb
    ready := r.ready, batchOk := true, entries := entries, join := r.joinSent.map fun j => (pos j.1, j.2), drop := drop
    heal := r.heal.map word, digest := digest s, slots := upd (Vector.replicate 8 none) (ownPos s) (some (ownSlot s)), pherr := 0 }

/-- RG_NAVt of the spanning trains (R432). -/
def ringNav (s : State) : State :=
  s.modRing fun r => { r with nav := tab fun (t : Train) => if spanning s t then (nAvail s t, nOn s t) else (0, 0) }

/-- The commit decision and the assembly of the tick frame on a master; in SAFE it announces its own drop and is out at the next cycle 0
(R390, R411). -/
def masterDecision (s : State) : State :=
  let d := decideAll s
  let s := takeDecision s d
  let named := (dropMask (ringTopo s)).1
  let s := ringNav (ringHeader s)
  s.modRing fun r => { r with
    txTick := some ⟨buildFrame s d.entries named, (loopStart s).toList ++ tapOut s⟩, leaveSent := decide (s.x.dev = .safe)
    batches := r.batches ++ [(s.x.tick.count + 2, d.entries)] }

/-- COMMIT_DECISION at cycles 900-943: a device in the loop assembles its slot, and the master decides (R6). An overrun fences both ring
ports (R402) and leaves the tick without a valid slot (R443). The decision does not look at trips: clerk writes of cascade scope of a tick that has
already tripped enter the batch (DESIGN CHOICE, log entry 114: R39 discards them, R427 and R42 take them). -/
def execCommitDecision (f : CheckFault) (s : State) : Host.Outcome State Fault Refusal :=
  if !(ticking s) then .next s
  else
    let late := match f with | .overrun _ => true | _ => false
    let s := match f with
      | .overrun cyc => overrun s cyc [.ringE, .ringW]
      | _ => s
    let s := if inLoop s then
        let w := ownSlot s
        s.modRing fun r => { r with slot := if late then none else some w, unwritten := r.unwritten || late }
      else s
    if ringMaster s && (working s || s.x.dev = .safe) then .next (masterDecision s) else .next s

/-! ### The batch at its boundary (R42, R428-R430) -/

/-- Does the device hold the batch that its boundary needs (R430)? -/
def batchHeld (s : State) (k : Nat) : Bool := !(ringFormed s) || s.x.ring.batches.any fun b => b.1 == k

/-- The batch of boundary k takes effect after the local units. One that fails validation on a member does not, sets what the
cause sets (R5, R431), and the member leaves the ring (R429). Answers the writes applied. -/
def applyBatch (old s : State) (k : Nat) : State × List StagedWrite :=
  let ws := entryWrites s (batchDue s k)
  let s := s.modRing fun r => { r with batches := r.batches.filter fun b => k < b.1 }
  if !(ringFormed s) || ws.isEmpty then (s, [])
  else match (if ringMaster s then none else unitCause old s true ws ws) with
    | some c => (diverge (reportCause s c (if c == 2 then capacityCause (applyAll s ws) else 0)), [])
    | none => (applyAll s ws, ws)

/-! ### Configuration loads (R446, R496, R513) -/

/-- The BOOT record, after a configuration load (R500). -/
def bootRecord (s : State) : State :=
  let v := s.x.store
  ledgerPut s { kind := 1, sub := 0, tick := s.x.tick.num, pay :=
    [word v.boots, regWord s none none 0xB8 0x2A, regWord s none none 0xB8 0x28, bitAt v.loadedB 0] }

/-- The first word of a bank. -/
def bankBase (b : Bool) : Nat := if b then 2 * sectorWords else 0

/-- The words of a bank's image with its check word, if the bank is valid. -/
def bankImage (m : List Host.Cell) (b : Bool) : Option (List Word) :=
  let h := stRead m (bankBase b) 8
  let len := pair32 h 6
  if h.getD 0 0 == 0x4346 && h.getD 1 0 == 1 && len ≤ 65518 then
    let r := stRead m (bankBase b) (18 + len)
    if recGood r 0x4346 then some r else none
  else none

/-- The entries of n sections whose mask includes a position, in image order. -/
def sections (pos : Nat) : Nat → List Word → List BatchEntry
  | n + 1, m :: c :: t =>
    let body := t.take (2 * c.toNat)
    let es := (List.range (body.length / 2)).map fun i =>
      let a := body.getD (2 * i) 0
      ({ page := bits a 15 8, off := bits a 7 0, val := body.getD (2 * i + 1) 0 } : BatchEntry)
    (if bit m pos then es else []) ++ sections pos n (t.drop (2 * c.toNat))
  | _, _ => []

/-- The entries of an image for the device's position. -/
def imageEntries (s : State) (r : List Word) : List BatchEntry :=
  sections (RG_CFG_POS s) (r.getD 5 0).toNat ((r.take (r.length - 2)).drop 16)

/-- A write of a load: into the registers, or where the immediate domain holds its own: the configuration of the ports, counts and compares
(R34; DESIGN CHOICE, log entry 119: the data port of the storeroom and TEST are no configuration). -/
def loadWrite (s : State) (w : StagedWrite) : State :=
  if portConfig w.page w.off then portConfigWrite s w.page w.off w.val
  else if h : 0xA1 ≤ w.page ∧ w.page ≤ 0xB0 ∧ 0x12 ≤ w.off ∧ w.off ≤ 0x15 then
    let n : TallyIx := ⟨w.page - 0xA1, by omega⟩
    match w.off with
    | 0x12 => cntLWrite s n w.val
    | 0x13 => cntHWrite s n ⟨w.val, 0⟩
    | 0x14 => cmpLWrite s n w.val
    | _ => cmpHWrite s n ⟨w.val, 0⟩
  else rawWrite s w.page w.off w.val

/-- Writes applied as one validated unit, in HOLD, under none of the drop rules, and whether they were; a unit that fails
validation is discarded and reports its cause (R5, R18, R513). What the writes of command registers do follows, as at a boundary. -/
def loadUnit (s : State) (ws : List StagedWrite) : State × Bool :=
  match unitCause s s true ws ws with
  | some c => (reportCause s c (if c == 2 then capacityCause (applyAll s ws) else 0), false)
  | none =>
    let l := written ws
    let t := hookDevice (hookAppends (hookUnits s (ws.foldl loadWrite s) l) l) l
    (if t.x.dev = .boot && s.x.dev ≠ .boot then t else faultWrites (l.foldl clearSelf t) ws, true)

/-- The image that a device in LOAD applies (R446): none with IMG = 0, the received one with IMG = 2, and with IMG = 1 if its own
stored bank differs. -/
def imageTaken (s : State) : Option (List BatchEntry) :=
  let r := s.x.ring
  let own := (bankImage s.x.store.mem s.x.store.loadedB).map (imageEntries s)
  match RG_CFG_IMG s with
  | 0 => none
  | 2 => some r.image
  | _ => if r.gotImage && (!s.x.pwr.conf || own != some r.image) then some r.image else none

/-- Is what R446 asks for complete: the scope, and the image with IMG = 2, or with IMG = 1 once its transfer has begun? -/
def loadReady (s : State) : Bool :=
  let r := s.x.ring
  r.gotScope && (match RG_CFG_IMG s with
    | 0 => true
    | 2 => r.gotImage
    | _ => r.gotImage || r.image.isEmpty)

/-- A good image frame of a transfer under way (R446); a part with a bad frame is dropped whole at its end. -/
def imageCollect (f : ImageFrame) (r : RingSt) : RingSt :=
  let r := { r with imgFrames := r.imgFrames + 1 }
  let r := if f.scope then { r with scope := r.scope ++ f.entries } else { r with image := r.image ++ f.entries, imgAuto := f.auto }
  if !f.last then r
  else if r.imgBad then (if f.scope then { r with scope := [], imgBad := false } else { r with image := [], imgBad := false })
  else if f.scope then { r with gotScope := true, imgErr := false } else { r with gotImage := true, imgErr := false }

/-- The image and the scope are applied as by the configuration load, in HOLD, and the device is READY (R411, R446). An image puts itself
in force with its AUTORUN (R514, R525), and the BOOT record follows (R500). -/
def imageApply (s : State) : State :=
  let img := imageTaken s
  match loadUnit s (entryWrites s (img.getD [] ++ s.x.ring.scope)) with
  | (s, false) => s.modRing fun r => { r with
      imgErr := true, imgBusy := false, image := [], scope := [], gotImage := false, gotScope := false }
  | (s, true) =>
    if s.x.dev = .boot then s
    else
      let auto := s.x.ring.imgAuto
      let young := s.x.tick.count ≤ s.x.pwr.holdAt + 834
      let s := if img.isNone then s else
        bootRecord (s.modPwr fun p => { p with conf := true, autorun := auto, autoPend := auto && (p.autoPend || young) })
      let s := s.modRing fun r => { r with imgBusy := false, imgDone := true, image := [], scope := [] }
      setRing (s.evt 0xC8 8) .ready

/-- IMAGE_FRAME_RECEIVE on a port: passed on in the loop and to the taps; a device in LOAD collects the image and the scope and applies
them (R411, R413, R446). -/
def execImageFrameReceive (east : Bool) (f : ImageFrame) (s : State) : Host.Outcome State Fault Refusal :=
  if !(ticking s) || !(portIn s east) || !(RG_CFG_EN s) then .next s
  else
    let load := s.x.ring.state = .load
    let out := if inLoop s then (loopOut s east ++ tapOut s).eraseDups else if s.x.ring.state = .dropped then loopOut s east else []
    let s := s.modRing fun r => { r with fwdImage := some ⟨f, out⟩ }
    if !f.ok then
      let s := crcError s east
      .next (if load then s.modRing fun r => { r with imgErr := true, imgBad := true } else s)
    else if !load then .next s
    else
      let s := s.modRing (imageCollect f)
      .next (if loadReady s && s.x.dev = .hold then imageApply s else s)

end Sys2Proof.Machine
end

