-- ==== Sys2Proof/Machine/Tick.lean ====
section
/-! DEFINITION. Cycle 0 of a tick (R6): the snapshot swap, the rollback, fences, commits, samples and every state machine that
steps at the boundary. -/

namespace Sys2Proof.Machine

/-! ### The snapshot (R9, R40, R347, R380) -/

/-- The registers of one page taken from another store. -/
def mergePage (old new : Regs) (page : Nat) : Regs :=
  let lo := addr page 0
  ⟨(old.cells.filter fun c => c.1 < lo) ++ (new.cells.filter fun c => c.1 / 256 == page) ++
    old.cells.filter fun c => lo + 256 ≤ c.1⟩

/-- The published snapshot swaps to the end of the completed tick; after a rollback only the FAULT page does, and SKIPPED reads 1
(R9, R40, R380). -/
def publish (rolled : Bool) (s0 : State) : State :=
  let s := tlCopy s0
  let pub : Snap :=
    if rolled then { s.pub with x := { s.pub.x with
      col := s.x.col, regs := mergePage s.pub.x.regs s.x.regs 0xB8, tick := { s.pub.x.tick with skipped := true } } }
    else ⟨s.cp, { s.x with tick := { s.x.tick with skipped := false } }⟩
  { s with pub := pub }

/-- TICKNUM and the boundary count advance (R8). -/
def nextTick (rolled : Bool) (s : State) : State :=
  s.modTick fun t => { t with
    count := t.count + 1, num := (t.num + 1) % 281474976710656, skipped := rolled, trips := [], prevRolled := rolled, written := false }

/-! ### Rollback (R37-R46) -/

/-- A unit joins those of its boundary: the writes of a clerk, and the non-transaction writes of a port, are one unit (R16). One that
is rejected already stands alone. -/
def joinUnit (l : List CommitUnit) (u : CommitUnit) : List CommitUnit :=
  let one := match u.src with | .txn _ => false | _ => u.reject.isNone
  let same (v : CommitUnit) : Bool := v.src == u.src && v.due == u.due && v.reject.isNone
  if one && l.any same then
    l.map fun v => if same v then
      { v with writes := v.writes ++ u.writes, tick := u.tick, cyc := u.cyc, decided := v.decided && u.decided } else v
  else l ++ [u]

/-- The local units of a boundary wait for the next one, to be judged anew with what that boundary has; only what an illegal
instruction rejects stays rejected (R16, R39, R43, R323, R430). -/
def deferUnits (s : State) (k : Nat) : State :=
  let late (l : List CommitUnit) : List CommitUnit :=
    ((l.filter (·.due == k)).map fun (u : CommitUnit) =>
      { u with due := k + 1, reject := if u.reject == some 7 then some 7 else none }) ++ l.filter (·.due != k)
  let join (l : List CommitUnit) : List CommitUnit := (late l).foldl joinUnit []
  { s with
    cp := { s.cp with clerkUnits := join s.cp.clerkUnits }
    x := { s.x with hostUnits := join s.x.hostUnits } }

/-- A staging ECC trip rejects the host units of the boundary (R39); of a unit of the master whose scope writes are in the batch already,
what is left of it (DESIGN CHOICE, log entry 114: R42 applies the batch). -/
def rejectHost (s : State) (k : Nat) : State :=
  let l := s.x.hostUnits.filter (·.due == k)
  let s : State := { s with x := { s.x with hostUnits := s.x.hostUnits.filter (·.due != k) } }
  l.foldl (fun s u => reportReject s u.src 1 0) s

/-- What a rollback leaves of a train as it stands: all of one whose state comes from the master's frames (R435), the state and
demand of one that the ride-through preset holds (R186). -/
def keepTrain (s : State) (cur back : TrainSt) (t : Train) : TrainSt :=
  if spanSlave s t then cur
  else if s.x.ride.held[t] then { back with
    state := cur.state, dir := cur.dir, dem := cur.dem, shedding := cur.shedding, leaving := cur.leaving
    rampWritten := cur.rampWritten, shedCnt := cur.shedCnt, rev := cur.rev, released := cur.released }
  else back

/-- What a rollback leaves of a leg: a shadow that it does not restore; nothing of a leg that is fenced. -/
def keepLeg (s : State) (cur back : LegCp) (n : Leg) : LegCp :=
  if s.isFenced (.leg n) then { back with shadow := {}, on := false }
  else if keepsShadow s n then { back with shadow := cur.shadow, on := cur.on }
  else back

/-- The record of a rollback (R39, R40, R44, R45, R49). -/
def rollbackRecord (old s : State) : State :=
  let t := old.x.tick
  let s := match t.trips with
    | [] => s
    | p :: _ => s.modTick fun v => { v with
        rbCnt := satInc 0xFFFF v.rbCnt, rbTick := word t.num, rbChecker := p.checker, rbCyc := p.cyc }
  let s := s.evt 0x01 0
  let s := if 2 ≤ t.trips.length then raise s 0x01 0 else s
  let s := if t.prevRolled then raise s 0x01 1 else s
  -- SUPV.PG_ERR is in the checkpoint; the cause of checker 2 outlasts the rollback (R402)
  if t.trips.any (·.checker == 2) then raise s 0x78 4 else s

/-- The collector's fences of converters outlast a rollback (R272), and with them the LOST verdicts that they stand for (R167 discards
those that the supervisor judged; DEDUCED, log entry 116). -/
def refenced (old s : State) : State :=
  let dead := (List.finRange 18).filter fun (c : Conv) => old.x.col.fencePend.contains (.conv c)
  dead.foldl (lostConv dead) s

/-- The tick is discarded: the device begins the next from the checkpoint (R39). -/
def rollback (old s : State) : State :=
  let k := s.x.tick.count
  let cur := s.cp
  let cp := s.ck
  let s : State := { s with cp := { cp with
    trains := tab fun (t : Train) => keepTrain s cur.trains[t] cp.trains[t] t
    legs := tab fun (n : Leg) => keepLeg s cur.legs[n] cp.legs[n] n } }
  let s := if old.x.tick.trips.any (·.checker == 4) then rejectHost s k else s
  -- the tick that begins repeats the PREBIAS of the discarded one, sense test included (R64)
  let s : State := { s with x := { s.x with senseTest := (List.finRange 8).any fun (t : Train) => s.cp.trains[t].state = .prebias } }
  rollbackRecord old (deferUnits (refenced old s) k)

/-! ### The end of a good tick -/

/-- The mean on-time of a train in the tick, where it switched (R155). -/
def meanOn (s : State) (t : Train) : Option Rat :=
  let ls := onLegs s t
  if s.cp.trains[t].state.switching && !ls.isEmpty then
    some (((ls.foldl (fun a n => a + s.x.hw[n].ton) 0 : Nat) : Rat) / (ls.length : Rat))
  else none

/-- What is taken over from the tick that ends: effective targets (R224), divider counts (R113), on-times (R155). -/
def endOfTick (s : State) : State :=
  let s := loopsStepDiv (forAll (n := 4) s batTargets)
  forAll (n := 8) s fun s t => s.modModel t fun m => { m with onTimes := (meanOn s t :: m.onTimes).take 9 }

/-! ### What the collector decided (R41, R168, R387, R390, R396) -/

/-- One fence at a cycle 0. It fails a self-check of its unit; a fence of the supervisor holds the trains in substitution and freezes
SVt_STAT (R168); a fence of AX makes its two own readings invalid, and their count starts anew (R279, R280). -/
def fenceNow (s : State) (u : FenceUnit) : State :=
  let s := if s.x.checks.any (·.unit == u) then
      endCheck u false (if u == .store then cutCheck s else s) else s
  let s := if u == .supv && !(s.isFenced .supv) then
      forAll (n := 8) s fun s t =>
        let s := s.modModel t fun m => { m with frozen := some (modelStat s t) }
        if trainInSubst s t then trainHold s t else s else s
  let s := if u == .conv axConv then s.modAx fun a => { a with refDev := none, refBad := 0, dieTemp := none } else s
  applyFence s u

/-- Fences, then HOLD, then SAFE. -/
def faultBoundary (old s : State) : State :=
  let s := (old.x.tick.trips.flatMap (·.unit) ++ s.x.col.fencePend).foldl fenceNow s
  let c := s.x.col
  let s := s.modCol fun c => { c with fencePend := [], holdPend := false, holdConf := false, safePend := none }
  let s := if c.holdPend then enterHold s true else s
  let s := if c.holdConf && s.x.dev = .hold then s.modCol fun c => { c with heldByConfig := true } else s
  match c.safePend with
  | some b => enterSafe s b
  | none => s

/-! ### Substitution and the alternative at cycle 0 (R151-R166) -/

/-- A slice blamed in the last tick: fenced and substituted, with the words it last delivered (R151, R152, R163). -/
def beginSubst (s : State) (i : Slice) : State :=
  let d := s.x.deliv[i]
  let v := s.cp.sup[i]
  let s := fenceNow s (.conv (convOf i))
  let s := if v.alt = .rejected && v.altKind = .spare && s.cp.spare.state = .serving && s.cp.spare.slice == i then
      releaseSpare s .idle else s
  let s := if v.subst then s else s.evt 0x78 0
  s.modSup i fun v => { v with subst := true, fenceDue := false, heldFast := d.fast, heldExt := d.ext, heldFine := d.fine }

/-- An accepted alternative serves (R161); with the slice's own converter accepted, the spare is fenced (R163). -/
def acceptAlt (s : State) (i : Slice) : State :=
  let k := s.cp.sup[i].altKind
  let s := s.modSup i fun v => { v with alt := .serving, subst := false, acceptDue := false }
  match k with
  | .spare => s.modSpare fun p => { p with state := .serving, slice := i }
  | .own => fenceNow s (.conv spareConv)
  | .partner => s

/-- Verdicts and acceptances of the last tick take effect (R152, R161). -/
def substStart (s : State) : State :=
  forAll (n := 16) s fun s i =>
    let v := s.cp.sup[i]
    if v.fenceDue then beginSubst s i
    else if v.acceptDue then acceptAlt s i
    else s

/-! ### The sample latch and the state machines -/

/-- The estimates of the periods whose valley fell in the past tick, and the leg values that the supervisor reads (R6, R79, R146). -/
def latchLegs (s : State) : State :=
  let hw (n : Leg) : LegHw :=
    let h := s.x.hw[n]
    { h with iest := h.iestNext.getD h.iest, iestNext := none, fresh := false }
  { s with x := { s.x with hw := tab hw, legLat := tab fun (n : Leg) => { ton := (hw n).ton, est := (hw n).iest, zc := (hw n).zc } } }

/-- The samples of the tick. After a rollback the verdicts are those that the collector's fences stand for (`refenced`). -/
def samples (rolled : Bool) (inp : TickInputs) (s : State) : State :=
  let s := forAll (n := 4) s fun s p => s.modBatHw p fun h => { h with pin := inp.pres[p] }
  let blamed := (List.finRange 16).filter fun i => s.cp.sup[i].fenceDue
  let s := convBoundary inp.raw (spareBoundary (forAll (n := 8) (latchLegs (substStart s)) trainEstimate))
  forAll (n := 4) (estimates (noteBlamed rolled s blamed)) batMeasure

/-- Edges of the pulse set-points (R119). -/
def pulseTick (s : State) (l : LoopIx) : State :=
  if LP_SP_SRC_KIND s l != 5 then s
  else
    let e := tallyEdges s (ix16 (LP_SP_SRC_INDEX s l))
    s.modLoop l fun r => { r with idleTicks := if e != r.edgesSeen then 0 else r.idleTicks + 1, edgesSeen := e }

/-- The machines whose state is in the checkpoint: they do not step at the boundary after a rollback, which begins from C_k;
only the clerks' timing goes on (R325). -/
def checkpointed (s : State) : State :=
  let s := forAll (n := 4) s fun s p => batAge (batPresence s p) p
  let s := forAll (n := 8) s trainBoundary
  let s := forAll (n := 8) (adoptPending s) trainStart
  -- a model runs from its train's first running tick on, and gives its estimate to that tick's consumers (R144, R152)
  let s := forAll (n := 4) (estimates s) batMeasure
  let s := forAll (n := 8) (forAll (n := 8) s preload) substTrain
  let s := forAll (n := 4) (forAll (n := 4) s oscBoundary) probeBoundary
  forAll (n := 16) (loopsTickStart s) pulseTick

/-- The machines outside the checkpoint. -/
def uncheckpointed (s : State) : State :=
  let old := s.x.cal
  let s := calRelease old (calBoundary s)
  let s := forAll (n := 16) s tlBoundary
  ringBoundary (ledgerMinute (larderBoundary s))

/-- The phases, removals and string enables of the battery ports; `ws` are the writes of the boundary, `old` the state before them
(R210, R218, R220, R240). -/
def batteries (old s : State) (ws : List StagedWrite) : State :=
  forAll (n := 4) s fun s p => batPhase old (ws.any fun w => w.page == batPage p && w.off == 0x13) s p

/-- Counts of elapsed ticks of the host ports and banks (R29, R32, R397). -/
def portCounts (s : State) : State :=
  let txn (b : TxnBank) : TxnBank := if b.opened then { b with since := b.since + 1 } else b
  let snap (b : SnapBank) : SnapBank := { b with left := b.left - 1 }
  { s with x := { s.x with
    idle := ⟨s.x.idle.spi + 1, s.x.idle.twm + 1⟩
    txn := ⟨txn s.x.txn.spi, txn s.x.txn.twm⟩
    snap := ⟨snap s.x.snap.spi, snap s.x.snap.twm⟩ } }

/-- The lines of the new tick: DIETEMP (R401), the ticks in which a resume's conditions hold (R389), every latch (R379), and FLT# by the
enables in force (R382). -/
def lines (s : State) : State :=
  let ax := s.isFenced (.conv axConv)
  let lim := FLT_TJ_LIM_I s
  let diet := ax || (match s.x.ax.dieTemp with
    | some t => decide (lim < t) || (s.x.col.diet && decide (lim - 50 < t))
    | none => s.x.col.diet)
  let s := s.modCol fun c => { c with diet := diet }
  let s := latchAll s
  let quiet := !(graveLine s) && s.x.col.resumeCnt < FLT_RESUME_MAXN s
  -- a line that was up since the last cycle 0 starts the count anew, cleared or not
  fltPin (s.modCol fun c => { c with
    quiet := if !quiet then 0 else if c.grave then 1 else c.quiet + 1, grave := false })

/-! ### TICK_BOUNDARY -/

/-- The W1C bits that the surviving units of a boundary clear, cleared before the hardware acts in this cycle 0: what it sets in the
same cycle 0 stays set (R21). -/
def clearFirst (s : State) (l : List StagedWrite) : State :=
  l.foldl (fun s w => let a := addr w.page w.off
    if w1cMask a == 0 then s else s.setReg a (s.reg a &&& ~~~(w.val &&& w1cMask a))) s

/-- The bits that the hardware has set in this cycle 0, since they were cleared, are set after the commits too (R21). -/
def keepSet (hw s : State) (l : List StagedWrite) : State :=
  l.foldl (fun s w => let a := addr w.page w.off
    if w1cMask a == 0 then s else s.orReg a (hw.reg a &&& w.val &&& w1cMask a)) s

/-- The commits of boundary k: the units that were judged, then the batch, then what command registers do. Answers the writes. -/
def commits (old s : State) (judged : List Judged) : State × List StagedWrite :=
  let k := s.x.tick.count
  let s : State := { s with
    cp := { s.cp with clerkUnits := s.cp.clerkUnits.filter (·.due != k) }
    x := { s.x with hostUnits := s.x.hostUnits.filter (·.due != k) } }
  let before := s
  let (s, ws) := applyUnits s judged
  let s := keepSet before s ws
  let (s, wb) := applyBatch old s k
  (hooks before s (ws ++ wb), ws ++ wb)

/-- What follows the commits of a boundary in a device that they did not reset; `old` is the state before them. -/
def afterCommits (rolled : Bool) (inp : TickInputs) (judged : List Judged) (ws : List StagedWrite) (old s : State) : State :=
  let s := batteries old (samples rolled inp s) ws
  let s := srcBoundary s
  let s := forAll (n := 8) (ridePreload (if rolled then forAll (n := 8) s substAnew else checkpointed s)) ckBoundary
  let s := lines (portCounts (uncheckpointed s))
  let s := pinsBoundary (faultWrites s ws)
  let s := snapWrites (snapWrites s .twm (portSnap judged .twm)) .spi (portSnap judged .spi)
  { s with ck := s.cp }

/-- The units of a clerk that this cycle 0 fences are gone before the boundary judges any (R326); one that an illegal instruction has discarded is
still reported there (R314, R323). -/
def dropFenced (s : State) : State :=
  let out := s.x.tick.trips.flatMap (·.unit) ++ s.x.col.fencePend
  let keep (u : CommitUnit) : Bool := match u.src with | .clerk c => u.reject == some 7 || !(out.contains (.clerk c)) | _ => true
  { s with cp := { s.cp with clerkUnits := s.cp.clerkUnits.filter keep } }

/-- Cycle 0 of a tick, as one cycle: `tickBoundary`. -/
def tickEdge (inp : TickInputs) (s0 : State) : State :=
  let s := slotFinal (dropFenced s0)
  let rolled := !(s.x.tick.trips.isEmpty)
  let k := s.x.tick.count + 1
  let held := batchHeld s k
  let judged := if rolled || !held then [] else judgeAll s k
  let old := s
  let s := nextTick rolled (publish rolled (fineTickEnd (forAll (n := 4) s energyTick)))
  let s := clearFirst (if rolled then s else snapSwap (snapSwap s .spi) .twm) (applyOrder judged)
  let s := tlTickEdges (if rolled then rollback old s else endOfTick s)
  let s := faultBoundary old s
  let s := if rolled || held then s else deferUnits s k
  let s := storeBoundary s
  let before := s
  let (s, ws) := commits old s judged
  if s.x.dev = .boot then s else afterCommits rolled inp judged ws before s

/-- Cycle 0 of a tick. -/
def tickBoundary (inp : TickInputs) (s : State) : State := oneCycle (tickEdge inp) s

/-- TICK_BOUNDARY, with what the converters, the presence pins and the strap pins give; with no tick the command brings only the levels of
the strap pins, which every BOOT samples (R175; log entry 2). -/
def execTickBoundary (inp : TickInputs) (s : State) : Host.Outcome State Fault Refusal :=
  .next (if ticking s then tickBoundary inp (strapsAt inp.straps s) else strapsAt inp.straps s)

end Sys2Proof.Machine
end

