-- ==== Sys2Proof/Machine/Boot.lean ====
section
/-! DEFINITION. The sequence of BOOT (R512-R514): the calibration record (R376), the clerk list records (R498), the ledger and the
capture area (R499, R501, R504), the configuration (R496, R497, R513), and the first tick in HOLD. -/

namespace Sys2Proof.Machine

/-! ### The calibration record (R374, R376) -/

/-- The entry of a leg, if it is valid. -/
def calLeg (r : List Word) (s : State) (n : Leg) : State :=
  let w := r.getD (10 + 4 * n.val) 0
  if bit w 15 then
    let s := s.setReg (a_CAL_LDn_H n) (r.getD (8 + 4 * n.val) 0 &&& 0x7F7F)
    let s := set_L_TRIM_TRIM (s.setReg (a_CAL_LDn_L n) (r.getD (9 + 4 * n.val) 0 &&& 0x7F7F)) n (bits w 4 0)
    s.modCal fun v => { v with legOk := upd v.legOk n true, legHi := upd v.legHi n (bit w 14) }
  else s

/-- The entry of a source, if it is valid. -/
def calSource (r : List Word) (s : State) (i : Src) : State :=
  let w := r.getD (104 + i.val) 0
  if bit w 15 then
    (s.setReg (a_CAL_SRCs i) (w &&& 0x0F0F)).modCal fun v => { v with
      srcOk := upd v.srcOk i true, valid := v.valid ||| oneHot (8 + i.val) }
  else s

/-- The entry of the ring line, if it is valid. -/
def calRingLine (r : List Word) (s : State) : State :=
  let w := r.getD 108 0
  if bit w 15 then
    (set_CAL_RING_CELLS s (bits w 6 0)).modCal fun v => { v with ringOk := true, valid := v.valid ||| oneHot 12 }
  else s

/-- The calibration record is loaded; no good record is CAL.PG_ERR.CRC (R376). -/
def bootCal (s : State) : State :=
  match calNewest s.x.store.mem with
  | none => raise s 0x58 0
  | some (k, q) =>
    let r := stRead s.x.store.mem (calBase + 128 * k) 128
    let s := s.modCal fun v => { v with slot := k, seq := q }
    calRingLine r (forAll (n := 4) (forAll (n := 24) s (calLeg r)) (calSource r))

/-- The train bits of CAL_VALID: every mapped leg valid in the record (`ok24`), on the mapping in force at the end of BOOT (DEDUCED, log
entry 51). -/
def bootCalTrains (ok24 : Vector Bool 24) (s : State) : State :=
  let ok (t : Train) : Bool :=
    let l := (List.finRange 24).filter fun n => legTrain s n == some t
    !l.isEmpty && l.all fun n => ok24[n]
  s.modCal fun v => { v with valid := v.valid ||| word (maskOf fun (t : Train) => ok t) }

/-! ### Clerk list records (R498) -/

/-- The newest valid list record that names a clerk: slot and sequence. -/
def listNewest (m : List Host.Cell) (c : ClerkIx) : Option (Nat × Nat) :=
  newest ((recordsIn m (5 * sectorWords) 512 64).filterMap fun k =>
    let r := stRead m (5 * sectorWords + 512 * k) 512
    if recGood r 0x434C && bits (r.getD 4 0) 2 0 == c.val then some (k, pair32 r 2) else none)

/-- The page and offset of word j of list A of a clerk, two words an instruction, 120 instructions a page. -/
def listPlace (c : ClerkIx) (j : Nat) : Nat × Nat := (0x90 + 2 * c.val + j / 240, 0x10 + j % 240)

/-- What a list record writes. -/
def listWrites (r : List Word) (c : ClerkIx) : List (Nat × Nat × Word) :=
  (0x81 + c.val, 0x10, r.getD 5 0) ::
    ((List.range 4).map fun i => (0x81 + c.val, 0x24 + i, r.getD (6 + i) 0)) ++
    (List.range 480).map fun j => ((listPlace c j).1, (listPlace c j).2, r.getD (16 + j) 0)

/-- A clerk takes its record, or keeps its reset values (R498). -/
def bootList (s : State) (c : ClerkIx) : State :=
  match listNewest s.x.store.mem c with
  | none => s
  | some (k, _) =>
    let r := stRead s.x.store.mem (5 * sectorWords + 512 * k) 512
    (listWrites r c).foldl (fun s w => rawWrite s w.1 w.2.1 w.2.2) s

/-! ### The ledger and the capture area at BOOT (R499, R501, R504) -/

/-- Totals from the newest COUNTERS record of a port, or 0. -/
def bootPort (m : List Host.Cell) (p : BPort) : LedgerPort :=
  match ledgerFind m fun r => bits (r.getD 0 0) 15 12 == 2 && bits (r.getD 0 0) 11 8 == p.val with
  | none => {}
  | some (k, _) =>
    let r := stRead m (ledgerBase + 16 * k) 16
    { eIn := pair32 r 7, eOut := pair32 r 9, cycles := (r.getD 11 0).toNat }

/-- The head, the sequence, the boot number and the newest capture. -/
def bootLedger (s : State) : State :=
  let m := s.x.store.mem
  let last := ledgerFind m fun _ => true
  let boot := ledgerFind m fun r => bits (r.getD 0 0) 15 12 == 1
  let cap := capNewest m
  let boots := match boot with
    | some (k, _) => ((stRead m (ledgerBase + 16 * k) 16).getD 7 0).toNat
    | none => 0
  s.modStore fun v => { v with
    seq := (last.map (·.2)).getD 0
    head := (last.map fun x => (x.1 + 1) % ledgerLen).getD 0
    boots := (boots + 1) % 65536
    capSlot := (cap.map (·.1)).getD 0
    capSeq := (cap.map (·.2)).getD 0
    ports := tab fun p => bootPort m p }

/-! ### Configuration banks (R496, R497, R513) -/

/-- One bank is tried; a rejected unit sets DEV.PG_ERR.LOAD (R513). -/
def tryBank (s : State) (b : Bool) (r : List Word) : State :=
  match loadUnit s (entryWrites s (imageEntries s r)) with
  | (s, true) =>
    if s.x.dev = .boot then s else
    let auto := bit (r.getD 4 0) 0
    { s with x := { s.x with
      store := { s.x.store with loadedB := b }
      pwr := { s.x.pwr with conf := true, autorun := auto, autoPend := auto } } }
  | (s, false) => raise s 0x00 1

/-- The banks are checked and one is loaded: the higher sequence number first, bank A if they are equal; a rejected unit sets
DEV.PG_ERR.LOAD and the other bank follows. The BOOT record follows a load. -/
def bootConfig (s : State) : State :=
  let m := s.x.store.mem
  let a := bankImage m false
  let b := bankImage m true
  let l := (a.map fun r => (false, r)).toList ++ (b.map fun r => (true, r)).toList
  let order := match a, b with
    | some ra, some rb => if pair32 ra 2 < pair32 rb 2 then l.reverse else l
    | _, _ => l
  let s := s.modStore fun v => { v with validA := a.isSome, validB := b.isSome, noBank := l.isEmpty }
  let s := order.foldl (fun (s : State) c =>
    if s.x.pwr.conf || s.x.dev = .boot then s else tryBank s c.1 c.2) s
  if s.x.pwr.conf then bootRecord s else s

/-! ### BOOT_COMPLETE -/

/-- The first cycle 0: what is loaded is in force (R512). -/
def firstTick (s : State) : State :=
  let s := srcBoundary (adoptPending s)
  let s := forAll (n := 4) s fun s p => batPin s p
  let s := forAll (n := 8) (checkpointed s) ckBoundary
  let s := forAll (n := 16) (larderBoundary s) tlBoundary
  let s := lines (ringBoundary s)
  let s := pinsBoundary { s with pub := ⟨s.cp, s.x⟩ }
  { s with ck := s.cp }

/-- The steps of BOOT from the calibration record on, and HOLD. -/
def bootSteps (s : State) : State :=
  let s := bootCal s
  let ok := s.x.cal.legOk
  let s := bootLedger ((List.finRange 8).foldl bootList s)
  let s := (setDev s .hold).modPwr fun p => { p with core := true, io := true, pll := true, stopped := false, holdAt := 0 }
  let s := bootConfig s
  -- an image with a RESET command begins BOOT again
  if s.x.dev = .boot then s else firstTick (bootCalTrains ok (adoptPending s))

/-- BOOT_COMPLETE: the sequence of R512 is complete; BOOT waits as long as VBIAS takes. -/
def execBootComplete (s : State) : Host.Outcome State Fault Refusal :=
  if s.x.dev = .boot && s.x.pwr.vbias then .next (bootSteps s) else .next s

end Sys2Proof.Machine
end

