-- ==== Sys2Proof/Machine/Dispatch.lean ====
section
/-! DEFINITION. What each command does: one call per constructor. -/

namespace Sys2Proof.Machine

/-- The effect of a command on everything but the queue. -/
def exec (i : Instr) (s : State) : Host.Outcome State Fault Refusal :=
  match i with
  | .tickBoundary inp => Sys2Proof.Machine.execTickBoundary inp s
  | .ceSectionSlot ix f => Sys2Proof.Machine.execCeSectionSlot ix f s
  | .supervisorModelRun f => Sys2Proof.Machine.execSupervisorModelRun f s
  | .trainProcessing f => Sys2Proof.Machine.execTrainProcessing f s
  | .demandShadowWrite => Sys2Proof.Machine.execDemandShadowWrite s
  | .clerkSlot c pass f => Sys2Proof.Machine.execClerkSlot c pass f s
  | .nop c => Sys2Proof.Machine.execNop c s
  | .ld c sx d page x off => Sys2Proof.Machine.execLd c sx d page x off s
  | .ldi c d hi ix => Sys2Proof.Machine.execLdi c d hi ix s
  | .st c r page x off => Sys2Proof.Machine.execSt c r page x off s
  | .add c d o => Sys2Proof.Machine.execAdd c d o s
  | .sub c d o => Sys2Proof.Machine.execSub c d o s
  | .and c d o => Sys2Proof.Machine.execAnd c d o s
  | .or c d o => Sys2Proof.Machine.execOr c d o s
  | .sh c a d o => Sys2Proof.Machine.execSh c a d o s
  | .cmp c d o => Sys2Proof.Machine.execCmp c d o s
  | .br c k target => Sys2Proof.Machine.execBr c k target s
  | .wait c o => Sys2Proof.Machine.execWait c o s
  | .waitc c p t page b mode off => Sys2Proof.Machine.execWaitc c p t page b mode off s
  | .waitcRetest c => Sys2Proof.Machine.execWaitcRetest c s
  | .waitEnd c => Sys2Proof.Machine.execWaitEnd c s
  | .evt c r l code => Sys2Proof.Machine.execEvt c r l code s
  | .tstart c t unit o => Sys2Proof.Machine.execTstart c t unit o s
  | .tchk c t => Sys2Proof.Machine.execTchk c t s
  | .pbr c w a cmd => Sys2Proof.Machine.execPbr c w a cmd s
  | .pbw c w r a cmd => Sys2Proof.Machine.execPbw c w r a cmd s
  | .halt c => Sys2Proof.Machine.execHalt c s
  | .illegalInstruction c w => Sys2Proof.Machine.execIllegalInstruction c w s
  | .faultDecision f => Sys2Proof.Machine.execFaultDecision f s
  | .commitDecision f => Sys2Proof.Machine.execCommitDecision f s
  | .commitValidation f => Sys2Proof.Machine.execCommitValidation f s
  | .larderRecord f => Sys2Proof.Machine.execLarderRecord f s
  | .spanningDemandApply => Sys2Proof.Machine.execSpanningDemandApply s
  | .legValley n v => Sys2Proof.Machine.execLegValley n v s
  | .bootstrapRelease n => Sys2Proof.Machine.execBootstrapRelease n s
  | .deadTimeEnd n => Sys2Proof.Machine.execDeadTimeEnd n s
  | .blankingEnd n v => Sys2Proof.Machine.execBlankingEnd n v s
  | .peakComparatorTrip n ton => Sys2Proof.Machine.execPeakComparatorTrip n ton s
  | .zeroCrossTrip n tzc => Sys2Proof.Machine.execZeroCrossTrip n tzc s
  | .tonmaxEnd n => Sys2Proof.Machine.execTonmaxEnd n s
  | .dutyOnTimeEnd n => Sys2Proof.Machine.execDutyOnTimeEnd n s
  | .senseTestEnd => Sys2Proof.Machine.execSenseTestEnd s
  | .driverFault n => Sys2Proof.Machine.execDriverFault n s
  | .trainStopEnd t => Sys2Proof.Machine.execTrainStopEnd t s
  | .trainReverseComplete t => Sys2Proof.Machine.execTrainReverseComplete t s
  | .trainShed t => Sys2Proof.Machine.execTrainShed t s
  | .shedOffStep t => Sys2Proof.Machine.execShedOffStep t s
  | .shareDeviation n => Sys2Proof.Machine.execShareDeviation n s
  | .pendingConfigAdopt => Sys2Proof.Machine.execPendingConfigAdopt s
  | .oscillatorStop o => Sys2Proof.Machine.execOscillatorStop o s
  | .pulseSetpointTimeout l => Sys2Proof.Machine.execPulseSetpointTimeout l s
  | .substitutionTimeout t => Sys2Proof.Machine.execSubstitutionTimeout t s
  | .spareConnect => Sys2Proof.Machine.execSpareConnect s
  | .alternativeAccept ix => Sys2Proof.Machine.execAlternativeAccept ix s
  | .sourceUvFire ix => Sys2Proof.Machine.execSourceUvFire ix s
  | .sourceOvFire ix => Sys2Proof.Machine.execSourceOvFire ix s
  | .sourceComparatorClear ix ov => Sys2Proof.Machine.execSourceComparatorClear ix ov s
  | .nodeRampStart k => Sys2Proof.Machine.execNodeRampStart k s
  | .nodeLive k => Sys2Proof.Machine.execNodeLive k s
  | .sourceListStall => Sys2Proof.Machine.execSourceListStall s
  | .rideThroughTakeover => Sys2Proof.Machine.execRideThroughTakeover s
  | .guardTrip p => Sys2Proof.Machine.execGuardTrip p s
  | .chargeTimeout p => Sys2Proof.Machine.execChargeTimeout p s
  | .prechargeTimeout p => Sys2Proof.Machine.execPrechargeTimeout p s
  | .removalOvc p => Sys2Proof.Machine.execRemovalOvc p s
  | .presenceLost p => Sys2Proof.Machine.execPresenceLost p s
  | .reinsertion p => Sys2Proof.Machine.execReinsertion p s
  | .bpRestart p => Sys2Proof.Machine.execBpRestart p s
  | .bpZlearn p => Sys2Proof.Machine.execBpZlearn p s
  | .probeResult p => Sys2Proof.Machine.execProbeResult p s
  | .guardLockSet => Sys2Proof.Machine.execGuardLockSet s
  | .fineConversionDone ix raw => Sys2Proof.Machine.execFineConversionDone ix raw s
  | .slStart ix => Sys2Proof.Machine.execSlStart ix s
  | .slOvrClr ix => Sys2Proof.Machine.execSlOvrClr ix s
  | .openWireDetect ix => Sys2Proof.Machine.execOpenWireDetect ix s
  | .converterFault c parity => Sys2Proof.Machine.execConverterFault c parity s
  | .pairSettleEnd k => Sys2Proof.Machine.execPairSettleEnd k s
  | .axSlotResult raw => Sys2Proof.Machine.execAxSlotResult raw s
  | .axWindowFire w hi => Sys2Proof.Machine.execAxWindowFire w hi s
  | .syscalZero ix => Sys2Proof.Machine.execSyscalZero ix s
  | .syscalFull ix => Sys2Proof.Machine.execSyscalFull ix s
  | .syscalAbort ix => Sys2Proof.Machine.execSyscalAbort ix s
  | .syscalDone ix => Sys2Proof.Machine.execSyscalDone ix s
  | .axSyscalZero => Sys2Proof.Machine.execAxSyscalZero s
  | .axSyscalFull => Sys2Proof.Machine.execAxSyscalFull s
  | .axSyscalAbort => Sys2Proof.Machine.execAxSyscalAbort s
  | .axSyscalDone => Sys2Proof.Machine.execAxSyscalDone s
  | .bgCalStart => Sys2Proof.Machine.execBgCalStart s
  | .bgCalStep => Sys2Proof.Machine.execBgCalStep s
  | .bgCalUpdate => Sys2Proof.Machine.execBgCalUpdate s
  | .bgCalLate ix => Sys2Proof.Machine.execBgCalLate ix s
  | .refTraceRequest => Sys2Proof.Machine.execRefTraceRequest s
  | .refTraceBegin => Sys2Proof.Machine.execRefTraceBegin s
  | .refTraceToCalv => Sys2Proof.Machine.execRefTraceToCalv s
  | .refTraceDone => Sys2Proof.Machine.execRefTraceDone s
  | .refTraceAbort => Sys2Proof.Machine.execRefTraceAbort s
  | .clerkRun c => Sys2Proof.Machine.execClerkRun c s
  | .clerkStop c => Sys2Proof.Machine.execClerkStop c s
  | .clerkListSelect c user => Sys2Proof.Machine.execClerkListSelect c user s
  | .eventPop => Sys2Proof.Machine.execEventPop s
  | .eqLostClr => Sys2Proof.Machine.execEqLostClr s
  | .packBusDone w => Sys2Proof.Machine.execPackBusDone w s
  | .tallyMatch n => Sys2Proof.Machine.execTallyMatch n s
  | .tallyWrap n => Sys2Proof.Machine.execTallyWrap n s
  | .tallyCaptureRise n => Sys2Proof.Machine.execTallyCaptureRise n s
  | .tallyCaptureFall n => Sys2Proof.Machine.execTallyCaptureFall n s
  | .tallyGateChange n level => Sys2Proof.Machine.execTallyGateChange n level s
  | .tallySyncStart mask => Sys2Proof.Machine.execTallySyncStart mask s
  | .tallyCntLWrite n v => Sys2Proof.Machine.execTallyCntLWrite n v s
  | .tallyCntHWrite n v => Sys2Proof.Machine.execTallyCntHWrite n v s
  | .tallyCmpLWrite n v => Sys2Proof.Machine.execTallyCmpLWrite n v s
  | .tallyCmpHWrite n v => Sys2Proof.Machine.execTallyCmpHWrite n v s
  | .tallyParityError n => Sys2Proof.Machine.execTallyParityError n s
  | .calTrain t => Sys2Proof.Machine.execCalTrain t s
  | .calSrc ix => Sys2Proof.Machine.execCalSrc ix s
  | .calRing => Sys2Proof.Machine.execCalRing s
  | .calAbort => Sys2Proof.Machine.execCalAbort s
  | .calVerdict m => Sys2Proof.Machine.execCalVerdict m s
  | .calSave => Sys2Proof.Machine.execCalSave s
  | .calSaveDone r => Sys2Proof.Machine.execCalSaveDone r s
  | .unfenceRequest page => Sys2Proof.Machine.execUnfenceRequest page s
  | .readmission u found => Sys2Proof.Machine.execReadmission u found s
  | .hostPortAutoReadmit p => Sys2Proof.Machine.execHostPortAutoReadmit p s
  | .deviceResume => Sys2Proof.Machine.execDeviceResume s
  | .faultWordClear hi m => Sys2Proof.Machine.execFaultWordClear hi m s
  | .faultWordLRead p => Sys2Proof.Machine.execFaultWordLRead p s
  | .tkNumLRead p => Sys2Proof.Machine.execTkNumLRead p s
  | .tkCntClr => Sys2Proof.Machine.execTkCntClr s
  | .ceCntClr => Sys2Proof.Machine.execCeCntClr s
  | .txnClear p => Sys2Proof.Machine.execTxnClear p s
  | .txnOpen p => Sys2Proof.Machine.execTxnOpen p s
  | .txnCommit p cyc => Sys2Proof.Machine.execTxnCommit p cyc s
  | .txnCommitAt p cyc => Sys2Proof.Machine.execTxnCommitAt p cyc s
  | .txnAbort p cyc => Sys2Proof.Machine.execTxnAbort p cyc s
  | .txnUndefinedCmd p => Sys2Proof.Machine.execTxnUndefinedCmd p s
  | .txnTgtWrite p v => Sys2Proof.Machine.execTxnTgtWrite p v s
  | .txnTimeout p => Sys2Proof.Machine.execTxnTimeout p s
  | .snapHold p => Sys2Proof.Machine.execSnapHold p s
  | .snapRelease p => Sys2Proof.Machine.execSnapRelease p s
  | .snapHoldExpiry p => Sys2Proof.Machine.execSnapHoldExpiry p s
  | .registerWrite p page off v cyc => Sys2Proof.Machine.execRegisterWrite p page off v cyc s
  | .hostPortConfigWrite page off v => Sys2Proof.Machine.execHostPortConfigWrite page off v s
  | .ringTrainingDone east flight => Sys2Proof.Machine.execRingTrainingDone east flight s
  | .ringPortDown east => Sys2Proof.Machine.execRingPortDown east s
  | .masterElection => Sys2Proof.Machine.execMasterElection s
  | .tickFrameReceive f => Sys2Proof.Machine.execTickFrameReceive f s
  | .demandFrameReceive east f => Sys2Proof.Machine.execDemandFrameReceive east f s
  | .imageFrameReceive east f => Sys2Proof.Machine.execImageFrameReceive east f s
  | .announceBlock east hops a => Sys2Proof.Machine.execAnnounceBlock east hops a s
  | .markerMissed => Sys2Proof.Machine.execMarkerMissed s
  | .masterSuccession => Sys2Proof.Machine.execMasterSuccession s
  | .masterDrop => Sys2Proof.Machine.execMasterDrop s
  | .tickAlign num => Sys2Proof.Machine.execTickAlign num s
  | .alignTimeout => Sys2Proof.Machine.execAlignTimeout s
  | .ringEntry => Sys2Proof.Machine.execRingEntry s
  | .ringRejoin => Sys2Proof.Machine.execRingRejoin s
  | .ringLeave => Sys2Proof.Machine.execRingLeave s
  | .rgCntClr => Sys2Proof.Machine.execRgCntClr s
  | .spiRead cmd ad crc n part e f => Sys2Proof.Machine.execSpiRead cmd ad crc n part e f s
  | .spiWrite cmd ad crc l part f => Sys2Proof.Machine.execSpiWrite cmd ad crc l part f s
  | .spiCntClr => Sys2Proof.Machine.execSpiCntClr s
  | .twmPointerWrite q pec e f => Sys2Proof.Machine.execTwmPointerWrite q pec e f s
  | .twmDataWrite q data pec e cyc f => Sys2Proof.Machine.execTwmDataWrite q data pec e cyc f s
  | .twmRead n e ecc f => Sys2Proof.Machine.execTwmRead n e ecc f s
  | .twmSclTimeout => Sys2Proof.Machine.execTwmSclTimeout s
  | .twmCntClr => Sys2Proof.Machine.execTwmCntClr s
  | .alertResponse lost => Sys2Proof.Machine.execAlertResponse lost s
  | .packBusGo => Sys2Proof.Machine.execPackBusGo s
  | .twpTransactionStart f => Sys2Proof.Machine.execTwpTransactionStart f s
  | .twpArbLoss byte b => Sys2Proof.Machine.execTwpArbLoss byte b s
  | .twpSclTimeout => Sys2Proof.Machine.execTwpSclTimeout s
  | .twpBusBusyTimeout => Sys2Proof.Machine.execTwpBusBusyTimeout s
  | .twpPeerWrite ix data stop => Sys2Proof.Machine.execTwpPeerWrite ix data stop s
  | .twpPeerRead ix n => Sys2Proof.Machine.execTwpPeerRead ix n s
  | .storeAddrWrite hi v => Sys2Proof.Machine.execStoreAddrWrite hi v s
  | .storeDataRead e => Sys2Proof.Machine.execStoreDataRead e s
  | .storeDataWrite w => Sys2Proof.Machine.execStoreDataWrite w s
  | .storeErase sector => Sys2Proof.Machine.execStoreErase sector s
  | .storeProg => Sys2Proof.Machine.execStoreProg s
  | .storeAbort => Sys2Proof.Machine.execStoreAbort s
  | .storeOpStart => Sys2Proof.Machine.execStoreOpStart s
  | .storeProgramDone r => Sys2Proof.Machine.execStoreProgramDone r s
  | .storeEraseDone r => Sys2Proof.Machine.execStoreEraseDone r s
  | .ledgerAppend => Sys2Proof.Machine.execLedgerAppend s
  | .larderArm => Sys2Proof.Machine.execLarderArm s
  | .larderForce => Sys2Proof.Machine.execLarderForce s
  | .larderFlush => Sys2Proof.Machine.execLarderFlush s
  | .larderFreeze => Sys2Proof.Machine.execLarderFreeze s
  | .larderFlushDone => Sys2Proof.Machine.execLarderFlushDone s
  | .powerUp p => Sys2Proof.Machine.execPowerUp p s
  | .powerDown => Sys2Proof.Machine.execPowerDown s
  | .vbiasGood => Sys2Proof.Machine.execVbiasGood s
  | .bootComplete => Sys2Proof.Machine.execBootComplete s
  | .autorunEntry => Sys2Proof.Machine.execAutorunEntry s
  | .resetPin => Sys2Proof.Machine.execResetPin s
  | .brownOut core => Sys2Proof.Machine.execBrownOut core s
  | .supplyMonitorTrip ix => Sys2Proof.Machine.execSupplyMonitorTrip ix s
  | .clockMonitorTrip pll => Sys2Proof.Machine.execClockMonitorTrip pll s
  | .slowClockFail => Sys2Proof.Machine.execSlowClockFail s
  | .deviceRun => Sys2Proof.Machine.execDeviceRun s
  | .deviceHold => Sys2Proof.Machine.execDeviceHold s
  | .deviceSleep => Sys2Proof.Machine.execDeviceSleep s
  | .deviceReset key => Sys2Proof.Machine.execDeviceReset key s
  | .sleepEntry => Sys2Proof.Machine.execSleepEntry s
  | .wake w => Sys2Proof.Machine.execWake w s
  | .wakeComplete e => Sys2Proof.Machine.execWakeComplete e s
  | .wakeVbiasTimeout => Sys2Proof.Machine.execWakeVbiasTimeout s
  | .testKeyWrite p v => Sys2Proof.Machine.execTestKeyWrite p v s
  | .testGo ext => Sys2Proof.Machine.execTestGo ext s
  | .testStop cyc => Sys2Proof.Machine.execTestStop cyc s
  | .testExit => Sys2Proof.Machine.execTestExit s
  | .loopbackDone r cyc => Sys2Proof.Machine.execLoopbackDone r cyc s
  | .testModeTimeout => Sys2Proof.Machine.execTestModeTimeout s
  | .tallyCountEdge n => Sys2Proof.Machine.execTallyCountEdge n s
  | .dutyOnTimeStart n => Sys2Proof.Machine.execDutyOnTimeStart n s
  | .buckBoostTonEnd n => Sys2Proof.Machine.execBuckBoostTonEnd n s
  | .axWindowClear w hi => Sys2Proof.Machine.execAxWindowClear w hi s
  | .pairOddWordProduced k raw => Sys2Proof.Machine.execPairOddWordProduced k raw s

end Sys2Proof.Machine
end

