-- ==== Sys2Proof/Safety.lean ====
section
/-! DEFINITION. What counts as a sound state, in the terms the statements use: the storeroom's array in its canonical form, and on
no leg both outputs high at once (R54, R59). -/

namespace Sys2Proof.Machine

/-- No leg of the family has both outputs high. -/
def legsApart (v : Vector LegHw 24) : Prop := ∀ n : Leg, (v[n].pwmH && v[n].pwmL) = false

/-- The array of the storeroom is in its canonical form, and no leg drives both its switches. -/
def Sound (s : State) : Prop := Memory.wf s.x.store.mem = true ∧ legsApart s.x.hw

/-- Bit b of PG_EVT of a page is set. -/
def EvtSet (t : State) (page b : Nat) : Prop := bit (t.reg (addr page 0x06)) b = true

/-- Bit b of PG_ERR of a page is set. -/
def ErrSet (t : State) (page b : Nat) : Prop := bit (t.reg (a_PG_ERR page)) b = true

/-- Both outputs of a leg are low. -/
def OutputsLow (t : State) (n : Leg) : Prop := t.x.hw[n].pwmH = false ∧ t.x.hw[n].pwmL = false

/-- Only an error is raised: its bit of PG_ERR is set and no other register changes; the collector may latch it, and with that
a pin reaction may drive outputs low and put enables to their straps, and the larder may be triggered (R379, R385, R503); a running
self-check of the unit fails by it (R396). -/
def OnlyRaised (s t : State) (page b : Nat) : Prop :=
  bit (t.reg (a_PG_ERR page)) b = true ∧ (∀ a, a ≠ a_PG_ERR page → t.reg a = s.reg a) ∧
    t = { s with
      cp := { s.cp with regs := t.cp.regs }
      x := { s.x with
        regs := t.x.regs, checks := (noteCheck s page (oneHot b)).x.checks, col := t.x.col, hw := t.x.hw, srcEn := t.x.srcEn
        batEn := t.x.batEn, larder := t.x.larder } }

end Sys2Proof.Machine
end

