-- ==== Sys2Proof/Certificates/Slice0/Obligations.lean ====
section
/-! DEFINITION. The statements for the provers. -/

open Sys2Proof Sys2Proof.Machine

/-! ### The queue -/

/-- A step takes the command at the front of the queue and runs it with the queue's rest. -/
def Obligations.StepRunsFront : Prop :=
  ∀ (c : Instr) (rest : List Instr) (s : State), step { s with pending := c :: rest } = exec c { s with pending := rest }

/-- On an empty queue the block idles (log entry 1: the model's choice). -/
def Claims.StepIdles : Prop := ∀ s : State, s.pending = [] → step s = .next s

/-- Every command answers a next state: no command faults and none is refused. -/
def Obligations.EveryCommandCompletes : Prop := ∀ (c : Instr) (s : State), ∃ t, exec c s = .next t

/-! ### Invariants -/

/-- Every step keeps a sound state sound: the storeroom's array in its canonical form, and no leg with both outputs high (R59). -/
def Obligations.StepKeepsSound : Prop := ∀ s t : State, Sound s → step s = .next t → Sound t

/-- The state after reset is sound. -/
def Obligations.ResetSound : Prop := Sound State.reset

/-- A command acts on everything but the queue. -/
def Claims.ExecKeepsQueue : Prop :=
  ∀ (c : Instr) (s t : State), Sound s → exec c s = .next t → t.pending = s.pending

/-- The queue (log entry 1 for the empty one): with nothing waiting a step changes nothing, and no command touches what waits. -/
def Obligations.QueueKept : Prop := Claims.StepIdles ∧ Claims.ExecKeepsQueue

/-! ### Clerks: arithmetic, logic, shift, compare -/

/-- ADD and SUB of a clerk that may run: the sum or difference modulo 2^32 in Rd, Z and N of it, the carry out of bit 31 or the
borrow in C; the next instruction follows and nothing else changes. -/
def Claims.ClerkSums : Prop :=
  ∀ (c : ClerkIx) (d : Fin 4) (o : CkOp) (s : State), ckReady s c = true →
    exec (.add c d o) s = .next (s.modCk c fun v =>
      let x := v.regs[d] + ckOperand v o true
      { v with
        regs := upd v.regs d x, z := x == 0, n := x.getLsbD 31
        c := decide (2 ^ 32 ≤ (v.regs[d]).toNat + (ckOperand v o true).toNat), pc := v.pc + 1, count := v.count + 1 }) ∧
    exec (.sub c d o) s = .next (s.modCk c fun v =>
      let x := v.regs[d] - ckOperand v o true
      { v with
        regs := upd v.regs d x, z := x == 0, n := x.getLsbD 31
        c := decide ((v.regs[d]).toNat < (ckOperand v o true).toNat), pc := v.pc + 1, count := v.count + 1 })

/-- AND and OR of a clerk that may run: bitwise with the zero-extended operand, Z and N of the result, C unchanged. -/
def Claims.ClerkLogic : Prop :=
  ∀ (c : ClerkIx) (d : Fin 4) (o : CkOp) (s : State), ckReady s c = true →
    exec (.and c d o) s = .next (s.modCk c fun v =>
      let x := v.regs[d] &&& ckOperand v o false
      { v with regs := upd v.regs d x, z := x == 0, n := x.getLsbD 31, pc := v.pc + 1, count := v.count + 1 }) ∧
    exec (.or c d o) s = .next (s.modCk c fun v =>
      let x := v.regs[d] ||| ckOperand v o false
      { v with regs := upd v.regs d x, z := x == 0, n := x.getLsbD 31, pc := v.pc + 1, count := v.count + 1 })

/-- The signed amount of SH (R306): the immediate, or bits 7:0 of the register read as a signed byte. -/
def shAmount (v : ClerkSt) (o : CkOp) : Int :=
  match o with
  | .imm w => w.toInt
  | .reg r => ((v.regs[r]).truncate 8 : BitVec 8).toInt

/-- SH of a clerk that may run (R306). The result y of a shift of x by amount k, and the flags of it; nothing else changes but C and the
count of instructions. -/
def Obligations.ClerkShift : Prop :=
  ∀ (c : ClerkIx) (a : Bool) (d : Fin 4) (o : CkOp) (s : State), ckReady s c = true →
    ∃ (y : BitVec 32) (out : Bool),
      exec (.sh c a d o) s = .next (s.modCk c fun v => { v with
        regs := upd v.regs d y, z := y == 0, n := y.getLsbD 31, c := out, pc := v.pc + 1, count := v.count + 1 }) ∧
      (let v := s.cp.clerks[c]
       let x := v.regs[d]
       let k := shAmount v o
       let fill := a && x.getLsbD 31
       (k = 0 → y = x ∧ out = false) ∧
       (0 < k → (∀ i : Nat, i < 32 → y.getLsbD i = (decide (k.toNat ≤ i) && x.getLsbD (i - k.toNat))) ∧
         (k < 32 → out = x.getLsbD (32 - k.toNat))) ∧
       (k < 0 → (∀ i : Nat, i < 32 → y.getLsbD i = if i + k.natAbs < 32 then x.getLsbD (i + k.natAbs) else fill) ∧
         (-32 < k → out = x.getLsbD (k.natAbs - 1))))

/-- CMP and TCHK of a clerk that may run: CMP compares for equality, signed and unsigned less; TCHK sets Z when the timer is 0 and
clears N. No register changes. -/
def Claims.ClerkCompare : Prop :=
  ∀ (c : ClerkIx) (d : Fin 4) (o : CkOp) (s : State), ckReady s c = true →
    exec (.cmp c d o) s = .next (s.modCk c fun v =>
      let b := ckOperand v o true
      { v with
        z := v.regs[d] == b, n := (v.regs[d]).slt b, c := (v.regs[d]).ult b, pc := v.pc + 1, count := v.count + 1 }) ∧
    exec (.tchk c d) s = .next (s.modCk c fun v =>
      { v with z := v.timers[d] == 0, n := false, pc := v.pc + 1, count := v.count + 1 })

/-- The arithmetic and logic of a clerk, and its comparisons. -/
def Obligations.ClerkArithmetic : Prop := Claims.ClerkSums ∧ Claims.ClerkLogic ∧ Claims.ClerkCompare

/-! ### Clerks: loads, stores, control -/

/-- The offset of LD and ST (R305): with X = 1 D[7:0] is added, modulo 256. -/
def clerkOffset (v : ClerkSt) (x : Bool) (off : Byte) : Byte := if x then off + (v.regs[(3 : Fin 4)]).truncate 8 else off

/-- LD and LDI of a clerk that may run: LD takes a register of the published snapshot (TXN and SNAP read 0), zero- or sign-extended;
LDI a sign-extended immediate, or with H = 1 the immediate into bits 31:16 with bits 15:0 kept. Z and N follow the new value. -/
def Claims.ClerkLoads : Prop :=
  ∀ (c : ClerkIx) (sx hi x : Bool) (d : Fin 4) (page off : Byte) (i : Word) (s : State), ckReady s c = true →
    exec (.ld c sx d page x off) s = .next (s.modCk c fun v =>
      let w := clerkRead s page.toNat (clerkOffset s.cp.clerks[c] x off).toNat
      let y : BitVec 32 := if sx then w.signExtend 32 else w.zeroExtend 32
      { v with regs := upd v.regs d y, z := y == 0, n := y.getLsbD 31, pc := v.pc + 1, count := v.count + 1 }) ∧
    (page = 2 ∨ page = 3 → clerkRead s page.toNat (clerkOffset s.cp.clerks[c] x off).toNat = 0) ∧
    exec (.ldi c d hi i) s = .next (s.modCk c fun v =>
      let y : BitVec 32 := if hi then i ++ (v.regs[d]).truncate 16 else i.signExtend 32
      { v with regs := upd v.regs d y, z := y == 0, n := y.getLsbD 31, pc := v.pc + 1, count := v.count + 1 })

/-- ST of a clerk that may run. To a staged register that its permission mask grants, the low half of Rs enters the clerk's commit
unit for the boundary of R15; a page of no group that it holds, TXN, SNAP and the immediate domain are denied (R313) with CK_STAT.DENIED,
the address and PG_ERR.DENIED; an unassigned page is ignored (R565). The instruction counts in each case. -/
def Claims.ClerkStores : Prop :=
  ∀ (c : ClerkIx) (r : Fin 4) (page off : Byte) (x : Bool) (s : State), ckReady s c = true →
    (let v := s.cp.clerks[c]
     let k := (clerkOffset v x off).toNat
     let p := page.toNat
     let next (v : ClerkSt) : ClerkSt := { v with pc := v.pc + 1, count := v.count + 1 }
     (assigned p = true → ckDenied s c p k = false → stageable p k = true →
       ∃ t, exec (.st c r page x off) s = .next t ∧ t.x = s.x ∧ t.cp.regs = s.cp.regs ∧
         t.cp.clerks = upd s.cp.clerks c (next v) ∧
         (∃ u ∈ t.cp.clerkUnits, u.src = .clerk c ∧ u.due = clerkDue s ∧
           ∃ w ∈ u.writes, w.page = p ∧ w.off = k ∧ w.val = (v.regs[r]).truncate 16)) ∧
     (assigned p = true → ckDenied s c p k = true →
       ∃ t, exec (.st c r page x off) s = .next t ∧ t.cp.clerkUnits = s.cp.clerkUnits ∧
         t.cp.clerks = upd s.cp.clerks c { next v with denyPage := p, denyOff := k } ∧
         bit (t.reg (a_PG_ERR (0x81 + c.val))) 2 = true ∧ bit (t.reg (a_CK_STAT c.val)) 10 = true) ∧
     (assigned p = false → exec (.st c r page x off) s = .next (s.modCk c next)))

/-- The loads and stores of a clerk. -/
def Obligations.ClerkMemory : Prop := Claims.ClerkLoads ∧ Claims.ClerkStores

/-- The conditions of BR (R307), and NOP: a branch whose condition holds goes to its target of 0 to 239, else the next instruction
follows. No register and no flag changes. -/
def Obligations.ClerkBranch : Prop :=
  ∀ (c : ClerkIx) (k : Fin 8) (target : Nat) (s : State), ckReady s c = true → target < 240 →
    (let v := s.cp.clerks[c]
     let holds : Prop := (k = 0) ∨ (k = 1 ∧ v.z = true) ∨ (k = 2 ∧ v.z = false) ∨ (k = 3 ∧ v.n = true) ∨ (k = 4 ∧ v.n = false) ∨
       (k = 5 ∧ v.c = true) ∨ (k = 6 ∧ v.c = false) ∨ (k = 7 ∧ (v.z = true ∨ v.n = true))
     (holds → exec (.br c k target) s = .next (s.modCk c fun v => { v with pc := target, count := v.count + 1 })) ∧
     (¬ holds → exec (.br c k target) s = .next (s.modCk c fun v => { v with pc := v.pc + 1, count := v.count + 1 })) ∧
     exec (.nop c) s = .next (s.modCk c fun v => { v with pc := v.pc + 1, count := v.count + 1 }))

/-- WAIT, HALT and the end of a wait. WAIT ends the clerk's tick with its wait count at op[15:0], 0 counting as 1 (R308); HALT stops it
with PG_EVT.HALT (R301); a clerk in WAIT whose count is 0 goes on. -/
def Claims.ClerkWaits : Prop :=
  ∀ (c : ClerkIx) (o : CkOp) (s : State),
    (ckReady s c = true → exec (.wait c o) s = .next (s.modCk c fun v => { v with
      run := .wait, ended := true, pc := v.pc + 1, count := v.count + 1
      wait := if (ckOperand v o false).toNat % 65536 = 0 then 1 else (ckOperand v o false).toNat % 65536 })) ∧
    (ckReady s c = true → exec (.halt c) s = .next ((s.modCk c fun v => { v with
      run := .halted, ended := true, pc := v.pc + 1, count := v.count + 1 }).evt (0x81 + c.val) 3)) ∧
    (clerkState s c = 2 → s.cp.clerks[c].wait = 0 →
      exec (.waitEnd c) s = .next (s.modCk c fun v => { v with run := .running }))

/-- WAITC and its re-test (R309): the register bit counts in modes 0 and 1, the expired timer in modes 1 and 2. Met, the clerk goes on
with the next instruction and Z says whether the register bit met it; not met, its tick ends in WAITC and the condition is kept for
the first instruction of a later slot. -/
def Claims.ClerkCondition : Prop :=
  ∀ (c : ClerkIx) (p : Bool) (t : Fin 4) (page off : Byte) (b : Fin 16) (mode : Fin 3) (s : State),
    (let k : WaitCond := { p := p, t := t, page := page.toNat, off := off.toNat, bit := b.val, mode := mode.val }
     let byBit : Bool := mode != 2 && (bit (clerkRead s page.toNat off.toNat) b.val == p)
     let byTimer : Bool := mode != 0 && s.cp.clerks[c].timers[t] == 0
     let met (v : ClerkSt) : ClerkSt := { v with run := .running, z := byBit, pc := v.pc + 1, count := v.count + 1 }
     let wait (v : ClerkSt) : ClerkSt := { v with run := .waitc, cond := k, ended := true, count := v.count + 1 }
     (ckReady s c = true → exec (.waitc c p t page b mode off) s = .next (s.modCk c (if byBit || byTimer then met else wait))) ∧
     (ticking s = true → clerkState s c = 3 → s.cp.clerks[c].ended = false → s.cp.clerks[c].count = 0 → s.cp.clerks[c].cond = k →
       exec (.waitcRetest c) s = .next (s.modCk c (if byBit || byTimer then met else wait))))

/-- WAIT, HALT and WAITC. -/
def Obligations.ClerkPauses : Prop := Claims.ClerkWaits ∧ Claims.ClerkCondition

/-- EVT, TSTART, PBR and PBW of a clerk that may run. EVT adds a record in order of issue (R315). TSTART loads an immediate times 1,
256 or 65,536, or with unit 0 the whole register (R310). PBR and PBW are accepted with Z = 1 when the request flag is clear, and set
it; else they are ignored with Z = 0 (R318). -/
def Obligations.ClerkRequests : Prop :=
  ∀ (c : ClerkIx) (r : Fin 4) (l w : Bool) (code : Word) (unit : Fin 3) (a : BitVec 7) (cmd : Byte) (s : State), ckReady s c = true →
    (let next (v : ClerkSt) : ClerkSt := { v with pc := v.pc + 1, count := v.count + 1 }
     let ask (q : PbReq) (v : ClerkSt) : ClerkSt :=
       if v.req then { next v with z := false } else { next v with req := true, reqNew := some q, z := true }
     exec (.evt c r l code) s = .next (s.modCk c fun v => { next v with
       events := v.events ++ [{ clerk := c, ledger := l, code := code, data := (v.regs[r]).truncate 16 }] }) ∧
     exec (.tstart c r unit (.imm code)) s = .next (s.modCk c fun v => { next v with
       timers := upd v.timers r (code.toNat * (if unit = 0 then 1 else if unit = 1 then 256 else 65536)) }) ∧
     (∀ q : Fin 4, exec (.tstart c r 0 (.reg q)) s = .next (s.modCk c fun v => { next v with
       timers := upd v.timers r (v.regs[q]).toNat })) ∧
     exec (.pbr c w a cmd) s = .next (s.modCk c (ask
       { who := some c, write := false, word := w, addr := a.toNat, cmd := cmd.toNat, data := 0 })) ∧
     exec (.pbw c w r a cmd) s = .next (s.modCk c (ask
       { who := some c, write := true, word := w, addr := a.toNat, cmd := cmd.toNat, data := (s.cp.clerks[c].regs[r]).truncate 16 })))

/-- An illegal instruction (R323): a word that decodes to none with its cause, a branch target of 240 or more with cause 3, execution past
instruction 239 with cause 4. The clerk stops there with PG_ERR.ILLEGAL, CK_FLT holds cause and PC, and its unit of the tick is
discarded with cause 7. -/
def Claims.ClerkIllegal : Prop :=
  ∀ (c : ClerkIx) (w : BitVec 32) (cause : Nat) (s : State), ckReady s c = true →
    (let v := s.cp.clerks[c]
     let stopped (cause : Nat) (t : State) : Prop :=
       t.cp.clerks = upd s.cp.clerks c { v with fltCause := cause, fltPc := min 239 v.pc, ended := true, illegal := true } ∧
       bit (t.reg (a_PG_ERR (0x81 + c.val))) 0 = true ∧
       (∀ u ∈ t.cp.clerkUnits, u.src = .clerk c → u.due = clerkDue s → u.reject = some 7)
     (v.pc < 240 → ckDecode w = .illegal cause → ∃ t, exec (.illegalInstruction c w) s = .next t ∧ stopped cause t) ∧
     (240 ≤ v.pc → ∃ t, exec (.illegalInstruction c w) s = .next t ∧ stopped 4 t) ∧
     (∀ (k : Fin 8) (target : Nat), 240 ≤ target → ∃ t, exec (.br c k target) s = .next t ∧ stopped 3 t))

/-- A clerk's slot. With the user list, a clerk that reads HALT at the start of its slot executes it and leaves the rest of the slot idle
(R303); a trip of checker 3 names the clerk for a fence, records CK_FLT cause 5 and discards nothing else by itself (R324). -/
def Claims.ClerkSlot : Prop :=
  ∀ (c : ClerkIx) (pass : Bool) (cyc : Nat) (s : State), ticking s = true → s.x.dev ≠ .safe →
    (CK_CTRL_LISTSEL s c = true → ckReady s c = true → s.cp.clerks[c].pc < 240 → ckDecode (ckFetch s c s.cp.clerks[c].pc) = .halt →
      exec (.clerkSlot c pass .none) s = .next ((s.modCk c fun v => { v with
        run := .halted, ended := true, pc := v.pc + 1, count := v.count + 1 }).evt (0x81 + c.val) 3)) ∧
    ∃ t, exec (.clerkSlot c pass (.parity cyc)) s = .next t ∧
      t.x.tick.trips = s.x.tick.trips ++ [{ checker := 3, unit := [.clerk c], cyc := cyc }] ∧
      (t.cp.clerks[c].fltCause = 5 ∧ t.cp.clerks[c].ended = true) ∧ bit (t.reg (a_PG_ERR (0x81 + c.val))) 1 = true

/-- Illegal instructions, a clerk's slot and its checker. -/
def Obligations.ClerkFaults : Prop := Claims.ClerkIllegal ∧ Claims.ClerkSlot

/-- RUN, LISTSEL, POP and LOST_CLR as they take effect. RUN = 1 starts a stopped clerk with its registers, flags, timers and PC cleared;
RUN = 0 stops one that is not fenced; a list is selected while the clerk is STOPPED or FENCED and else dropped with LOCKWR (R321);
POP removes the head of the event queue (R317); the lost count clears. -/
def Obligations.ClerkControl : Prop :=
  ∀ (c : ClerkIx) (user : Bool) (s : State),
    (clerkState s c = 0 → ∃ t, exec (.clerkRun c) s = .next t ∧ CK_CTRL_RUN t c = true ∧
      (let w := t.cp.clerks[c]
       w.run = .running ∧ w.pc = 0 ∧ w.regs = Vector.replicate 4 0 ∧ w.timers = Vector.replicate 4 0 ∧
       w.z = false ∧ w.n = false ∧ w.c = false)) ∧
    (clerkState s c ≠ 0 → clerkState s c ≠ 6 → ∃ t, exec (.clerkStop c) s = .next t ∧ CK_CTRL_RUN t c = false ∧
      t.cp.clerks = upd s.cp.clerks c { s.cp.clerks[c] with run := .stopped, paused := false }) ∧
    (clerkState s c = 0 ∨ clerkState s c = 6 → exec (.clerkListSelect c user) s = .next (set_CK_CTRL_LISTSEL s c user)) ∧
    (clerkState s c ≠ 0 → clerkState s c ≠ 6 → CK_CTRL_LISTSEL s c ≠ user →
      exec (.clerkListSelect c user) s = .next (s.evt (0x81 + c.val) 5)) ∧
    exec .eventPop s = .next { s with cp := { s.cp with eq := s.cp.eq.drop 1 } } ∧
    exec .eqLostClr s = .next { s with cp := { s.cp with eqLost := 0 } }


/-! ### Legs -/

/-- Is the control switch of a phase on (R65, R71)? Of a pair, the region says which switch that is. -/
def controlOn (s : State) (n : Leg) : Bool :=
  if paired s n then
    match s.x.hw[n].region with
    | .buck => s.x.hw[n].pwmH
    | .boost => s.x.hw[partner n].pwmL
    | .buckBoost => s.x.hw[n].pwmH && s.x.hw[partner n].pwmL
  else if ctlIsHigh s n then s.x.hw[n].pwmH else s.x.hw[n].pwmL

/-- Is the rectifier of a phase on? -/
def rectifierOn (s : State) (n : Leg) : Bool :=
  if paired s n then
    match s.x.hw[n].region with
    | .boost => s.x.hw[partner n].pwmH
    | _ => s.x.hw[n].pwmL
  else if ctlIsHigh s n then s.x.hw[n].pwmL else s.x.hw[n].pwmH

/-- Only the switching hardware of a leg changes, and that of its partner if the two are a pair. -/
def OnlyLeg (s t : State) (n : Leg) : Prop :=
  t = { s with x := { s.x with hw := t.x.hw } } ∧
    ∀ m : Leg, m ≠ n → ¬ (paired s n = true ∧ m = partner n) → t.x.hw[m] = s.x.hw[m]

/-- At its valley a leg of a switching train moves its shadow to active, whatever its mode (R56), in diode emulation while its intake
node ramps (R185). In PEAK mode with a share the rectifier is off, a control switch still on goes off, and the control switch is about to
turn on (R66); a leg with nothing to do has both outputs low. In the off step of a shed the control switch is off and the rectifier on, or on
after its dead time, until zero-cross; once the period is over both outputs are low (R92). -/
def Claims.LegValleyMoves : Prop :=
  ∀ (n : Leg) (v : Int) (s : State), mayDrive s n = true → pairOut s n = false →
    (let sh : LegShadow := { s.cp.legs[n].shadow with de := s.cp.legs[n].shadow.de || nodeRamps s n }
     (sh.duty = false → sh.step = .on ∨ sh.step = .rampOut → s.x.hw[n].stuckValley < 3 → ∃ t, exec (.legValley n v) s = .next t ∧
       OnlyLeg s t n ∧ t.x.hw[n].active = sh ∧ t.x.hw[n].phase = .preCtl ∧ t.x.hw[n].armed = false ∧ rectifierOn t n = false ∧
       (s.x.hw[n].phase = .ctl → paired s n = false → controlOn t n = false)) ∧
     (sh.duty = true → sh.step = .on ∨ sh.step = .rampOut → s.x.hw[n].stuckValley < 3 → ∃ t, exec (.legValley n v) s = .next t ∧
       OnlyLeg s t n ∧ t.x.hw[n].active = sh) ∧
     (sh.step = .idle ∨ (sh.step = .shedOff ∧ (s.x.hw[n].phase = .idle ∨ s.x.hw[n].phase = .done)) →
       ∃ t, exec (.legValley n v) s = .next t ∧ OnlyLeg s t n ∧ t.x.hw[n].active = sh ∧ OutputsLow t n ∧
         (paired s n = true → OutputsLow t (partner n))) ∧
     (sh.step = .shedOff → s.x.hw[n].phase ≠ .idle → s.x.hw[n].phase ≠ .done → sh.disch = s.x.hw[n].active.disch →
       ∃ t, exec (.legValley n v) s = .next t ∧ OnlyLeg s t n ∧ t.x.hw[n].active = sh ∧ t.x.hw[n].armed = true ∧ controlOn t n = false ∧
         t.x.hw[n].phase = (if s.x.hw[n].phase = .rect then .rect else .preRect)))

/-- A leg that may not drive (R54) comes out of its valley with both outputs low and changes nothing else. -/
def Claims.LegHeldLow : Prop :=
  ∀ (n : Leg) (v : Int) (s : State), mayDrive s n = false → pairOut s n = false →
    ∃ t, exec (.legValley n v) s = .next t ∧ t.x.hw[n].pwmH = false ∧ t.x.hw[n].pwmL = false ∧
      t = { s with x := { s.x with hw := t.x.hw } } ∧ (∀ m : Leg, m ≠ n → t.x.hw[m] = s.x.hw[m])

/-- A leg's valley. -/
def Obligations.LegValley : Prop := Claims.LegValleyMoves ∧ Claims.LegHeldLow

/-- The dead time ends: the control switch turns on (R66), if the other switch of each leg is off; after an on-time the rectifier turns
on, unless diode emulation has seen the zero crossing of the period already (R63); in buck-boost that of the output leg likewise. -/
def Claims.LegDeadTime : Prop :=
  ∀ (n : Leg) (s : State), mayDrive s n = true → s.x.hw[n].boot = false →
    (pairOut s n = true → s.x.hw[n].phase = .preRect → s.x.hw[partner n].region = .buckBoost →
      ((s.x.hw[partner n].active.de && s.x.hw[partner n].zcSeen) = true →
        exec (.deadTimeEnd n) s = .next (s.modHw n fun h => { h with phase := .done })) ∧
      ((s.x.hw[partner n].active.de && s.x.hw[partner n].zcSeen) = false → s.x.hw[n].pwmL = false →
        exec (.deadTimeEnd n) s = .next (s.modHw n fun h => { h with pwmH := true, phase := .rect }))) ∧
    (pairOut s n = false →
    (s.x.hw[n].phase = .preCtl → s.x.hw[n].pwmL = false ∨ (paired s n = false ∧ ctlIsHigh s n = false) →
      s.x.hw[n].pwmH = false ∨ paired s n = true ∨ ctlIsHigh s n = true →
      (paired s n = true → s.x.hw[partner n].pwmH = false) →
      ∃ t, exec (.deadTimeEnd n) s = .next t ∧ OnlyLeg s t n ∧ controlOn t n = true ∧ t.x.hw[n].phase = .ctl ∧
        t.x.hw[n].armed = false) ∧
    (s.x.hw[n].phase = .preRect → (s.x.hw[n].active.de && s.x.hw[n].zcSeen) = true → s.x.hw[n].active.step ≠ .shedOff →
      exec (.deadTimeEnd n) s = .next (s.modHw n fun h => { h with phase := .done })) ∧
    (s.x.hw[n].phase = .preRect → (s.x.hw[n].active.de && s.x.hw[n].zcSeen) = false →
      s.x.hw[n].pwmH = false ∨ (paired s n = false ∧ ctlIsHigh s n = false) →
      s.x.hw[n].pwmL = false ∨ paired s n = true ∨ ctlIsHigh s n = true →
      (paired s n = true → s.x.hw[partner n].pwmL = false) →
      ∃ t, exec (.deadTimeEnd n) s = .next t ∧ OnlyLeg s t n ∧ rectifierOn t n = true ∧ t.x.hw[n].phase = .rect))

/-- What ends an on-time: a peak comparator that reads tripped and is not blanked (R61, R62, R67), TR_TONMAX (R66) and in DUTY mode the
on-time of the active values (R68). The control switch goes off, the length is captured with the flag of its cause, and the estimate is
invalid but after a peak trip in PEAK mode (R78). A comparator that does not read tripped, or a leg that is blanked or off, changes
nothing (R60). -/
def Obligations.LegOnTimeEnds : Prop :=
  ∀ (n : Leg) (ton : Nat) (v : Int) (s : State),
    (let none' (h : LegHw) : Prop := if h.fresh then h.iestNext = some none else h.iest = none
     let reads : Bool := peakReads s n s.x.hw[n].active.code (slopeOf s n) ton v
     (s.x.hw[n].phase = .ctl →
       (inSenseTest s n = false → s.x.hw[n].armed = true → reads = true → ∃ t, exec (.peakComparatorTrip n ⟨ton, v⟩) s = .next t ∧
         OnlyLeg s t n ∧ controlOn t n = false ∧ t.x.hw[n].phase = .preRect ∧ t.x.hw[n].ton = ton ∧ t.x.hw[n].tripped = true ∧
         t.x.hw[n].tonmax = false ∧ t.x.hw[n].noTrip = 0) ∧
       (s.x.hw[n].noTrip < 3 → ∃ t, exec (.tonmaxEnd n) s = .next t ∧ OnlyLeg s t n ∧ controlOn t n = false ∧
         t.x.hw[n].phase = .preRect ∧ t.x.hw[n].tonmax = true ∧ t.x.hw[n].tripped = false ∧ none' t.x.hw[n] ∧
         (∀ k, legTrain s n = some k → t.x.hw[n].ton = TR_TONMAX s k) ∧
         t.x.hw[n].noTrip = if noTripCounts s n then s.x.hw[n].noTrip + 1 else 0) ∧
       (s.x.hw[n].active.duty = true → ∃ t, exec (.dutyOnTimeEnd n) s = .next t ∧ OnlyLeg s t n ∧ controlOn t n = false ∧
         t.x.hw[n].phase = .preRect ∧ t.x.hw[n].ton = s.x.hw[n].active.ton / 64 ∧ t.x.hw[n].tripped = false ∧
         t.x.hw[n].tonmax = false ∧ none' t.x.hw[n])) ∧
     (inSenseTest s n = false → s.x.hw[n].phase ≠ .ctl ∨ s.x.hw[n].armed = false ∨ reads = false →
       exec (.peakComparatorTrip n ⟨ton, v⟩) s = .next s))

/-- At the end of blanking the comparators are armed (R60): a peak comparator that reads tripped then ends the on-time (R62) and counts
toward STUCK, one that does not starts that count again (R96). In DUTY mode the rectifier turns off a dead time before the on-time (R68). -/
def Claims.LegArms : Prop :=
  ∀ (n : Leg) (v : Int) (s : State),
    (let h := s.x.hw[n]
     let reads : Bool := peakReads s n h.active.code (slopeOf s n) (L_BLANK s n) v
     (h.blanked = true → reads = false →
       exec (.blankingEnd n v) s = .next (s.modHw n fun h => { h with armed := true, stuckBlank := 0 })) ∧
     (h.phase = .ctl → h.armed = false → reads = true → h.stuckBlank < 3 → ∃ t, exec (.blankingEnd n v) s = .next t ∧
       OnlyLeg s t n ∧ controlOn t n = false ∧ t.x.hw[n].phase = .preRect ∧ t.x.hw[n].ton = L_BLANK s n ∧
       t.x.hw[n].tripped = true ∧ t.x.hw[n].stuckBlank = h.stuckBlank + 1) ∧
     (h.blanked = false → exec (.blankingEnd n v) s = .next s) ∧
     (mayDrive s n = true → pairOut s n = false → h.active.duty = true → h.active.ton ≠ 0 →
       h.active.step ≠ .idle → h.phase = .rect ∨ h.phase = .done ∨ h.phase = .preRect →
       ∃ t, exec (.dutyOnTimeStart n) s = .next t ∧ OnlyLeg s t n ∧ rectifierOn t n = false ∧ t.x.hw[n].phase = .preCtl))

/-- Dead time, blanking and the on-time of DUTY mode. -/
def Obligations.LegTurns : Prop := Claims.LegDeadTime ∧ Claims.LegArms

/-- In diode emulation, once it is not blanked, a zero-cross comparator that reads tripped turns the rectifier off until the next valley,
and one that reads so before the rectifier's turn keeps it off (R60, R63); after the off step of a shed both outputs of the phase stay low
(R92). Without diode emulation, blanked, or at a voltage that is no zero crossing, the comparator ends nothing. -/
def Claims.LegZeroCross : Prop :=
  ∀ (n : Leg) (tzc : Nat) (v : Int) (s : State),
    (let acts : Bool := s.x.hw[n].active.de && s.x.hw[n].armed && zeroReads s n v
     (acts = true → s.x.hw[n].phase = .rect → s.x.hw[n].active.step ≠ .shedOff →
       ∃ t, exec (.zeroCrossTrip n ⟨tzc, v⟩) s = .next t ∧ OnlyLeg s t n ∧ rectifierOn t n = false ∧ t.x.hw[n].phase = .done ∧
         t.x.hw[n].zc = true ∧ t.x.hw[n].zcSeen = true) ∧
     (acts = true → s.x.hw[n].phase = .ctl ∨ (s.x.hw[n].phase = .preRect ∧ s.x.hw[n].active.step ≠ .shedOff) →
       ∃ t, exec (.zeroCrossTrip n ⟨tzc, v⟩) s = .next t ∧ OnlyLeg s t n ∧ t.x.hw[n].zcSeen = true ∧
         t.x.hw[n].phase = s.x.hw[n].phase ∧ t.x.hw[n].pwmH = s.x.hw[n].pwmH ∧ t.x.hw[n].pwmL = s.x.hw[n].pwmL) ∧
     (acts = true → s.x.hw[n].phase = .rect ∨ s.x.hw[n].phase = .preRect → s.x.hw[n].active.step = .shedOff →
       ∃ t, exec (.zeroCrossTrip n ⟨tzc, v⟩) s = .next t ∧ OnlyLeg s t n ∧ OutputsLow t n ∧
         (paired s n = true → OutputsLow t (partner n)) ∧ t.x.hw[n].zc = true) ∧
     (acts = false → exec (.zeroCrossTrip n ⟨tzc, v⟩) s = .next s))

/-- A four-switch pair (R71): at the crest a high-side switch that is held on is released until the dead time ends; in buck-boost the
output leg's low-side switch turns off TR_BB.TON after the valley, and its rectifier follows a dead time later. The test currents of
PREBIAS stop at cycle 240 (R64). -/
def Claims.LegPairs : Prop :=
  ∀ (n : Leg) (s : State),
    (paired s n = true → s.x.hw[n].pwmH = true →
      (n.val % 2 = 1 ∧ s.x.hw[phaseLeg s n].region = .buck) ∨ (n.val % 2 = 0 ∧ s.x.hw[n].region = .boost) →
      exec (.bootstrapRelease n) s = .next (s.modHw n fun h => { h with pwmH := false, boot := true })) ∧
    (paired s n = true → n.val % 2 = 0 → s.x.hw[n].region = .buckBoost → s.x.hw[partner n].pwmL = true →
      ∃ t, exec (.buckBoostTonEnd n) s = .next t ∧ t = { s with x := { s.x with hw := t.x.hw } } ∧
        (∀ m : Leg, m ≠ partner n → t.x.hw[m] = s.x.hw[m]) ∧ t.x.hw[partner n].pwmL = false ∧ t.x.hw[partner n].phase = .preRect) ∧
    exec .senseTestEnd s = .next { s with x := { s.x with senseTest := false } }

/-- Zero crossings and four-switch pairs. -/
def Obligations.LegCrossings : Prop := Claims.LegZeroCross ∧ Claims.LegPairs

/-- A leg that fails is fenced at once, whatever the reaction (R96, R97): a peak comparator that reads tripped during the sense test of
PREBIAS, at code 64, sets OPENWIRE (R64), the driver's fault pin of a leg that switches DFLT. The leg's outputs are low and its train has it off; of a pair, the
partner too (R70). -/
def Obligations.LegFails : Prop :=
  ∀ (n : Leg) (ton : Nat) (v : Int) (s : State),
    (let failed (b : Nat) (t : State) : Prop :=
       bit (t.reg (a_PG_ERR (0x10 + n.val))) b = true ∧ t.isFenced (.leg n) = true ∧ OutputsLow t n ∧ t.cp.legs[n].on = false ∧
       (paired s n = true → OutputsLow t (partner n) ∧ t.cp.legs[partner n].on = false) ∧
       (∀ m : Leg, m ≠ n → ¬ (paired s n = true ∧ m = partner n) → t.cp.legs[m] = s.cp.legs[m])
     (inSenseTest s n = true → s.isFenced (.leg n) = false → testReads s n v = true →
       ∃ t, exec (.peakComparatorTrip n ⟨ton, v⟩) s = .next t ∧ failed 3 t) ∧
     (L_CFG_DFLT_EN s n = true → legSwitches s n = true →
       ∃ t, exec (.driverFault n) s = .next t ∧ failed 2 t))
/-! ### The tick -/

/-- Cycle 0 of a tick, in a device that the commits of the boundary do not reset. TICKNUM advances by one (R8). After a good tick the
published snapshot is the state at its end, with its energy accumulated (R9, R252), and SKIPPED reads 0; after a rollback the snapshot
before stays in force, but for the FAULT page, and SKIPPED reads 1 (R40). The checkpoint is what the new tick begins from (R35). -/
def Obligations.TickAdvances : Prop :=
  ∀ (inp : TickInputs) (s : State), ticking s = true →
    ∃ t, exec (.tickBoundary inp) s = .next t ∧ (t.x.dev ≠ .boot →
      t.x.tick.num = (s.x.tick.num + 1) % 2 ^ 48 ∧ t.x.tick.count = s.x.tick.count + 1 ∧ t.ck = t.cp ∧
      (s.x.tick.trips = [] → t.pub.cp = { s.cp with bat := t.pub.cp.bat, regs := t.pub.cp.regs, clerkUnits := t.pub.cp.clerkUnits } ∧
        ((∀ i : Slice, s.x.slices[i].trigs = []) → t.pub.cp.regs = s.cp.regs) ∧
        (s.x.col.fencePend = [] → t.pub.cp.clerkUnits = s.cp.clerkUnits) ∧
        (∀ p : BPort, t.pub.cp.bat[p] = { s.cp.bat[p] with
          eIn := t.pub.cp.bat[p].eIn, eOut := t.pub.cp.bat[p].eOut
          eInRem := t.pub.cp.bat[p].eInRem, eOutRem := t.pub.cp.bat[p].eOutRem }) ∧
        t.pub.x.regs = s.x.regs ∧ t.pub.x.hw = s.x.hw ∧ t.pub.x.tick.skipped = false) ∧
      (s.x.tick.trips ≠ [] → t.pub.cp = s.pub.cp ∧ t.pub.x.hw = s.pub.x.hw ∧ t.pub.x.tick.skipped = true))

/-- A tick does not run in OFF, BOOT and SLEEP (R512, R519): cycle 0 then brings the levels of the strap pins
alone, and the slots of the tick change nothing. -/
def Obligations.NoTickNoWork : Prop :=
  ∀ (inp : TickInputs) (f : CheckFault) (i : Slot) (k : Train) (s : State), s.x.dev = .off ∨ s.x.dev = .boot ∨ s.x.dev = .sleep →
    exec (.tickBoundary inp) s = .next (strapsAt inp.straps s) ∧ exec (.ceSectionSlot i f) s = .next s ∧ exec (.supervisorModelRun f) s = .next s ∧
    exec (.trainProcessing ⟨k, i, f⟩) s = .next s ∧ exec .demandShadowWrite s = .next s ∧ exec (.faultDecision f) s = .next s ∧
    exec (.commitDecision f) s = .next s ∧ exec (.commitValidation f) s = .next s ∧ exec (.larderRecord f) s = .next s

/-- A checker tripped: the trip of the tick with its cycle and the units it names, and its bit of FLT_INTICK (R36, R402). -/
def Tripped (t : State) (checker cyc : Nat) (units : List FenceUnit) : Prop :=
  { checker := checker, unit := units, cyc := cyc } ∈ t.x.tick.trips ∧ bit (t.reg a_FLT_INTICK) checker = true

/-- The in-tick checkers report with the slot in which they look (R36, R402), each naming the units of its row. -/
def Obligations.CheckersTrip : Prop :=
  ∀ (i : Slot) (k : Train) (c : Nat) (s : State), working s = true → ticking s = true →
    (let loop : List FenceUnit := match slotCtx s i with | some l => [.loop l] | none => []
     (∃ t, exec (.ceSectionSlot i (.parity c)) s = .next t ∧ Tripped t 0 c loop) ∧
     (∃ t, exec (.ceSectionSlot i (.ecc2 c)) s = .next t ∧ Tripped t 1 c loop) ∧
     (∃ t, exec (.trainProcessing ⟨k, i, .parity c⟩) s = .next t ∧ Tripped t 0 c [.train k]) ∧
     (∃ t, exec (.trainProcessing ⟨k, i, .overrun c⟩) s = .next t ∧ Tripped t 6 c [.train k]) ∧
     (∃ t, exec (.faultDecision (.overrun c)) s = .next t ∧ Tripped t 6 c []) ∧
     (∃ t, exec (.commitDecision (.overrun c)) s = .next t ∧ Tripped t 6 c [.ringE, .ringW]) ∧
     (s.isFenced .supv = false → ∃ t, exec (.supervisorModelRun (.parity c)) s = .next t ∧ Tripped t 2 c [.supv]) ∧
     (∃ t, exec (.commitValidation (.ecc2 c)) s = .next t ∧ Tripped t 4 c []) ∧
     (∃ t, exec (.larderRecord (.ecc2 c)) s = .next t ∧ Tripped t 5 c [.store]))

/-- A section of a loop that is neither the first nor the last of its loop, in a tick in which the loop is updated (R103, R105, R106,
R108): the output to the next section is v to the nearest Q1.15 value, halves up, saturated; the state words take the update with v
limited to Q1.15, each sum exact, rounded once and saturated to Q2.30. No other section and no other loop changes. -/
def Obligations.SectionUpdates : Prop :=
  ∀ (i : Slot) (l : LoopIx) (s : State), working s = true → slotLoop s i.val = some l → s.cp.loops[l].active = true →
    s.isFenced (.loop l) = false → i.val ≠ LP_FIRST_FIRST s l → i.val ≠ lastSlot s l → LP_CFG_CLOSED s l = true →
    fbNoEst s l = false → s.cp.loops[l].updating = true →
    ∃ t, exec (.ceSectionSlot i .none) s = .next t ∧
      (let c := coefs s i
       let x := s.cp.loops[l].chain
       let w := s.cp.sects[i]
       let v := (c.b0 * x + w.w1) * 2 ^ c.k
       let y := max (-32768) (min 32767 ((v + 2 ^ 14) / 2 ^ 15))
       let yw := max (-2 ^ 30) (min (2 ^ 30 - 2 ^ 15) v)
       let q (a : Int) : Int := max (-2 ^ 31) (min (2 ^ 31 - 1) ((a + 2 ^ 14) / 2 ^ 15))
       t.cp.loops[l].chain = y ∧
       t.cp.sects[i].w1 = q (c.b1 * x * 2 ^ 15 - c.a1 * yw + w.w2 * 2 ^ 15) ∧
       t.cp.sects[i].w2 = q (c.b2 * x * 2 ^ 15 - c.a2 * yw)) ∧
      (∀ j : Slot, j ≠ i → t.cp.sects[j] = s.cp.sects[j]) ∧ (∀ m : LoopIx, m ≠ l → t.cp.loops[m] = s.cp.loops[m]) ∧
      t.cp.trains = s.cp.trains ∧ t.x.hw = s.x.hw

/-- Two successive words at a rail of the converter, neither of them settling (R267), blame a tested slice as LOST (R147): SUPV.PG_ERR.LOST, the cause, and the fence
due at the next cycle 0 (R151). -/
def Claims.LostWordBlamed : Prop :=
  ∀ (i : Slice) (s : State), working s = true → s.isFenced .supv = false → tested s i = true → s.cp.sup[i].cause = .none →
    s.x.deliv[i].fast = 32767 ∨ s.x.deliv[i].fast = -32768 → 1 ≤ s.cp.sup[i].lostCnt →
    settling s i = false →
    ∃ t, exec (.supervisorModelRun .none) s = .next t ∧ t.cp.sup[i].cause = .lost ∧ t.cp.sup[i].fenceDue = true ∧
      bit (t.reg (a_PG_ERR 0x78)) 0 = true

/-- After the processing of a tick every train that this device processes has its demand within the ceiling (R73), and one that is not
a STORE train has none below 0 (R72). -/
def Obligations.DemandWithinCeiling : Prop :=
  ∀ (k m : Train) (i : Slot) (s : State), working s = true → spanSlave s k = false → rideHolds s k = false →
    ∃ t, exec (.trainProcessing ⟨m, i, .none⟩) s = .next t ∧
      t.cp.trains[k].dem.natAbs ≤ t.cp.trains[k].ceil.toNat ∧ 0 ≤ t.cp.trains[k].ceil ∧
      (trKind s k ≠ 2 → 0 ≤ t.cp.trains[k].dem)

/-- Cycle 784 marks the tick as written; after a trip no shadow is written (R37). At cycle 240 a device of a ring that holds no demand
frame leaves its shadows alone; with one, a device that is no master and entered at least three ticks ago takes the demand of every train
the frame spans and of no other (R433); before that it takes none (R446). -/
def Obligations.DemandWrites : Prop :=
  ∀ s : State,
    (working s = true → ∃ t, exec .demandShadowWrite s = .next t ∧ t.x.tick.written = true ∧
      (s.x.tick.trips ≠ [] → t.cp = s.cp ∧ t.x.hw = s.x.hw)) ∧
    (ringFormed s = true → ringMaster s = false → s.x.ring.frame = none →
      exec .spanningDemandApply s = .next s) ∧
    (ringMaster s = false → s.x.tick.count < s.x.ring.memberAt + 3 → exec .spanningDemandApply s = .next s) ∧
    (∀ f : DemandFrame, ringFormed s = true → ringMaster s = false → s.x.ring.frame = some f →
      s.x.ring.memberAt + 3 ≤ s.x.tick.count →
      ∃ t, exec .spanningDemandApply s = .next t ∧ t.x.ring = { s.x.ring with frame := none } ∧
        ∀ k : Train, (nbit f.span k = false → t.cp.trains[k] = s.cp.trains[k]) ∧
          (nbit f.span k = true → t.cp.trains[k].dem = f.trains[k].d ∧ t.cp.trains[k].dir = f.trains[k].dir))

/-- The collector's decision (R387): every bit latched and not yet decided is decided; the units of its reaction are named for the next
cycle 0, and SAFE for reaction 4 (no field of the reactions holding a reserved code). Nothing else changes. -/
def Obligations.CollectorDecides : Prop :=
  ∀ s : State, ticking s = true →
    (∀ f, ∃ t, exec (.faultDecision f) s = .next t ∧ t.x.col.newly = 0) ∧
    (deadConvs s = [] → ∃ t, exec (.faultDecision .none) s = .next t ∧
      t = { s with x := { s.x with col := t.x.col } } ∧ t.x.col.word = s.x.col.word ∧
      (∀ b < 32, s.x.col.newly.getLsbD b = true →
        (react s b = 1 → ∀ u ∈ unitsOf (causeOf s) b, u ∈ t.x.col.fencePend) ∧
        (react s b = 2 → (∀ u ∈ unitsOf (causeOf s) b, u ∈ t.x.col.fencePend) ∧ ∀ k ∈ trainsOf s (causeOf s) b, .train k ∈ t.x.col.fencePend)) ∧
      ((∀ b < 32, react s b ≤ 4) → ∀ b < 32, s.x.col.newly.getLsbD b = true → react s b = 4 → t.x.col.safePend.isSome = true))

/-- COMMIT_VALIDATION runs in every tick (R6, R512), whatever its checkers find: it gives the units of the next boundary their verdict and
alters no unit of another boundary and no write (R17). A host unit that is alone at its boundary is rejected with the cause that the
configuration in force gives it, and with none it survives; a unit that has its verdict keeps it. Without a checker's finding nothing else
changes. -/
def Obligations.CommitValidationJudges : Prop :=
  ∀ (f : CheckFault) (s : State), ticking s = true →
    ∃ t, exec (.commitValidation f) s = .next t ∧
      t.cp.clerkUnits.map (fun u => { u with reject := none }) = s.cp.clerkUnits.map (fun u => { u with reject := none }) ∧
      t.x.hostUnits.map (fun u => { u with reject := none }) = s.x.hostUnits.map (fun u => { u with reject := none }) ∧
      (∀ u ∈ s.x.hostUnits, u.due ≠ s.x.tick.count + 1 → u ∈ t.x.hostUnits) ∧
      (f = .none → t = { s with cp := { s.cp with clerkUnits := t.cp.clerkUnits }, x := { s.x with hostUnits := t.x.hostUnits } }) ∧
      (∀ u, f = .none → s.cp.clerkUnits = [] → s.x.hostUnits = [u] → u.due = s.x.tick.count + 1 →
        (u.reject ≠ none → t.x.hostUnits = [u]) ∧
        (u.reject = none → u.decided = false → t.x.hostUnits = [{ u with
          reject := unitCause s s false u.writes (filterWrites s false u.writes).1 }]))

/-- COMMIT_DECISION runs in every tick (R6, R512). A member assembles the slot that it will write into the tick frame; the master
takes the writes of cascade scope out of the units of boundary k + 2 into a batch of at most 62 entries for that boundary, names it in its
tick frame, and leaves the units of every other boundary alone (R427); a device outside the ring decides nothing. -/
def Obligations.CommitDecisionBatches : Prop :=
  ∀ s : State, ticking s = true →
    (inLoop s = true → ∃ t, exec (.commitDecision .none) s = .next t ∧ t.x.ring.slot = some (ownSlot s) ∧
      t = { s with x := { s.x with ring := { s.x.ring with slot := t.x.ring.slot } } }) ∧
    (ringMaster s = true → working s = true → ∃ t es, exec (.commitDecision .none) s = .next t ∧
      (s.x.tick.count + 2, es) ∈ t.x.ring.batches ∧ es.length ≤ 62 ∧
      (∀ e ∈ es, inScope (nextConfig s) e.page e.off = true) ∧ (∃ f, t.x.ring.txTick = some f ∧ f.frame.entries = es ∧ f.frame.num = s.x.tick.num) ∧
      (∀ u, u.due ≠ s.x.tick.count + 2 → (u ∈ s.x.hostUnits ↔ u ∈ t.x.hostUnits) ∧ (u ∈ s.cp.clerkUnits ↔ u ∈ t.cp.clerkUnits)) ∧
      ((∀ u ∈ s.x.hostUnits, u.decided = false) → ∀ u ∈ t.x.hostUnits, u.due = s.x.tick.count + 2 →
        ∀ w ∈ u.writes, inScope (nextConfig s) w.page w.off = false)) ∧
    (inLoop s = false → ringMaster s = false → exec (.commitDecision .none) s = .next s)

/-- LARDER_RECORD runs in every tick (R6, R512), whatever its checkers find: while the larder is armed it writes a record of 124 words in
place of the one of the same number (R502): word 0 with its valid bit, words 1 to 3 the tick's number. In POST the first record is the
trigger record, and the POST records after it are counted down (R503). OFF, FROZEN and FLUSH write none. -/
def Obligations.LarderRecords : Prop :=
  ∀ (f : CheckFault) (s : State), ticking s = true →
    (let l := s.x.larder
     let recorded (t : State) : Prop := ∃ r ∈ t.x.larder.recs, r.ix = s.x.tick.num % 4096 ∧ r.old = false ∧ r.words.length = 124 ∧
       (∃ w, r.words[0]? = some w ∧ bit w 15 = true) ∧ r.words[1]? = some (word s.x.tick.num) ∧
       r.words[2]? = some (word (s.x.tick.num / 2 ^ 16)) ∧ r.words[3]? = some (word (s.x.tick.num / 2 ^ 32)) ∧
       ∀ v ∈ l.recs, v.ix ≠ r.ix → v ∈ t.x.larder.recs
     (l.state = .armed → ∃ t, exec (.larderRecord f) s = .next t ∧ recorded t ∧
       (f = .none → t = { s with x := { s.x with larder := { l with recs := t.x.larder.recs } } })) ∧
     (l.state = .post → l.recorded = false → ∃ t, exec (.larderRecord f) s = .next t ∧ recorded t ∧
       t.x.larder.recorded = true ∧ t.x.larder.trigTk = s.tickW ∧ t.x.larder.left = LAR_CFG_POST s) ∧
     (l.state = .post → l.recorded = true → l.left ≠ 0 → ∃ t, exec (.larderRecord f) s = .next t ∧ recorded t ∧
       t.x.larder.left = l.left - 1 ∧ t.x.larder.trigTk = l.trigTk) ∧
     (l.state = .off ∨ l.state = .frozen ∨ l.state = .flush → exec (.larderRecord .none) s = .next s))
/-! ### Trains, oscillators, the supervisor -/

/-- The ends of STOP, REVERSE and a shed. STOP ends in OFF after TR_STOP_TK ticks with the legs of the train off and low (R84, R88). A
reversal ends in RUN with REVERSED (R89) if no demand of the other sign waits. A shed ends with the leaving leg off (R92). -/
def Claims.TrainEnds : Prop :=
  ∀ (k : Train) (s : State),
    (let others (t : State) : Prop := ∀ m : Train, m ≠ k → t.cp.trains[m] = s.cp.trains[m]
     (s.cp.trains[k].state = .stop → TR_STOP_TK_TK s k ≤ s.cp.trains[k].stopN →
       ∃ t, exec (.trainStopEnd k) s = .next t ∧ t.cp.trains = upd s.cp.trains k { s.cp.trains[k] with state := .off } ∧
         EvtSet t (0x08 + k.val) 6 ∧
         ∀ n : Leg, (legTrain s n = some k → t.cp.legs[n].on = false ∧ OutputsLow t n) ∧
           (legTrain s n ≠ some k → t.cp.legs[n] = s.cp.legs[n] ∧ t.x.hw[n] = s.x.hw[n])) ∧
     (s.cp.trains[k].state = .reverse → s.cp.trains[k].rev = 3 →
       s.cp.trains[k].want = 0 ∨ decide (s.cp.trains[k].want < 0) = s.cp.trains[k].dir ∨
         s.cp.trains[k].want.natAbs < TR_REV_TH_REV s k →
       ∃ t, exec (.trainReverseComplete k) s = .next t ∧
         t.cp.trains = upd s.cp.trains k { s.cp.trains[k] with state := .run, rev := 0 } ∧
         t.cp.legs = s.cp.legs ∧ t.x.hw = s.x.hw ∧ EvtSet t (0x08 + k.val) 3 ∧ EvtSet t (0x08 + k.val) 6) ∧
     (∀ n : Leg, s.cp.trains[k].leaving = some n → s.cp.trains[k].shedding = true → s.cp.trains[k].rampWritten = true →
       s.x.tick.written = false →
       ∃ t, exec (.shedOffStep k) s = .next t ∧ t.cp.legs = upd s.cp.legs n { s.cp.legs[n] with on := false } ∧
         t.cp.trains[k].shedding = false ∧ t.cp.trains[k].shedCnt = 0 ∧ others t ∧ t.x.hw = s.x.hw ∧
         EvtSet t (0x08 + k.val) 0))

/-- A train sheds when its delay counter has reached TR_SHED_DLY with more than SMIN legs on: its highest-numbered leg that is on and
available begins its ramp-out (R92); the output leg of a four-switch pair goes with leg 2i (R70). Nothing but the train's shed state changes. -/
def Claims.TrainSheds : Prop :=
  ∀ (k : Train) (n : Leg) (s : State), TR_SHED_CFG_EN s k = true → spanning s k = false → s.cp.trains[k].state = .run →
    inDuty s k = false → TR_CFG_ONELEG s k = false → trainInSubst s k = false → s.cp.trains[k].shedding = false →
    TR_SHED_DLY s k ≤ s.cp.trains[k].shedCnt → TR_SHED_CFG_SMIN s k < nOn s k →
    legTrain s n = some k → pairOut s n = false → s.cp.legs[n].on = true → legAvail s n = true →
    (∀ m : Leg, n < m → legTrain s m = some k → pairOut s m = false → s.cp.legs[m].on = true → legAvail s m = false) →
    exec (.trainShed k) s = .next (s.modTrain k fun r =>
      { r with shedding := true, leaving := some n, rampWritten := false, shedCnt := 0 })

/-- The ends of a train's states and its sheds. -/
def Obligations.TrainStates : Prop := Claims.TrainEnds ∧ Claims.TrainSheds

/-- A leg whose estimate has deviated for 64 consecutive ticks reports itself and its train, and alters nothing else (R80). -/
def Claims.ShareDeviationReported : Prop :=
  ∀ (n : Leg) (k : Train) (s : State), legTrain s n = some k → 64 ≤ s.cp.legs[n].devCnt →
    ∃ t, exec (.shareDeviation n) s = .next t ∧ EvtSet t (0x10 + n.val) 0 ∧ EvtSet t (0x08 + k.val) 4 ∧
      (∀ a, a ≠ addr (0x10 + n.val) 6 → a ≠ addr (0x08 + k.val) 6 → t.reg a = s.reg a) ∧
      t = { s with cp := { s.cp with regs := t.cp.regs }, x := { s.x with regs := t.x.regs } }

/-- The "P" fields of TR_CFG of a train in OFF are adopted; those of a train that is not in OFF stay pending (R57). -/
def Claims.PendingAdopted : Prop :=
  ∀ s : State, ∃ t, exec .pendingConfigAdopt s = .next t ∧
    (∀ k : Train,
      (trOff s k = true → cfgPend t k = false) ∧
      (trOff s k = false → t.ad (a_TR_CFG k) = s.ad (a_TR_CFG k))) ∧
    t.cp.trains = s.cp.trains ∧ t.cp.legs = s.cp.legs

/-- A stopping oscillator gives 0 from the tick whose phase step crosses a zero of the sine (R138). A PULSE source whose Tally is not in
capture-pair mode, or that has had no edge for LP_SP_TMO ticks, falls back with the loop's event (R119). CNT_CLR clears CE_ECC_CNT (R141). -/
def Claims.EngineEvents : Prop :=
  ∀ (o : OscIx) (l : LoopIx) (s : State),
    (s.cp.oscs[o].run = true → s.cp.oscs[o].stopping = true →
      (s.cp.oscs[o].phase < 2 ^ 31 ∧ 2 ^ 31 ≤ s.cp.oscs[o].nextPh) ∨ (2 ^ 31 ≤ s.cp.oscs[o].phase ∧ s.cp.oscs[o].nextPh < 2 ^ 31) →
      exec (.oscillatorStop o) s = .next (s.modOsc o fun v => { v with next := 0, done := true })) ∧
    (LP_SP_SRC_KIND s l = 5 → s.cp.loops[l].fallback = false →
      (LP_SP_TMO s l ≠ 0 ∧ LP_SP_TMO s l ≤ s.cp.loops[l].idleTicks) ∨ capturePair s (ix16 (LP_SP_SRC_INDEX s l)) = false →
      ∃ t, exec (.pulseSetpointTimeout l) s = .next t ∧ t.cp.loops[l].fallback = true ∧
        (∀ m : LoopIx, m ≠ l → t.cp.loops[m] = s.cp.loops[m]) ∧ EvtSet t (0x61 + l.val) 0) ∧
    exec .ceCntClr s = .next { s with cp := { s.cp with ce := { s.cp.ce with eccCnt := 0 } } }

/-- Share deviation, pending configuration, oscillators, pulse set-points, the count of the CE. -/
def Obligations.EngineReports : Prop := Claims.ShareDeviationReported ∧ Claims.PendingAdopted ∧ Claims.EngineEvents

/-- Substitution. At SUB_MAX a switching train enters HOLD with its legs low, and SUPV.PG_ERR.HELD is set (R165). A free spare goes to
the lowest-numbered slice that waits for it (R157, R164). An alternative that has agreed through its window is accepted, with its event (R161). -/
def Claims.SubstitutionEvents : Prop :=
  ∀ (k : Train) (i : Slice) (s : State),
    (s.cp.models[k].inSubst = true → SVt_SUB_MAX s k ≤ s.cp.models[k].subTk → s.cp.trains[k].state.switching = true →
      ∃ t, exec (.substitutionTimeout k) s = .next t ∧ t.cp.trains[k].state = .hold ∧ t.cp.models[k].held = true ∧
        ErrSet t 0x78 3 ∧ ∀ n : Leg, legTrain s n = some k → t.cp.legs[n].on = false ∧ OutputsLow t n) ∧
    (s.cp.spare.state = .idle ∨ s.cp.spare.state = .rejected → s.cp.sup[i].alt = .waiting → s.cp.sup[i].fenceDue = false →
      (∀ j : Slice, j < i → s.cp.sup[j].alt = .waiting → s.cp.sup[j].fenceDue = true) →
      ∃ t, exec .spareConnect s = .next t ∧ t.cp.spare.state = .settle ∧ t.cp.spare.slice = i ∧
        t.cp.sup[i].alt = .settle ∧ (∀ j : Slice, j ≠ i → t.cp.sup[j] = s.cp.sup[j]) ∧ t.x = s.x) ∧
    (s.cp.sup[i].alt = .agree → SV_AGREE_N_N s ≤ s.cp.sup[i].altCnt → s.cp.sup[i].acceptDue = false →
      exec (.alternativeAccept i) s = .next ((s.modSup i fun v => { v with acceptDue := true }).evt 0x78 1))

/-- Blame and substitution. -/
def Obligations.Supervision : Prop := Claims.LostWordBlamed ∧ Claims.SubstitutionEvents

/-! ### Sources and intake nodes -/

/-- The comparators of a source (R179, R181, R183). Firing, each shows its level and restarts the time in the window; the OV comparator
also sets OVOFF and PG_ERR.OV and drives the enable inactive (unless the reaction to the SRC line drives every enable at once). A node that then has no enabled source in its window is LOST with its event,
and the legs of its intake trains are low (R184). A clearing comparator shows just that; where it ends a firing, an
enabled wake source ends SLEEP (R521). -/
def Claims.SourceComparators : Prop :=
  ∀ (i : Src) (ov : Bool) (s : State),
    (let k := srcNode s i
     let others (t : State) : Prop := ∀ j : Src, j ≠ i → t.x.src[j] = s.x.src[j] ∧ t.x.srcEn[j] = s.x.srcEn[j]
     let loses (t : State) : Prop :=
       (s.x.nodes[k].state = .live ∨ s.x.nodes[k].state = .ramp →
         (∀ j : Src, j ≠ i → srcNode s j = k → ¬ (srcActive s j = true ∧ inWindow s j = true)) →
         t.x.nodes[k].state = .lost ∧ t.x.nodes[k].ramp = 0 ∧ EvtSet t 0x30 0 ∧
         ∀ (n : Leg) (m : Train), legTrain s n = some m → trKind s m = 1 → trNode s m = k → OutputsLow t n) ∧
       t.x.nodes[1 - k] = s.x.nodes[1 - k]
     (∃ t, exec (.sourceUvFire i) s = .next t ∧ t.x.src[i] = { s.x.src[i] with uv := true, winTicks := 0 } ∧
       others t ∧ t.x.srcEn[i] = s.x.srcEn[i] ∧ loses t) ∧
     (∃ t, exec (.sourceOvFire i) s = .next t ∧ t.x.src = upd s.x.src i { s.x.src[i] with ov := true, ovOff := true, winTicks := 0 } ∧
       ErrSet t 0x30 0 ∧ (react s 9 ≤ 2 → enablesLive s = true → t.x.srcEn = upd s.x.srcEn i (SRCs_CFG_POL s i) ∧ loses t)) ∧
     (let u := s.modSrc i fun v => if ov then { v with ov := false } else { v with uv := false }
      (s.x.dev ≠ .sleep → s.x.pwr.sleeping = false → exec (.sourceComparatorClear i ov) s = .next u) ∧
      (s.x.src[i].uv = false → s.x.src[i].ov = false → exec (.sourceComparatorClear i ov) s = .next u) ∧
      ∃ t, exec (.sourceComparatorClear i ov) s = .next t ∧ t.cp = s.cp ∧ t.x.src = u.x.src ∧ t.x.srcEn = s.x.srcEn ∧
        t.x.nodes = s.x.nodes ∧
        (s.x.dev = .sleep → s.x.pwr.waking = false → s.x.src[i].uv = true ∨ s.x.src[i].ov = true → wakeOn u (.src i) = true →
          t.x.pwr.waking = true ∧ EvtSet t 0xE0 2)))

/-- Ride-through (R197, R198): when the last source of a node falls below its window with SRC_RIDE.EN = 1, every eligible train with a leg
available runs at once toward the rail with the demand of the lost nodes, clamped to its ILIM share; the event is set. -/
def Obligations.RideThroughPreset : Prop :=
  ∀ (i : Src) (m : Train) (s : State),
    (let k := srcNode s i
     let dem (n : Fin 2) (d : Nat) : Nat := if n = k ∨ s.x.nodes[n].state = .lost then d else 0
     let total := min 32767 (dem 0 (RIDE_DEM_A_DEM s) + dem 1 (RIDE_DEM_B_DEM s))
     s.x.nodes[k].state = .live ∨ s.x.nodes[k].state = .ramp →
     (∀ j : Src, j ≠ i → srcNode s j = k → ¬ (srcActive s j = true ∧ inWindow s j = true)) →
     SRC_RIDE_EN s = true → rideEligible s m = true → nAvailHere s m ≠ 0 →
     ∃ t, exec (.sourceUvFire i) s = .next t ∧ t.cp.trains[m].state = .run ∧ t.cp.trains[m].dir = true ∧
       t.cp.trains[m].dem = -(min total (TR_ILIM_N_ILIM_N s m * nAvailHere s m / nRatedHere s m) : Int) ∧
       t.x.ride.held[m] = true ∧ t.x.ride.fired = s.x.tick.count ∧ EvtSet t 0x30 2)

/-- The intake nodes and the factory list (R183, R187, R200). A node with a source long enough in its window goes to RAMP at 0; at
32767 it is LIVE with its event; 64 ticks without a pass raise LISTSTALL; the CE takes preset trains over in the tick after the firing. -/
def Claims.NodesReturn : Prop :=
  ∀ (k : Fin 2) (i : Src) (s : State),
    (s.x.nodes[k].state = .none ∨ s.x.nodes[k].state = .lost → srcNode s i = k → srcActive s i = true → inWindow s i = true →
      SRC_NODE_RET s < s.x.src[i].winTicks →
      exec (.nodeRampStart k) s = .next (s.modNode k fun _ => { state := .ramp, ramp := 0 })) ∧
    (s.x.nodes[k].state = .ramp → 32767 ≤ s.x.nodes[k].ramp →
      ∃ t, exec (.nodeLive k) s = .next t ∧ t.x.nodes = upd s.x.nodes k { s.x.nodes[k] with state := .live } ∧
        EvtSet t 0x30 1 ∧ ∀ a, a ≠ addr 0x30 6 → t.reg a = s.reg a) ∧
    (SRC_CTRL_AUTO s = true → s.x.dev = .run → 64 ≤ s.x.listStill →
      ∃ t, exec .sourceListStall s = .next t ∧ OnlyRaised s t 0x30 1) ∧
    (s.x.ride.fired < s.x.tick.count →
      ∃ t, exec .rideThroughTakeover s = .next t ∧ (∀ m : Train, t.x.ride.held[m] = false) ∧
        t = { s with x := { s.x with ride := { s.x.ride with held := t.x.ride.held, taken := s.x.ride.held } } })

/-- Source comparators and intake nodes. -/
def Obligations.SourcesAndNodes : Prop := Claims.SourceComparators ∧ Claims.NodesReturn

/-! ### Battery ports -/

/-- The guard of a port, in every phase and whatever GDp_CFG.VALID says (R231, R232). A count test at its N trips V, I or VD, a temperature
above TDMAX trips TD; V, I and TD force a phase at the next cycle 0, with their own cause or one of a lower code, and set their bit of
BAT.PG_ERR as they trip; TD also releases the enable. No other port changes, and with no test met nothing changes but that a latched trip of a
port in another phase than ABSENT and FAULT forces FAULT (R220). -/
def Claims.GuardTrips : Prop :=
  ∀ (p : BPort) (s : State),
    ∃ t, exec (.guardTrip p) s = .next t ∧ (∀ q : BPort, q ≠ p → t.cp.bat[q] = s.cp.bat[q]) ∧
      (let b := s.cp.bat[p]
       let c := t.cp.bat[p]
       let hot : Prop := ∃ d, bpTemp s p = some d ∧ GDp_TDMAX_I s p < d
       let forced (cause bt : Nat) : Prop := (∃ f, c.force = some f ∧ f ≤ cause) ∧ ErrSet t (batPage p) bt
       (GDp_CFG_N s p ≤ b.vCnt → c.trips.v = true ∧ (b.trips.v = false → forced 1 0)) ∧
       (GDp_CFG_N s p ≤ b.iCnt → c.trips.i = true ∧ (b.trips.i = false → forced 2 1)) ∧
       (hot → c.trips.td = true ∧ (b.trips.td = false → c.releaseDue = true ∧ forced 3 2)) ∧
       (GDp_CFG_N s p ≤ b.vdCnt → c.trips.vd = true) ∧
       (b.vCnt < GDp_CFG_N s p → b.iCnt < GDp_CFG_N s p → b.vdCnt < GDp_CFG_N s p → ¬ hot →
         (b.trips.latched = none ∨ BP_PHASE_PHASE s p = 0 ∨ BP_PHASE_PHASE s p = 9 → t = s) ∧
         (∀ c, b.trips.latched = some c → BP_PHASE_PHASE s p ≠ 0 → BP_PHASE_PHASE s p ≠ 9 →
           t = s.modBat p fun b => { b with force := some (match b.force with | some f => min f c | none => c) })))

/-- The safety timers (R237, R232). When it accrues and is at its limit the charge timer trips TIMEOUT, with REDUCED when more than half of
the accrued ticks were reduced, and the pre-charge timer PRE_TIMEOUT; each forces FAULT with its cause at the next cycle 0, if no cause of a lower code
does, and sets its bit of BAT.PG_ERR. -/
def Claims.SafetyTimers : Prop :=
  ∀ (p : BPort) (s : State),
    (let b := s.cp.bat[p]
     let least (c : Nat) : Option Nat := some (match b.force with | some f => min f c | none => c)
     (b.tmrRun = true → GDp_TMR_CC s p * 25000000 * 4096 ≤ b.tmrCc → b.trips.timeout = false →
       ∃ t, exec (.chargeTimeout p) s = .next t ∧ t.cp.bat[p].trips = { b.trips with timeout := true } ∧
         t.cp.bat[p].force = least 4 ∧
         t.cp.bat[p].causeRed = decide (b.tmrElap < 2 * b.tmrRed) ∧ ErrSet t (batPage p) 3) ∧
     (b.ptmrRun = true → GDp_TMR_PRE s p * 25000000 ≤ b.tmrPre → b.trips.preTimeout = false →
       ∃ t, exec (.prechargeTimeout p) s = .next t ∧ t.cp.bat[p].trips = { b.trips with preTimeout := true } ∧
         t.cp.bat[p].force = least 5 ∧ ErrSet t (batPage p) 4))

/-- The guard of a battery port and its safety timers. -/
def Obligations.BatteryGuard : Prop := Claims.GuardTrips ∧ Claims.SafetyTimers

/-- A removal (R239, R240): OVC above its threshold, or the presence pin at its absent level, is noted, and the port's trains are held
with their legs low. In ABSENT, or with the detector off, no train is touched (for OVC in ABSENT log entry 52). Presence that has held long
enough takes an ABSENT port to QUAL with its timers at 0 and INSERTED (R242, R238). A presence pin that BP_CFG.PRES_EN leaves unused
stops nothing. -/
def Obligations.RemovalAndReturn : Prop :=
  ∀ (p : BPort) (s : State),
    (let held (t : State) : Prop := ∀ k : Train, trKind s k = 2 → trTerm s k = p.val →
       (s.cp.trains[k].state.switching = true ∨ s.cp.trains[k].state = .prebias) →
       t.cp.trains[k].state = .hold ∧ ∀ n : Leg, legTrain s n = some k → t.cp.legs[n].on = false ∧ OutputsLow t n
     (BP_PHASE_PHASE s p ≠ 0 →
       (BP_OVC_TH s p ≠ 0 → ∃ t, exec (.removalOvc p) s = .next t ∧
         t.x.batHw = upd s.x.batHw p { s.x.batHw[p] with ovc := true } ∧ t.cp.bat = s.cp.bat ∧ held t) ∧
       (BP_CFG_PRES_EN s p = true → ∃ t, exec (.presenceLost p) s = .next t ∧
         t.x.batHw = upd s.x.batHw p { s.x.batHw[p] with pin := !(BP_CFG_PRES_POL s p), removed := true } ∧
         t.cp.bat[p].insCnt = 0 ∧ held t)) ∧
     (BP_CFG_PRES_EN s p = false → exec (.presenceLost p) s =
       .next (s.modBatHw p fun h => { h with pin := !(BP_CFG_PRES_POL s p) })) ∧
     (BP_PHASE_PHASE s p = 0 ∨ BP_OVC_TH s p = 0 → exec (.removalOvc p) s = .next s) ∧
     (BP_PHASE_PHASE s p = 0 → BP_INS_DB s p * 256 < s.cp.bat[p].insCnt →
       ∃ t, exec (.reinsertion p) s = .next t ∧ BP_PHASE_PHASE t p = 1 ∧ t.cp.bat[p].tmrCc = 0 ∧ t.cp.bat[p].tmrPre = 0 ∧
         EvtSet t (batPage p) 2 ∧ EvtSet t (batPage p) 0))

/-- RESTART (R226): a FAULT port goes to QUAL with its fault cleared if no latched condition persists (a cause that the hardware is
forcing for the next cycle 0 stays forced), else REFUSED is set; in any other phase it does nothing. ZLEARN = 1 arms the learning (R251). The guard locks in HOLD until a reset (R229, R228). -/
def Claims.PortControls : Prop :=
  ∀ (p : BPort) (s : State),
    (let b := s.cp.bat[p]
     let clear : Prop := b.v ≤ (GDp_VMAX s p : Int) ∧
       (b.trips.td = true → ∃ d, bpTemp s p = some d ∧ d ≤ GDp_TDMAX_I s p - 50)
     (BP_PHASE_PHASE s p = 9 → clear → ∃ t, exec (.bpRestart p) s = .next t ∧ BP_PHASE_PHASE t p = 1 ∧ t.cp.bat[p].cause = 0 ∧
       (b.force = none → t.cp.bat[p].trips = { t := b.trips.t, vd := b.trips.vd }) ∧ t.cp.bat[p].force = b.force ∧
       (∀ q : BPort, q ≠ p → t.cp.bat[q] = s.cp.bat[q]) ∧ t.cp.trains = s.cp.trains) ∧
     (BP_PHASE_PHASE s p = 9 → ¬ clear → exec (.bpRestart p) s = .next (s.evt (batPage p) 8)) ∧
     (BP_PHASE_PHASE s p ≠ 9 → exec (.bpRestart p) s = .next s) ∧
     (∃ t, exec (.bpZlearn p) s = .next t ∧ BP_CTRL_ZLEARN t p = true ∧ ∀ a, a ≠ addr (0x34 + p) 0x12 → t.reg a = s.reg a) ∧
     (s.x.dev = .hold → GUARD_LOCK_LOCK s = false → ∃ t, exec .guardLockSet s = .next t ∧ GUARD_LOCK_LOCK t = true ∧
       ∀ a, a ≠ a_GUARD_LOCK → t.reg a = s.reg a) ∧
     (s.x.dev ≠ .hold ∨ GUARD_LOCK_LOCK s = true → exec .guardLockSet s = .next (s.evt 0x38 0)))

/-- The end of a probe window (R246 to R248). A response below a quarter of the amplitude is discarded with cause LOWAMP and IMP_INVALID, and
the last result stays; else magnitude and phase are taken from the four sums with the means removed, with the frequency that the
oscillator ran with and with the event. -/
def Claims.ProbeEnds : Prop :=
  ∀ (p : BPort) (s : State), s.cp.bat[p].probe.run = true → BP_PROBE_NPER s p ≤ s.cp.bat[p].probe.wraps →
    (let r := s.cp.bat[p].probe
     let mean (x : Int) (y : Rat) : Rat := ratDiv (x * y) r.n
     let vc : Rat := r.svc - mean r.sv r.sc
     let vs : Rat := r.svs - mean r.sv r.ss
     let ic : Rat := r.sic - mean r.si r.sc
     let is : Rat := r.sis - mean r.si r.ss
     let weak : Prop := 64 * (ic * ic + is * is) < (s.cp.bat[p].amp : Rat) * s.cp.bat[p].amp * r.n * r.n
     let scale : Rat := ratDiv (GDp_VSCALE s p) (GDp_ISCALE s p) * (if BP_PROBE_ZR s p then 100000 else 1000000)
     ∃ t, exec (.probeResult p) s = .next t ∧ t.cp.bat[p].probe.run = false ∧
       (weak → t.cp.bat[p].probe.cause = 2 ∧ t.cp.bat[p].probe.valid = false ∧ t.cp.bat[p].probe.mag = r.mag ∧
         t.cp.bat[p].probe.ph = r.ph ∧ EvtSet t (batPage p) 5) ∧
       (¬ weak → t.cp.bat[p].probe.cause = 0 ∧ t.cp.bat[p].probe.valid = true ∧
         t.cp.bat[p].probe.freq = r.freq0 ∧ t.cp.bat[p].probe.mag = min 65535 (impMagnitude vc vs ic is scale) ∧
         t.cp.bat[p].probe.ph = impAngle vc vs ic is ∧ EvtSet t (batPage p) 4))

/-- RESTART, ZLEARN, the guard lock, the probe. -/
def Obligations.BatteryPorts : Prop := Claims.PortControls ∧ Claims.ProbeEnds

/-! ### Conversion -/

/-- The fine path (R263, R264). A continuous path discards its first three results and gives the later ones, each corrected, to the next
cycle 0; a one-shot gives its one, and a held trigger starts the next conversion. A trigger that finds a conversion running is held, and
one that finds a held trigger counts in SL_OVR and sets OVR. A trigger of an earlier cycle is taken before the completion, one of the same
cycle after it; several of one cycle are one. START and OVR_CLR act at the boundary. -/
def Claims.FineConversions : Prop :=
  ∀ (i : Slice) (f : FineDone) (s : State),
    (let v := s.x.slices[i]
     let now := cycleNow s f.cyc.val
     let start := cycleNow s 0
     let result := correct s (delivBy s i) f.raw.toInt
     let others (t : State) : Prop := ∀ j : Slice, j ≠ i → t.x.slices[j] = s.x.slices[j]
     let only (t : State) : Prop := t = { s with x := { s.x with slices := t.x.slices } } ∧ others t
     (SL_CFG_EN s i = true → s.x.conv[delivBy s i].fault = false → s.x.dev ≠ .sleep →
       ((∀ c ∈ v.trigs, now ≤ c) →
         (SL_CFG_FMODE s i = 1 → v.results < 3 → ∃ t, exec (.fineConversionDone i f) s = .next t ∧ only t ∧ t.x.slices[i] = { v with results := v.results + 1 }) ∧
         (SL_CFG_FMODE s i = 1 → 3 ≤ v.results → ∃ t, exec (.fineConversionDone i f) s = .next t ∧ only t ∧ t.x.slices[i] = { v with next := some result }) ∧
         (SL_CFG_FMODE s i = 2 → v.busy = true → ∃ t, exec (.fineConversionDone i f) s = .next t ∧ only t ∧
           t.x.slices[i] = { v with next := some result, busy := v.held, held := false })) ∧
       (∀ c, v.trigs = [c] → c < now → SL_CFG_FMODE s i = 2 → v.busy = true →
         (v.held = false → ∃ t, exec (.fineConversionDone i f) s = .next t ∧ only t ∧
           t.x.slices[i] = { v with trigs := [], next := some result, busy := true, held := false }) ∧
         (v.held = true → ∃ t, exec (.fineConversionDone i f) s = .next t ∧ others t ∧ EvtSet t (slPage i) 3 ∧ t.x.slices[i] = { v with
           trigs := [], ovr := min 65535 (v.ovr + 1), next := some result, busy := true, held := false }))) ∧
     (SL_CFG_FMODE s i = 2 → SL_CFG_EN s i = true → start ∉ v.trigs →
       exec (.slStart i) s = .next (s.modSl i fun v => { v with
         trigs := v.trigs.filter (· < start) ++ start :: v.trigs.filter (start < ·) })) ∧
     (SL_CFG_FMODE s i ≠ 2 ∨ SL_CFG_EN s i = false ∨ start ∈ v.trigs → exec (.slStart i) s = .next s) ∧
     exec (.slOvrClr i) s = .next (s.modSl i fun v => { v with ovr := 0 }))

/-- Converters. N words beyond the open-wire threshold set the flag with its event, N without clear it (R270). A converter fault raises
MODSTUCK or PARITY of its page (R271). Two ticks after a pairing change the odd converter's words count (R267). At cycle 480 the odd
converter of a pair has its word, corrected (R266). -/
def Claims.ConverterEvents : Prop :=
  ∀ (i : Slice) (c : Conv) (parity : Bool) (k : Fin 8) (raw : Raw) (s : State),
    (SL_OW_TEN s i = true → SL_OW_N s i ≤ s.x.slices[i].owHit → s.x.slices[i].ow = false →
      ∃ t, exec (.openWireDetect i) s = .next t ∧ t.x.slices = upd s.x.slices i { s.x.slices[i] with ow := true } ∧
        EvtSet t (slPage i) 0) ∧
    (SL_OW_TEN s i = true → SL_OW_N s i ≤ s.x.slices[i].owMiss → s.x.slices[i].ow = true → s.x.conv[delivBy s i].fault = false →
      exec (.openWireDetect i) s = .next (s.modSl i fun v => { v with ow := false })) ∧
    (∃ t, exec (.converterFault c parity) s = .next t ∧ t.x.conv = upd s.x.conv c { s.x.conv[c] with fault := true } ∧
      ErrSet t (0x41 + c.val) (if parity then 1 else 0) ∧ t.x.slices = s.x.slices) ∧
    (∀ a, s.x.settle[k] = some a → a + 2 ≤ s.x.tick.count →
      exec (.pairSettleEnd k) s = .next { s with x := { s.x with settle := upd s.x.settle k none } }) ∧
    (∀ o : Slice, ticking s = true → o.val = 2 * k.val + 1 → inPair s o = true → s.x.conv[convOf o].fault = false →
      ∃ t, exec (.pairOddWordProduced k raw) s = .next t ∧
        t.x.conv = upd s.x.conv (convOf o) { s.x.conv[convOf o] with odd := some (correct s (convOf o) raw.toInt, raw.toInt) } ∧
        ∀ j : Slice, j ≠ o → t.x.slices[j] = s.x.slices[j])

/-- The AX converter (R276, R278): a result is kept for the next cycle 0 under its input, and the scan goes to the next of the 16 inputs;
a window comparator that is enabled and fires sets its bit of AXW_STAT with the event, and wakes a sleeping device if it is armed to; it
clears the bit when it clears. -/
def Claims.AxEvents : Prop :=
  ∀ (raw : Raw) (w : Fin 4) (hi : Bool) (s : State),
    (let n := 2 * w.val + (if hi then 1 else 0)
     (AX_CFG_EN s = true → ∃ t, exec (.axSlotResult raw) s = .next t ∧
       t.x.ax.next = upd s.x.ax.next s.x.ax.input (some raw.toInt) ∧
       t.x.ax.input.val = (s.x.ax.input.val + 1) % 16 ∧ t.cp = s.cp) ∧
     (AXWw_CFG_EN s w = true → ∃ t, exec (.axWindowFire w hi) s = .next t ∧ bit t.x.ax.axw n = true ∧
       (∀ m : Nat, m ≠ n → bit t.x.ax.axw m = bit s.x.ax.axw m) ∧ EvtSet t 0x52 0 ∧
       (s.x.dev = .sleep → AXWw_CFG_WAKE s w = true → s.x.pwr.waking = false →
         t.x.pwr.waking = true ∧ (t.x.pwr.wakeSrc, t.x.pwr.wakeIx) = (4, w.val))) ∧
     ∃ t, exec (.axWindowClear w hi) s = .next t ∧ bit t.x.ax.axw n = false ∧
       (∀ m : Nat, m ≠ n → bit t.x.ax.axw m = bit s.x.ax.axw m) ∧ t.cp = s.cp)

/-- Fine conversions, converters, the AX converter. -/
def Obligations.Conversions : Prop := Claims.FineConversions ∧ Claims.ConverterEvents ∧ Claims.AxEvents

/-- System calibration begins and aborts (R281 to R283): a command is accepted in HOLD with nothing running and counts from its boundary,
else REFUSED is set; CMD = 0 during a run aborts it with no value changed, and is ignored once the last result is in. -/
def Claims.CalibrationCommands : Prop :=
  ∀ (i : Slice) (s : State),
    (let c := s.x.sysCal[i]
     let a := s.x.ax.cal
     let slice (d : SysCal) (t : State) : Prop := t = { s with x := { s.x with sysCal := upd s.x.sysCal i d } }
     let aux (d : SysCal) (t : State) : Prop := t = { s with x := { s.x with ax := { s.x.ax with cal := d } } }
     let ok : Prop := s.x.dev = .hold ∧ SL_CFG_EN s i = true ∧ SL_CFG_LP s i = false ∧ privileged s i = false ∧ inPair s i = false
     (c.kind = 0 → ok →
       (∃ t, exec (.syscalZero i) s = .next t ∧ slice (calBegin 1 (2 ^ SL_SYSCAL_NAVG s i) s.x.tick.count 0) t) ∧
       (∃ t, exec (.syscalFull i) s = .next t ∧ slice (calBegin 2 (2 ^ SL_SYSCAL_NAVG s i) s.x.tick.count 0) t)) ∧
     (c.kind ≠ 0 ∨ ¬ ok →
       (∃ t, exec (.syscalZero i) s = .next t ∧ slice { c with refused := true } t) ∧
       (∃ t, exec (.syscalFull i) s = .next t ∧ slice { c with refused := true } t)) ∧
     (c.kind ≠ 0 → s.x.tick.count ≤ c.since + c.len → ∃ t, exec (.syscalAbort i) s = .next t ∧
       slice { c with kind := 0, aborted := true } t) ∧
     (c.kind ≠ 0 → c.since + c.len < s.x.tick.count → ∃ t, exec (.syscalAbort i) s = .next t ∧ slice { c with ignored := true } t) ∧
     (a.kind = 0 → s.x.dev = .hold → AX_CFG_EN s = true →
       (∃ t, exec .axSyscalZero s = .next t ∧ aux (calBegin 1 (2 ^ AX_SYSCAL_NAVG s) s.x.tick.count (AX_SYSCAL_INPUT s)) t) ∧
       (∃ t, exec .axSyscalFull s = .next t ∧ aux (calBegin 2 (2 ^ AX_SYSCAL_NAVG s) s.x.tick.count (AX_SYSCAL_INPUT s)) t)) ∧
     (a.kind ≠ 0 ∨ s.x.dev ≠ .hold ∨ AX_CFG_EN s = false →
       (∃ t, exec .axSyscalZero s = .next t ∧ aux { a with refused := true } t) ∧
       (∃ t, exec .axSyscalFull s = .next t ∧ aux { a with refused := true } t)) ∧
     (let n := a.n + (if s.x.ax.next[ix16 a.input].isSome then 1 else 0)
      (a.kind ≠ 0 → n < a.len → ∃ t, exec .axSyscalAbort s = .next t ∧ aux { a with kind := 0, aborted := true } t) ∧
      (a.kind ≠ 0 → a.len ≤ n → ∃ t, exec .axSyscalAbort s = .next t ∧ aux { a with ignored := true } t)))

/-- The end of a calibration run (R281, R283), m being the mean of its raw results: ZERO writes the offset m/16, FULL the gain, each
rounded to the nearest; a value outside the register leaves the old one and sets RANGE in place of DONE. -/
def Claims.CalibrationEnds : Prop :=
  ∀ (i : Slice) (s : State),
    (let value (c : SysCal) (ref offs : Int) : Int :=
       let m : Rat := ratDiv (c.sum : Rat) (c.len : Rat)
       if c.kind = 1 then rnd (m / 16) else rnd ((ratDiv ((256 * ref : Int) : Rat) (m - ((16 * offs : Int) : Rat)) - 1) * 131072)
     let fits (v : Int) : Prop := -32768 ≤ v ∧ v ≤ 32767
     (let c := s.x.sysCal[i]
      let v := value c (SL_CAL_REF_I s i) (SL_OFFS_I s i)
      let a := if c.kind = 1 then a_SL_OFFS i else a_SL_GAIN i
      c.kind = 1 ∨ c.kind = 2 → c.since + c.len + 1 ≤ s.x.tick.count →
        (fits v → ∃ t, exec (.syscalDone i) s = .next t ∧ (t.reg a).toInt = v ∧ t.x.sysCal[i].done = true ∧ t.x.sysCal[i].kind = 0 ∧
          EvtSet t (slPage i) 4 ∧ ∀ b, b ≠ a → b ≠ addr (slPage i) 6 → t.reg b = s.reg b) ∧
        (¬ fits v → ∃ t, exec (.syscalDone i) s = .next t ∧ t.x.sysCal[i].range = true ∧ t.x.sysCal[i].kind = 0 ∧
          t.x.sysCal[i].done = c.done ∧ ∀ b, t.reg b = s.reg b)) ∧
     (let c := s.x.ax.cal
      let v := value c (AX_CAL_REF_I s) (AX_OFFSn_I s c.input)
      let a := if c.kind = 1 then a_AX_OFFSn c.input else a_AX_GAINn c.input
      c.kind = 1 ∨ c.kind = 2 → c.len ≤ c.n →
        (fits v → ∃ t, exec .axSyscalDone s = .next t ∧ (a ≠ addr 0x52 6 → (t.reg a).toInt = v) ∧ t.x.ax.cal.done = true ∧
          t.x.ax.cal.kind = 0 ∧ EvtSet t 0x52 2) ∧
        (¬ fits v → ∃ t, exec .axSyscalDone s = .next t ∧ t.x.ax.cal.range = true ∧ t.x.ax.cal.kind = 0 ∧ ∀ b, t.reg b = s.reg b)))

/-- System calibration from its command to its value. -/
def Obligations.SystemCalibration : Prop := Claims.CalibrationCommands ∧ Claims.CalibrationEnds

/-- Background calibration (R285, R286). With a privileged slice due and the spare idle a cycle begins with the next of them. It switches
the spare to the reference, writes SP_OFFS and SP_GAIN with the event, verifies, lets the spare stand in, and at its end counts and releases
the spare. A slice left too long sets BG_LATE. -/
def Claims.BackgroundCycle : Prop :=
  ∀ (i : Slice) (s : State),
    (ADC_BG_CFG_EN s = true → working s = true → spareIdle s = true → s.x.trace.waiting = false →
      s.x.bg.lastStart + bgPeriod s ≤ s.x.tick.count → nextPriv s = some i →
      ∃ t, exec .bgCalStart s = .next t ∧ t.x.bg.step = 1 ∧ t.x.bg.slice = i ∧ t.x.bg.since = s.x.tick.count ∧
        t.x.bg.z = 2 ^ ADC_BG_CFG_NAVG s ∧ t.x.bg.v = ADC_BG_CFG_VER s ∧ t.cp.spare.state = .calib) ∧
    (let b := s.x.bg
     let age := s.x.tick.count - b.since
     b.endAt = none →
       (b.step = 1 → 3 + b.z ≤ age → exec .bgCalStep s = .next (s.modBg fun b => { b with step := 2 })) ∧
       (b.step = 2 → 6 + 2 * b.z ≤ age → ∃ t, exec .bgCalStep s = .next t ∧ t.x.bg.step = 3 ∧
         t.x.bg.spOffs = wordI (bgOffs b.sz b.z) ∧ t.x.bg.spGain = wordI (bgGain b.sz b.sr b.z) ∧ EvtSet t 0x51 0) ∧
       (b.step = 3 → 9 + 2 * b.z ≤ age → exec .bgCalStep s = .next (s.modBg fun b => { b with step := 4 })) ∧
       (b.step = 4 → 9 + 2 * b.z + b.v ≤ age → ∃ t, exec .bgCalStep s = .next t ∧ t.x.bg.step = 5 ∧ t.x.bg.standIn = true) ∧
       (b.step = 5 → 12 + 3 * b.z + b.v ≤ age → exec .bgCalStep s = .next (s.modBg fun b => { b with step := 6 })) ∧
       (b.step = 7 → 18 + 4 * b.z + b.v ≤ age → s.cp.spare.state = .ret → ∃ t, exec .bgCalStep s = .next t ∧ t.x.bg.step = 0 ∧
         t.x.bg.standIn = false ∧ t.x.bg.count = (b.count + 1) % 65536 ∧ t.x.bg.lastCal[b.slice] = s.x.tick.count ∧
         t.cp.spare.state = .idle ∧ EvtSet t 0x40 0)) ∧
    (privileged s i = true → s.x.bg.lastCal[i] + 2 * ADC_BG_PER s * 1024 < s.x.tick.count →
      exec (.bgCalLate i) s = .next (s.evt 0x40 3))

/-- The measurement of the slice ends (R286, R287). Both values fit and, but for the slice's first cycle, have changed within the limits:
they take effect and the slice has no rejection. Else the old ones stay with BG_REJECT, and a second rejection in a row raises BG_FAIL. -/
def Claims.BackgroundUpdate : Prop :=
  ∀ s : State, s.x.bg.step = 6 → s.x.bg.endAt = none → 15 + 4 * s.x.bg.z + s.x.bg.v ≤ s.x.tick.count - s.x.bg.since →
    (let b := s.x.bg
     let i := b.slice
     let o := bgOffs b.cz b.z
     let g := bgGain b.cz b.cr b.z
     let ok : Prop := calFits o = true ∧ calFits g = true ∧ (b.made[i] = false ∨
       ((o - SL_OFFS_I s i).natAbs ≤ 16 * ADC_BG_DLIM_DOFF s ∧ (g - SL_GAIN_I s i).natAbs ≤ 8 * ADC_BG_DLIM_DGAIN s))
     (ok → ∃ t, exec .bgCalUpdate s = .next t ∧ t.reg (a_SL_OFFS i) = wordI o ∧ t.reg (a_SL_GAIN i) = wordI g ∧
       t.x.bg.rejects[i] = 0 ∧ t.x.bg.made[i] = true ∧ t.x.bg.step = 7) ∧
     (¬ ok → ∃ t, exec .bgCalUpdate s = .next t ∧ t.reg (a_SL_OFFS i) = s.reg (a_SL_OFFS i) ∧
       t.reg (a_SL_GAIN i) = s.reg (a_SL_GAIN i) ∧ t.x.bg.rejects[i] = b.rejects[i] + 1 ∧ EvtSet t 0x40 2 ∧ t.x.bg.step = 7 ∧
       (1 ≤ b.rejects[i] → ErrSet t 0x40 1)))

/-- A reference trace (R291, R292): requested with CAL_VREF in its range it waits, else it is refused; it begins when the spare is idle,
goes to CALV after 65,539 ticks and ends 131,078 ticks after its start with ADC_REF_ERR and TRACE_DONE, or with RANGE and the old value.
An abort before that boundary ends it with ABORTED. -/
def Claims.ReferenceTrace : Prop :=
  ∀ s : State,
    (let tr := s.x.trace
     (tr.waiting = false → tr.running = false →
       (500000 ≤ calVref s → calVref s ≤ 1200000 → ∃ t, exec .refTraceRequest s = .next t ∧ t.x.trace.waiting = true) ∧
       (calVref s < 500000 ∨ 1200000 < calVref s → ∃ t, exec .refTraceRequest s = .next t ∧ t.x.trace.waiting = false ∧
         t.x.trace.running = false ∧ t.x.trace.refused = true)) ∧
     (tr.waiting = true → spareIdle s = true → ∃ t, exec .refTraceBegin s = .next t ∧ t.x.trace.running = true ∧
       t.x.trace.waiting = false ∧ t.x.trace.since = s.x.tick.count ∧ t.cp.spare.state = .calib) ∧
     (tr.running = true → tr.since + 65539 ≤ s.x.tick.count →
       exec .refTraceToCalv s = .next (s.modTrace fun t => { t with calv := true })) ∧
     (tr.running = true → tr.since + 131078 ≤ s.x.tick.count →
       (let e := rnd ((ratDiv ((calVref s : Rat) * 8388608 / 1250000) (ratDiv ((tr.sc - tr.sz : Int) : Rat) 65536) - 1) * 131072)
        (e.natAbs ≤ 1311 → ∃ t, exec .refTraceDone s = .next t ∧ t.reg a_ADC_REF_ERR = wordI e ∧ t.x.trace.done = true ∧
          t.x.trace.running = false ∧ EvtSet t 0x40 4) ∧
        (1311 < e.natAbs → ∃ t, exec .refTraceDone s = .next t ∧ t.reg a_ADC_REF_ERR = s.reg a_ADC_REF_ERR ∧
          t.x.trace.range = true ∧ t.x.trace.running = false))) ∧
     (tr.waiting = true ∨ tr.running = true → s.x.tick.count < tr.since + 131078 → ∃ t, exec .refTraceAbort s = .next t ∧
       t.x.trace.running = false ∧ t.x.trace.waiting = false ∧ t.x.trace.aborted = true ∧ t.reg a_ADC_REF_ERR = s.reg a_ADC_REF_ERR) ∧
     (tr.running = true → tr.since + 131078 ≤ s.x.tick.count →
       exec .refTraceAbort s = .next (s.modTrace fun t => { t with ignored := true })))

/-- Background calibration and reference tracing. -/
def Obligations.BackgroundCalibration : Prop := Claims.BackgroundCycle ∧ Claims.BackgroundUpdate ∧ Claims.ReferenceTrace

/-! ### Tally timers -/

/-- A count edge (R330, R332, R333, R338, R341, R343). An edge that TLn_CFG.CLK does not give, and one of a stopped, gated-off or upper-half
Tally, does not count; a gate change governs from the cycle after it on. A single Tally goes up modulo TOP + 1, or up and down between 0
and TOP; a pair counts 64 bits. The edge comes before every other event of its cycle: it counts from what stood before them, a reload
leaves 0 and a load the loaded count. A match with the compare value and a wrap set their event and their flag of TLn_STAT and are noted
for their actions (R339). -/
def Claims.TallyCounts : Prop :=
  ∀ (n : TallyIx) (cyc : Nat) (s : State),
    (let v := s.x.tally[n]
     let same : Bool := v.actAt == some (cycleNow s cyc)
     let start := if same then v.pre else v.cnt
     let down := if same then v.preDown else v.down
     let cleared : Bool := same && v.reloaded
     let runs : Prop := tlAlive s = true ∧ TLn_CFG_EN s n = true ∧ (if same then v.ran else v.run) = true ∧
       (same = true → v.loaded = false) ∧ (TLn_CFG_MODE s n = 2 → gateAt s n cyc = TLn_CFG_GPOL s n)
     let noted (hit wrap : Bool) (t : State) : Prop :=
       t.x.tally[n].wrapDue = (v.wrapDue || wrap) ∧ t.x.tally[n].matchDue = (v.matchDue || hit) ∧
       (hit = true → EvtSet t (tlPage n) 0 ∧ bit (t.reg (a_TLn_STAT n)) 12 = true) ∧
       (wrap = true → EvtSet t (tlPage n) 1 ∧ bit (t.reg (a_TLn_STAT n)) 11 = true) ∧
       t = { s with cp := { s.cp with regs := t.cp.regs }, x := { s.x with regs := t.x.regs, tally := t.x.tally } }
     let counted (c : Nat) (wrap : Bool) (t : State) : Prop :=
       t.x.tally[n].cnt = (if cleared then v.cnt else c) ∧ noted (c == v.cmp && c != start) wrap t ∧
       ∀ m : TallyIx, m ≠ n → t.x.tally[m] = s.x.tally[m]
     (clkHas (TLn_CFG_CLK s n) cyc = false ∨ ¬ runs ∨ tlUpper s n = true → exec (.tallyCountEdge ⟨n, cyc⟩) s = .next s) ∧
     (clkHas (TLn_CFG_CLK s n) cyc = true → runs → tlUpper s n = false →
       (tlPaired s n = false → TLn_CFG_MODE s n ≠ 1 → ∃ t, exec (.tallyCountEdge ⟨n, cyc⟩) s = .next t ∧
         counted (if start = tlTop s n then 0 else (start + 1) % 2 ^ 32) (start == tlTop s n) t) ∧
       (tlPaired s n = false → TLn_CFG_MODE s n = 1 →
         (down = false → start < tlTop s n → ∃ t, exec (.tallyCountEdge ⟨n, cyc⟩) s = .next t ∧ counted (start + 1) false t ∧
           (cleared = false → t.x.tally[n].down = decide (start + 1 = tlTop s n))) ∧
         (down = true → 0 < start → ∃ t, exec (.tallyCountEdge ⟨n, cyc⟩) s = .next t ∧ counted (start - 1) (start == 1) t ∧
           (cleared = false → t.x.tally[n].down = decide (start ≠ 1)))) ∧
       (tlPaired s n = true → same = false → s.x.tally[oddOf n].actAt ≠ some (cycleNow s cyc) →
         (let c := (s.x.tally[oddOf n].cnt * 2 ^ 32 + v.cnt + 1) % 2 ^ 64
          oddOf n ≠ n → ∃ t, exec (.tallyCountEdge ⟨n, cyc⟩) s = .next t ∧ t.x.tally[n].cnt = c % 2 ^ 32 ∧
            t.x.tally[oddOf n].cnt = c / 2 ^ 32 ∧ noted (c == s.x.tally[oddOf n].cmp * 2 ^ 32 + v.cmp) (c == 0) t))))

/-- The actions of a match and of a wrap (R339, R340, R342, R343): the outputs that select this Tally, in HOLD and RUN; and the chain action
on an enabled target, a linked pair being one, which starts it, stops it or sets its count to 0; a start in the cycle of a stop does not
start it, a reload in the cycle of a load leaves the loaded count (R341). A wrap whose edge also matched acts after the match. -/
def Claims.TallyActs : Prop :=
  ∀ (n : TallyIx) (cyc : Nat) (s : State),
    (let now := cycleNow s cyc
     let acted (wrap : Bool) (out act : Nat) (t : State) : Prop :=
       (let k := ix16 (TLn_ACT_TGT s n)
        let j := if tlPaired s k then evenOf k else k
        let inNow : Prop := s.x.tally[j].actAt = some now
        (if wrap then t.x.tally[n].wrapDue = false else t.x.tally[n].matchDue = false) ∧
        (s.x.dev = .hold ∨ s.x.dev = .run → ∀ m : Fin 4, toutSel s m = n.val →
          (out = 1 → t.x.tout[m] = true) ∧ (out = 2 → t.x.tout[m] = false) ∧ (out = 3 → t.x.tout[m] = !s.x.tout[m])) ∧
        (∀ m : Fin 4, toutSel s m ≠ n.val → t.x.tout[m] = s.x.tout[m]) ∧
        (TLn_CFG_EN s j = true →
          (act = 1 → ¬ (inNow ∧ s.x.tally[j].halted = true) → t.x.tally[j].run = true) ∧
          (act = 1 → inNow → s.x.tally[j].halted = true → t.x.tally[j].run = s.x.tally[j].run) ∧
          (act = 2 → t.x.tally[j].run = false) ∧
          (act = 3 → ¬ (inNow ∧ s.x.tally[j].loaded = true) → t.x.tally[k].cnt = 0 ∧ t.x.tally[j].cnt = 0) ∧
          (act = 3 → inNow → s.x.tally[j].loaded = true → t.x.tally[k].cnt = s.x.tally[k].cnt)))
     (s.x.tally[n].matchDue = true → ∃ t, exec (.tallyMatch ⟨n, cyc⟩) s = .next t ∧
       acted false (TLn_OUT_OMATCH s n) (TLn_ACT_ON_MATCH s n) t) ∧
     (s.x.tally[n].wrapDue = true → s.x.tally[n].matchDue = false → ∃ t, exec (.tallyWrap ⟨n, cyc⟩) s = .next t ∧
       acted true (TLn_OUT_OWRAP s n) (TLn_ACT_ON_WRAP s n) t) ∧
     (s.x.tally[n].wrapDue = true → s.x.tally[n].matchDue = true →
       ∃ u, exec (.tallyMatch ⟨n, cyc⟩) s = .next u ∧ exec (.tallyWrap ⟨n, cyc⟩) s = exec (.tallyWrap ⟨n, cyc⟩) u))

/-- Count edges, and the actions of a match and a wrap. -/
def Obligations.TallyCounting : Prop := Claims.TallyCounts ∧ Claims.TallyActs

/-- Capture, gate and common start (R331, R333 to R335). A detected edge of a pin reaches every Tally whose input and filter setting it is:
each that captures moves CAPR to CAPP and takes the count on a rising edge, takes it into CAPF on a falling one, each with its event. A gate
change is the pin's new level. TL_SYNC enables the Tallies that it names together. -/
def Claims.TallyInputs : Prop :=
  ∀ (e : TinEdge) (level : Bool) (mask : Word) (s : State),
    (let feeds (n : TallyIx) : Prop := tlAlive s = true ∧ TLn_CFG_EN s n = true ∧ TLn_CFG_MODE s n = 3 ∧ tlPaired s n = false ∧
       TLn_CFG_IN s n = e.pin.val ∧ TLn_CFG_FILT s n = e.filt.val
     (∃ t, exec (.tallyCaptureRise e) s = .next t ∧ t.x.tin[e.pin][e.filt].level = true ∧ ∀ n : TallyIx,
       (feeds n → t.x.tally[n].capP = s.x.tally[n].capR ∧ t.x.tally[n].capR = s.x.tally[n].cnt ∧
         t.x.tally[n].capF = s.x.tally[n].capF ∧ t.x.tally[n].cnt = s.x.tally[n].cnt ∧ EvtSet t (tlPage n) 2) ∧
       (¬ feeds n → t.x.tally[n] = s.x.tally[n])) ∧
     (∃ t, exec (.tallyCaptureFall e) s = .next t ∧ t.x.tin[e.pin][e.filt].level = false ∧ ∀ n : TallyIx,
       (feeds n → t.x.tally[n].capF = s.x.tally[n].cnt ∧ t.x.tally[n].capR = s.x.tally[n].capR ∧
         t.x.tally[n].capP = s.x.tally[n].capP ∧ t.x.tally[n].cnt = s.x.tally[n].cnt ∧ EvtSet t (tlPage n) 3) ∧
       (¬ feeds n → t.x.tally[n] = s.x.tally[n])) ∧
     (∃ t, exec (.tallyGateChange e level) s = .next t ∧ t = { s with x := { s.x with tin := t.x.tin } } ∧
       t.x.tin[e.pin][e.filt].level = level ∧
       ∀ (p : Fin 4) (f : Fin 16), p ≠ e.pin ∨ f ≠ e.filt → t.x.tin[p][f] = s.x.tin[p][f]) ∧
     ∃ t, exec (.tallySyncStart mask) s = .next t ∧ ∀ m : TallyIx,
       (bit mask m = true → TLn_CFG_EN t m = true ∧
         (tlUpper s m = false → bit s.x.tally[m].cfg 15 = false → t.x.tally[m].run = true)) ∧
       (bit mask m = false → TLn_CFG_EN t m = TLn_CFG_EN s m ∧ t.x.tally[m] = s.x.tally[m]))

/-- The count and compare registers (R337): the low half is held, the high half loads both; of a pair the even Tally's high half is held too
and the odd one's loads all 64 bits. What a load finds before it in its cycle stands no more (R341). A parity error leaves the Tally suspect
with its error (R351). -/
def Claims.TallyLoads : Prop :=
  ∀ (n : TallyIx) (w : TallyLoad) (s : State),
    (let v := s.x.tally[n]
     let only (f : TallySt → TallySt) (t : State) : Prop := t = { s with x := { s.x with tally := upd s.x.tally n (f v) } }
     (∃ t, exec (.tallyCntLWrite n w.val) s = .next t ∧ only (fun v => { v with heldL := w.val }) t) ∧
     (∃ t, exec (.tallyCmpLWrite n w.val) s = .next t ∧ only (fun v => { v with cmpL := w.val }) t) ∧
     (tlPaired s n = false →
       (∃ t, exec (.tallyCntHWrite n w) s = .next t ∧ t = { s with x := { s.x with tally := t.x.tally } } ∧
         t.x.tally[n].cnt = w.val.toNat * 65536 + v.heldL.toNat ∧ t.x.tally[n].heldL = 0 ∧ t.x.tally[n].suspect = false ∧
         t.x.tally[n].actAt = some (cycleNow s w.cyc) ∧ t.x.tally[n].loaded = true ∧
         ∀ m : TallyIx, m ≠ n → t.x.tally[m] = s.x.tally[m]) ∧
       (∃ t, exec (.tallyCmpHWrite n w) s = .next t ∧
         only (fun v => { v with cmp := w.val.toNat * 65536 + v.cmpL.toNat, cmpL := 0, cmpH := 0 }) t)) ∧
     (tlPaired s n = true → n.val % 2 = 0 →
       (∃ t, exec (.tallyCntHWrite n w) s = .next t ∧ only (fun v => { v with heldH := w.val }) t) ∧
       (∃ t, exec (.tallyCmpHWrite n w) s = .next t ∧ only (fun v => { v with cmpH := w.val }) t)) ∧
     (tlPaired s n = true → n.val % 2 = 1 →
       (let e := s.x.tally[evenOf n]
        (∃ t, exec (.tallyCntHWrite n w) s = .next t ∧ t.x.tally[n].cnt = w.val.toNat * 65536 + v.heldL.toNat ∧
          t.x.tally[evenOf n].cnt = e.heldH.toNat * 65536 + e.heldL.toNat) ∧
        (∃ t, exec (.tallyCmpHWrite n w) s = .next t ∧ t.x.tally[n].cmp = w.val.toNat * 65536 + v.cmpL.toNat ∧
          t.x.tally[evenOf n].cmp = e.cmpH.toNat * 65536 + e.cmpL.toNat))) ∧
     ∃ t, exec (.tallyParityError n) s = .next t ∧ ErrSet t (tlPage n) 0 ∧
       t.x.tally = upd s.x.tally n { v with suspect := true })
/-! ### Tap calibration -/

/-- Captures, gates, common start, loads. -/
def Obligations.TallyAccess : Prop := Claims.TallyInputs ∧ Claims.TallyLoads

/-- A calibration command begins its run when nothing forbids it, and is else refused with the first cause that applies (R357): 1 a run in
progress, 2 not in HOLD or RUN, 3 the train not OFF or the source enabled, 4 CAL_VREF outside its range, 5 no leg, 6 no such source.
A run on a source turns its enable off (R359). An abort before the end of the run ends it with ABORTED (R370). -/
def Claims.TapRuns : Prop :=
  ∀ (k : Train) (j : Src) (i : Fin 8) (s : State), i.val = j.val →
    (let v := s.x.cal
     let vref : Prop := 500000 ≤ calVref s ∧ calVref s ≤ 1200000
     let begun (kind target : Nat) (t : State) : Prop := t.x.cal.kind = kind ∧ t.x.cal.target = target ∧
       t.x.cal.since = s.x.tick.count ∧ t.x.cal.refused = false ∧ t.x.cal.valid = v.valid
     let refused (cause : Nat) (t : State) : Prop :=
       t = { s with x := { s.x with cal := { v with refused := true, refCause := cause } } }
     (v.kind = 0 → working s = true → vref →
       (s.cp.trains[k].state = .off → calLegs s k ≠ [] → ∃ t, exec (.calTrain k) s = .next t ∧ begun 1 k.val t ∧
         t.x.cal.legs = calLegs s k ∧ t = { s with x := { s.x with cal := t.x.cal } }) ∧
       (nbit (SRC_CTRL_EN s) j = false → ∃ t, exec (.calSrc i) s = .next t ∧ begun 2 j.val t ∧
         t.x.srcEn = upd s.x.srcEn j (SRCs_CFG_POL s j)) ∧
       (∃ t, exec .calRing s = .next t ∧ begun 3 0 t ∧ t = { s with x := { s.x with cal := t.x.cal } }) ∧
       (s.cp.trains[k].state = .off → calLegs s k = [] → ∃ t, exec (.calTrain k) s = .next t ∧ refused 5 t) ∧
       (∀ n : Fin 8, 4 ≤ n.val → ∃ t, exec (.calSrc n) s = .next t ∧ refused 6 t)) ∧
     (v.kind = 0 → working s = true →
       (s.cp.trains[k].state ≠ .off → ∃ t, exec (.calTrain k) s = .next t ∧ refused 3 t) ∧
       (nbit (SRC_CTRL_EN s) j = true → ∃ t, exec (.calSrc i) s = .next t ∧ refused 3 t) ∧
       (¬ vref → ∃ t, exec .calRing s = .next t ∧ refused 4 t)) ∧
     (∀ c, v.kind ≠ 0 ∨ working s = false → c = .calTrain k ∨ c = .calSrc i ∨ c = .calRing →
       ∃ t, exec c s = .next t ∧ refused (if v.kind ≠ 0 then 1 else 2) t) ∧
     (v.kind ≠ 0 → s.x.tick.count < v.since + v.len → ∃ t, exec .calAbort s = .next t ∧ t.x.cal.kind = 0 ∧ t.x.cal.aborted = true ∧
       t.x.cal.abortCause = 1 ∧ t.x.cal.valid = v.valid) ∧
     (v.kind ≠ 0 → v.since + v.len ≤ s.x.tick.count → exec .calAbort s = .next (s.modCal fun v => { v with ignored := true })))

/-- The verdict of a ring run (R365 to R368): the two passes, each limited to 64 to 127 cells, differ by no more than the tolerance and lie within the
limits: the mean, halves up, is written, DONE and its valid bit are set. Else FAIL names the test, no value changes, and a second failure in
a row raises the error. A pass with AUTOSAVE asks for a save. A save is noted, each one asked for while one runs is
made after it, and with the storeroom fenced it ends at once with the error (R392); it ends with its event, or, where the storeroom finds an
error, with the error (R375, R492). -/
def Claims.TapVerdict : Prop :=
  ∀ (m : CalResults) (r : SaveRead) (s : State),
    (let v := s.x.cal
     let cells (x : Int) : Int := max 64 (min 127 x)
     let a := cells (m.first.getD 0 0)
     let b := cells (m.second.getD 0 0)
     let inside (x : Int) : Prop := (CAL_CELL_LIM_MIN s : Int) ≤ x ∧ x ≤ (CAL_CELL_LIM_MAX s : Int)
     v.kind = 3 → v.two = true → v.since + v.len ≤ s.x.tick.count →
       ((a - b).natAbs ≤ CAL_TOL_TOL s → inside a → inside b → v.lastKind = 3 →
         ∃ t, exec (.calVerdict m) s = .next t ∧ t.x.cal.kind = 0 ∧ t.x.cal.done = true ∧ (bits (t.reg a_CAL_RING) 6 0 : Int) = (a + b + 1) / 2 ∧
           bit t.x.cal.valid 12 = true ∧ t.x.cal.failed[(12 : Fin 13)] = false ∧ EvtSet t 0x58 0 ∧
           (CAL_CTRL_AUTOSAVE s = true → t.x.cal.saveDue = true)) ∧
       (∀ test, (test = 1 ∧ CAL_TOL_TOL s < (a - b).natAbs) ∨
           (test = 3 ∧ (a - b).natAbs ≤ CAL_TOL_TOL s ∧ ¬ (inside a ∧ inside b)) →
         ∃ t, exec (.calVerdict m) s = .next t ∧ t.x.cal.kind = 0 ∧ t.x.cal.fail = true ∧ t.x.cal.failTest = test ∧
           t.x.cal.valid = v.valid ∧ t.x.cal.failed[(12 : Fin 13)] = true ∧ bits (t.reg a_CAL_RING) 6 0 = bits (s.reg a_CAL_RING) 6 0 ∧ EvtSet t 0x58 1 ∧
           (v.failed[(12 : Fin 13)] = true → ErrSet t 0x58 1))) ∧
    (s.isFenced .store = false → s.x.cal.saveBusy = false → exec .calSave s = .next (s.modCal fun v =>
      { v with saveBusy := true, saveDone := false, saveErr := false })) ∧
    (s.isFenced .store = false → s.x.cal.saveBusy = true → exec .calSave s = .next (s.modCal fun v => { v with saveAgain := v.saveAgain + 1 })) ∧
    (s.isFenced .store = true → ∃ t, exec .calSave s = .next t ∧ t.x.cal.saveErr = true ∧ t.x.cal.saveBusy = s.x.cal.saveBusy ∧
      ErrSet t 0x58 2) ∧
    (s.x.store.op = some .calSave → s.x.cal.saveBusy = true →
      (let good : Prop := r.erase.bad = [] ∧ r.erase.uncorrectable = false ∧ r.prog.bad = [] ∧ r.prog.uncorrectable = false
       let more : Prop := s.x.cal.saveAgain ≠ 0
       ∃ t, exec (.calSaveDone r) s = .next t ∧ t.x.store.op = none ∧ (t.x.cal.saveBusy = true ↔ more) ∧
        t.x.cal.saveAgain = s.x.cal.saveAgain - 1 ∧
        (good → EvtSet t 0x58 3 ∧ t.x.cal.saveDone = decide (¬ more)) ∧
        (r.prog.uncorrectable = true → ErrSet t 0x58 2 ∧ t.x.cal.saveErr = decide (¬ more)) ∧
        (more → t.x.cal.saveDone = false ∧ t.x.cal.saveErr = false)))

/-- A tap calibration from its command to its verdict. -/
def Obligations.TapCalibration : Prop := Claims.TapRuns ∧ Claims.TapVerdict

/-! ### The storeroom -/

/-- The host window (R489, R490, R492). An address write loads the address; a read gives the word there, counts a corrected one or raises the
error of an uncorrectable one, and steps the address; a write puts its word into the program buffer of the page and steps the address,
and to a sector that is not the host's or with both buffers waiting it is dropped with its bit of STORE_ERR. The array keeps its
words. -/
def Claims.StoreWindow : Prop :=
  ∀ (w r : Word) (s : State), hostLive s = true → s.isFenced .store = false →
    (let v := s.x.store
     let a := v.addr
     let next (t : State) : Prop := t.x.store.addr = (a + 1) % 2 ^ 25 ∧ t.x.store.mem = v.mem
     let denied : Prop := hostSector (a / 32768) = false
     (∃ t, exec (.storeAddrWrite false w) s = .next t ∧ STORE_ADDR_L t = w.toNat ∧ STORE_ADDR_H_ADDR t = STORE_ADDR_H_ADDR s ∧
       t.x.store.addr = STORE_ADDR_H_ADDR t * 65536 + w.toNat ∧ t.x.store.mem = v.mem) ∧
     (∃ t, exec (.storeAddrWrite true w) s = .next t ∧ STORE_ADDR_L t = STORE_ADDR_L s ∧ STORE_ADDR_H_ADDR t = w.toNat % 512 ∧
       t.x.store.addr = STORE_ADDR_H_ADDR t * 65536 + STORE_ADDR_L s ∧ t.x.store.mem = v.mem) ∧
     (∃ t, exec (.storeDataRead .good) s = .next t ∧ t.x.store.out = stGet v.mem a ∧ t.x.store.eccCnt = v.eccCnt ∧ next t) ∧
     (∃ t, exec (.storeDataRead .corrected) s = .next t ∧ t.x.store.out = stGet v.mem a ∧ t.x.store.eccCnt = min 65535 (v.eccCnt + 1) ∧
       next t) ∧
     (∃ t, exec (.storeDataRead (.bad r)) s = .next t ∧ t.x.store.out = r ∧ ErrSet t 0xC0 2 ∧ next t) ∧
     (¬ denied → v.waitB.length < 2 → ∃ t, exec (.storeDataWrite w) s = .next t ∧ next t ∧
       ∃ b, (t.x.store.fill = some b ∨ b ∈ t.x.store.waitB) ∧ (a % 128, w) ∈ b.words ∧ (v.fill = none → b.page = a / 128)) ∧
     (denied → ∃ t, exec (.storeDataWrite w) s = .next t ∧ next t ∧ bit (t.reg a_STORE_ERR) 14 = true) ∧
     (¬ denied → 2 ≤ v.waitB.length → ∃ t, exec (.storeDataWrite w) s = .next t ∧ next t ∧ bit (t.reg a_STORE_ERR) 15 = true))

/-- The commands of the storeroom (R490, R493, R494). An erase is accepted for a host sector with nothing running, and else refused; PROG takes the
buffers, or ends at once with none; an abort of an erase that has not begun leaves the array as it is, of a running one, or of one that
is to be reported at the next cycle 0, no word outside its sector changes. The free array takes the next operation by its order, those of
the host in the order in which they were asked for (R493). -/
def Claims.StoreCommands : Prop :=
  ∀ (sector : Fin 1024) (s : State), hostLive s = true → s.isFenced .store = false →
    (let v := s.x.store
     (v.busy = false → hostSector sector.val = true → ∃ t, exec (.storeErase sector) s = .next t ∧
       t = { s with x := { s.x with store := { v with
         busy := true, done := false, aborted := false, abortIgnored := false, refused := false
         erase := some sector.val, eraseAfter := v.waitB.length } } }) ∧
     (v.busy = true → hostSector sector.val = true → exec (.storeErase sector) s = .next (s.modStore fun v => { v with refused := true })) ∧
     (hostSector sector.val = false → ∃ t, exec (.storeErase sector) s = .next t ∧ t.x.store.refused = true ∧
       t.x.store.erase = v.erase ∧ t.x.store.mem = v.mem ∧ bit (t.reg a_STORE_ERR) 14 = true) ∧
     (v.busy = false → (v.fill = none ∧ v.waitB = []) → ∃ t, exec .storeProg s = .next t ∧ t.x.store.done = true ∧
       t.x.store.busy = false ∧ t.x.store.mem = v.mem ∧ EvtSet t 0xC0 0) ∧
     (v.busy = false → ¬ (v.fill = none ∧ v.waitB = []) → ∃ t, exec .storeProg s = .next t ∧ t.x.store.busy = true ∧
       t.x.store.prog = true ∧ t.x.store.fill = none ∧
       t.x.store.waitB = v.waitB ++ (match v.fill with | some b => [b] | none => []) ∧ t.x.store.mem = v.mem) ∧
     (∀ k, v.erase = some k → ∃ t, exec .storeAbort s = .next t ∧ t.x.store.aborted = true ∧ t.x.store.busy = false ∧
       t.x.store.erase = none ∧ (v.op = some (.hostErase k) → t.x.store.op = none) ∧
       (v.op ≠ some (.hostErase k) → t.x.store.op = v.op ∧ (v.eraseEnd = false → t.x.store.mem = v.mem)) ∧
       ∀ a, a / 32768 ≠ k → stGet t.x.store.mem a = stGet v.mem a) ∧
     (s.x.pwr.sleeping = false → v.op = none → imageWanted s = true → exec .storeOpStart s = .next (s.modStore fun v =>
       { v with op := some .imageRead })) ∧
     (s.x.pwr.sleeping = false → v.op = none → imageWanted s = false → ∃ t, exec .storeOpStart s = .next t ∧
       t = { s with x := { s.x with store := { v with op := t.x.store.op } } } ∧
       (s.x.cal.saveBusy = true → t.x.store.op = some .calSave) ∧
       (s.x.cal.saveBusy = false → v.queue ≠ [] → v.head % 2048 ≠ 0 ∨ v.fresh = true → t.x.store.op = some .ledger) ∧
       (s.x.cal.saveBusy = false → v.queue = [] → ∀ k, v.erase = some k → v.eraseAfter = 0 → v.eraseEnd = false →
         t.x.store.op = some (.hostErase k)) ∧
       (s.x.cal.saveBusy = false → v.queue = [] → v.erase = none ∨ v.eraseAfter ≠ 0 → v.waitB ≠ [] → t.x.store.op = some .hostProg)))

/-- The array's operations end (R490, R492, R494). Programming a buffer clears bits and sets none (log entry 23: the model's reading), in the words
of the buffer only; an erase leaves 0xFFFF in every word of its sector and touches no other. The program command that waited for it is
done, with its event; an erase command is done with its event at the next cycle 0. -/
def Claims.StoreArray : Prop :=
  ∀ s : State, Memory.wf s.x.store.mem = true →
    (let v := s.x.store
     (∀ b rest, v.op = some .hostProg → v.waitB = b :: rest → (b.words.map Prod.fst).Nodup →
       ∃ t, exec (.storeProgramDone {}) s = .next t ∧ t.x.store.op = none ∧ t.x.store.waitB = rest ∧
         (∀ c ∈ b.words, stGet t.x.store.mem (b.page * 128 + c.1) = stGet v.mem (b.page * 128 + c.1) &&& c.2) ∧
         (∀ a, (∀ c ∈ b.words, a ≠ b.page * 128 + c.1) → stGet t.x.store.mem a = stGet v.mem a) ∧
         (rest = [] → v.prog = true → t.x.store.done = true ∧ t.x.store.busy = false ∧ EvtSet t 0xC0 0)) ∧
     (∀ k, v.op = some (.hostErase k) → ∃ t, exec (.storeEraseDone {}) s = .next t ∧ t.x.store.op = none ∧
       (∀ a, a / 32768 = k → stGet t.x.store.mem a = 0xFFFF) ∧ (∀ a, a / 32768 ≠ k → stGet t.x.store.mem a = stGet v.mem a) ∧
       (let u := storeBoundary t
        u.x.store.mem = t.x.store.mem ∧ u.x.store.done = true ∧ u.x.store.busy = false ∧ EvtSet u 0xC0 0)) ∧
     (∀ (r : ArrayRead) (b : ProgBuf) rest, v.op = some .hostProg → v.waitB = b :: rest →
       ∃ t, exec (.storeProgramDone r) s = .next t ∧ t.x.store.eccCnt = min 65535 (v.eccCnt + r.corrected) ∧
         (r.uncorrectable = true → ErrSet t 0xC0 2) ∧
         ((∃ c ∈ b.words, stGet t.x.store.mem (b.page * 128 + c.1) ≠ c.2) → ErrSet t 0xC0 0 ∧ bit (t.reg a_STORE_ERR) 13 = true)) ∧
     (∀ (r : ArrayRead) k, v.op = some (.hostErase k) → ∃ t, exec (.storeEraseDone r) s = .next t ∧
       t.x.store.eccCnt = min 65535 (v.eccCnt + r.corrected) ∧ (r.uncorrectable = true → ErrSet t 0xC0 2) ∧
       ((∃ c ∈ r.bad, c.2 ≠ 0xFFFF) → ErrSet t 0xC0 1)))

/-- The storeroom's window, commands and array. -/
def Obligations.Storeroom : Prop := Claims.StoreWindow ∧ Claims.StoreCommands ∧ Claims.StoreArray

/-- The ledger takes a record of the present tick, or counts it as lost when 16 wait or the storeroom is fenced (R499, R501). The larder arms from OFF and FROZEN, begins its
post-trigger part at a trigger, freezes with its event when that is written, flushes from FROZEN, and ends a flush FROZEN or armed
again (R503, R504). -/
def Obligations.LedgerAndLarder : Prop :=
  ∀ s : State,
    (let v := s.x.store
     let l := s.x.larder
     let payload : List Word := (List.range 7).map fun i => s.reg (addr 0xC0 (0x21 + i))
     let entry : LedgerRec := { kind := LG_KIND_KIND s, sub := LG_KIND_SUB s, tick := s.x.tick.num, pay := payload }
     (hostLive s = true → LG_KIND_KIND s ≠ 2 → LG_KIND_KIND s ≠ 3 →
       (v.queue.length < 16 → s.isFenced .store = false → ∃ t, exec .ledgerAppend s = .next t ∧
         t = { s with x := { s.x with store := { v with queue := v.queue ++ [entry] } } }) ∧
       (16 ≤ v.queue.length ∨ s.isFenced .store = true → ∃ t, exec .ledgerAppend s = .next t ∧ t.x.store.queue = v.queue ∧ t.x.store.lost = min 255 (v.lost + 1) ∧
         EvtSet t 0xC0 1)) ∧
     ((l.state = .off ∧ LAR_CFG_EN s = true) ∨ l.state = .frozen → ∃ t, exec .larderArm s = .next t ∧ t.x.larder.state = .armed ∧
       ∀ r ∈ t.x.larder.recs, r.old = true) ∧
     (l.state = .armed → ∃ t, exec .larderForce s = .next t ∧ t.x.larder.state = .post ∧ t.x.larder.trigSrc = 4 ∧
       t = { s with x := { s.x with larder := t.x.larder } }) ∧
     (l.state = .frozen → s.isFenced .store = false → ∃ t, exec .larderFlush s = .next t ∧ t.x.larder.state = .flush ∧
       t.x.larder.recs = l.recs) ∧
     (l.state = .frozen → s.isFenced .store = true → exec .larderFlush s = .next (s.modLar fun l => { l with err := true })) ∧
     (l.state = .post → l.recorded = true → l.left = 0 → ∃ t, exec .larderFreeze s = .next t ∧ t.x.larder = { l with state := .frozen } ∧
       EvtSet t 0xC1 0) ∧
     (v.op = some (.flush 4095) → v.cut = none → l.state = .flush → ∃ t, exec .larderFlushDone s = .next t ∧ t.x.larder.flushed = !(LAR_CFG_REARM s) ∧
       t.x.larder.state = (if LAR_CFG_REARM s then .armed else .frozen) ∧ EvtSet t 0xC1 1 ∧ t.x.store.capSeq = v.capSeq + 1))

/-! ### Faults -/

/-- The fault word (R379, R385, R387). An error that is not masked sets the bit of its line, which the next decision will take; the first
bit of an empty word is kept with its tick; reactions 3 and 4 drive every leg low at once, the others leave the outputs. A clear takes the
named bits of the half whose lines are quiet and no others; a read of the low half latches the high half for its port. -/
def Obligations.FaultWord : Prop :=
  ∀ (c : Conv) (parity hi : Bool) (m : Word) (p : Port) (s : State),
    (let w := s.x.col.word
     let b := if parity then 1 else 0
     (bit (PG_ERRMASK_W s (0x41 + c.val)) b = false → bit (testHeld s (0x41 + c.val)) b = false →
       ∃ t, exec (.converterFault c parity) s = .next t ∧ (∀ n < 32, t.x.col.word.getLsbD n = (w.getLsbD n || n == 14)) ∧
         (w.getLsbD 14 = false → t.x.col.newly.getLsbD 14 = true ∧
           (w = 0 → t.x.col.first = some 14 ∧ t.x.col.firstTk = s.tickW) ∧
           (react s 14 = 3 ∨ react s 14 = 4 → ∀ n : Leg, OutputsLow t n) ∧
           (react s 14 ≤ 2 → t.x.hw = s.x.hw ∧ t.x.srcEn = s.x.srcEn ∧ t.x.batEn = s.x.batEn)) ∧
         (w.getLsbD 14 = true → t.x.col.word = w ∧ t.x.col.newly = s.x.col.newly ∧ t.x.col.first = s.x.col.first ∧ t.x.hw = s.x.hw)) ∧
     (∃ t, exec (.faultWordClear hi m) s = .next t ∧ (∀ n < 32, t.x.col.word.getLsbD n =
         (w.getLsbD n && !((if hi then decide (16 ≤ n) else decide (n < 16)) && bit m (n % 16) && !(line s n)))) ∧
       (∀ a, t.reg a = s.reg a) ∧ t.x.hw = s.x.hw) ∧
     ∃ t, exec (.faultWordLRead p) s = .next t ∧
       t.x.col.latchH = s.x.col.latchH.put p (some (word ((seenFaultWord s p).toNat / 65536))) ∧ t.x.col.word = w)

/-- Readmission (R394 to R397). A request for a fenced unit with no error begins its self-check; with an error, or in SAFE, it fails with its event.
A check that has run its ticks with no error readmits the unit, with its event, and no other; a failed one, one with an error during it and
one of a unit that is to be fenced again leave it fenced. That of the storeroom erases the device-reserved sector alone (R505). A ring port that does not come up in 1024 ticks fails. A silent host port comes back after
4096 ticks. -/
def Claims.Readmissions : Prop :=
  ∀ (u : FenceUnit) (p : Port) (s : State),
    (pageUnits (unitPage u) = [u] → s.isFenced u = true → (∀ k ∈ s.x.checks, k.unit ≠ u) →
      (s.x.dev ≠ .safe → unitErr s u = false → ∃ t, exec (.unfenceRequest (unitPage u)) s = .next t ∧
        t = { s with x := { s.x with checks := s.x.checks ++ [{ unit := u, since := s.x.tick.count, bad := false }] } }) ∧
      (s.x.dev = .safe ∨ unitErr s u = true → ∃ t, exec (.unfenceRequest (unitPage u)) s = .next t ∧ t.x.fenced = s.x.fenced ∧
        t.x.checks = s.x.checks ∧ t.x.col.unfFail = true ∧ EvtSet t 0xB8 2)) ∧
    (pageUnits (unitPage u) = [u] → s.isFenced u = false → exec (.unfenceRequest (unitPage u)) s = .next s) ∧
    (∀ k, s.x.checks.find? (fun k => k.unit == u) = some k →
      (let isUp (p : RgPortState) : Prop := p = .up ∨ p = .wrap ∨ p = .tap
       let up : Prop := (u = .ringE → isUp s.x.ring.e.state) ∧ (u = .ringW → isUp s.x.ring.w.state)
       let failed (found : SelfTest) : Prop := ∃ t, exec (.readmission u found) s = .next t ∧ t.x.fenced = s.x.fenced ∧
         (∀ k ∈ t.x.checks, k.unit ≠ u) ∧ t.x.col.unfFail = true ∧ EvtSet t 0xB8 2
       (k.since + checkTicks u ≤ s.x.tick.count → up →
         (∀ found, selfTestGood found = true → unitErr s u = false → k.bad = false → u ∉ s.x.col.fencePend →
           (∀ i : Slice, u = .conv (convOf i) → SL_OW_TEN s i = false ∨ s.x.slices[i].owHit < SL_OW_N s i) →
           ∃ t, exec (.readmission u found) s = .next t ∧ t.isFenced u = false ∧ (∀ v, v ≠ u → t.isFenced v = s.isFenced v) ∧
             (∀ k ∈ t.x.checks, k.unit ≠ u) ∧ t.x.col.unfDone = true ∧ t.x.col.unfPage = unitPage u ∧
             (∀ p e, found = .store p e → (∀ a, a / 32768 ≠ 1023 → stGet t.x.store.mem a = stGet s.x.store.mem a) ∧
               (e.bad = [] → ∀ a, a / 32768 = 1023 → stGet t.x.store.mem a = 0xFFFF))) ∧
         (∀ found, selfTestGood found = false ∨ unitErr s u = true ∨ k.bad = true ∨ u ∈ s.x.col.fencePend → failed found)) ∧
       (∀ found, ¬ up → k.since + 1024 ≤ s.x.tick.count → failed found))) ∧
    (let v : FenceUnit := match p with | .spi => .spi | .twm => .twm
     s.isFenced v = true → 4096 ≤ s.x.idle.get p →
       ∃ t, exec (.hostPortAutoReadmit p) s = .next t ∧ t.isFenced v = false ∧ EvtSet t 0xB8 1 ∧
         ∀ w, w ≠ v → t.isFenced w = s.isFenced w)

/-- A device that a reaction holds returns to RUN after its quiet time, at most MAXN times (R389); else it stays as it is. -/
def Claims.ReactionResumes : Prop :=
  ∀ s : State,
    (let c := s.x.col
     let due : Prop := s.x.dev = .hold ∧ c.heldByReaction = true ∧ c.heldByConfig = false ∧ FLT_RESUME_DELAY s ≠ 0 ∧
       FLT_RESUME_DELAY s * 256 < c.quiet ∧ c.resumeCnt < FLT_RESUME_MAXN s
     (due → ∃ t, exec .deviceResume s = .next t ∧ t.x.dev = .run ∧ t.x.col.resumeCnt = c.resumeCnt + 1 ∧
       t.x.col.heldByReaction = false) ∧
     (¬ due → exec .deviceResume s = .next s))

/-- Readmission of units and the return from a reaction. -/
def Obligations.FaultRecovery : Prop := Claims.Readmissions ∧ Claims.ReactionResumes

/-! ### Transactions, snapshots and host writes -/

/-- The commands to an open transaction of a live port (R22 to R28, R567). COMMIT makes its writes one unit for the boundary of its cycle,
and COMMIT_AT for the next tick whose number ends as its target, or is rejected when that is late or the bank was full; ABORT discards it;
OPEN and codes 5 to 7 set BADCMD and nothing else. The target and the result flags are the bank's; it does not end before 65,536 ticks. -/
def Claims.Transactions : Prop :=
  ∀ (p : Port) (cyc : Nat) (w : Word) (s : State), portLive s p = true → (s.x.txn.get p).opened = true → (s.x.txn.get p).since < 65536 →
    (let b := s.x.txn.get p
     let only (b : TxnBank) (t : State) : Prop := t = { s with x := { s.x with txn := s.x.txn.put p b } }
     let empty : TxnBank := { b with opened := false, writes := [], full := false }
     let d := if b.tgt.toNat = s.x.tick.num % 65536 then 65536 else (b.tgt.toNat + 65536 - s.x.tick.num % 65536) % 65536
     let sent (due : Nat) (tgt : Option Nat) (t : State) : Prop := t = { s with x := { s.x with
       txn := s.x.txn.put p empty
       hostUnits := s.x.hostUnits ++ [{ src := .txn p, due := due, writes := b.writes, tick := s.x.tick.count, cyc := cyc, tgt := tgt }] } }
     let rejected (cause : Nat) (late : Bool) (t : State) : Prop :=
       only { empty with reject := true, rejCause := cause, late := b.late || late } t
     (∃ t, exec (.txnOpen p) s = .next t ∧ only { b with badcmd := true } t) ∧
     (∃ t, exec (.txnUndefinedCmd p) s = .next t ∧ only { b with badcmd := true } t) ∧
     (∃ t, exec (.txnTgtWrite p w) s = .next t ∧ only { b with tgt := w } t) ∧
     (∃ t, exec (.txnClear p) s = .next t ∧ only b.clear t) ∧
     (∃ t, exec (.txnAbort p cyc) s = .next t ∧ only { empty with aborted := true } t) ∧
     (b.full = false → ∃ t, exec (.txnCommit p cyc) s = .next t ∧ sent (dueOf s cyc) none t) ∧
     (b.full = true → (∃ t, exec (.txnCommit p cyc) s = .next t ∧ rejected 5 false t) ∧
       ∃ t, exec (.txnCommitAt p cyc) s = .next t ∧ rejected 5 false t) ∧
     (b.full = false → d ≤ 32767 → dueOf s cyc ≤ s.x.tick.count + d →
       ∃ t, exec (.txnCommitAt p cyc) s = .next t ∧ sent (s.x.tick.count + d) (some b.tgt.toNat) t) ∧
     (b.full = false → 32767 < d ∨ s.x.tick.count + d < dueOf s cyc →
       ∃ t, exec (.txnCommitAt p cyc) s = .next t ∧ rejected 6 true t) ∧
     exec (.txnTimeout p) s = .next s)

/-- The other phases of a transaction (R23, R27, R28, R567): with none open, COMMIT and COMMIT_AT have nothing to commit; OPEN opens one
with no writes and its flags cleared, unless a COMMIT_AT waits; ABORT takes back the unit committed last, but not from cycle 900 of the tick
before its boundary, nor once it is decided, nor in the cycle 0 at which one took effect, and with none waiting it is no command. A
transaction left open for 65,536 ticks ends with TMO and its writes are discarded (R29). -/
def Claims.TransactionPhases : Prop :=
  ∀ (p : Port) (cyc : Nat) (s : State),
    (let b := s.x.txn.get p
     let only (b : TxnBank) (t : State) : Prop := t = { s with x := { s.x with txn := s.x.txn.put p b } }
     (portLive s p = true → b.opened = false →
       (∃ t, exec (.txnCommit p cyc) s = .next t ∧ only { b with badcmd := true } t) ∧
       (∃ t, exec (.txnCommitAt p cyc) s = .next t ∧ only { b with badcmd := true } t) ∧
       (txnPhase s p = .idle ∨ txnPhase s p = .waiting → ∃ t, exec (.txnOpen p) s = .next t ∧
         only { b.clear with opened := true, writes := [], full := false, since := 0 } t) ∧
       (txnPhase s p = .pending → ∃ t, exec (.txnOpen p) s = .next t ∧ only { b with badcmd := true } t) ∧
       (b.doneAt = some s.x.tick.count → cyc = 0 → ∃ t, exec (.txnAbort p cyc) s = .next t ∧ only { b with abortIgnored := true } t) ∧
       (b.doneAt ≠ some s.x.tick.count ∨ cyc ≠ 0 →
         (txnUnits s p = [] → ∃ t, exec (.txnAbort p cyc) s = .next t ∧ only { b with badcmd := true } t) ∧
         ∀ u, (txnUnits s p).getLast? = some u →
           (u.decided = false → u.due ≠ s.x.tick.count + 1 ∨ cyc < 900 → ∃ t, exec (.txnAbort p cyc) s = .next t ∧
             txnUnits t p = (txnUnits s p).dropLast ∧
             (t.x.hostUnits.filter fun v => v.src != .txn p) = (s.x.hostUnits.filter fun v => v.src != .txn p) ∧
             t = { s with x := { s.x with txn := s.x.txn.put p { b with aborted := true }, hostUnits := t.x.hostUnits } }) ∧
           (u.decided = true ∨ (u.due = s.x.tick.count + 1 ∧ 900 ≤ cyc) → ∃ t, exec (.txnAbort p cyc) s = .next t ∧
             only { b with abortIgnored := true } t))) ∧
     (b.opened = true → 65536 ≤ b.since → ∃ t, exec (.txnTimeout p) s = .next t ∧
       only { b with opened := false, writes := [], full := false, tmo := true } t))

/-- The commands of a transaction in each of its phases. -/
def Obligations.TransactionBanks : Prop := Claims.Transactions ∧ Claims.TransactionPhases

/-- A held snapshot (R30, R32, R33). HOLD keeps what the port reads, with its tick number, for 4096 ticks, and a second HOLD changes nothing;
RELEASE gives the published snapshot back; at the end of its time HOLD ends with EXPIRED, and the next swap gives the published snapshot back. A read of TK_NUM_L latches the rest of the
tick number for its port; CNT_CLR clears the rollback count. -/
def Obligations.HeldSnapshots : Prop :=
  ∀ (p : Port) (s : State),
    (let b := s.x.snap.get p
     (b.held = false → ∃ t, exec (.snapHold p) s = .next t ∧ t.views = s.views.put p (some s.pub) ∧ t.cp = s.cp ∧ t.pub = s.pub ∧
       (t.x.snap.get p).held = true ∧ (t.x.snap.get p).left = 4096 ∧ (t.x.snap.get p).tnum = word s.pub.x.tick.num) ∧
     (b.held = true → exec (.snapHold p) s = .next s) ∧
     (∃ t, exec (.snapRelease p) s = .next t ∧ t.views = s.views.put p none ∧ (t.x.snap.get p).held = false ∧ t.cp = s.cp) ∧
     (b.hold = true → b.held = true → b.left = 0 → ∃ t, exec (.snapHoldExpiry p) s = .next t ∧ t.views = s.views ∧
       t.x.snap.get p = { b with hold := false, expired := true } ∧ (snapSwap t p).views = s.views.put p none ∧
       ((snapSwap t p).x.snap.get p).held = false) ∧
     (portLive s p = true → ∃ t, exec (.tkNumLRead p) s = .next t ∧
       t.x.tick.latch = s.x.tick.latch.put p (some (word (s.pub.x.tick.num / 65536), word (s.pub.x.tick.num / 2 ^ 32))) ∧
       t.x.tick.num = s.x.tick.num ∧ t.cp = s.cp) ∧
     exec .tkCntClr s = .next (s.modTick fun t => { t with rbCnt := 0 }))

/-- A host write (R4, R13, R14, R23, R565). To a port configuration register it acts at once, a reserved value raising CFG_VALUE in place of it
(log entry 36). To a staged register it joins the port's unit of the boundary of its cycle, or the open transaction's writes; no register
changes before the boundary. To an unassigned page, or a reserved offset, it changes nothing but the port's activity. -/
def Obligations.HostWrites : Prop :=
  ∀ (p : Port) (page off : Nat) (w : Word) (cyc : Nat) (s : State), off < 256 →
    (let b := s.x.txn.get p
     let a := addr page off
     let touched : State := { s with x := { s.x with idle := s.x.idle.put p 0 } }
     let mine : StagedWrite := { page := page, off := off, val := w, tick := s.x.tick.count, cyc := cyc }
     (hostLive s = true → portConfig page off = true →
       (valueOk page off w = true → ∃ t, exec (.hostPortConfigWrite page off w) s = .next t ∧
         t.reg a = (s.reg a &&& ~~~(immMask a)) ||| (w &&& immMask a) ∧ ∀ c, c ≠ a → t.reg c = s.reg c) ∧
       (valueOk page off w = false → ∃ t, exec (.hostPortConfigWrite page off w) s = .next t ∧ OnlyRaised s t 0x00 0)) ∧
     (portLive s p = true → b.opened = false ∨ b.since < 65536 →
       (assigned page = false → portConfig page off = false → exec (.registerWrite p page off w cyc) s = .next touched) ∧
       (assigned page = true → portConfig page off = false → stageable page off = true → page ∉ [2, 3, 0xC0, 0xF0] →
         ¬ (0xA1 ≤ page ∧ page ≤ 0xB0 ∧ 0x12 ≤ off ∧ off ≤ 0x15) →
         (b.opened = false → ∃ t, exec (.registerWrite p page off w cyc) s = .next t ∧
           (∃ u ∈ t.x.hostUnits, u.src = .host p ∧ u.due = dueOf s cyc ∧ mine ∈ u.writes) ∧
           t = { touched with x := { touched.x with hostUnits := t.x.hostUnits } }) ∧
         (b.opened = true → b.writes.length < 256 → ∃ t, exec (.registerWrite p page off w cyc) s = .next t ∧
           mine ∈ (t.x.txn.get p).writes ∧ t = { touched with x := { touched.x with txn := t.x.txn } })) ∧
       (assigned page = true → portConfig page off = false → stageable page off = false → page ∉ [2, 3, 0xC0, 0xF0] →
         ¬ (0xA1 ≤ page ∧ page ≤ 0xB0 ∧ 0x12 ≤ off ∧ off ≤ 0x15) → exec (.registerWrite p page off w cyc) s = .next touched)))

/-! ### The ring -/

/-- A ring port (R408, R409): it comes UP at the end of its training, and takes a searching device to LISTEN; it goes DOWN with its error,
and in a formed ring the port of the other side wraps. CNT_CLR clears both frame error counts. -/
def Claims.RingPorts : Prop :=
  ∀ (east : Bool) (flight : Nat) (s : State),
    (let port (t : State) (e : Bool) : RgPort := if e then t.x.ring.e else t.x.ring.w
     (RG_CFG_EN s = true → ticking s = true → portUp s east = false → flight ≤ 896 → s.isFenced (portUnit east) = false →
       ∃ t, exec (.ringTrainingDone east flight) s = .next t ∧ (port t east).state = .up ∧ (port t east).flight = flight ∧
         port t (!east) = port s (!east) ∧ (s.x.ring.state = .search → t.x.ring.state = .listen) ∧
         (s.x.ring.state ≠ .search → t.x.ring.state = s.x.ring.state)) ∧
     (portUp s east = true → ∃ t, exec (.ringPortDown east) s = .next t ∧ (port t east).state = .down ∧
       ErrSet t 0xC8 (if east then 0 else 3) ∧
       (ringFormed s = true → portIn s (!east) = true → (port t (!east)).wrapped = true ∧
         (port t (!east)).state = (if (port s (!east)).state = .tap then .tap else .wrap)) ∧
       (ringFormed s = false ∨ portIn s (!east) = false → port t (!east) = port s (!east))) ∧
     ∃ t, exec .rgCntClr s = .next t ∧ (∀ e, port t e = { port s e with crc := 0 }) ∧
       t = { s with x := { s.x with ring := { s.x.ring with e := t.x.ring.e, w := t.x.ring.w } } })

/-- The membership of a device (R411, R412, R421, R438, R439, R448): election and succession of a master with their events, HOLDOVER
at a missed marker, the alignment of its tick in HOLD, entry at its entry tick with nothing held, the way back to LISTEN, DROPPED and its
end, LEAVE. -/
def Claims.RingMembership : Prop :=
  ∀ (num : Nat) (s : State),
    (let r := s.x.ring
     (r.state = .listen → 64 ≤ r.quiet → r.mprio < 15 → r.dup = false → ticking s = true →
       (∀ c ∈ r.heard, s.x.tick.count < c.2 + 64 →
         r.mprio < c.1.mprio.val ∨ (r.mprio = c.1.mprio.val ∧ r.pos ≤ c.1.pos.val)) →
       ∃ t, exec .masterElection s = .next t ∧ t.x.ring.state = .master ∧ t.x.ring.mpos = r.pos ∧ t.x.ring.memb = 2 ^ r.pos ∧
         EvtSet t 0xC8 0 ∧ EvtSet t 0xC8 3) ∧
     (r.state = .member ∨ r.state = .holdover → exec .markerMissed s = .next (s.modRing fun r =>
       { r with state := .holdover, missed := r.missed + 1 })) ∧
     (r.state = .holdover → r.mprio < 15 → r.dup = false → r.lastMarker + 3 + 2 * successorIx s ≤ s.x.tick.count →
       ∃ t, exec .masterSuccession s = .next t ∧ t.x.ring.state = .master ∧ t.x.ring.mpos = r.pos ∧
         (∀ q : Pos, nbit t.x.ring.memb q = (nbit r.memb q && q.val != r.mpos)) ∧ EvtSet t 0xC8 4) ∧
     (ringMaster s = true → 2 ≤ r.downTicks → ∃ t, exec .masterDrop s = .next t ∧ t.x.ring.state = .dropped ∧ t.cp = s.cp) ∧
     (r.state = .align → s.x.dev = .hold → r.marker = some num → ∃ t, exec (.tickAlign num) s = .next t ∧ t.x.tick.num = num % 2 ^ 48 ∧
       t.x.ring.state = .load ∧ t.x.ring.aligned = true ∧ t.x.tick.count = s.x.tick.count) ∧
     (r.state = .align ∨ r.state = .load ∨ r.state = .ready → 64 ≤ r.quiet → ∃ t, exec .alignTimeout s = .next t ∧
       t.x.ring.state = .listen ∧ t.x.ring.aligned = false) ∧
     (r.state = .ready → r.entry = some (s.x.tick.num % 65536) → ∃ t, exec .ringEntry s = .next t ∧ t.x.ring.state = .member ∧
       t.x.ring.memberAt = s.x.tick.count ∧ t.x.ring.batches = [] ∧ t.x.ring.frame = none ∧ EvtSet t 0xC8 0) ∧
     (r.state = .dropped → RG_CFG_REJOIN s = true → 256 < r.rejoin → s.x.dev ≠ .safe →
       bit (PG_ERR_W s 0xC8) 7 = false → portUp s true = true ∨ portUp s false = true →
       ∃ t, exec .ringRejoin s = .next t ∧ t.x.ring.state = .listen ∧ t.x.ring.pos = RG_CFG_POS s ∧ t.x.ring.mprio = RG_CFG_MPRIO s) ∧
     exec .ringLeave s = .next (s.modRing fun r => { r with leave := true }))

/-- The ports of the ring and the membership of a device. -/
def Obligations.RingStates : Prop := Claims.RingPorts ∧ Claims.RingMembership

/-- The frames of the ring (R409, R410, R413 to R418, R433, R446). A member takes its master's tick frame as the marker, with the batch for
two ticks later, writes its slot and passes the frame on with one hop more, and the same frame as it is as it comes by again; a demand frame
of its master is passed on and kept for cycle 240; a device in LOAD collects the image; an announcement is relayed up to seven hops, and
kept as the neighbour's when it has made one. A frame with a bad check counts as an error of its port, whatever the ring state, and is used
for nothing. -/
def Obligations.RingFrames : Prop :=
  ∀ (east : Bool) (hops : Fin 8) (f : TickFrame) (d : DemandFrame) (i : ImageFrame) (a : Announce) (s : State),
    ticking s = true → RG_CFG_EN s = true → portIn s east = true → portIn s f.east = true →
    (let r := s.x.ring
     let port (t : State) (e : Bool) : RgPort := if e then t.x.ring.e else t.x.ring.w
     let counted (e : Bool) (t : State) : Prop := (port t e).crc = min 65535 ((port s e).crc + 1) ∧ t.x.ring.state = r.state ∧ t.cp.trains = s.cp.trains
     let whole : Prop := f.markerOk = true ∧ f.batchOk = true ∧ ∀ q : Pos, ∀ w, f.slots[q] = some w → w.good = true
     let bound := s.x.tick.count + f.num - s.x.tick.num
     let imageTo : List Bool := if inLoop s then (loopOut s east ++ tapOut s).eraseDups else if r.state = .dropped then loopOut s east else []
     (r.state = .member → whole → f.mpos.val = r.mpos → r.lastMarker ≠ bound →
       ∃ t, exec (.tickFrameReceive f) s = .next t ∧ t.x.ring.state = .member ∧ t.x.ring.memb = f.memb ∧ t.x.ring.missed = 0 ∧
         t.x.ring.hop = f.hop + 1 ∧ t.x.ring.lastMarker = bound ∧ t.x.ring.batches = r.batches ++ [(bound + 2, f.entries)] ∧
         t.x.ring.fwdTick = some ⟨{ f with hop := f.hop + 1, slots := upd f.slots (ownPos s) (some (slotFor s f)) },
           (loopOut s f.east ++ tapOut s).eraseDups⟩) ∧
     (inLoop s = true → whole → f.mpos.val = r.mpos → r.lastMarker = bound →
       exec (.tickFrameReceive f) s = .next (s.modRing fun r => { r with fwdTick := some ⟨f, loopOut s f.east⟩ })) ∧
     (f.markerOk = false → (port s f.east).crcWin.length < 15 → ∃ t, exec (.tickFrameReceive f) s = .next t ∧ counted f.east t) ∧
     (d.ok = true → inLoop s = true → d.mpos.val = r.mpos → ∃ t, exec (.demandFrameReceive east d) s = .next t ∧
       t = { s with x := { s.x with ring := { r with fwdDemand := some ⟨d, demandOut s east d.mpos⟩, frame := some d, last := some d } } }) ∧
     (d.ok = false → (port s east).crcWin.length < 15 → ∃ t, exec (.demandFrameReceive east d) s = .next t ∧ counted east t) ∧
     (i.ok = false → (port s east).crcWin.length < 15 → ∃ t, exec (.imageFrameReceive east i) s = .next t ∧ counted east t ∧
       (r.state = .load → t.x.ring.imgErr = true)) ∧
     (r.state ≠ .load → i.ok = true →
       exec (.imageFrameReceive east i) s = .next (s.modRing fun r => { r with fwdImage := some ⟨i, imageTo⟩ })) ∧
     (r.state = .load → i.ok = true → r.gotScope = false → r.imgBad = false → i.last = false ∨ i.scope = false →
       ∃ t, exec (.imageFrameReceive east i) s = .next t ∧ t.x.ring.imgFrames = r.imgFrames + 1 ∧ t.x.ring.state = .load ∧
         (i.scope = false → t.x.ring.image = r.image ++ i.entries ∧ t.x.ring.scope = r.scope) ∧
         (i.scope = true → t.x.ring.scope = r.scope ++ i.entries ∧ t.x.ring.image = r.image)) ∧
     ∃ t, exec (.announceBlock east hops a) s = .next t ∧
       t.x.ring.fwdAnn = some ⟨a, if hops.val < 7 ∧ portIn s (!east) = true then [!east] else []⟩ ∧
       t.x.ring.heardE = (if east = true ∧ hops.val ≤ 1 then some a else r.heardE) ∧
       t.x.ring.heardW = (if east = false ∧ hops.val ≤ 1 then some a else r.heardW) ∧
       (a, s.x.tick.count) ∈ t.x.ring.heard ∧ t.cp = s.cp)
/-! ### Power, device state, sleep -/

/-- Resets (R509 to R511, R515, R516). Power-up, the pin, a brown-out and DEV_CTRL RESET with its key all leave the device in BOOT with its cause
recorded, every leg low, no clerk or host unit waiting and the registers of the staged domain at their reset values but for what BOOT samples and
the sticky records of R391, which the loss of VSTART and VBIAS alone clears (R399); a storeroom operation or self-check that was cut off
apart, the array keeps its words. RESET without its key is refused. -/
def Obligations.Resets : Prop :=
  ∀ (straps : Straps) (core : Bool) (key : Word) (s : State),
    (let reset (cause : Nat) (t : State) : Prop := t.x.dev = .boot ∧ t.x.pwr.rstCause = cause ∧ (∀ n : Leg, OutputsLow t n) ∧
       t.cp.trains = State.reset.cp.trains ∧ t.cp.loops = State.reset.cp.loops ∧ t.cp.clerks = State.reset.cp.clerks ∧
       t.x.hostUnits = [] ∧ t.cp.clerkUnits = [] ∧ t.x.tick.num = 0 ∧ t.x.col.word = 0 ∧ t.x.fenced = [] ∧
       (∀ n : Leg, t.reg (a_L_CFG n) = State.reset.reg (a_L_CFG n)) ∧
       (s.x.store.op = none → (∀ k ∈ s.x.checks, k.unit ≠ .store) → t.x.store.mem = s.x.store.mem)
     let kept (t : State) : Prop := t.reg a_FLT_STICKY = s.reg a_FLT_STICKY
     (s.x.dev = .off → ∃ t, exec (.powerUp straps) s = .next t ∧ reset 1 t ∧ kept t ∧
       t.x.pwr.vstart = true ∧ t.x.pwr.straps = straps) ∧
     (s.x.dev ≠ .off → exec (.powerUp straps) s = .next (s.modPwr fun v => { v with vstart := true })) ∧
     (s.x.dev ≠ .off → 
       (∃ t, exec .resetPin s = .next t ∧ reset 2 t ∧ kept t ∧ t.x.pwr.straps = s.x.pwr.straps) ∧
       (∃ t, exec (.brownOut core) s = .next t ∧ reset 8 t ∧ t.x.pwr.straps = s.x.pwr.straps ∧
         (core = true → kept t) ∧ (core = false → t.reg a_FLT_STICKY = State.reset.reg a_FLT_STICKY))) ∧
     (hostLive s = true → (∃ t, exec (.deviceReset 0xB0B7) s = .next t ∧ reset 4 t ∧ kept t ∧ t.x.pwr.straps = s.x.pwr.straps) ∧
       (key ≠ 0xB0B7 → ∃ t, exec (.deviceReset key) s = .next t ∧ t.x.pwr.refused = true ∧ t.x.pwr.refCause = 6 ∧ t.x.dev = s.x.dev ∧
         t.cp = s.cp)))

/-- Supply and boot (R509, R512, R514). Without VSTART a device on VBIAS runs on, else it is OFF; VBIAS good starts the core buck; BOOT ends in
HOLD, unless the image that it loads begins it again. AUTORUN enters RUN at tick 834 of HOLD, unless a line of reaction 3 or 4 is asserted: then it stays in HOLD, refused. -/
def Claims.SupplyAndBoot : Prop :=
  ∀ s : State,
    (s.x.dev ≠ .off → s.x.pwr.supply = true → s.x.dev ≠ .sleep →
      exec .powerDown s = .next (s.modPwr fun v => { v with vstart := false })) ∧
    (s.x.dev ≠ .off → s.x.pwr.supply = false ∨ s.x.dev = .sleep →
      ∃ t, exec .powerDown s = .next t ∧ t.x.dev = .off ∧ (∀ n : Leg, OutputsLow t n) ∧
        (s.x.store.op = none → (∀ k ∈ s.x.checks, k.unit ≠ .store) → t.x.store.mem = s.x.store.mem)) ∧
    (s.x.dev ≠ .off →
      exec .vbiasGood s = .next (s.modPwr fun v => { v with vbias := true, supply := true, core := true, io := true })) ∧
    (s.x.dev = .off → exec .vbiasGood s = .next (s.modPwr fun v => { v with vbias := true, supply := true })) ∧
    (s.x.dev = .boot → s.x.pwr.vbias = true → ∃ t, exec .bootComplete s = .next t ∧
      (t.x.dev ≠ .boot → t.x.dev = .hold ∧ t.pub.cp = t.cp ∧ t.ck = t.cp) ∧
      (bankImage s.x.store.mem false = none → bankImage s.x.store.mem true = none → t.x.dev = .hold ∧ t.x.pwr.conf = s.x.pwr.conf)) ∧
    (s.x.dev = .boot → s.x.pwr.vbias = false → exec .bootComplete s = .next s) ∧
    (s.x.dev = .hold → s.x.pwr.autoPend = true → 834 ≤ s.x.tick.count - s.x.pwr.holdAt → RG_CFG_WAIT s = false →
      (graveLine s = false → ∃ t, exec .autorunEntry s = .next t ∧ t.x.dev = .run ∧ t.x.pwr.autoPend = false) ∧
      (graveLine s = true → exec .autorunEntry s = .next (s.modPwr fun p =>
        { p with autoPend := false, refused := true, refCause := 3 })))

/-- The device commands (R515). RUN from HOLD with a valid configuration and no grave line enters RUN, HOLD from RUN enters HOLD with every train
that switched in HOLD and its legs low, SLEEP with every train OFF or fenced and the device out of the ring begins the entry; each is
refused with its cause when its condition does not hold, and changes nothing else. -/
def Obligations.DeviceCommands : Prop :=
  ∀ s : State, hostLive s = true →
    (let refused (cause : Nat) : State := s.modPwr fun p => { p with refused := true, refCause := cause }
     let idle : Prop := ∀ k : Train, s.cp.trains[k].state = .off ∨ s.cp.trains[k].state = .fenced
     let out : Prop := s.x.ring.state = .off ∨ s.x.ring.state = .search ∨ s.x.ring.state = .dropped
     (s.x.dev = .hold → s.x.pwr.conf = true → graveLine s = false → s.x.col.word.getLsbD 30 = false →
       ∃ t, exec .deviceRun s = .next t ∧ t.x.dev = .run ∧ t.x.pwr.refused = false) ∧
     (s.x.dev ≠ .hold → exec .deviceRun s = .next (refused 1)) ∧
     (s.x.dev = .hold → s.x.pwr.conf = false → exec .deviceRun s = .next (refused 2)) ∧
     (s.x.dev = .hold → s.x.pwr.conf = true → graveLine s = true ∨ s.x.col.word.getLsbD 30 = true →
       exec .deviceRun s = .next (refused 3)) ∧
     (s.x.dev = .run → ∃ t, exec .deviceHold s = .next t ∧ t.x.dev = .hold ∧ t.x.pwr.holdAt = s.x.tick.count ∧
       ∀ k : Train, s.cp.trains[k].state.switching = true → t.cp.trains[k].state = .hold ∧
         ∀ n : Leg, legTrain s n = some k → OutputsLow t n) ∧
     (s.x.dev ≠ .run → exec .deviceHold s = .next (refused 1)) ∧
     (working s = true → idle → out → ∃ t, exec .deviceSleep s = .next t ∧
       t = { s with x := { s.x with pwr := { s.x.pwr with
         refused := false, refCause := 0, sleeping := true, sleepFrom := s.x.dev } } }) ∧
     (working s = false → exec .deviceSleep s = .next (refused 1)) ∧
     (working s = true → ¬ idle → exec .deviceSleep s = .next (refused 4)) ∧
     (working s = true → idle → ¬ out → exec .deviceSleep s = .next (refused 5)))

/-- The monitors (R510, R518). A supply trip raises its bit of PWR.PG_ERR, a clock trip PLL, or REF unless the device is a ring member in
holdover; the RC oscillator takes over a failed slow clock with its event. -/
def Claims.Monitors : Prop :=
  ∀ (i : Fin 5) (s : State), s.x.dev ≠ .off →
    (∃ t, exec (.supplyMonitorTrip i) s = .next t ∧ ErrSet t 0xE0 (2 + i.val) ∧ ∀ a, a ≠ a_PG_ERR 0xE0 → t.reg a = s.reg a) ∧
    (∃ t, exec (.clockMonitorTrip true) s = .next t ∧ ErrSet t 0xE0 1 ∧ t.x.pwr.pll = false) ∧
    (s.x.ring.state ≠ .holdover → ∃ t, exec (.clockMonitorTrip false) s = .next t ∧ OnlyRaised s t 0xE0 0) ∧
    (s.x.ring.state = .holdover → exec (.clockMonitorTrip false) s = .next s) ∧
    ∃ t, exec .slowClockFail s = .next t ∧ EvtSet t 0xE0 0 ∧ t.x.pwr.slowRc = true ∧ ∀ a, a ≠ addr 0xE0 6 → t.reg a = s.reg a

/-- Supply, boot and the monitors. -/
def Obligations.SupplyBootMonitors : Prop := Claims.SupplyAndBoot ∧ Claims.Monitors

/-- Sleep and wake (R519 to R523). At the entry the outputs and the Tally pins are low and the tick stops; the first wake source that is enabled
starts the wake with its record; at its end, VBIAS good, the device is in the state it left with TICKNUM advanced by the sleep's slow cycles
x 390,625 / 30,720, the remainder kept; without VBIAS in time it sleeps on. -/
def Obligations.SleepAndWake : Prop :=
  ∀ (w : WakeSource) (e : Nat) (s : State),
    (let p := s.x.pwr
     let x := e * 390625 + p.rem
     (p.sleeping = true → working s = true → s.x.store.op = none → ∃ t, exec .sleepEntry s = .next t ∧ t.x.dev = .sleep ∧
       t.x.pwr.stopped = true ∧ t.x.pwr.sleepFrom = s.x.dev ∧ t.x.pwr.vbias = (p.vbias && p.waking) ∧ (∀ n : Leg, OutputsLow t n) ∧ (∀ m : Fin 4, t.x.tout[m] = false)) ∧
     (s.x.dev = .sleep ∨ p.sleeping = true → p.waking = false → wakeOn s w = true → ∃ t, exec (.wake w) s = .next t ∧
       t.x.pwr.waking = true ∧ (t.x.pwr.wakeSrc, t.x.pwr.wakeIx) = wakeCode w ∧ EvtSet t 0xE0 2) ∧
     (wakeOn s w = false ∨ p.waking = true → exec (.wake w) s = .next s) ∧
     (s.x.dev = .sleep → p.waking = true → p.vbias = true → ∃ t, exec (.wakeComplete e) s = .next t ∧ t.x.dev = p.sleepFrom ∧
       t.x.pwr.stopped = false ∧ t.x.pwr.waking = false ∧ t.x.tick.num = (s.x.tick.num + x / 30720) % 2 ^ 48 ∧
       t.x.pwr.rem = x % 30720 ∧ t.x.tick.count = s.x.tick.count) ∧
     (s.x.dev = .sleep → p.waking = true → p.vbias = false → ∃ t, exec .wakeVbiasTimeout s = .next t ∧ t.x.dev = .sleep ∧
       t.x.pwr.waking = false ∧ EvtSet t 0xE0 1))

/-! ### Test mode -/

/-- Test mode (R527, R529, R530, R532). The two keys from one port within 4096 ticks open it in HOLD; a key elsewhere is denied. GO starts the selected
loop-back or is refused with its cause; STOP ends it; its completion records the result with its event; EXIT and the time limit close the mode and end
what runs. -/
def Obligations.TestMode : Prop :=
  ∀ (p : Port) (w : Word) (ext : Bool) (cyc since : Nat) (r : LoopResult) (b : LoopBack) (s : State), hostLive s = true →
    (let v := s.x.test
     let now := s.x.tick.count
     let sel : LoopBack := { iface := TEST_LB_IF s, depth := TEST_LB_DEPTH s, inst := TEST_LB_INST s, since := now }
     let refused (cause : Nat) : State := s.modTest fun t => { t with refused := true, refCause := cause, lastWrite := now }
     let closed (t : State) : Prop := t.x.test.isOpen = false ∧ t.x.test.run = none ∧ t.x.test.armed = none ∧ t.cp = s.cp
     (s.x.dev = .hold → exec (.testKeyWrite p 0x4D4C) s = .next (s.modTest fun t => { t with lastWrite := now, armed := some (p, now) })) ∧
     (s.x.dev = .hold → v.armed = some (p, since) → now ≤ since + 4096 → ∃ t, exec (.testKeyWrite p 0x0B17) s = .next t ∧ t.x.test.isOpen = true) ∧
     (s.x.dev = .hold → w ≠ 0x4D4C → w ≠ 0x0B17 ∨ v.armed = none → ∃ t, exec (.testKeyWrite p w) s = .next t ∧
       t.x.test.isOpen = v.isOpen ∧ t.x.test.armed = none) ∧
     (s.x.dev ≠ .hold → ∃ t, exec (.testKeyWrite p w) s = .next t ∧ t.x.test.denied = true ∧ t.x.test.isOpen = v.isOpen ∧
       t.x.test.armed = v.armed) ∧
     (v.isOpen = false → exec (.testGo ext) s = .next s ∧ exec (.testStop cyc) s = .next s ∧ exec .testExit s = .next s) ∧
     (v.isOpen = true →
       (v.run = none → loopKnown sel = true → loopPrereq s sel ext = true → ∃ t, exec (.testGo ext) s = .next t ∧
         t.x.test.run = some sel ∧ t.x.test.done = false ∧ t.x.test.refused = false) ∧
       (v.run ≠ none → exec (.testGo ext) s = .next (refused 1)) ∧
       (v.run = none → loopKnown sel = false → exec (.testGo ext) s = .next (refused 3)) ∧
       (v.run = none → loopKnown sel = true → loopPrereq s sel ext = false → exec (.testGo ext) s = .next (refused 2)) ∧
       (v.run ≠ none → ∃ t, exec (.testStop cyc) s = .next t ∧ t.x.test.run = none ∧ t.x.test.aborted = true ∧ t.x.test.isOpen = true) ∧
       (∃ t, exec .testExit s = .next t ∧ closed t) ∧
       (s.x.dev = .hold → v.lastWrite + 4194304 ≤ now → s.x.pwr.holdAt + 4194304 ≤ now → ∃ t, exec .testModeTimeout s = .next t ∧ closed t)) ∧
     (v.run = some b → b.since + loopTicks b ≤ now → ∃ t, exec (.loopbackDone r cyc) s = .next t ∧ t.x.test.run = none ∧
       t.x.test.done = true ∧ t.x.test.meas = r.meas ∧ t.x.test.errCnt = min 65535 r.errors ∧ EvtSet t 0xF0 0 ∧
       (b.iface ∈ [1, 2, 8] ∨ (b.iface ∈ [4, 5] ∧ b.depth = 0) → t.x.test.pass = decide (r.errors = 0)) ∧
       (b.iface = 6 → b.depth = 0 → t.x.test.pass = (r.rest && decide (((r.meas.toNat : Int) - bits (s.reg (addr 0xF0 0x14)) 15 0).natAbs ≤ 1))) ∧
       (b.iface = 7 → b.depth = 1 → t.x.test.pass = (r.rest && decide ((r.meas.toInt - 26214).natAbs ≤ 262)))))

/-- While test mode is closed, the device ignores writes to TEST offsets 0x12 to 0x1F (R528): nothing changes but the port's activity. -/
def Obligations.ClosedTestMode : Prop :=
  ∀ (p : Port) (off : Nat) (w : Word) (cyc : Nat) (s : State), portLive s p = true → s.x.test.isOpen = false → 0x12 ≤ off → off ≤ 0x1F →
    (s.x.txn.get p).opened = false ∨ (s.x.txn.get p).since < 65536 →
    ∃ t, exec (.registerWrite p 0xF0 off w cyc) s = .next t ∧ (∀ a, t.reg a = s.reg a) ∧ t.x.test = s.x.test ∧ t.cp = s.cp ∧
      t.x.hostUnits = s.x.hostUnits

/-! ### Host ports -/

/-- An address that a read or write of a host port treats as a plain staged register: no window, no latching low half, no page of the port. -/
def plainRegister (page off : Nat) : Prop :=
  page ∉ [1, 2, 3, 0xB8, 0xC0, 0xF0] ∧ ¬ (0xA1 ≤ page ∧ page ≤ 0xB0 ∧ 0x12 ≤ off ∧ off ≤ 0x15) ∧ portConfig page off = false

/-- SPI frames without CRC (R453 to R460), the port live and no checker tripping. A frame with a reserved command bit is ignored and counted. A read, RW = 1,
sends two zero bytes, the dummy word if it is set, and the words from its offset on, high byte first; a write of a staged register joins the port's unit
of the boundary of its cycle. CS# rising inside the header counts in PART. The counts clear together. -/
def Claims.SpiFrames : Prop :=
  ∀ (cmd ad : Word) (crc : Byte) (n cyc : Nat) (w : Word) (s : State), portLive s .spi = true → s.x.dev ≠ .boot → SPI_CFG_CRC s = false →
    (let page := bits ad 15 8
     let off := bits ad 7 0
     let v := s.x.spi
     let word (k : Nat) : Word := portRead s .spi page (if bit cmd 14 then (off + k) % 256 else off)
     (bits cmd 12 0 ≠ 0 →
       (∃ t, exec (.spiRead cmd ad crc n ⟨false, .whole, false⟩ [] .none) s = .next t ∧ t.x.spi.hdr = min 255 (v.hdr + 1) ∧ t.x.spi.prevErr = true ∧
         t.cp = s.cp ∧ t.x.hostUnits = s.x.hostUnits) ∧
       (∃ t, exec (.spiWrite cmd ad crc [{ data := w, crc := crc, cyc := cyc }] ⟨false, .whole, false⟩ .none) s = .next t ∧
         t.x.spi.hdr = min 255 (v.hdr + 1) ∧ t.x.spi.prevErr = true ∧ t.cp = s.cp ∧ t.x.hostUnits = s.x.hostUnits ∧ t.x.txn = s.x.txn)) ∧
     (bits cmd 12 0 = 0 → bit cmd 15 = true → bit cmd 13 = false → plainRegister page off →
       ∃ t, exec (.spiRead cmd ad crc n ⟨false, .whole, false⟩ [] .none) s = .next t ∧ t.cp = s.cp ∧ t.x.regs = s.x.regs ∧ t.x.hostUnits = s.x.hostUnits ∧
         t.x.spi.status = spiStatus s ∧ t.x.spi.prevErr = false ∧
         t.x.spi.miso = [0, 0] ++ (if SPI_CFG_DUMMY s then [0, 0] else []) ++
           ((List.range n).map fun k => [hiByte (word k), loByte (word k)]).flatten) ∧
     (bits cmd 12 0 = 0 → bit cmd 15 = false → plainRegister page off → assigned page = true → stageable page off = true → (s.x.txn.get .spi).opened = false →
       ∃ t, exec (.spiWrite cmd ad crc [{ data := w, crc := crc, cyc := cyc }] ⟨false, .whole, false⟩ .none) s = .next t ∧ t.cp = s.cp ∧ t.x.regs = s.x.regs ∧
         t.x.spi.miso = [0, 0] ∧ ∃ u ∈ t.x.hostUnits, u.src = .host .spi ∧ u.due = dueOf s cyc ∧
           { page := page, off := off, val := w, tick := s.x.tick.count, cyc := cyc } ∈ u.writes) ∧
     (∀ c, c = .spiRead cmd ad crc 0 ⟨true, .whole, true⟩ [] .none ∨ c = .spiWrite cmd ad crc [] ⟨true, .whole, true⟩ .none →
       ∃ t, exec c s = .next t ∧ t.x.spi.part = min 255 (v.part + 1) ∧ t.x.spi.prevErr = true ∧ t.x.spi.frame = none ∧ t.cp = s.cp ∧
         t.x.regs = s.x.regs ∧ t.x.hostUnits = s.x.hostUnits) ∧
     exec .spiCntClr s = .next (s.modSpi fun v => { v with hdr := 0, part := 0, crcCnt := 0 }))

/-- With CRC (R459, R460): a frame whose header CRC is wrong is ignored, counted and raises the error; a data word whose CRC is wrong is not written, and
neither is any word after it. -/
def Claims.SpiCrc : Prop :=
  ∀ (cmd ad : Word) (crc : Byte) (n : Nat) (d : SpiWord) (rest : List SpiWord) (s : State), portLive s .spi = true → s.x.dev ≠ .boot →
    SPI_CFG_CRC s = true →
    (let page := bits ad 15 8
     let nothing (t : State) : Prop := t.x.hostUnits = s.x.hostUnits ∧ t.x.txn = s.x.txn ∧ t.cp.trains = s.cp.trains ∧ ErrSet t 0xD0 0 ∧
       t.x.spi.crcCnt = min 65535 (s.x.spi.crcCnt + 1) ∧ t.x.spi.prevCrc = true ∧ ∀ a, a ≠ a_PG_ERR 0xD0 → t.reg a = s.reg a
     (crc ≠ spiHdrCrc cmd ad →
       (∃ t, exec (.spiRead cmd ad crc n ⟨false, .whole, false⟩ [] .none) s = .next t ∧ nothing t) ∧
       (∃ t, exec (.spiWrite cmd ad crc (d :: rest) ⟨false, .whole, false⟩ .none) s = .next t ∧ nothing t)) ∧
     (crc = spiHdrCrc cmd ad → bits cmd 12 0 = 0 → bit cmd 15 = false → d.crc ≠ spiWordCrc page (bits ad 7 0) d.data →
       ∃ t, exec (.spiWrite cmd ad crc (d :: rest) ⟨false, .whole, false⟩ .none) s = .next t ∧ nothing t))

/-- A frame that cycle 0 cuts (R10, R12, R14): a read goes on with the word at its next offset from the snapshot in force then; a word of a
write that completes after the cut joins the port's unit of the boundary of its own tick and cycle. The frame goes on, one word further. -/
def Claims.SpiCuts : Prop :=
  ∀ (cmd ad : Word) (crc : Byte) (cyc : Nat) (w : Word) (fr : SpiFrame) (s : State), portLive s .spi = true → SPI_CFG_CRC s = false →
    s.x.spi.frame = some fr → fr.mode = .live → fr.view = false → plainRegister fr.page (burstOff fr.ai fr.off fr.k) →
    (let off := burstOff fr.ai fr.off fr.k
     let v := portRead s .spi fr.page off
     (fr.read = true → ∃ t, exec (.spiRead cmd ad crc 1 ⟨false, .middle, false⟩ [] .none) s = .next t ∧ t.cp = s.cp ∧ t.x.regs = s.x.regs ∧
       t.x.spi = { s.x.spi with miso := s.x.spi.miso ++ [hiByte v, loByte v], frame := some { fr with k := fr.k + 1 } }) ∧
     (fr.read = false → fr.bad = false → assigned fr.page = true → stageable fr.page off = true → (s.x.txn.get .spi).opened = false →
       ∃ t, exec (.spiWrite cmd ad crc [{ data := w, crc := crc, cyc := cyc }] ⟨false, .middle, false⟩ .none) s = .next t ∧ t.cp = s.cp ∧
         t.x.regs = s.x.regs ∧ (∃ g, t.x.spi.frame = some g ∧ g.k = fr.k + 1 ∧ g.mode = .live ∧ g.bad = false) ∧
         ∃ u ∈ t.x.hostUnits, u.src = .host .spi ∧ u.due = dueOf s cyc ∧
           { page := fr.page, off := off, val := w, tick := s.x.tick.count, cyc := cyc } ∈ u.writes))

/-- The SPI port, without CRC and with it, and a frame that cycle 0 cuts. -/
def Obligations.SpiPort : Prop := Claims.SpiFrames ∧ Claims.SpiCrc ∧ Claims.SpiCuts

/-- The management target without PEC (R464 to R468, R470). It acknowledges only while it is live. A pointer write sets the pointer; a data write sets it,
and its word joins the port's unit at the STOP, with AI the pointer moves on; a read sends the word at the pointer low byte first, each byte, of a read that cycle 0 cuts, from the snapshot in force (R10). An abort
leaves the pointer and counts its cause. -/
def Claims.TwmTransactions : Prop :=
  ∀ (q : TwmPtr) (lo hi : Byte) (cyc : Nat) (s : State),
    (let v := s.x.twm
     let ptr (t : State) : Nat × Nat × Nat := (t.x.twm.cmd, t.x.twm.page, t.x.twm.off)
     let live : Prop := portLive s .twm = true ∧ TWM_CFG_PEC s = false
     (portLive s .twm = false → ∃ t, exec (.twmPointerWrite q none .stop .none) s = .next t ∧ t.x.twm.acked = false ∧ ptr t = ptr s ∧ t.cp = s.cp) ∧
     (live → ∃ t, exec (.twmPointerWrite q none .stop .none) s = .next t ∧ t.x.twm.acked = true ∧
       ptr t = (q.cmd.toNat, q.page.toNat, q.off.toNat) ∧ t.cp = s.cp ∧ t.x.hostUnits = s.x.hostUnits) ∧
     (live → v.before = none → ∃ t, exec (.twmPointerWrite q none .inByte .none) s = .next t ∧ ptr t = ptr s ∧
       t.x.twm.errBit = min 15 (v.errBit + 1) ∧ t.cp = s.cp) ∧
     (live → plainRegister q.page.toNat q.off.toNat → assigned q.page.toNat = true → stageable q.page.toNat q.off.toNat = true →
       (s.x.txn.get .twm).opened = false → ∃ t, exec (.twmDataWrite q [lo, hi] none .stop cyc .none) s = .next t ∧ t.cp = s.cp ∧
         t.x.twm.off = (if q.cmd.getLsbD 6 then (q.off.toNat + 1) % 256 else q.off.toNat) ∧
         ∃ u ∈ t.x.hostUnits, u.src = .host .twm ∧ u.due = dueOf s cyc ∧
           { page := q.page.toNat, off := q.off.toNat, val := ofBytes hi lo, tick := s.x.tick.count, cyc := cyc } ∈ u.writes) ∧
     (live → v.cmd < 64 → plainRegister v.page v.off → ∃ t, exec (.twmRead 2 ⟨.stop, .whole⟩ [] .none) s = .next t ∧ t.cp = s.cp ∧ ptr t = ptr s ∧
       t.x.twm.sent = [loByte (portRead s .twm v.page v.off), hiByte (portRead s .twm v.page v.off)]) ∧
     (live → v.cmd < 64 → plainRegister v.page v.off → v.reading = true → v.sent.length = 1 →
       ∃ t, exec (.twmRead 1 ⟨.stop, .last⟩ [] .none) s = .next t ∧ t.cp = s.cp ∧ ptr t = ptr s ∧ t.x.twm.reading = false ∧
         t.x.twm.sent = v.sent ++ [hiByte (portRead s .twm v.page v.off)]) ∧
     (portLive s .twm = true → TWM_CFG_TMO s = true → ∃ t, exec .twmSclTimeout s = .next t ∧ ErrSet t 0xD1 2 ∧
       t.x.twm.errTmo = min 15 (v.errTmo + 1)) ∧
     exec .twmCntClr s = .next (s.modTwm fun v => { v with errSr := 0, errBit := 0, errPec := 0, errTmo := 0 }))

/-- The alert response (R472): a live target whose ALERT is asserted sends its address, and lets ALERT go if no lower address answered; the list that it
answered for is kept. One whose ALERT is not asserted does not answer. -/
def Claims.AlertResponse : Prop :=
  ∀ (lost : Bool) (s : State),
    (s.x.alert.alert = true → portLive s .twm = true → ∃ t, exec (.alertResponse lost) s = .next t ∧
      t.x.twm.sent = [BitVec.ofNat 8 (2 * twmAddr s)] ∧ t.x.alert.alert = lost ∧ t.cp = s.cp ∧
      (lost = false → t.x.alert.answered = some s.x.alert.list)) ∧
    (s.x.alert.alert = false → exec (.alertResponse lost) s = .next s)

/-- The management target and the alert response. -/
def Obligations.TwmPort : Prop := Claims.TwmTransactions ∧ Claims.AlertResponse

/-! ### The pack bus -/

/-- Requests of the pack bus (R474, R476 to R481). The head starts on a free bus with the bytes of its form: addr+W, cmd, and the data low
byte first with the PEC after them, or addr+W, cmd and addr+R. It ends as the wire says with its cause, a read with its data or, the PEC
wrong, with BADPEC, the next one following; a lost arbitration and, with NACKRT, an address NACK are tried again PB_RETRY times; SCL held
low and a bus that is never free end it; with EN = 0 it ends with FENCED. -/
def Claims.PackBus : Prop :=
  ∀ (w : PbWire) (r : PbReq) (rest : List PbReq) (rx : List Byte) (lo hi pec : Byte) (byte : Nat) (b : Fin 8) (s : State), s.x.twp.queue = r :: rest →
    (let v := s.x.twp
     let ended (cause : Nat) (data : Word) (t : State) : Prop := t.x.twp.queue = rest ∧ t.x.twp.onBus = false ∧ t.x.twp.tries = 0 ∧
       t.x.twp.results = v.results ++ [(r, cause, data)] ∧ t.cp.clerks = s.cp.clerks
     let again (t : State) : Prop := t.x.twp.queue = v.queue ∧ t.x.twp.onBus = false ∧ t.x.twp.tries = v.tries + 1 ∧
       t.x.twp.results = v.results
     let ad (read : Nat) : Byte := BitVec.ofNat 8 (2 * r.addr + read)
     let cmd : Byte := BitVec.ofNat 8 r.cmd
     let sent := [ad 0, cmd, loByte r.data] ++ (if r.word then [hiByte r.data] else [])
     let wire := if r.write then (if TWP_CFG_PEC s then sent ++ [crc8 0 sent] else sent) else [ad 0, cmd, ad 1]
     let value : Word := if r.word then ofBytes hi lo else ofBytes 0 lo
     let data := if r.word then [lo, hi] else [lo]
     (v.onBus = true → twpOn s = true →
       (r.write = true → ∃ t, exec (.packBusDone (.whole rx)) s = .next t ∧ ended 0 0 t) ∧
       (r.write = false → TWP_CFG_PEC s = false → ∃ t, exec (.packBusDone (.whole data)) s = .next t ∧ ended 0 value t) ∧
       (r.write = false → TWP_CFG_PEC s = true →
         (pec = crc8 0 (v.wire ++ data) → ∃ t, exec (.packBusDone (.whole (data ++ [pec]))) s = .next t ∧ ended 0 value t) ∧
         (pec ≠ crc8 0 (v.wire ++ data) → ∃ t, exec (.packBusDone (.whole (data ++ [pec]))) s = .next t ∧ ended 5 0 t)) ∧
       (∃ t, exec (.packBusDone .nackData) s = .next t ∧ ended 2 0 t) ∧
       (TWP_CFG_NACKRT s = false → ∃ t, exec (.packBusDone .nackAddr) s = .next t ∧ ended 1 0 t) ∧
       (TWP_CFG_NACKRT s = true → v.tries < PB_RETRY_RETRY s → ∃ t, exec (.packBusDone .nackAddr) s = .next t ∧ again t) ∧
       (v.tries < PB_RETRY_RETRY s → ∃ t, exec (.twpArbLoss byte b) s = .next t ∧ again t ∧
         (byte = 0 → t.x.twp.early = min 255 (v.early + 1)) ∧ (byte ≠ 0 → t.x.twp.late = min 255 (v.late + 1))) ∧
       (PB_RETRY_RETRY s ≤ v.tries → ∃ t, exec (.twpArbLoss byte b) s = .next t ∧ ended 3 0 t) ∧
       (∃ t, exec .twpSclTimeout s = .next t ∧ ended 4 0 t ∧ ErrSet t 0xD2 1)) ∧
     (v.onBus = true → TWP_CFG_EN s = false → ∃ t, exec (.packBusDone w) s = .next t ∧ ended 7 0 t) ∧
     (v.onBus = false → twpOn s = true → (TWP_CFG_TEN s = true → r.addr ≠ TWP_TADDR_ADDR s) →
       exec (.twpTransactionStart .none) s = .next (s.modTwp fun v => { v with onBus := true, wire := wire })) ∧
     (v.onBus = false → v.since + 41667 ≤ s.x.tick.count → ∃ t, exec .twpBusBusyTimeout s = .next t ∧ ended 6 0 t))

/-- The host's own requests and the peer target (R318, R482). GO enters the request that the registers hold; a peer's data words go to the window in order
with the event; its reads are served from TWP_TOUT of the published snapshot; an index of 24 or more is not acknowledged. -/
def Claims.PackBusPeers : Prop :=
  ∀ (ix lo hi : Byte) (s : State),
    (let v := s.x.twp
     let req : PbReq := { who := none, write := PB_ADDR_W s, word := PB_ADDR_WORD s, addr := PB_ADDR_ADDR s, cmd := PB_CMD_CMD s, data := PB_WDATA_W s }
     (v.busy = false → v.onBus = true → ∃ t, exec .packBusGo s = .next t ∧ t.x.twp.queue = v.queue ++ [req] ∧ t.x.twp.busy = true ∧
       t.x.twp.done = false ∧ t.cp = s.cp) ∧
     (v.busy = true → v.onBus = true → exec .packBusGo s = .next s) ∧
     (peerOn s = true →
       (∀ k : Fin 8, ix.toNat = 16 + k.val → ∃ t, exec (.twpPeerWrite ix [lo, hi] true) s = .next t ∧
         t.x.twp.tin = upd v.tin k (ofBytes hi lo) ∧ t.x.twp.acked = true ∧ EvtSet t 0xD2 1) ∧
       (24 ≤ ix.toNat → ∃ t, exec (.twpPeerWrite ix [lo, hi] true) s = .next t ∧ t.x.twp.tin = v.tin ∧ t.x.twp.acked = false) ∧
       (ix.toNat < 16 → ∃ t, exec (.twpPeerRead ix ⟨2, .whole⟩) s = .next t ∧ t.x.twp.acked = true ∧
         t.x.twp.sent = [loByte (TWP_TOUTi_W (asState s s.pub) ix.toNat), hiByte (TWP_TOUTi_W (asState s s.pub) ix.toNat)] ∧ t.cp = s.cp) ∧
       (24 ≤ ix.toNat → ∃ t, exec (.twpPeerRead ix ⟨2, .whole⟩) s = .next t ∧ t.x.twp.acked = false ∧ t.x.twp.sent = [])) ∧
     (peerOn s = false → exec (.twpPeerWrite ix [lo, hi] true) s = .next s ∧ exec (.twpPeerRead ix ⟨2, .whole⟩) s = .next s))

/-- The pack bus as controller and as peer target. -/
def Obligations.PackBusPort : Prop := Claims.PackBus ∧ Claims.PackBusPeers
end

