-- ==== Sys2Proof/Laws/State.lean ====
section
/-! SUPPORT. What each update of one unit leaves: one lemma for every part of the state, so that no later proof unfolds an
update. -/

namespace Sys2Proof.Machine

/-! ### Families of units -/

theorem upd_same {α : Type} {n : Nat} (v : Vector α n) (i : Fin n) (x : α) : (upd v i x)[i] = x := by
  simp [upd]

/-- The same with the index as a number, the form that simp brings it to. -/
@[simp] theorem upd_same_val {α : Type} {n : Nat} (v : Vector α n) (i : Fin n) (x : α) : (upd v i x)[i.val] = x :=
  upd_same v i x

theorem upd_other {α : Type} {n : Nat} (v : Vector α n) (i j : Fin n) (x : α) (h : j ≠ i) : (upd v i x)[j] = v[j] := by
  have h' : i.val ≠ j.val := fun e => h (Fin.ext e.symm)
  simp [upd, h']

theorem tab_at {α : Type} {n : Nat} (f : Fin n → α) (i : Fin n) : (tab f)[i] = f i := by
  simp [tab]

@[simp] theorem tab_at_val {α : Type} {n : Nat} (f : Fin n → α) (i : Fin n) : (tab f)[i.val] = f i := tab_at f i

@[simp] theorem perPort_get_put {α : Type} (v : PerPort α) (p : Port) (a : α) : (v.put p a).get p = a := by
  cases p <;> rfl

theorem perPort_get_put_other {α : Type} (v : PerPort α) (p q : Port) (a : α) (h : q ≠ p) : (v.put p a).get q = v.get q := by
  cases p <;> cases q <;> first | rfl | exact absurd rfl h

/-! ### modTrain -/

@[simp] theorem State.modTrain_pending (s : State) (t : Train) (f : TrainSt → TrainSt) : (s.modTrain t f).pending = s.pending := rfl
@[simp] theorem State.modTrain_cp (s : State) (t : Train) (f : TrainSt → TrainSt) :
    (s.modTrain t f).cp = { s.cp with trains := upd s.cp.trains t (f s.cp.trains[t]) } := rfl
@[simp] theorem State.modTrain_x (s : State) (t : Train) (f : TrainSt → TrainSt) : (s.modTrain t f).x = s.x := rfl
@[simp] theorem State.modTrain_pub (s : State) (t : Train) (f : TrainSt → TrainSt) : (s.modTrain t f).pub = s.pub := rfl
@[simp] theorem State.modTrain_views (s : State) (t : Train) (f : TrainSt → TrainSt) : (s.modTrain t f).views = s.views := rfl
@[simp] theorem State.modTrain_ck (s : State) (t : Train) (f : TrainSt → TrainSt) : (s.modTrain t f).ck = s.ck := rfl
@[simp] theorem State.modTrain_free (s : State) (t : Train) (f : TrainSt → TrainSt) : (s.modTrain t f).free = s.free := rfl

/-! ### modLeg -/

@[simp] theorem State.modLeg_pending (s : State) (n : Leg) (f : LegCp → LegCp) : (s.modLeg n f).pending = s.pending := rfl
@[simp] theorem State.modLeg_cp (s : State) (n : Leg) (f : LegCp → LegCp) :
    (s.modLeg n f).cp = { s.cp with legs := upd s.cp.legs n (f s.cp.legs[n]) } := rfl
@[simp] theorem State.modLeg_x (s : State) (n : Leg) (f : LegCp → LegCp) : (s.modLeg n f).x = s.x := rfl
@[simp] theorem State.modLeg_pub (s : State) (n : Leg) (f : LegCp → LegCp) : (s.modLeg n f).pub = s.pub := rfl
@[simp] theorem State.modLeg_views (s : State) (n : Leg) (f : LegCp → LegCp) : (s.modLeg n f).views = s.views := rfl
@[simp] theorem State.modLeg_ck (s : State) (n : Leg) (f : LegCp → LegCp) : (s.modLeg n f).ck = s.ck := rfl
@[simp] theorem State.modLeg_free (s : State) (n : Leg) (f : LegCp → LegCp) : (s.modLeg n f).free = s.free := rfl

/-! ### modHw -/

@[simp] theorem State.modHw_pending (s : State) (n : Leg) (f : LegHw → LegHw) : (s.modHw n f).pending = s.pending := rfl
@[simp] theorem State.modHw_cp (s : State) (n : Leg) (f : LegHw → LegHw) : (s.modHw n f).cp = s.cp := rfl
@[simp] theorem State.modHw_x (s : State) (n : Leg) (f : LegHw → LegHw) :
    (s.modHw n f).x = { s.x with hw := upd s.x.hw n (f s.x.hw[n]) } := rfl
@[simp] theorem State.modHw_pub (s : State) (n : Leg) (f : LegHw → LegHw) : (s.modHw n f).pub = s.pub := rfl
@[simp] theorem State.modHw_views (s : State) (n : Leg) (f : LegHw → LegHw) : (s.modHw n f).views = s.views := rfl
@[simp] theorem State.modHw_ck (s : State) (n : Leg) (f : LegHw → LegHw) : (s.modHw n f).ck = s.ck := rfl
@[simp] theorem State.modHw_free (s : State) (n : Leg) (f : LegHw → LegHw) : (s.modHw n f).free = s.free := rfl

/-! ### modLoop -/

@[simp] theorem State.modLoop_pending (s : State) (l : LoopIx) (f : LoopSt → LoopSt) : (s.modLoop l f).pending = s.pending := rfl
@[simp] theorem State.modLoop_cp (s : State) (l : LoopIx) (f : LoopSt → LoopSt) :
    (s.modLoop l f).cp = { s.cp with loops := upd s.cp.loops l (f s.cp.loops[l]) } := rfl
@[simp] theorem State.modLoop_x (s : State) (l : LoopIx) (f : LoopSt → LoopSt) : (s.modLoop l f).x = s.x := rfl
@[simp] theorem State.modLoop_pub (s : State) (l : LoopIx) (f : LoopSt → LoopSt) : (s.modLoop l f).pub = s.pub := rfl
@[simp] theorem State.modLoop_views (s : State) (l : LoopIx) (f : LoopSt → LoopSt) : (s.modLoop l f).views = s.views := rfl
@[simp] theorem State.modLoop_ck (s : State) (l : LoopIx) (f : LoopSt → LoopSt) : (s.modLoop l f).ck = s.ck := rfl
@[simp] theorem State.modLoop_free (s : State) (l : LoopIx) (f : LoopSt → LoopSt) : (s.modLoop l f).free = s.free := rfl

/-! ### modSect -/

@[simp] theorem State.modSect_pending (s : State) (i : Slot) (f : SectSt → SectSt) : (s.modSect i f).pending = s.pending := rfl
@[simp] theorem State.modSect_cp (s : State) (i : Slot) (f : SectSt → SectSt) :
    (s.modSect i f).cp = { s.cp with sects := upd s.cp.sects i (f s.cp.sects[i]) } := rfl
@[simp] theorem State.modSect_x (s : State) (i : Slot) (f : SectSt → SectSt) : (s.modSect i f).x = s.x := rfl
@[simp] theorem State.modSect_pub (s : State) (i : Slot) (f : SectSt → SectSt) : (s.modSect i f).pub = s.pub := rfl
@[simp] theorem State.modSect_views (s : State) (i : Slot) (f : SectSt → SectSt) : (s.modSect i f).views = s.views := rfl
@[simp] theorem State.modSect_ck (s : State) (i : Slot) (f : SectSt → SectSt) : (s.modSect i f).ck = s.ck := rfl
@[simp] theorem State.modSect_free (s : State) (i : Slot) (f : SectSt → SectSt) : (s.modSect i f).free = s.free := rfl

/-! ### modOsc -/

@[simp] theorem State.modOsc_pending (s : State) (i : OscIx) (f : OscSt → OscSt) : (s.modOsc i f).pending = s.pending := rfl
@[simp] theorem State.modOsc_cp (s : State) (i : OscIx) (f : OscSt → OscSt) :
    (s.modOsc i f).cp = { s.cp with oscs := upd s.cp.oscs i (f s.cp.oscs[i]) } := rfl
@[simp] theorem State.modOsc_x (s : State) (i : OscIx) (f : OscSt → OscSt) : (s.modOsc i f).x = s.x := rfl
@[simp] theorem State.modOsc_pub (s : State) (i : OscIx) (f : OscSt → OscSt) : (s.modOsc i f).pub = s.pub := rfl
@[simp] theorem State.modOsc_views (s : State) (i : OscIx) (f : OscSt → OscSt) : (s.modOsc i f).views = s.views := rfl
@[simp] theorem State.modOsc_ck (s : State) (i : OscIx) (f : OscSt → OscSt) : (s.modOsc i f).ck = s.ck := rfl
@[simp] theorem State.modOsc_free (s : State) (i : OscIx) (f : OscSt → OscSt) : (s.modOsc i f).free = s.free := rfl

/-! ### modModel -/

@[simp] theorem State.modModel_pending (s : State) (t : Train) (f : ModelSt → ModelSt) : (s.modModel t f).pending = s.pending := rfl
@[simp] theorem State.modModel_cp (s : State) (t : Train) (f : ModelSt → ModelSt) :
    (s.modModel t f).cp = { s.cp with models := upd s.cp.models t (f s.cp.models[t]) } := rfl
@[simp] theorem State.modModel_x (s : State) (t : Train) (f : ModelSt → ModelSt) : (s.modModel t f).x = s.x := rfl
@[simp] theorem State.modModel_pub (s : State) (t : Train) (f : ModelSt → ModelSt) : (s.modModel t f).pub = s.pub := rfl
@[simp] theorem State.modModel_views (s : State) (t : Train) (f : ModelSt → ModelSt) : (s.modModel t f).views = s.views := rfl
@[simp] theorem State.modModel_ck (s : State) (t : Train) (f : ModelSt → ModelSt) : (s.modModel t f).ck = s.ck := rfl
@[simp] theorem State.modModel_free (s : State) (t : Train) (f : ModelSt → ModelSt) : (s.modModel t f).free = s.free := rfl

/-! ### modSup -/

@[simp] theorem State.modSup_pending (s : State) (i : Slice) (f : SliceSup → SliceSup) : (s.modSup i f).pending = s.pending := rfl
@[simp] theorem State.modSup_cp (s : State) (i : Slice) (f : SliceSup → SliceSup) :
    (s.modSup i f).cp = { s.cp with sup := upd s.cp.sup i (f s.cp.sup[i]) } := rfl
@[simp] theorem State.modSup_x (s : State) (i : Slice) (f : SliceSup → SliceSup) : (s.modSup i f).x = s.x := rfl
@[simp] theorem State.modSup_pub (s : State) (i : Slice) (f : SliceSup → SliceSup) : (s.modSup i f).pub = s.pub := rfl
@[simp] theorem State.modSup_views (s : State) (i : Slice) (f : SliceSup → SliceSup) : (s.modSup i f).views = s.views := rfl
@[simp] theorem State.modSup_ck (s : State) (i : Slice) (f : SliceSup → SliceSup) : (s.modSup i f).ck = s.ck := rfl
@[simp] theorem State.modSup_free (s : State) (i : Slice) (f : SliceSup → SliceSup) : (s.modSup i f).free = s.free := rfl

/-! ### modBat -/

@[simp] theorem State.modBat_pending (s : State) (p : BPort) (f : BatSt → BatSt) : (s.modBat p f).pending = s.pending := rfl
@[simp] theorem State.modBat_cp (s : State) (p : BPort) (f : BatSt → BatSt) :
    (s.modBat p f).cp = { s.cp with bat := upd s.cp.bat p (f s.cp.bat[p]) } := rfl
@[simp] theorem State.modBat_x (s : State) (p : BPort) (f : BatSt → BatSt) : (s.modBat p f).x = s.x := rfl
@[simp] theorem State.modBat_pub (s : State) (p : BPort) (f : BatSt → BatSt) : (s.modBat p f).pub = s.pub := rfl
@[simp] theorem State.modBat_views (s : State) (p : BPort) (f : BatSt → BatSt) : (s.modBat p f).views = s.views := rfl
@[simp] theorem State.modBat_ck (s : State) (p : BPort) (f : BatSt → BatSt) : (s.modBat p f).ck = s.ck := rfl
@[simp] theorem State.modBat_free (s : State) (p : BPort) (f : BatSt → BatSt) : (s.modBat p f).free = s.free := rfl

/-! ### modBatHw -/

@[simp] theorem State.modBatHw_pending (s : State) (p : BPort) (f : BatHw → BatHw) : (s.modBatHw p f).pending = s.pending := rfl
@[simp] theorem State.modBatHw_cp (s : State) (p : BPort) (f : BatHw → BatHw) : (s.modBatHw p f).cp = s.cp := rfl
@[simp] theorem State.modBatHw_x (s : State) (p : BPort) (f : BatHw → BatHw) :
    (s.modBatHw p f).x = { s.x with batHw := upd s.x.batHw p (f s.x.batHw[p]) } := rfl
@[simp] theorem State.modBatHw_pub (s : State) (p : BPort) (f : BatHw → BatHw) : (s.modBatHw p f).pub = s.pub := rfl
@[simp] theorem State.modBatHw_views (s : State) (p : BPort) (f : BatHw → BatHw) : (s.modBatHw p f).views = s.views := rfl
@[simp] theorem State.modBatHw_ck (s : State) (p : BPort) (f : BatHw → BatHw) : (s.modBatHw p f).ck = s.ck := rfl
@[simp] theorem State.modBatHw_free (s : State) (p : BPort) (f : BatHw → BatHw) : (s.modBatHw p f).free = s.free := rfl

/-! ### modSrc -/

@[simp] theorem State.modSrc_pending (s : State) (i : Src) (f : SrcSt → SrcSt) : (s.modSrc i f).pending = s.pending := rfl
@[simp] theorem State.modSrc_cp (s : State) (i : Src) (f : SrcSt → SrcSt) : (s.modSrc i f).cp = s.cp := rfl
@[simp] theorem State.modSrc_x (s : State) (i : Src) (f : SrcSt → SrcSt) :
    (s.modSrc i f).x = { s.x with src := upd s.x.src i (f s.x.src[i]) } := rfl
@[simp] theorem State.modSrc_pub (s : State) (i : Src) (f : SrcSt → SrcSt) : (s.modSrc i f).pub = s.pub := rfl
@[simp] theorem State.modSrc_views (s : State) (i : Src) (f : SrcSt → SrcSt) : (s.modSrc i f).views = s.views := rfl
@[simp] theorem State.modSrc_ck (s : State) (i : Src) (f : SrcSt → SrcSt) : (s.modSrc i f).ck = s.ck := rfl
@[simp] theorem State.modSrc_free (s : State) (i : Src) (f : SrcSt → SrcSt) : (s.modSrc i f).free = s.free := rfl

/-! ### modNode -/

@[simp] theorem State.modNode_pending (s : State) (i : Fin 2) (f : NodeSt → NodeSt) : (s.modNode i f).pending = s.pending := rfl
@[simp] theorem State.modNode_cp (s : State) (i : Fin 2) (f : NodeSt → NodeSt) : (s.modNode i f).cp = s.cp := rfl
@[simp] theorem State.modNode_x (s : State) (i : Fin 2) (f : NodeSt → NodeSt) :
    (s.modNode i f).x = { s.x with nodes := upd s.x.nodes i (f s.x.nodes[i]) } := rfl
@[simp] theorem State.modNode_pub (s : State) (i : Fin 2) (f : NodeSt → NodeSt) : (s.modNode i f).pub = s.pub := rfl
@[simp] theorem State.modNode_views (s : State) (i : Fin 2) (f : NodeSt → NodeSt) : (s.modNode i f).views = s.views := rfl
@[simp] theorem State.modNode_ck (s : State) (i : Fin 2) (f : NodeSt → NodeSt) : (s.modNode i f).ck = s.ck := rfl
@[simp] theorem State.modNode_free (s : State) (i : Fin 2) (f : NodeSt → NodeSt) : (s.modNode i f).free = s.free := rfl

/-! ### modSl -/

@[simp] theorem State.modSl_pending (s : State) (i : Slice) (f : SliceSt → SliceSt) : (s.modSl i f).pending = s.pending := rfl
@[simp] theorem State.modSl_cp (s : State) (i : Slice) (f : SliceSt → SliceSt) : (s.modSl i f).cp = s.cp := rfl
@[simp] theorem State.modSl_x (s : State) (i : Slice) (f : SliceSt → SliceSt) :
    (s.modSl i f).x = { s.x with slices := upd s.x.slices i (f s.x.slices[i]) } := rfl
@[simp] theorem State.modSl_pub (s : State) (i : Slice) (f : SliceSt → SliceSt) : (s.modSl i f).pub = s.pub := rfl
@[simp] theorem State.modSl_views (s : State) (i : Slice) (f : SliceSt → SliceSt) : (s.modSl i f).views = s.views := rfl
@[simp] theorem State.modSl_ck (s : State) (i : Slice) (f : SliceSt → SliceSt) : (s.modSl i f).ck = s.ck := rfl
@[simp] theorem State.modSl_free (s : State) (i : Slice) (f : SliceSt → SliceSt) : (s.modSl i f).free = s.free := rfl

/-! ### modSys -/

@[simp] theorem State.modSys_pending (s : State) (i : Slice) (f : SysCal → SysCal) : (s.modSys i f).pending = s.pending := rfl
@[simp] theorem State.modSys_cp (s : State) (i : Slice) (f : SysCal → SysCal) : (s.modSys i f).cp = s.cp := rfl
@[simp] theorem State.modSys_x (s : State) (i : Slice) (f : SysCal → SysCal) :
    (s.modSys i f).x = { s.x with sysCal := upd s.x.sysCal i (f s.x.sysCal[i]) } := rfl
@[simp] theorem State.modSys_pub (s : State) (i : Slice) (f : SysCal → SysCal) : (s.modSys i f).pub = s.pub := rfl
@[simp] theorem State.modSys_views (s : State) (i : Slice) (f : SysCal → SysCal) : (s.modSys i f).views = s.views := rfl
@[simp] theorem State.modSys_ck (s : State) (i : Slice) (f : SysCal → SysCal) : (s.modSys i f).ck = s.ck := rfl
@[simp] theorem State.modSys_free (s : State) (i : Slice) (f : SysCal → SysCal) : (s.modSys i f).free = s.free := rfl

/-! ### modConv -/

@[simp] theorem State.modConv_pending (s : State) (i : Conv) (f : ConvSt → ConvSt) : (s.modConv i f).pending = s.pending := rfl
@[simp] theorem State.modConv_cp (s : State) (i : Conv) (f : ConvSt → ConvSt) : (s.modConv i f).cp = s.cp := rfl
@[simp] theorem State.modConv_x (s : State) (i : Conv) (f : ConvSt → ConvSt) :
    (s.modConv i f).x = { s.x with conv := upd s.x.conv i (f s.x.conv[i]) } := rfl
@[simp] theorem State.modConv_pub (s : State) (i : Conv) (f : ConvSt → ConvSt) : (s.modConv i f).pub = s.pub := rfl
@[simp] theorem State.modConv_views (s : State) (i : Conv) (f : ConvSt → ConvSt) : (s.modConv i f).views = s.views := rfl
@[simp] theorem State.modConv_ck (s : State) (i : Conv) (f : ConvSt → ConvSt) : (s.modConv i f).ck = s.ck := rfl
@[simp] theorem State.modConv_free (s : State) (i : Conv) (f : ConvSt → ConvSt) : (s.modConv i f).free = s.free := rfl

/-! ### modBg -/

@[simp] theorem State.modBg_pending (s : State) (f : BgSt → BgSt) : (s.modBg f).pending = s.pending := rfl
@[simp] theorem State.modBg_cp (s : State) (f : BgSt → BgSt) : (s.modBg f).cp = s.cp := rfl
@[simp] theorem State.modBg_x (s : State) (f : BgSt → BgSt) :
    (s.modBg f).x = { s.x with bg := f s.x.bg } := rfl
@[simp] theorem State.modBg_pub (s : State) (f : BgSt → BgSt) : (s.modBg f).pub = s.pub := rfl
@[simp] theorem State.modBg_views (s : State) (f : BgSt → BgSt) : (s.modBg f).views = s.views := rfl
@[simp] theorem State.modBg_ck (s : State) (f : BgSt → BgSt) : (s.modBg f).ck = s.ck := rfl
@[simp] theorem State.modBg_free (s : State) (f : BgSt → BgSt) : (s.modBg f).free = s.free := rfl

/-! ### modTrace -/

@[simp] theorem State.modTrace_pending (s : State) (f : TraceSt → TraceSt) : (s.modTrace f).pending = s.pending := rfl
@[simp] theorem State.modTrace_cp (s : State) (f : TraceSt → TraceSt) : (s.modTrace f).cp = s.cp := rfl
@[simp] theorem State.modTrace_x (s : State) (f : TraceSt → TraceSt) :
    (s.modTrace f).x = { s.x with trace := f s.x.trace } := rfl
@[simp] theorem State.modTrace_pub (s : State) (f : TraceSt → TraceSt) : (s.modTrace f).pub = s.pub := rfl
@[simp] theorem State.modTrace_views (s : State) (f : TraceSt → TraceSt) : (s.modTrace f).views = s.views := rfl
@[simp] theorem State.modTrace_ck (s : State) (f : TraceSt → TraceSt) : (s.modTrace f).ck = s.ck := rfl
@[simp] theorem State.modTrace_free (s : State) (f : TraceSt → TraceSt) : (s.modTrace f).free = s.free := rfl

/-! ### modAx -/

@[simp] theorem State.modAx_pending (s : State) (f : AxSt → AxSt) : (s.modAx f).pending = s.pending := rfl
@[simp] theorem State.modAx_cp (s : State) (f : AxSt → AxSt) : (s.modAx f).cp = s.cp := rfl
@[simp] theorem State.modAx_x (s : State) (f : AxSt → AxSt) :
    (s.modAx f).x = { s.x with ax := f s.x.ax } := rfl
@[simp] theorem State.modAx_pub (s : State) (f : AxSt → AxSt) : (s.modAx f).pub = s.pub := rfl
@[simp] theorem State.modAx_views (s : State) (f : AxSt → AxSt) : (s.modAx f).views = s.views := rfl
@[simp] theorem State.modAx_ck (s : State) (f : AxSt → AxSt) : (s.modAx f).ck = s.ck := rfl
@[simp] theorem State.modAx_free (s : State) (f : AxSt → AxSt) : (s.modAx f).free = s.free := rfl

/-! ### modTl -/

@[simp] theorem State.modTl_pending (s : State) (n : TallyIx) (f : TallySt → TallySt) : (s.modTl n f).pending = s.pending := rfl
@[simp] theorem State.modTl_cp (s : State) (n : TallyIx) (f : TallySt → TallySt) : (s.modTl n f).cp = s.cp := rfl
@[simp] theorem State.modTl_x (s : State) (n : TallyIx) (f : TallySt → TallySt) :
    (s.modTl n f).x = { s.x with tally := upd s.x.tally n (f s.x.tally[n]) } := rfl
@[simp] theorem State.modTl_pub (s : State) (n : TallyIx) (f : TallySt → TallySt) : (s.modTl n f).pub = s.pub := rfl
@[simp] theorem State.modTl_views (s : State) (n : TallyIx) (f : TallySt → TallySt) : (s.modTl n f).views = s.views := rfl
@[simp] theorem State.modTl_ck (s : State) (n : TallyIx) (f : TallySt → TallySt) : (s.modTl n f).ck = s.ck := rfl
@[simp] theorem State.modTl_free (s : State) (n : TallyIx) (f : TallySt → TallySt) : (s.modTl n f).free = s.free := rfl

/-! ### modCal -/

@[simp] theorem State.modCal_pending (s : State) (f : CalSt → CalSt) : (s.modCal f).pending = s.pending := rfl
@[simp] theorem State.modCal_cp (s : State) (f : CalSt → CalSt) : (s.modCal f).cp = s.cp := rfl
@[simp] theorem State.modCal_x (s : State) (f : CalSt → CalSt) :
    (s.modCal f).x = { s.x with cal := f s.x.cal } := rfl
@[simp] theorem State.modCal_pub (s : State) (f : CalSt → CalSt) : (s.modCal f).pub = s.pub := rfl
@[simp] theorem State.modCal_views (s : State) (f : CalSt → CalSt) : (s.modCal f).views = s.views := rfl
@[simp] theorem State.modCal_ck (s : State) (f : CalSt → CalSt) : (s.modCal f).ck = s.ck := rfl
@[simp] theorem State.modCal_free (s : State) (f : CalSt → CalSt) : (s.modCal f).free = s.free := rfl

/-! ### modSpare -/

@[simp] theorem State.modSpare_pending (s : State) (f : SpareSt → SpareSt) : (s.modSpare f).pending = s.pending := rfl
@[simp] theorem State.modSpare_cp (s : State) (f : SpareSt → SpareSt) :
    (s.modSpare f).cp = { s.cp with spare := f s.cp.spare } := rfl
@[simp] theorem State.modSpare_x (s : State) (f : SpareSt → SpareSt) : (s.modSpare f).x = s.x := rfl
@[simp] theorem State.modSpare_pub (s : State) (f : SpareSt → SpareSt) : (s.modSpare f).pub = s.pub := rfl
@[simp] theorem State.modSpare_views (s : State) (f : SpareSt → SpareSt) : (s.modSpare f).views = s.views := rfl
@[simp] theorem State.modSpare_ck (s : State) (f : SpareSt → SpareSt) : (s.modSpare f).ck = s.ck := rfl
@[simp] theorem State.modSpare_free (s : State) (f : SpareSt → SpareSt) : (s.modSpare f).free = s.free := rfl

/-! ### modCol -/

@[simp] theorem State.modCol_pending (s : State) (f : Collector → Collector) : (s.modCol f).pending = s.pending := rfl
@[simp] theorem State.modCol_cp (s : State) (f : Collector → Collector) : (s.modCol f).cp = s.cp := rfl
@[simp] theorem State.modCol_x (s : State) (f : Collector → Collector) :
    (s.modCol f).x = { s.x with col := f s.x.col } := rfl
@[simp] theorem State.modCol_pub (s : State) (f : Collector → Collector) : (s.modCol f).pub = s.pub := rfl
@[simp] theorem State.modCol_views (s : State) (f : Collector → Collector) : (s.modCol f).views = s.views := rfl
@[simp] theorem State.modCol_ck (s : State) (f : Collector → Collector) : (s.modCol f).ck = s.ck := rfl
@[simp] theorem State.modCol_free (s : State) (f : Collector → Collector) : (s.modCol f).free = s.free := rfl

/-! ### modTick -/

@[simp] theorem State.modTick_pending (s : State) (f : TickSt → TickSt) : (s.modTick f).pending = s.pending := rfl
@[simp] theorem State.modTick_cp (s : State) (f : TickSt → TickSt) : (s.modTick f).cp = s.cp := rfl
@[simp] theorem State.modTick_x (s : State) (f : TickSt → TickSt) :
    (s.modTick f).x = { s.x with tick := f s.x.tick } := rfl
@[simp] theorem State.modTick_pub (s : State) (f : TickSt → TickSt) : (s.modTick f).pub = s.pub := rfl
@[simp] theorem State.modTick_views (s : State) (f : TickSt → TickSt) : (s.modTick f).views = s.views := rfl
@[simp] theorem State.modTick_ck (s : State) (f : TickSt → TickSt) : (s.modTick f).ck = s.ck := rfl
@[simp] theorem State.modTick_free (s : State) (f : TickSt → TickSt) : (s.modTick f).free = s.free := rfl

/-! ### modCk -/

@[simp] theorem State.modCk_pending (s : State) (c : ClerkIx) (f : ClerkSt → ClerkSt) : (s.modCk c f).pending = s.pending := rfl
@[simp] theorem State.modCk_cp (s : State) (c : ClerkIx) (f : ClerkSt → ClerkSt) :
    (s.modCk c f).cp = { s.cp with clerks := upd s.cp.clerks c (f s.cp.clerks[c]) } := rfl
@[simp] theorem State.modCk_x (s : State) (c : ClerkIx) (f : ClerkSt → ClerkSt) : (s.modCk c f).x = s.x := rfl
@[simp] theorem State.modCk_pub (s : State) (c : ClerkIx) (f : ClerkSt → ClerkSt) : (s.modCk c f).pub = s.pub := rfl
@[simp] theorem State.modCk_views (s : State) (c : ClerkIx) (f : ClerkSt → ClerkSt) : (s.modCk c f).views = s.views := rfl
@[simp] theorem State.modCk_ck (s : State) (c : ClerkIx) (f : ClerkSt → ClerkSt) : (s.modCk c f).ck = s.ck := rfl
@[simp] theorem State.modCk_free (s : State) (c : ClerkIx) (f : ClerkSt → ClerkSt) : (s.modCk c f).free = s.free := rfl

/-! ### modSpi -/

@[simp] theorem State.modSpi_pending (s : State) (f : SpiSt → SpiSt) : (s.modSpi f).pending = s.pending := rfl
@[simp] theorem State.modSpi_cp (s : State) (f : SpiSt → SpiSt) : (s.modSpi f).cp = s.cp := rfl
@[simp] theorem State.modSpi_x (s : State) (f : SpiSt → SpiSt) :
    (s.modSpi f).x = { s.x with spi := f s.x.spi } := rfl
@[simp] theorem State.modSpi_pub (s : State) (f : SpiSt → SpiSt) : (s.modSpi f).pub = s.pub := rfl
@[simp] theorem State.modSpi_views (s : State) (f : SpiSt → SpiSt) : (s.modSpi f).views = s.views := rfl
@[simp] theorem State.modSpi_ck (s : State) (f : SpiSt → SpiSt) : (s.modSpi f).ck = s.ck := rfl
@[simp] theorem State.modSpi_free (s : State) (f : SpiSt → SpiSt) : (s.modSpi f).free = s.free := rfl

/-! ### modTwm -/

@[simp] theorem State.modTwm_pending (s : State) (f : TwmSt → TwmSt) : (s.modTwm f).pending = s.pending := rfl
@[simp] theorem State.modTwm_cp (s : State) (f : TwmSt → TwmSt) : (s.modTwm f).cp = s.cp := rfl
@[simp] theorem State.modTwm_x (s : State) (f : TwmSt → TwmSt) :
    (s.modTwm f).x = { s.x with twm := f s.x.twm } := rfl
@[simp] theorem State.modTwm_pub (s : State) (f : TwmSt → TwmSt) : (s.modTwm f).pub = s.pub := rfl
@[simp] theorem State.modTwm_views (s : State) (f : TwmSt → TwmSt) : (s.modTwm f).views = s.views := rfl
@[simp] theorem State.modTwm_ck (s : State) (f : TwmSt → TwmSt) : (s.modTwm f).ck = s.ck := rfl
@[simp] theorem State.modTwm_free (s : State) (f : TwmSt → TwmSt) : (s.modTwm f).free = s.free := rfl

/-! ### modTwp -/

@[simp] theorem State.modTwp_pending (s : State) (f : TwpSt → TwpSt) : (s.modTwp f).pending = s.pending := rfl
@[simp] theorem State.modTwp_cp (s : State) (f : TwpSt → TwpSt) : (s.modTwp f).cp = s.cp := rfl
@[simp] theorem State.modTwp_x (s : State) (f : TwpSt → TwpSt) :
    (s.modTwp f).x = { s.x with twp := f s.x.twp } := rfl
@[simp] theorem State.modTwp_pub (s : State) (f : TwpSt → TwpSt) : (s.modTwp f).pub = s.pub := rfl
@[simp] theorem State.modTwp_views (s : State) (f : TwpSt → TwpSt) : (s.modTwp f).views = s.views := rfl
@[simp] theorem State.modTwp_ck (s : State) (f : TwpSt → TwpSt) : (s.modTwp f).ck = s.ck := rfl
@[simp] theorem State.modTwp_free (s : State) (f : TwpSt → TwpSt) : (s.modTwp f).free = s.free := rfl

/-! ### modRing -/

@[simp] theorem State.modRing_pending (s : State) (f : RingSt → RingSt) : (s.modRing f).pending = s.pending := rfl
@[simp] theorem State.modRing_cp (s : State) (f : RingSt → RingSt) : (s.modRing f).cp = s.cp := rfl
@[simp] theorem State.modRing_x (s : State) (f : RingSt → RingSt) :
    (s.modRing f).x = { s.x with ring := f s.x.ring } := rfl
@[simp] theorem State.modRing_pub (s : State) (f : RingSt → RingSt) : (s.modRing f).pub = s.pub := rfl
@[simp] theorem State.modRing_views (s : State) (f : RingSt → RingSt) : (s.modRing f).views = s.views := rfl
@[simp] theorem State.modRing_ck (s : State) (f : RingSt → RingSt) : (s.modRing f).ck = s.ck := rfl
@[simp] theorem State.modRing_free (s : State) (f : RingSt → RingSt) : (s.modRing f).free = s.free := rfl

/-! ### modStore -/

@[simp] theorem State.modStore_pending (s : State) (f : StoreSt → StoreSt) : (s.modStore f).pending = s.pending := rfl
@[simp] theorem State.modStore_cp (s : State) (f : StoreSt → StoreSt) : (s.modStore f).cp = s.cp := rfl
@[simp] theorem State.modStore_x (s : State) (f : StoreSt → StoreSt) :
    (s.modStore f).x = { s.x with store := f s.x.store } := rfl
@[simp] theorem State.modStore_pub (s : State) (f : StoreSt → StoreSt) : (s.modStore f).pub = s.pub := rfl
@[simp] theorem State.modStore_views (s : State) (f : StoreSt → StoreSt) : (s.modStore f).views = s.views := rfl
@[simp] theorem State.modStore_ck (s : State) (f : StoreSt → StoreSt) : (s.modStore f).ck = s.ck := rfl
@[simp] theorem State.modStore_free (s : State) (f : StoreSt → StoreSt) : (s.modStore f).free = s.free := rfl

/-! ### modLar -/

@[simp] theorem State.modLar_pending (s : State) (f : LarderSt → LarderSt) : (s.modLar f).pending = s.pending := rfl
@[simp] theorem State.modLar_cp (s : State) (f : LarderSt → LarderSt) : (s.modLar f).cp = s.cp := rfl
@[simp] theorem State.modLar_x (s : State) (f : LarderSt → LarderSt) :
    (s.modLar f).x = { s.x with larder := f s.x.larder } := rfl
@[simp] theorem State.modLar_pub (s : State) (f : LarderSt → LarderSt) : (s.modLar f).pub = s.pub := rfl
@[simp] theorem State.modLar_views (s : State) (f : LarderSt → LarderSt) : (s.modLar f).views = s.views := rfl
@[simp] theorem State.modLar_ck (s : State) (f : LarderSt → LarderSt) : (s.modLar f).ck = s.ck := rfl
@[simp] theorem State.modLar_free (s : State) (f : LarderSt → LarderSt) : (s.modLar f).free = s.free := rfl

/-! ### modPwr -/

@[simp] theorem State.modPwr_pending (s : State) (f : PwrSt → PwrSt) : (s.modPwr f).pending = s.pending := rfl
@[simp] theorem State.modPwr_cp (s : State) (f : PwrSt → PwrSt) : (s.modPwr f).cp = s.cp := rfl
@[simp] theorem State.modPwr_x (s : State) (f : PwrSt → PwrSt) :
    (s.modPwr f).x = { s.x with pwr := f s.x.pwr } := rfl
@[simp] theorem State.modPwr_pub (s : State) (f : PwrSt → PwrSt) : (s.modPwr f).pub = s.pub := rfl
@[simp] theorem State.modPwr_views (s : State) (f : PwrSt → PwrSt) : (s.modPwr f).views = s.views := rfl
@[simp] theorem State.modPwr_ck (s : State) (f : PwrSt → PwrSt) : (s.modPwr f).ck = s.ck := rfl
@[simp] theorem State.modPwr_free (s : State) (f : PwrSt → PwrSt) : (s.modPwr f).free = s.free := rfl

/-! ### modTest -/

@[simp] theorem State.modTest_pending (s : State) (f : TestSt → TestSt) : (s.modTest f).pending = s.pending := rfl
@[simp] theorem State.modTest_cp (s : State) (f : TestSt → TestSt) : (s.modTest f).cp = s.cp := rfl
@[simp] theorem State.modTest_x (s : State) (f : TestSt → TestSt) :
    (s.modTest f).x = { s.x with test := f s.x.test } := rfl
@[simp] theorem State.modTest_pub (s : State) (f : TestSt → TestSt) : (s.modTest f).pub = s.pub := rfl
@[simp] theorem State.modTest_views (s : State) (f : TestSt → TestSt) : (s.modTest f).views = s.views := rfl
@[simp] theorem State.modTest_ck (s : State) (f : TestSt → TestSt) : (s.modTest f).ck = s.ck := rfl
@[simp] theorem State.modTest_free (s : State) (f : TestSt → TestSt) : (s.modTest f).free = s.free := rfl

/-! ### modTxn -/

@[simp] theorem State.modTxn_pending (s : State) (p : Port) (f : TxnBank → TxnBank) : (s.modTxn p f).pending = s.pending := rfl
@[simp] theorem State.modTxn_cp (s : State) (p : Port) (f : TxnBank → TxnBank) : (s.modTxn p f).cp = s.cp := rfl
@[simp] theorem State.modTxn_x (s : State) (p : Port) (f : TxnBank → TxnBank) :
    (s.modTxn p f).x = { s.x with txn := s.x.txn.put p (f (s.x.txn.get p)) } := rfl
@[simp] theorem State.modTxn_pub (s : State) (p : Port) (f : TxnBank → TxnBank) : (s.modTxn p f).pub = s.pub := rfl
@[simp] theorem State.modTxn_views (s : State) (p : Port) (f : TxnBank → TxnBank) : (s.modTxn p f).views = s.views := rfl
@[simp] theorem State.modTxn_ck (s : State) (p : Port) (f : TxnBank → TxnBank) : (s.modTxn p f).ck = s.ck := rfl
@[simp] theorem State.modTxn_free (s : State) (p : Port) (f : TxnBank → TxnBank) : (s.modTxn p f).free = s.free := rfl

/-! ### modSnap -/

@[simp] theorem State.modSnap_pending (s : State) (p : Port) (f : SnapBank → SnapBank) : (s.modSnap p f).pending = s.pending := rfl
@[simp] theorem State.modSnap_cp (s : State) (p : Port) (f : SnapBank → SnapBank) : (s.modSnap p f).cp = s.cp := rfl
@[simp] theorem State.modSnap_x (s : State) (p : Port) (f : SnapBank → SnapBank) :
    (s.modSnap p f).x = { s.x with snap := s.x.snap.put p (f (s.x.snap.get p)) } := rfl
@[simp] theorem State.modSnap_pub (s : State) (p : Port) (f : SnapBank → SnapBank) : (s.modSnap p f).pub = s.pub := rfl
@[simp] theorem State.modSnap_views (s : State) (p : Port) (f : SnapBank → SnapBank) : (s.modSnap p f).views = s.views := rfl
@[simp] theorem State.modSnap_ck (s : State) (p : Port) (f : SnapBank → SnapBank) : (s.modSnap p f).ck = s.ck := rfl
@[simp] theorem State.modSnap_free (s : State) (p : Port) (f : SnapBank → SnapBank) : (s.modSnap p f).free = s.free := rfl

end Sys2Proof.Machine
end

