-- ==== Sys2Proof/Laws/Regs.lean ====
section
/-! SUPPORT. The register store: what a read gives after a write, and what writing a register or setting an event leaves. -/

namespace Sys2Proof.Machine

/-! ### The sparse store -/

theorem look_insert_same (l : List (Nat × Word)) (a : Nat) (w : Word) : Regs.look (Regs.insert l a w) a = some w := by
  induction l with
  | nil => simp [Regs.insert, Regs.look]
  | cons h t ih =>
    obtain ⟨b, v⟩ := h
    unfold Regs.insert
    split
    · simp [Regs.look]
    · split
      · simp [Regs.look]
      · next h => simpa [Regs.look, h] using ih

theorem look_insert_other (l : List (Nat × Word)) (a b : Nat) (w : Word) (h : b ≠ a) :
    Regs.look (Regs.insert l a w) b = Regs.look l b := by
  induction l with
  | nil => simp [Regs.insert, Regs.look, h]
  | cons c t ih =>
    obtain ⟨k, v⟩ := c
    unfold Regs.insert
    split
    · simp [Regs.look, h]
    · split
      · next e =>
        have : b ≠ k := by have := beq_iff_eq.mp e; omega
        simp [Regs.look, h, this]
      · simp [Regs.look, ih]

theorem look_erase_same (l : List (Nat × Word)) (a : Nat) : Regs.look (Regs.erase l a) a = none := by
  induction l with
  | nil => rfl
  | cons h t ih =>
    obtain ⟨b, v⟩ := h
    unfold Regs.erase
    split
    · exact ih
    · next h => simpa [Regs.look, h] using ih

theorem look_erase_other (l : List (Nat × Word)) (a b : Nat) (h : b ≠ a) : Regs.look (Regs.erase l a) b = Regs.look l b := by
  induction l with
  | nil => rfl
  | cons c t ih =>
    obtain ⟨k, v⟩ := c
    unfold Regs.erase
    split
    · next e =>
      have : b ≠ k := by have := beq_iff_eq.mp e; omega
      simp [Regs.look, this, ih]
    · simp [Regs.look, ih]

@[simp] theorem Regs.get_set_same (r : Regs) (a : Nat) (w : Word) : (r.set a w).get a = w := by
  unfold Regs.set Regs.get
  split
  · next h => simpa [look_erase_same] using (beq_iff_eq.mp h).symm
  · simp [look_insert_same]

theorem Regs.get_set_other (r : Regs) (a b : Nat) (w : Word) (h : b ≠ a) : (r.set a w).get b = r.get b := by
  unfold Regs.set Regs.get
  split
  · simp [look_erase_other _ _ _ h]
  · simp [look_insert_other _ _ _ _ h]

/-! ### Registers of the working state -/

@[simp] theorem State.reg_setReg_same (s : State) (a : Nat) (w : Word) : (s.setReg a w).reg a = w := by
  unfold State.setReg State.reg
  split <;> simp [*]

theorem State.reg_setReg_other (s : State) (a b : Nat) (w : Word) (h : b ≠ a) : (s.setReg a w).reg b = s.reg b := by
  unfold State.setReg State.reg
  split <;> split <;> simp [Regs.get_set_other _ _ _ _ h]

/-- Two states that hold the same stored registers read the same. -/
theorem State.reg_congr {s t : State} (hc : t.cp.regs = s.cp.regs) (hx : t.x.regs = s.x.regs) (a : Nat) : t.reg a = s.reg a := by
  simp [State.reg, hc, hx]

@[simp] theorem State.setReg_pending (s : State) (a : Nat) (w : Word) : (s.setReg a w).pending = s.pending := by
  unfold State.setReg; split <;> rfl
@[simp] theorem State.setReg_pub (s : State) (a : Nat) (w : Word) : (s.setReg a w).pub = s.pub := by
  unfold State.setReg; split <;> rfl
@[simp] theorem State.setReg_views (s : State) (a : Nat) (w : Word) : (s.setReg a w).views = s.views := by
  unfold State.setReg; split <;> rfl
@[simp] theorem State.setReg_ck (s : State) (a : Nat) (w : Word) : (s.setReg a w).ck = s.ck := by
  unfold State.setReg; split <;> rfl
@[simp] theorem State.setReg_free (s : State) (a : Nat) (w : Word) : (s.setReg a w).free = s.free := by
  unfold State.setReg; split <;> rfl
@[simp] theorem State.setReg_cp (s : State) (a : Nat) (w : Word) :
    (s.setReg a w).cp = { s.cp with regs := if isExt a then s.cp.regs else s.cp.regs.set a w } := by
  unfold State.setReg; split <;> rfl
@[simp] theorem State.setReg_x (s : State) (a : Nat) (w : Word) :
    (s.setReg a w).x = { s.x with regs := if isExt a then s.x.regs.set a w else s.x.regs } := by
  unfold State.setReg; split <;> rfl

/-! ### Bits that are set -/

theorem bit_or (w v : Word) (b : Nat) : bit (w ||| v) b = (bit w b || bit v b) := by simp only [bit, BitVec.getLsbD_or]
theorem bit_oneHot (b : Nat) (h : b < 16) : bit (oneHot b) b = true :=
  (by decide : ∀ k : Fin 16, bit (oneHot k.val) k.val = true) ⟨b, h⟩
theorem bit_or_oneHot (w : Word) (b : Nat) (h : b < 16) : bit (w ||| oneHot b) b = true := by
  rw [bit_or, bit_oneHot b h, Bool.or_true]
theorem bit_or_left (w v : Word) (i : Nat) (h : bit w i = true) : bit (w ||| v) i = true := by
  simp only [bit] at h ⊢
  simp [BitVec.getLsbD_or, h]

theorem State.orReg_eq (s : State) (a : Nat) (w : Word) : s.orReg a w = s.setReg a (s.reg a ||| w) := rfl
@[simp] theorem State.reg_orReg_same (s : State) (a : Nat) (w : Word) : (s.orReg a w).reg a = s.reg a ||| w :=
  State.reg_setReg_same _ _ _
theorem State.reg_orReg_other (s : State) (a b : Nat) (w : Word) (h : b ≠ a) : (s.orReg a w).reg b = s.reg b :=
  State.reg_setReg_other _ _ _ _ h
@[simp] theorem State.orReg_cp (s : State) (a : Nat) (w : Word) :
    (s.orReg a w).cp = { s.cp with regs := if isExt a then s.cp.regs else s.cp.regs.set a (s.reg a ||| w) } := State.setReg_cp _ _ _
@[simp] theorem State.orReg_x (s : State) (a : Nat) (w : Word) :
    (s.orReg a w).x = { s.x with regs := if isExt a then s.x.regs.set a (s.reg a ||| w) else s.x.regs } := State.setReg_x _ _ _

/-! ### Events -/

theorem State.evt_eq (s : State) (page b : Nat) : s.evt page b = s.setReg (addr page 6) (s.reg (addr page 6) ||| oneHot b) := rfl

/-- The bit of an event reads set. -/
theorem State.evt_same (s : State) (page b : Nat) (h : b < 16) : bit ((s.evt page b).reg (addr page 6)) b = true := by
  rw [State.evt_eq, State.reg_setReg_same, bit_or_oneHot _ b h]

/-- An event sets no other register. -/
theorem State.evt_other (s : State) (page b a : Nat) (h : a ≠ addr page 6) : (s.evt page b).reg a = s.reg a := by
  rw [State.evt_eq, State.reg_setReg_other _ _ _ _ h]

/-- An event clears no bit. -/
theorem State.evt_keeps (s : State) (page b i : Nat) (h : bit (s.reg (addr page 6)) i = true) :
    bit ((s.evt page b).reg (addr page 6)) i = true := by
  rw [State.evt_eq, State.reg_setReg_same]
  simp only [bit] at h ⊢
  simp [BitVec.getLsbD_or, h]

@[simp] theorem State.evt_pending (s : State) (page b : Nat) : (s.evt page b).pending = s.pending := by simp [State.evt_eq]
@[simp] theorem State.evt_pub (s : State) (page b : Nat) : (s.evt page b).pub = s.pub := by simp [State.evt_eq]
@[simp] theorem State.evt_views (s : State) (page b : Nat) : (s.evt page b).views = s.views := by simp [State.evt_eq]
@[simp] theorem State.evt_ck (s : State) (page b : Nat) : (s.evt page b).ck = s.ck := by simp [State.evt_eq]
@[simp] theorem State.evt_free (s : State) (page b : Nat) : (s.evt page b).free = s.free := by simp [State.evt_eq]
@[simp] theorem State.evt_cp (s : State) (page b : Nat) :
    (s.evt page b).cp =
      { s.cp with regs := (if isExt (addr page 6) then s.cp.regs else s.cp.regs.set (addr page 6) (s.reg (addr page 6) ||| oneHot b)) } := by
  simp [State.evt_eq]
@[simp] theorem State.evt_x (s : State) (page b : Nat) :
    (s.evt page b).x =
      { s.x with regs := (if isExt (addr page 6) then s.x.regs.set (addr page 6) (s.reg (addr page 6) ||| oneHot b) else s.x.regs) } := by
  simp [State.evt_eq]

end Sys2Proof.Machine
end

