-- ==== Sys2Proof/Laws/Frames.lean ====
section
/-! SUPPORT. What latching an error, raising one, fencing a unit and a leg's error leave, each said once. -/

namespace Sys2Proof.Machine

theorem larderTrigger_frame (s : State) (src ix : Nat) :
    ∃ l, larderTrigger s src ix = { s with x := { s.x with larder := l } } := by
  unfold larderTrigger
  dsimp only
  split
  · exact ⟨_, rfl⟩
  · split
    · exact ⟨_, rfl⟩
    · split
      · exact ⟨_, rfl⟩
      · exact ⟨s.x.larder, rfl⟩
  · exact ⟨_, rfl⟩

theorem pinShutdown_frame (s : State) (k : Nat) :
    ∃ c h e b, pinShutdown s k = { s with x := { s.x with col := c, hw := h, srcEn := e, batEn := b } } := by
  suffices h : pinShutdown s k = { s with x := { s.x with
      col := (pinShutdown s k).x.col, hw := (pinShutdown s k).x.hw
      srcEn := (pinShutdown s k).x.srcEn, batEn := (pinShutdown s k).x.batEn } } from ⟨_, _, _, _, h⟩
  unfold pinShutdown
  generalize (k == 3 || k == 4) = c1
  generalize (k == 4) = c2
  cases c1 <;> cases c2 <;> simp [State.modCol, State.allLegsLow, enablesToStraps]

theorem noteLine_frame (s : State) (k : Nat) : ∃ c, noteLine s k = { s with x := { s.x with col := c } } := ⟨_, rfl⟩

@[simp] theorem noteCheck_reg (s : State) (page : Nat) (m : Word) (a : Nat) : (noteCheck s page m).reg a = s.reg a := rfl

/-- Latching touches the collector, the legs' outputs, the enables of sources and batteries, and the larder's trigger: no register. -/
theorem latch_frame (s : State) (k : Nat) :
    ∃ c h e b l, latch s k = { s with x := { s.x with col := c, hw := h, srcEn := e, batEn := b, larder := l } } := by
  unfold latch
  split
  · exact ⟨s.x.col, s.x.hw, s.x.srcEn, s.x.batEn, s.x.larder, rfl⟩
  · split
    · obtain ⟨c, hc⟩ := noteLine_frame s k
      exact ⟨c, s.x.hw, s.x.srcEn, s.x.batEn, s.x.larder, hc⟩
    · dsimp only
      generalize hs : State.modCol s _ = s1
      obtain ⟨c0, hn⟩ := noteLine_frame s1 k
      obtain ⟨c, h, e, b, hp⟩ := pinShutdown_frame (noteLine s1 k) (react s1 k)
      rw [hp, hn]
      subst hs
      split
      · obtain ⟨l, hl⟩ := larderTrigger_frame
          { s.modCol _ with x := { (s.modCol _).x with col := c, hw := h, srcEn := e, batEn := b } } 2 k
        rw [hl]
        exact ⟨_, h, e, b, l, rfl⟩
      · exact ⟨_, h, e, b, s.x.larder, rfl⟩

theorem latches_frame (l : List Nat) (s : State) :
    ∃ c h e b y, l.foldl latch s = { s with x := { s.x with col := c, hw := h, srcEn := e, batEn := b, larder := y } } := by
  induction l generalizing s with
  | nil => exact ⟨s.x.col, s.x.hw, s.x.srcEn, s.x.batEn, s.x.larder, rfl⟩
  | cons k t ih =>
    obtain ⟨c, h, e, b, y, hk⟩ := latch_frame s k
    obtain ⟨c', h', e', b', y', ht⟩ := ih (latch s k)
    rw [List.foldl_cons, ht, hk]
    exact ⟨c', h', e', b', y', rfl⟩

theorem latchAll_frame (s : State) :
    ∃ c h e b y, latchAll s = { s with x := { s.x with col := c, hw := h, srcEn := e, batEn := b, larder := y } } :=
  latches_frame _ s

theorem setReg_frame (s : State) (a : Nat) (w : Word) :
    ∃ g r, s.setReg a w = { s with cp := { s.cp with regs := g }, x := { s.x with regs := r } } := by
  unfold State.setReg
  split
  · exact ⟨s.cp.regs, _, rfl⟩
  · exact ⟨_, s.x.regs, rfl⟩

theorem evt_frame (s : State) (page b : Nat) :
    ∃ g r, s.evt page b = { s with cp := { s.cp with regs := g }, x := { s.x with regs := r } } :=
  setReg_frame s _ _

theorem raiseMask_frame (s : State) (page : Nat) (m : Word) :
    ∃ g r c h e b y, raiseMask s page m = { s with
      cp := { s.cp with regs := g }
      x := { s.x with regs := r, checks := (noteCheck s page m).x.checks, col := c, hw := h, srcEn := e, batEn := b, larder := y } } := by
  unfold raiseMask
  obtain ⟨c, h, e, b, y, hl⟩ := latches_frame (pageLines page) ((noteCheck s page m).orReg (a_PG_ERR page) m)
  obtain ⟨g, r, hg⟩ := setReg_frame (noteCheck s page m) (a_PG_ERR page) ((noteCheck s page m).reg (a_PG_ERR page) ||| m)
  rw [hl, State.orReg, hg]
  exact ⟨g, r, c, h, e, b, y, rfl⟩

theorem raise_frame (s : State) (page k : Nat) :
    ∃ g r c h e b y, raise s page k = { s with
      cp := { s.cp with regs := g }
      x := { s.x with regs := r, checks := (noteCheck s page (oneHot k)).x.checks, col := c, hw := h, srcEn := e, batEn := b, larder := y } } :=
  raiseMask_frame s page _

theorem fence_frame (s : State) (u : FenceUnit) :
    ∃ r f k h, s.fence u = { s with x := { s.x with regs := r, fenced := f, checks := k, hw := h } } := by
  unfold State.fence
  split
  · exact ⟨s.x.regs, s.x.fenced, s.x.checks, s.x.hw, rfl⟩
  · dsimp only
    have hx : isExt (addr 0xB8 6) = true := by decide
    simp only [State.evt_eq, State.setReg, hx, if_true]
    split
    · exact ⟨_, _, _, _, rfl⟩
    · exact ⟨_, _, _, s.x.hw, rfl⟩

/-- A unit that is told to be fenced is fenced. -/
theorem fence_isFenced (s : State) (u : FenceUnit) : (s.fence u).isFenced u = true := by
  unfold State.fence
  split
  · assumption
  · dsimp only
    split <;> simp [State.isFenced]

/-! ### A latched line -/

/-- The bit of an error reads set. -/
theorem raise_same (s : State) (page b : Nat) (h : b < 16) : bit ((raise s page b).reg (a_PG_ERR page)) b = true := by
  have e : (raise s page b).reg (a_PG_ERR page) = (s.setReg (a_PG_ERR page) (s.reg (a_PG_ERR page) ||| oneHot b)).reg (a_PG_ERR page) := by
    unfold raise raiseMask
    obtain ⟨c, h, e, b, y, hl⟩ := latches_frame (pageLines page) ((noteCheck s page (oneHot b)).orReg (a_PG_ERR page) (oneHot b))
    rw [hl]
    exact (State.reg_setReg_same _ _ _).trans (State.reg_setReg_same _ _ _).symm
  rw [e, State.reg_setReg_same, bit_or_oneHot _ b h]

/-- Raising an error clears none of its page. -/
theorem raise_keeps (s : State) (page b i : Nat) (h : bit (s.reg (a_PG_ERR page)) i = true) :
    bit ((raise s page b).reg (a_PG_ERR page)) i = true := by
  have e : (raise s page b).reg (a_PG_ERR page) = (s.setReg (a_PG_ERR page) (s.reg (a_PG_ERR page) ||| oneHot b)).reg (a_PG_ERR page) := by
    unfold raise raiseMask
    obtain ⟨c, h, e, b, y, hl⟩ := latches_frame (pageLines page) ((noteCheck s page (oneHot b)).orReg (a_PG_ERR page) (oneHot b))
    rw [hl]
    exact (State.reg_setReg_same _ _ _).trans (State.reg_setReg_same _ _ _).symm
  rw [e, State.reg_setReg_same]
  simp only [bit] at h ⊢
  simp [BitVec.getLsbD_or, h]

/-- Raising an error does only what `OnlyRaised` says. -/
theorem raise_only (s : State) (page b : Nat) (h : b < 16) : OnlyRaised s (raise s page b) page b := by
  refine ⟨raise_same s page b h, ?_, ?_⟩
  · intro a ha
    unfold raise raiseMask
    obtain ⟨c, h, e, b, y, hl⟩ := latches_frame (pageLines page) ((noteCheck s page (oneHot b)).orReg (a_PG_ERR page) (oneHot b))
    rw [hl]
    exact State.reg_orReg_other _ _ _ _ ha
  · obtain ⟨g, r, c, h, e, bb, y, hr⟩ := raise_frame s page b
    rw [hr]

/-! ### As equations of the two halves of the state

`asIs` marks the result whose few changed fields the right side names, so that these equations rewrite once. -/

/-- A state as it is. -/
def asIs (s : State) : State := s

@[simp] theorem latch_cp (s : State) (k : Nat) : (latch s k).cp = s.cp := by
  obtain ⟨c, h, e, b, y, hr⟩ := latch_frame s k; rw [hr]
@[simp] theorem latch_x (s : State) (k : Nat) : (latch s k).x = { s.x with
    col := (asIs (latch s k)).x.col, hw := (asIs (latch s k)).x.hw, srcEn := (asIs (latch s k)).x.srcEn
    batEn := (asIs (latch s k)).x.batEn, larder := (asIs (latch s k)).x.larder } := by
  obtain ⟨c, h, e, b, y, hr⟩ := latch_frame s k; rw [hr]; rfl
@[simp] theorem latch_pending (s : State) (k : Nat) : (latch s k).pending = s.pending := by
  obtain ⟨c, h, e, b, y, hr⟩ := latch_frame s k; rw [hr]
@[simp] theorem latch_pub (s : State) (k : Nat) : (latch s k).pub = s.pub := by
  obtain ⟨c, h, e, b, y, hr⟩ := latch_frame s k; rw [hr]
@[simp] theorem latch_views (s : State) (k : Nat) : (latch s k).views = s.views := by
  obtain ⟨c, h, e, b, y, hr⟩ := latch_frame s k; rw [hr]
@[simp] theorem latch_ck (s : State) (k : Nat) : (latch s k).ck = s.ck := by
  obtain ⟨c, h, e, b, y, hr⟩ := latch_frame s k; rw [hr]
@[simp] theorem latch_free (s : State) (k : Nat) : (latch s k).free = s.free := by
  obtain ⟨c, h, e, b, y, hr⟩ := latch_frame s k; rw [hr]
@[simp] theorem latchAll_cp (s : State) : (latchAll s).cp = s.cp := by
  obtain ⟨c, h, e, b, y, hr⟩ := latchAll_frame s; rw [hr]
@[simp] theorem latchAll_x (s : State) : (latchAll s).x = { s.x with
    col := (asIs (latchAll s)).x.col, hw := (asIs (latchAll s)).x.hw, srcEn := (asIs (latchAll s)).x.srcEn
    batEn := (asIs (latchAll s)).x.batEn, larder := (asIs (latchAll s)).x.larder } := by
  obtain ⟨c, h, e, b, y, hr⟩ := latchAll_frame s; rw [hr]; rfl
@[simp] theorem latchAll_pending (s : State) : (latchAll s).pending = s.pending := by
  obtain ⟨c, h, e, b, y, hr⟩ := latchAll_frame s; rw [hr]
@[simp] theorem latchAll_pub (s : State) : (latchAll s).pub = s.pub := by
  obtain ⟨c, h, e, b, y, hr⟩ := latchAll_frame s; rw [hr]
@[simp] theorem latchAll_views (s : State) : (latchAll s).views = s.views := by
  obtain ⟨c, h, e, b, y, hr⟩ := latchAll_frame s; rw [hr]
@[simp] theorem latchAll_ck (s : State) : (latchAll s).ck = s.ck := by
  obtain ⟨c, h, e, b, y, hr⟩ := latchAll_frame s; rw [hr]
@[simp] theorem latchAll_free (s : State) : (latchAll s).free = s.free := by
  obtain ⟨c, h, e, b, y, hr⟩ := latchAll_frame s; rw [hr]
@[simp] theorem raiseMask_cp (s : State) (page : Nat) (m : Word) : (raiseMask s page m).cp = { s.cp with regs := (asIs (raiseMask s page m)).cp.regs } := by
  obtain ⟨g, r, c, h, e, b, y, hr⟩ := raiseMask_frame s page m; rw [hr]; rfl
@[simp] theorem raiseMask_x (s : State) (page : Nat) (m : Word) : (raiseMask s page m).x = { s.x with
    regs := (asIs (raiseMask s page m)).x.regs, checks := (noteCheck s page m).x.checks, col := (asIs (raiseMask s page m)).x.col, hw := (asIs (raiseMask s page m)).x.hw, srcEn := (asIs (raiseMask s page m)).x.srcEn
    batEn := (asIs (raiseMask s page m)).x.batEn, larder := (asIs (raiseMask s page m)).x.larder } := by
  obtain ⟨g, r, c, h, e, b, y, hr⟩ := raiseMask_frame s page m; rw [hr]; rfl
@[simp] theorem raiseMask_pending (s : State) (page : Nat) (m : Word) : (raiseMask s page m).pending = s.pending := by
  obtain ⟨g, r, c, h, e, b, y, hr⟩ := raiseMask_frame s page m; rw [hr]
@[simp] theorem raiseMask_pub (s : State) (page : Nat) (m : Word) : (raiseMask s page m).pub = s.pub := by
  obtain ⟨g, r, c, h, e, b, y, hr⟩ := raiseMask_frame s page m; rw [hr]
@[simp] theorem raiseMask_views (s : State) (page : Nat) (m : Word) : (raiseMask s page m).views = s.views := by
  obtain ⟨g, r, c, h, e, b, y, hr⟩ := raiseMask_frame s page m; rw [hr]
@[simp] theorem raiseMask_ck (s : State) (page : Nat) (m : Word) : (raiseMask s page m).ck = s.ck := by
  obtain ⟨g, r, c, h, e, b, y, hr⟩ := raiseMask_frame s page m; rw [hr]
@[simp] theorem raiseMask_free (s : State) (page : Nat) (m : Word) : (raiseMask s page m).free = s.free := by
  obtain ⟨g, r, c, h, e, b, y, hr⟩ := raiseMask_frame s page m; rw [hr]
@[simp] theorem raise_cp (s : State) (page b : Nat) : (raise s page b).cp = { s.cp with regs := (asIs (raise s page b)).cp.regs } := by
  obtain ⟨g, r, c, h, e, b, y, hr⟩ := raise_frame s page b; rw [hr]; rfl
@[simp] theorem raise_x (s : State) (page b : Nat) : (raise s page b).x = { s.x with
    regs := (asIs (raise s page b)).x.regs, checks := (noteCheck s page (oneHot b)).x.checks, col := (asIs (raise s page b)).x.col, hw := (asIs (raise s page b)).x.hw, srcEn := (asIs (raise s page b)).x.srcEn
    batEn := (asIs (raise s page b)).x.batEn, larder := (asIs (raise s page b)).x.larder } := by
  obtain ⟨g, r, c, h, e, b, y, hr⟩ := raise_frame s page b; rw [hr]; rfl
@[simp] theorem raise_pending (s : State) (page b : Nat) : (raise s page b).pending = s.pending := by
  obtain ⟨g, r, c, h, e, b, y, hr⟩ := raise_frame s page b; rw [hr]
@[simp] theorem raise_pub (s : State) (page b : Nat) : (raise s page b).pub = s.pub := by
  obtain ⟨g, r, c, h, e, b, y, hr⟩ := raise_frame s page b; rw [hr]
@[simp] theorem raise_views (s : State) (page b : Nat) : (raise s page b).views = s.views := by
  obtain ⟨g, r, c, h, e, b, y, hr⟩ := raise_frame s page b; rw [hr]
@[simp] theorem raise_ck (s : State) (page b : Nat) : (raise s page b).ck = s.ck := by
  obtain ⟨g, r, c, h, e, b, y, hr⟩ := raise_frame s page b; rw [hr]
@[simp] theorem raise_free (s : State) (page b : Nat) : (raise s page b).free = s.free := by
  obtain ⟨g, r, c, h, e, b, y, hr⟩ := raise_frame s page b; rw [hr]
@[simp] theorem fence_cp (s : State) (u : FenceUnit) : (s.fence u).cp = s.cp := by
  obtain ⟨r, f, k, h, hr⟩ := fence_frame s u; rw [hr]
@[simp] theorem fence_x (s : State) (u : FenceUnit) : (s.fence u).x = { s.x with
    regs := (asIs (s.fence u)).x.regs, fenced := (asIs (s.fence u)).x.fenced, checks := (asIs (s.fence u)).x.checks
    hw := (asIs (s.fence u)).x.hw } := by
  obtain ⟨r, f, k, h, hr⟩ := fence_frame s u; rw [hr]; rfl

/-- Latching changes no register. -/
@[simp] theorem latch_reg (s : State) (k a : Nat) : (latch s k).reg a = s.reg a := by
  obtain ⟨c, h, e, b, y, hr⟩ := latch_frame s k; rw [hr]; rfl
@[simp] theorem latchAll_reg (s : State) (a : Nat) : (latchAll s).reg a = s.reg a := by
  obtain ⟨c, h, e, b, y, hr⟩ := latchAll_frame s; rw [hr]; rfl
/-- Raising an error changes no register but PG_ERR of its page. -/
theorem raise_other (s : State) (page b a : Nat) (h : a ≠ a_PG_ERR page) : (raise s page b).reg a = s.reg a := by
  unfold raise raiseMask
  obtain ⟨c, hh, e, bb, y, hl⟩ := latches_frame (pageLines page) ((noteCheck s page (oneHot b)).orReg (a_PG_ERR page) (oneHot b))
  rw [hl]
  exact State.reg_orReg_other _ _ _ _ h

end Sys2Proof.Machine
end

