-- ==== Sys2Proof/Laws/Sane.lean ====
section
/-! SUPPORT. What every shared operation keeps: the queue of commands, the canonical form of the storeroom's array, and the
legs' outputs apart. -/

namespace Sys2Proof.Machine

/-- The queue is p and the state is sound. -/
def Sane (p : List Instr) (s : State) : Prop := s.pending = p ∧ Sound s

/-- The queue's part of Sane. -/
def SaneQueue (p q : List Instr) : Prop := q = p
/-- The array part of Sane. -/
def SaneMem (_p : List Instr) (m : List Host.Cell) : Prop := Memory.wf m = true
/-- The legs' part of Sane. -/
def SaneLegs (_p : List Instr) (v : Vector LegHw 24) : Prop := legsApart v
/-- One leg's part of Sane. -/
def SaneLeg (_p : List Instr) (h : LegHw) : Prop := (h.pwmH && h.pwmL) = false
/-- Two outputs that are not both high. -/
def Apart (_p : List Instr) (a b : Bool) : Prop := (a && b) = false

@[simp] theorem sane_mk (p q : List Instr) (c : Cp) (x : Ext) (u : Snap) (v : PerPort (Option Snap)) (k : Cp) (n : Nat) :
    Sane p ⟨q, c, x, u, v, k, n⟩ ↔ (SaneQueue p q ∧ SaneMem p x.store.mem ∧ SaneLegs p x.hw) := Iff.rfl
@[simp] theorem sane_pending (p : List Instr) (s : State) (h : Sane p s) : SaneQueue p s.pending := h.1
@[simp] theorem sane_mem (p : List Instr) (s : State) (h : Sane p s) : SaneMem p s.x.store.mem := h.2.1
@[simp] theorem sane_legs (p : List Instr) (s : State) (h : Sane p s) : SaneLegs p s.x.hw := h.2.2
@[simp] theorem saneLeg_mk (p : List Instr) (h : LegHw) : SaneLeg p h ↔ Apart p h.pwmH h.pwmL := Iff.rfl
@[simp] theorem apart_low (p : List Instr) (b : Bool) : Apart p false b := by simp [Apart]
@[simp] theorem apart_low' (p : List Instr) (b : Bool) : Apart p b false := by simp [Apart]
theorem sane_apart (p : List Instr) (s : State) (n : Leg) (h : Sane p s) :
    Apart p s.x.hw[n].pwmH s.x.hw[n].pwmL := h.2.2 n
@[simp] theorem sane_apart_val (p : List Instr) (s : State) (n : Leg) (h : Sane p s) :
    Apart p s.x.hw[n.val].pwmH s.x.hw[n.val].pwmL := h.2.2 n

theorem saneLegs_upd (p : List Instr) (v : Vector LegHw 24) (n : Leg) (a : LegHw) (h : SaneLegs p v) (ha : SaneLeg p a) :
    SaneLegs p (upd v n a) := by
  intro k
  by_cases e : k = n
  · subst e; rw [upd_same]; exact ha
  · rw [upd_other _ _ _ _ e]; exact h k
@[simp] theorem saneLegs_tab (p : List Instr) (f : Leg → LegHw) (h : ∀ n, SaneLeg p (f n)) : SaneLegs p (tab f) := by
  intro n
  rw [tab_at]
  exact h n

@[simp] theorem modHw_sane (p : List Instr) (s : State) (n : Leg) (f : LegHw → LegHw) (h : Sane p s)
    (hf : SaneLeg p (f s.x.hw[n])) : Sane p (s.modHw n f) :=
  ⟨h.1, h.2.1, saneLegs_upd p _ _ _ h.2.2 hf⟩
@[simp] theorem modStore_sane (p : List Instr) (s : State) (f : StoreSt → StoreSt) (h : Sane p s)
    (hf : SaneMem p (f s.x.store).mem) : Sane p (s.modStore f) := ⟨h.1, hf, h.2.2⟩

@[simp] theorem drive_sane (p : List Instr) (s : State) (n : Leg) (high on : Bool) (h : Sane p s) : Sane p (drive s n high on) := by
  unfold drive
  refine modHw_sane p _ _ _ h ?_
  cases high <;> cases hp : s.x.hw[n].pwmH <;> cases hq : s.x.hw[n].pwmL <;> cases on <;> simp [Apart, hp, hq]

@[simp] theorem low_pwmH (h : LegHw) : h.low.pwmH = false := rfl
@[simp] theorem low_pwmL (h : LegHw) : h.low.pwmL = false := rfl
@[simp] theorem setEst_pwmH (h : LegHw) (e : Option Int) : (h.setEst e).pwmH = h.pwmH := by unfold LegHw.setEst; split <;> rfl
@[simp] theorem setEst_pwmL (h : LegHw) (e : Option Int) : (h.setEst e).pwmL = h.pwmL := by unfold LegHw.setEst; split <;> rfl

@[simp] theorem sane_ite (p : List Instr) (c : Prop) [Decidable c] (a b : State) (ha : Sane p a) (hb : Sane p b) :
    Sane p (if c then a else b) := by
  split <;> assumption

@[simp] theorem foldl_sane {α : Type} (p : List Instr) (l : List α) (g : State → α → State) (s : State) (h : Sane p s)
    (hg : ∀ s a, Sane p s → Sane p (g s a)) : Sane p (l.foldl g s) := by
  induction l generalizing s with
  | nil => exact h
  | cons a t ih => rw [List.foldl_cons]; exact ih _ (hg _ _ h)
@[simp] theorem forAll_sane {n : Nat} (p : List Instr) (g : State → Fin n → State) (s : State) (h : Sane p s)
    (hg : ∀ s a, Sane p s → Sane p (g s a)) : Sane p (forAll s g) := foldl_sane p _ g s h hg
/-! ### Outcomes -/

/-- A next state of the outcome is sane. -/
def Sanes (p : List Instr) (o : Host.Outcome State Fault Refusal) : Prop := ∀ t, o = .next t → Sane p t
@[simp] theorem sanes_next (p : List Instr) (t : State) : Sanes p (.next t) ↔ Sane p t := by
  constructor
  · intro h; exact h t rfl
  · intro h u hu; injection hu with hu; rw [← hu]; exact h
@[simp] theorem sanes_ite (p : List Instr) (c : Prop) [Decidable c] (a b : Host.Outcome State Fault Refusal) (ha : Sanes p a)
    (hb : Sanes p b) : Sanes p (if c then a else b) := by
  split <;> assumption

/-! ### The array -/

theorem memWfFrom_mono (l : List Host.Cell) (a b : Nat) (h : a ≤ b) (hw : memWfFrom b l = true) : memWfFrom a l = true := by
  cases l with
  | nil => rfl
  | cons c t =>
    obtain ⟨k, v⟩ := c
    simp only [memWfFrom, Bool.and_eq_true, decide_eq_true_eq] at hw ⊢
    exact ⟨⟨by omega, hw.1.2⟩, hw.2⟩

theorem memPut_wfFrom (l : List Host.Cell) (lo a : Nat) (v : Byte) (h : lo ≤ a) (hw : memWfFrom lo l = true) :
    memWfFrom lo (memPut l a v) = true := by
  induction l generalizing lo with
  | nil =>
    unfold memPut
    split
    · rfl
    · next hv => simp [memWfFrom, h, hv]
  | cons c t ih =>
    obtain ⟨b, w⟩ := c
    simp only [memWfFrom, Bool.and_eq_true, decide_eq_true_eq] at hw
    obtain ⟨⟨hb, hne⟩, ht⟩ := hw
    unfold memPut
    split
    · next hab =>
      split
      · simp only [memWfFrom, Bool.and_eq_true, decide_eq_true_eq]; exact ⟨⟨hb, hne⟩, ht⟩
      · next hv =>
        simp only [memWfFrom, Bool.and_eq_true, decide_eq_true_eq]
        exact ⟨⟨h, by simpa using hv⟩, ⟨by omega, hne⟩, ht⟩
    · next hab =>
      split
      · next he =>
        have e : a = b := beq_iff_eq.mp he
        split
        · exact memWfFrom_mono t lo (b + 1) (by omega) ht
        · next hv =>
          simp only [memWfFrom, Bool.and_eq_true, decide_eq_true_eq]
          exact ⟨⟨h, by simpa using hv⟩, by rw [e]; exact ht⟩
      · next he =>
        have e : a ≠ b := fun x => he (beq_iff_eq.mpr x)
        simp only [memWfFrom, Bool.and_eq_true, decide_eq_true_eq]
        exact ⟨⟨hb, hne⟩, ih (b + 1) (by omega) ht⟩

theorem filter_wfFrom (l : List Host.Cell) (f : Host.Cell → Bool) (lo : Nat) (hw : memWfFrom lo l = true) :
    memWfFrom lo (l.filter f) = true := by
  induction l generalizing lo with
  | nil => rfl
  | cons c t ih =>
    obtain ⟨b, w⟩ := c
    simp only [memWfFrom, Bool.and_eq_true, decide_eq_true_eq] at hw
    obtain ⟨⟨hb, hne⟩, ht⟩ := hw
    by_cases hf : f (b, w) = true
    · rw [List.filter_cons_of_pos hf]
      simp only [memWfFrom, Bool.and_eq_true, decide_eq_true_eq]
      exact ⟨⟨hb, hne⟩, ih _ ht⟩
    · rw [List.filter_cons_of_neg hf]
      exact memWfFrom_mono _ _ _ (by omega) (ih _ ht)

@[simp] theorem memPut_sane (p : List Instr) (m : List Host.Cell) (a : Nat) (v : Byte) (h : SaneMem p m) :
    SaneMem p (memPut m a v) := memPut_wfFrom m 0 a v (by omega) h
@[simp] theorem stPut_sane (p : List Instr) (m : List Host.Cell) (a : Nat) (w : Word) (h : SaneMem p m) :
    SaneMem p (stPut m a w) := by simp [stPut, h]
@[simp] theorem stProg_sane (p : List Instr) (m : List Host.Cell) (a : Nat) (w : Word) (h : SaneMem p m) :
    SaneMem p (stProg m a w) := by simp [stProg, h]
@[simp] theorem stErase_sane (p : List Instr) (m : List Host.Cell) (k : Nat) (h : SaneMem p m) : SaneMem p (stErase m k) :=
  filter_wfFrom m _ 0 h
@[simp] theorem stPutAll_sane (p : List Instr) (m : List Host.Cell) (a : Nat) (l : List Word) (h : SaneMem p m) :
    SaneMem p (stPutAll m a l) := by
  induction l generalizing m a with
  | nil => exact h
  | cons w t ih => exact ih _ _ (stPut_sane p m a w h)
@[simp] theorem memFold_sane {α : Type} (p : List Instr) (l : List α) (g : List Host.Cell → α → List Host.Cell) (m : List Host.Cell)
    (h : SaneMem p m) (hg : ∀ m a, SaneMem p m → SaneMem p (g m a)) : SaneMem p (l.foldl g m) := by
  induction l generalizing m with
  | nil => exact h
  | cons a t ih => rw [List.foldl_cons]; exact ih _ (hg _ _ h)
@[simp] theorem stFree_sane (p : List Instr) (s : State) (a n : Nat) (h : Sane p s) : Sane p (stFree s a n) := by
  refine ⟨h.1, ?_, h.2.2⟩
  exact memFold_sane p _ _ _ h.2.1 fun m k hm => stPut_sane p m _ _ hm

/-! ### Ops -/

@[simp] theorem State.setReg_sane (p : List Instr) (s : State) (a : Nat) (w : Word) (h : Sane p s) : Sane p ((State.setReg s a w)) := by
  unfold State.setReg
  simp +contextual (maxDischargeDepth := 30) only [sane_mk, h, sane_pending, sane_mem, sane_legs, and_self, sane_ite]
@[simp] theorem State.orReg_sane (p : List Instr) (s : State) (a : Nat) (w : Word) (h : Sane p s) : Sane p ((State.orReg s a w)) := by
  unfold State.orReg
  simp +contextual (maxDischargeDepth := 30) only [h, setReg_sane]
@[simp] theorem atCycle0_sane (p : List Instr) (f : State → State) (s : State) (h : Sane p s) (hf : ∀ t, Sane p t → Sane p (f t)) :
    Sane p (atCycle0 f s) := by
  unfold atCycle0
  simp [h, hf]
@[simp] theorem State.modTrain_sane (p : List Instr) (s : State) (t : Train) (f : TrainSt → TrainSt) (h : Sane p s) : Sane p ((State.modTrain s t f)) := by
  unfold State.modTrain
  simp +contextual (maxDischargeDepth := 30) only [Fin.getElem_fin, sane_mk, h, sane_pending, sane_mem, sane_legs, and_self]
@[simp] theorem State.modLeg_sane (p : List Instr) (s : State) (n : Leg) (f : LegCp → LegCp) (h : Sane p s) : Sane p ((State.modLeg s n f)) := by
  unfold State.modLeg
  simp +contextual (maxDischargeDepth := 30) only [Fin.getElem_fin, sane_mk, h, sane_pending, sane_mem, sane_legs, and_self]
@[simp] theorem State.modLoop_sane (p : List Instr) (s : State) (l : LoopIx) (f : LoopSt → LoopSt) (h : Sane p s) : Sane p ((State.modLoop s l f)) := by
  unfold State.modLoop
  simp +contextual (maxDischargeDepth := 30) only [Fin.getElem_fin, sane_mk, h, sane_pending, sane_mem, sane_legs, and_self]
@[simp] theorem State.modSect_sane (p : List Instr) (s : State) (i : Slot) (f : SectSt → SectSt) (h : Sane p s) : Sane p ((State.modSect s i f)) := by
  unfold State.modSect
  simp +contextual (maxDischargeDepth := 30) only [Fin.getElem_fin, sane_mk, h, sane_pending, sane_mem, sane_legs, and_self]
@[simp] theorem State.modOsc_sane (p : List Instr) (s : State) (i : OscIx) (f : OscSt → OscSt) (h : Sane p s) : Sane p ((State.modOsc s i f)) := by
  unfold State.modOsc
  simp +contextual (maxDischargeDepth := 30) only [Fin.getElem_fin, sane_mk, h, sane_pending, sane_mem, sane_legs, and_self]
@[simp] theorem State.modModel_sane (p : List Instr) (s : State) (t : Train) (f : ModelSt → ModelSt) (h : Sane p s) : Sane p ((State.modModel s t f)) := by
  unfold State.modModel
  simp +contextual (maxDischargeDepth := 30) only [Fin.getElem_fin, sane_mk, h, sane_pending, sane_mem, sane_legs, and_self]
@[simp] theorem State.modSup_sane (p : List Instr) (s : State) (i : Slice) (f : SliceSup → SliceSup) (h : Sane p s) : Sane p ((State.modSup s i f)) := by
  unfold State.modSup
  simp +contextual (maxDischargeDepth := 30) only [Fin.getElem_fin, sane_mk, h, sane_pending, sane_mem, sane_legs, and_self]
@[simp] theorem State.modBat_sane (q : List Instr) (s : State) (p : BPort) (f : BatSt → BatSt) (h : Sane q s) : Sane q ((State.modBat s p f)) := by
  unfold State.modBat
  simp +contextual (maxDischargeDepth := 30) only [Fin.getElem_fin, sane_mk, h, sane_pending, sane_mem, sane_legs, and_self]
@[simp] theorem State.modBatHw_sane (q : List Instr) (s : State) (p : BPort) (f : BatHw → BatHw) (h : Sane q s) : Sane q ((State.modBatHw s p f)) := by
  unfold State.modBatHw
  simp +contextual (maxDischargeDepth := 30) only [Fin.getElem_fin, sane_mk, h, sane_pending, sane_mem, sane_legs, and_self]
@[simp] theorem State.modSrc_sane (p : List Instr) (s : State) (i : Src) (f : SrcSt → SrcSt) (h : Sane p s) : Sane p ((State.modSrc s i f)) := by
  unfold State.modSrc
  simp +contextual (maxDischargeDepth := 30) only [Fin.getElem_fin, sane_mk, h, sane_pending, sane_mem, sane_legs, and_self]
@[simp] theorem State.modNode_sane (p : List Instr) (s : State) (i : Fin 2) (f : NodeSt → NodeSt) (h : Sane p s) : Sane p ((State.modNode s i f)) := by
  unfold State.modNode
  simp +contextual (maxDischargeDepth := 30) only [Fin.getElem_fin, sane_mk, h, sane_pending, sane_mem, sane_legs, and_self]
@[simp] theorem State.modSl_sane (p : List Instr) (s : State) (i : Slice) (f : SliceSt → SliceSt) (h : Sane p s) : Sane p ((State.modSl s i f)) := by
  unfold State.modSl
  simp +contextual (maxDischargeDepth := 30) only [Fin.getElem_fin, sane_mk, h, sane_pending, sane_mem, sane_legs, and_self]
@[simp] theorem State.modSys_sane (p : List Instr) (s : State) (i : Slice) (f : SysCal → SysCal) (h : Sane p s) : Sane p ((State.modSys s i f)) := by
  unfold State.modSys
  simp +contextual (maxDischargeDepth := 30) only [Fin.getElem_fin, sane_mk, h, sane_pending, sane_mem, sane_legs, and_self]
@[simp] theorem State.modConv_sane (p : List Instr) (s : State) (i : Conv) (f : ConvSt → ConvSt) (h : Sane p s) : Sane p ((State.modConv s i f)) := by
  unfold State.modConv
  simp +contextual (maxDischargeDepth := 30) only [Fin.getElem_fin, sane_mk, h, sane_pending, sane_mem, sane_legs, and_self]
@[simp] theorem State.modBg_sane (p : List Instr) (s : State) (f : BgSt → BgSt) (h : Sane p s) : Sane p ((State.modBg s f)) := by
  unfold State.modBg
  simp +contextual (maxDischargeDepth := 30) only [sane_mk, h, sane_pending, sane_mem, sane_legs, and_self]
@[simp] theorem State.modTrace_sane (p : List Instr) (s : State) (f : TraceSt → TraceSt) (h : Sane p s) : Sane p ((State.modTrace s f)) := by
  unfold State.modTrace
  simp +contextual (maxDischargeDepth := 30) only [sane_mk, h, sane_pending, sane_mem, sane_legs, and_self]
@[simp] theorem State.modAx_sane (p : List Instr) (s : State) (f : AxSt → AxSt) (h : Sane p s) : Sane p ((State.modAx s f)) := by
  unfold State.modAx
  simp +contextual (maxDischargeDepth := 30) only [sane_mk, h, sane_pending, sane_mem, sane_legs, and_self]
@[simp] theorem State.modTl_sane (p : List Instr) (s : State) (n : TallyIx) (f : TallySt → TallySt) (h : Sane p s) : Sane p ((State.modTl s n f)) := by
  unfold State.modTl
  simp +contextual (maxDischargeDepth := 30) only [Fin.getElem_fin, sane_mk, h, sane_pending, sane_mem, sane_legs, and_self]
@[simp] theorem State.modCal_sane (p : List Instr) (s : State) (f : CalSt → CalSt) (h : Sane p s) : Sane p ((State.modCal s f)) := by
  unfold State.modCal
  simp +contextual (maxDischargeDepth := 30) only [sane_mk, h, sane_pending, sane_mem, sane_legs, and_self]
@[simp] theorem State.modSpare_sane (p : List Instr) (s : State) (f : SpareSt → SpareSt) (h : Sane p s) : Sane p ((State.modSpare s f)) := by
  unfold State.modSpare
  simp +contextual (maxDischargeDepth := 30) only [sane_mk, h, sane_pending, sane_mem, sane_legs, and_self]
@[simp] theorem State.modCol_sane (p : List Instr) (s : State) (f : Collector → Collector) (h : Sane p s) : Sane p ((State.modCol s f)) := by
  unfold State.modCol
  simp +contextual (maxDischargeDepth := 30) only [sane_mk, h, sane_pending, sane_mem, sane_legs, and_self]
@[simp] theorem State.modTick_sane (p : List Instr) (s : State) (f : TickSt → TickSt) (h : Sane p s) : Sane p ((State.modTick s f)) := by
  unfold State.modTick
  simp +contextual (maxDischargeDepth := 30) only [sane_mk, h, sane_pending, sane_mem, sane_legs, and_self]
@[simp] theorem State.evt_sane (p : List Instr) (s : State) (page b : Nat) (h : Sane p s) : Sane p ((State.evt s page b)) := by
  unfold State.evt
  simp +contextual (maxDischargeDepth := 30) only [h, orReg_sane]
@[simp] theorem State.allLegsLow_sane (p : List Instr) (s : State) (h : Sane p s) : Sane p ((State.allLegsLow s)) := by
  unfold State.allLegsLow
  simp +contextual (maxDischargeDepth := 30) only [Fin.getElem_fin, sane_mk, h, sane_pending, sane_mem, saneLeg_mk, low_pwmH, low_pwmL, apart_low',
    implies_true, saneLegs_tab, and_self]
@[simp] theorem State.fence_sane (p : List Instr) (s : State) (u : FenceUnit) (h : Sane p s) : Sane p ((State.fence s u)) := by
  unfold State.fence
  (repeat' split) <;> simp +contextual (maxDischargeDepth := 30) only [h, sane_mk, sane_pending, sane_mem, sane_legs, and_self, evt_sane, evt_x,
                        Fin.getElem_fin, saneLeg_mk, low_pwmH, low_pwmL, apart_low', modHw_sane, *]

/-! ### Fields -/

@[simp] theorem set_ADC_REF_CTRL_TRACE_sane (p : List Instr) (s : State) (v : Bool) (h : Sane p s) : Sane p ((set_ADC_REF_CTRL_TRACE s v)) := by
  unfold set_ADC_REF_CTRL_TRACE
  simp +contextual (maxDischargeDepth := 30) only [h, State.setReg_sane]
@[simp] theorem set_BP_CTRL_ZLEARN_sane (p : List Instr) (s : State) (i : Nat) (v : Bool) (h : Sane p s) : Sane p ((set_BP_CTRL_ZLEARN s i v)) := by
  unfold set_BP_CTRL_ZLEARN
  simp +contextual (maxDischargeDepth := 30) only [h, State.setReg_sane]
@[simp] theorem set_BP_PHASE_PHASE_sane (p : List Instr) (s : State) (i : Nat) (v : Nat) (h : Sane p s) : Sane p ((set_BP_PHASE_PHASE s i v)) := by
  unfold set_BP_PHASE_PHASE
  simp +contextual (maxDischargeDepth := 30) only [h, State.setReg_sane]
@[simp] theorem set_CAL_CMD_KIND_sane (p : List Instr) (s : State) (v : Nat) (h : Sane p s) : Sane p ((set_CAL_CMD_KIND s v)) := by
  unfold set_CAL_CMD_KIND
  simp +contextual (maxDischargeDepth := 30) only [h, State.setReg_sane]
@[simp] theorem set_CAL_LDn_H_FALL_sane (p : List Instr) (s : State) (j : Nat) (v : Nat) (h : Sane p s) : Sane p ((set_CAL_LDn_H_FALL s j v)) := by
  unfold set_CAL_LDn_H_FALL
  simp +contextual (maxDischargeDepth := 30) only [h, State.setReg_sane]
@[simp] theorem set_CAL_LDn_H_RISE_sane (p : List Instr) (s : State) (j : Nat) (v : Nat) (h : Sane p s) : Sane p ((set_CAL_LDn_H_RISE s j v)) := by
  unfold set_CAL_LDn_H_RISE
  simp +contextual (maxDischargeDepth := 30) only [h, State.setReg_sane]
@[simp] theorem set_CAL_LDn_L_FALL_sane (p : List Instr) (s : State) (j : Nat) (v : Nat) (h : Sane p s) : Sane p ((set_CAL_LDn_L_FALL s j v)) := by
  unfold set_CAL_LDn_L_FALL
  simp +contextual (maxDischargeDepth := 30) only [h, State.setReg_sane]
@[simp] theorem set_CAL_LDn_L_RISE_sane (p : List Instr) (s : State) (j : Nat) (v : Nat) (h : Sane p s) : Sane p ((set_CAL_LDn_L_RISE s j v)) := by
  unfold set_CAL_LDn_L_RISE
  simp +contextual (maxDischargeDepth := 30) only [h, State.setReg_sane]
@[simp] theorem set_CAL_RING_CELLS_sane (p : List Instr) (s : State) (v : Nat) (h : Sane p s) : Sane p ((set_CAL_RING_CELLS s v)) := by
  unfold set_CAL_RING_CELLS
  simp +contextual (maxDischargeDepth := 30) only [h, State.setReg_sane]
@[simp] theorem set_CAL_SRCs_OV_sane (p : List Instr) (s : State) (j : Nat) (v : Nat) (h : Sane p s) : Sane p ((set_CAL_SRCs_OV s j v)) := by
  unfold set_CAL_SRCs_OV
  simp +contextual (maxDischargeDepth := 30) only [h, State.setReg_sane]
@[simp] theorem set_CAL_SRCs_UV_sane (p : List Instr) (s : State) (j : Nat) (v : Nat) (h : Sane p s) : Sane p ((set_CAL_SRCs_UV s j v)) := by
  unfold set_CAL_SRCs_UV
  simp +contextual (maxDischargeDepth := 30) only [h, State.setReg_sane]
@[simp] theorem set_CK_CTRL_LISTSEL_sane (p : List Instr) (s : State) (i : Nat) (v : Bool) (h : Sane p s) : Sane p ((set_CK_CTRL_LISTSEL s i v)) := by
  unfold set_CK_CTRL_LISTSEL
  simp +contextual (maxDischargeDepth := 30) only [h, State.setReg_sane]
@[simp] theorem set_CK_CTRL_RUN_sane (p : List Instr) (s : State) (i : Nat) (v : Bool) (h : Sane p s) : Sane p ((set_CK_CTRL_RUN s i v)) := by
  unfold set_CK_CTRL_RUN
  simp +contextual (maxDischargeDepth := 30) only [h, State.setReg_sane]
@[simp] theorem set_GUARD_LOCK_LOCK_sane (p : List Instr) (s : State) (v : Bool) (h : Sane p s) : Sane p ((set_GUARD_LOCK_LOCK s v)) := by
  unfold set_GUARD_LOCK_LOCK
  simp +contextual (maxDischargeDepth := 30) only [h, State.setReg_sane]
@[simp] theorem set_L_TRIM_TRIM_sane (p : List Instr) (s : State) (i : Nat) (v : Nat) (h : Sane p s) : Sane p ((set_L_TRIM_TRIM s i v)) := by
  unfold set_L_TRIM_TRIM
  simp +contextual (maxDischargeDepth := 30) only [h, State.setReg_sane]
@[simp] theorem set_RG_CFG_POS_sane (p : List Instr) (s : State) (v : Nat) (h : Sane p s) : Sane p ((set_RG_CFG_POS s v)) := by
  unfold set_RG_CFG_POS
  simp +contextual (maxDischargeDepth := 30) only [h, State.setReg_sane]
@[simp] theorem set_SRC_CTRL_EN_sane (p : List Instr) (s : State) (v : Nat) (h : Sane p s) : Sane p ((set_SRC_CTRL_EN s v)) := by
  unfold set_SRC_CTRL_EN
  simp +contextual (maxDischargeDepth := 30) only [h, State.setReg_sane]
@[simp] theorem set_STORE_ADDR_H_ADDR_sane (p : List Instr) (s : State) (v : Nat) (h : Sane p s) : Sane p ((set_STORE_ADDR_H_ADDR s v)) := by
  unfold set_STORE_ADDR_H_ADDR
  simp +contextual (maxDischargeDepth := 30) only [h, State.setReg_sane]
@[simp] theorem set_STORE_ADDR_L_sane (p : List Instr) (s : State) (v : Nat) (h : Sane p s) : Sane p ((set_STORE_ADDR_L s v)) := by
  unfold set_STORE_ADDR_L
  simp +contextual (maxDischargeDepth := 30) only [h, State.setReg_sane]
@[simp] theorem set_STORE_CMD_CMD_sane (p : List Instr) (s : State) (v : Nat) (h : Sane p s) : Sane p ((set_STORE_CMD_CMD s v)) := by
  unfold set_STORE_CMD_CMD
  simp +contextual (maxDischargeDepth := 30) only [h, State.setReg_sane]
@[simp] theorem set_TLn_CFG_EN_sane (p : List Instr) (s : State) (i : Nat) (v : Bool) (h : Sane p s) : Sane p ((set_TLn_CFG_EN s i v)) := by
  unfold set_TLn_CFG_EN
  simp +contextual (maxDischargeDepth := 30) only [h, State.setReg_sane]

/-! ### Topo -/

@[simp] theorem wakeBy_sane (p : List Instr) (s : State) (w : WakeSource) (h : Sane p s) : Sane p ((wakeBy s w)) := by
  unfold wakeBy
  simp +contextual (maxDischargeDepth := 30) only [Bool.and_eq_true, Bool.or_eq_true, decide_eq_true_eq, Bool.not_eq_eq_eq_not, Bool.not_true, sane_mk, h, sane_pending, sane_mem, sane_legs, and_self, State.evt_sane, sane_ite]
@[simp] theorem setTrain_sane (p : List Instr) (s : State) (t : Train) (st : TrState) (h : Sane p s) : Sane p ((setTrain s t st)) := by
  unfold setTrain
  simp +contextual (maxDischargeDepth := 30) only [Fin.getElem_fin, h, State.modModel_sane, sane_ite, State.modTrain_sane, State.evt_sane]
@[simp] theorem legsOff_sane (p : List Instr) (s : State) (t : Train) (h : Sane p s) : Sane p ((legsOff s t)) := by
  unfold legsOff
  refine forAll_sane p _ _ h fun s a hs => ?_
  split
  · exact modHw_sane _ _ _ _ (by simp [hs]) (by simp)
  · exact hs
@[simp] theorem cancelShed_sane (p : List Instr) (s : State) (t : Train) (h : Sane p s) : Sane p ((cancelShed s t)) := by
  unfold cancelShed
  simp +contextual (maxDischargeDepth := 30) only [Fin.getElem_fin, h, State.modTrain_sane, State.evt_sane, sane_ite]
@[simp] theorem trainHold_sane (p : List Instr) (s : State) (t : Train) (h : Sane p s) : Sane p ((trainHold s t)) := by
  unfold trainHold
  ((try dsimp only); (repeat' split) <;> (simp +contextual (maxDischargeDepth := 30) only [h, cancelShed_sane, State.modTrain_sane, setTrain_sane, legsOff_sane, *]; done))
@[simp] theorem trainFence_sane (p : List Instr) (s : State) (t : Train) (h : Sane p s) : Sane p ((trainFence s t)) := by
  unfold trainFence
  simp +contextual (maxDischargeDepth := 30) only [h, State.fence_sane, cancelShed_sane, State.modTrain_sane, setTrain_sane, legsOff_sane]

/-! ### Collect -/

@[simp] theorem larderTrigger_sane (p : List Instr) (s : State) (src idx : Nat) (h : Sane p s) : Sane p ((larderTrigger s src idx)) := by
  unfold larderTrigger
  ((try dsimp only); (repeat' split) <;> (simp +contextual (maxDischargeDepth := 30) only [sane_mk, sane_pending, sane_mem, sane_legs, and_self, h,
                                            *]; done))
@[simp] theorem fltPin_sane (p : List Instr) (s : State) (h : Sane p s) : Sane p ((fltPin s)) := by
  unfold fltPin
  simp +contextual (maxDischargeDepth := 30) only [h, State.modCol_sane]
@[simp] theorem enablesToStraps_sane (p : List Instr) (s : State) (h : Sane p s) : Sane p ((enablesToStraps s)) := by
  unfold enablesToStraps
  simp +contextual (maxDischargeDepth := 30) only [sane_mk, h, sane_pending, sane_mem, sane_legs, and_self]
@[simp] theorem pinShutdown_sane (p : List Instr) (s : State) (code : Nat) (h : Sane p s) : Sane p ((pinShutdown s code)) := by
  unfold pinShutdown
  simp +contextual (maxDischargeDepth := 30) only [beq_iff_eq, Nat.reduceBEq, BEq.rfl, Bool.or_true, ↓reduceIte, Bool.or_eq_true, or_false, h,
    State.allLegsLow_sane, State.modCol_sane, enablesToStraps_sane, sane_ite]
@[simp] theorem noteLine_sane (p : List Instr) (s : State) (b : Nat) (h : Sane p s) : Sane p ((noteLine s b)) := by
  unfold noteLine
  simp +contextual (maxDischargeDepth := 30) only [BitVec.ofNat_eq_ofNat, List.contains_eq_mem, h, State.modCol_sane]
@[simp] theorem latch_sane (p : List Instr) (s : State) (b : Nat) (h : Sane p s) : Sane p ((latch s b)) := by
  unfold latch
  simp +contextual (maxDischargeDepth := 30) only [Bool.not_eq_eq_eq_not, Bool.not_true, BitVec.ofNat_eq_ofNat, h, noteLine_sane, State.modCol_sane, pinShutdown_sane, larderTrigger_sane, sane_ite, fltPin_sane]
@[simp] theorem latchAll_sane (p : List Instr) (s : State) (h : Sane p s) : Sane p ((latchAll s)) := by
  unfold latchAll
  simp +contextual (maxDischargeDepth := 30) only [h, latch_sane, implies_true, foldl_sane]
@[simp] theorem oneCycle_sane (p : List Instr) (f : State → State) (s : State) (h : Sane p s) (hf : ∀ t, Sane p t → Sane p (f t)) :
    Sane p (oneCycle f s) := by
  unfold oneCycle
  exact State.modCol_sane p _ _ (hf _ (State.modCol_sane p _ _ h))
@[simp] theorem noteCheck_sane (p : List Instr) (s : State) (page : Nat) (m : Word) (h : Sane p s) : Sane p ((noteCheck s page m)) := by
  unfold noteCheck
  simp +contextual (maxDischargeDepth := 30) only [BitVec.ofNat_eq_ofNat, sane_mk, h, sane_pending, sane_mem, sane_legs, and_self]
@[simp] theorem raiseMask_sane (p : List Instr) (s : State) (page : Nat) (m : Word) (h : Sane p s) : Sane p ((raiseMask s page m)) := by
  unfold raiseMask
  simp +contextual (maxDischargeDepth := 30) only [h, noteCheck_sane, State.orReg_sane, latch_sane, implies_true, foldl_sane]
@[simp] theorem raise_sane (p : List Instr) (s : State) (page b : Nat) (h : Sane p s) : Sane p ((raise s page b)) := by
  unfold raise
  simp +contextual (maxDischargeDepth := 30) only [h, raiseMask_sane]
@[simp] theorem legOut_sane (p : List Instr) (s : State) (n : Leg) (h : Sane p s) : Sane p ((legOut s n)) := by
  unfold legOut
  simp +contextual (maxDischargeDepth := 30) only [h, State.fence_sane, State.modLeg_sane, State.modLeg_x, fence_x, Fin.getElem_fin, saneLeg_mk, low_pwmH, low_pwmL, apart_low', modHw_sane, sane_ite]
@[simp] theorem legError_sane (p : List Instr) (s : State) (n : Leg) (b : Nat) (h : Sane p s) : Sane p ((legError s n b)) := by
  unfold legError
  ((try dsimp only); (repeat' split) <;> (simp +contextual (maxDischargeDepth := 30) only [raise_sane, legOut_sane, h, State.modTrain_sane, State.evt_sane, *]; done))
@[simp] theorem restoreShadows_sane (p : List Instr) (s : State) (h : Sane p s) : Sane p ((restoreShadows s)) := by
  unfold restoreShadows
  simp +contextual (maxDischargeDepth := 30) only [Fin.getElem_fin, sane_mk, h, sane_pending, sane_mem, sane_legs, and_self]
@[simp] theorem trip_sane (p : List Instr) (s : State) (checker cyc : Nat) (units : List FenceUnit) (h : Sane p s) : Sane p ((trip s checker cyc units)) := by
  unfold trip
  simp +contextual (maxDischargeDepth := 30) only [State.modTick_x, State.orReg_x, h, State.orReg_sane, State.modTick_sane, restoreShadows_sane,
    sane_ite, latch_sane]
@[simp] theorem overrun_sane (p : List Instr) (s : State) (cyc : Nat) (units : List FenceUnit) (h : Sane p s) : Sane p ((overrun s cyc units)) := by
  unfold overrun
  simp +contextual (maxDischargeDepth := 30) only [h, trip_sane, raise_sane]

/-! ### Ce -/

@[simp] theorem pulseRestore_sane (p : List Instr) (s : State) (l : LoopIx) (h : Sane p s) : Sane p ((pulseRestore s l)) := by
  unfold pulseRestore
  (repeat' split) <;> simp +contextual (maxDischargeDepth := 30) only [Fin.getElem_fin, Bool.and_eq_true, beq_iff_eq, State.modLoop_sane,
                        State.evt_sane, sane_ite, h, ite_self, *]
@[simp] theorem setpointPath_sane (p : List Instr) (s : State) (l : LoopIx) (h : Sane p s) : Sane p ((setpointPath s l)) := by
  unfold setpointPath
  simp +contextual (maxDischargeDepth := 30) only [beq_iff_eq, Int.natCast_eq_zero, Fin.getElem_fin, Bool.and_eq_true, Int.natCast_add,
    Int.cast_ofNat_Int, h, pulseRestore_sane, State.modLoop_sane]
@[simp] theorem evalSection_sane (p : List Instr) (s : State) (l : LoopIx) (i : Slot) (h : Sane p s) : Sane p ((evalSection s l i)) := by
  unfold evalSection
  simp +contextual (maxDischargeDepth := 30) only [beq_iff_eq, BEq.rfl, ↓reduceIte, Fin.getElem_fin, bne_iff_ne, ne_eq, ite_not, h, State.evt_sane,
    sane_ite, State.modSect_sane, State.modLoop_sane]
@[simp] theorem openOutput_sane (p : List Instr) (s : State) (l : LoopIx) (h : Sane p s) : Sane p ((openOutput s l)) := by
  unfold openOutput
  simp +contextual (maxDischargeDepth := 30) only [Fin.getElem_fin, h, State.modLoop_sane]
@[simp] theorem loopSlot_sane (p : List Instr) (s : State) (l : LoopIx) (i : Slot) (h : Sane p s) : Sane p ((loopSlot s l i)) := by
  unfold loopSlot
  have hp : Sane p (if i.val == LP_FIRST_FIRST s l then setpointPath s l else s) := by simp [h]
  generalize (if i.val == LP_FIRST_FIRST s l then setpointPath s l else s) = t at hp
  dsimp only
  (repeat' split) <;> simp [h, hp]
@[simp] theorem oscSlot_sane (p : List Instr) (s : State) (o : OscIx) (h : Sane p s) : Sane p ((oscSlot s o)) := by
  unfold oscSlot
  simp +contextual (maxDischargeDepth := 30) only [Fin.getElem_fin, Bool.or_eq_true, h, State.modOsc_sane, sane_ite]
@[simp] theorem ceTrip_sane (p : List Instr) (s : State) (i : Slot) (ecc : Bool) (cyc : Nat) (units : List FenceUnit) (h : Sane p s) : Sane p ((ceTrip s i ecc cyc units)) := by
  unfold ceTrip
  ((try dsimp only); (repeat' split) <;> (simp +contextual (maxDischargeDepth := 30) only [Fin.isValue, Option.getD_some, BitVec.ofNat_eq_ofNat, sane_mk, sane_pending, sane_mem, sane_legs, and_self, State.orReg_sane, raise_sane, trip_sane, *, Option.getD_none]; done))
@[simp] theorem eccCorrected_sane (p : List Instr) (s : State) (h : Sane p s) : Sane p ((eccCorrected s)) := by
  unfold eccCorrected
  simp +contextual (maxDischargeDepth := 30) only [sane_mk, h, sane_pending, sane_mem, sane_legs, and_self, State.evt_sane]
@[simp] theorem selectAll_sane (p : List Instr) (s : State) (h : Sane p s) : Sane p ((selectAll s)) := by
  unfold selectAll
  simp +contextual (maxDischargeDepth := 30) only [Fin.getElem_fin, tab_at_val, sane_mk, h, sane_pending, sane_mem, sane_legs, and_self]
@[simp] theorem deferredUpdate_sane (p : List Instr) (s : State) (l : LoopIx) (h : Sane p s) : Sane p ((deferredUpdate s l)) := by
  have hl : ∀ (s : State) (l : LoopIx) (g : LoopSt → LoopSt), Sane p s → Sane p (s.modLoop l g) := fun _ _ _ h => h
  have hs : ∀ (s : State) (i : Slot) (g : SectSt → SectSt), Sane p s → Sane p (s.modSect i g) := fun _ _ _ h => h
  unfold deferredUpdate
  dsimp only
  split
  · exact h
  · refine hl _ _ _ ?_
    split
    · exact hs _ _ _ h
    · exact h
@[simp] theorem loopsTickStart_sane (p : List Instr) (s : State) (h : Sane p s) : Sane p ((loopsTickStart s)) := by
  unfold loopsTickStart
  simp +contextual (maxDischargeDepth := 30) only [Fin.getElem_fin, Bool.and_eq_true, Bool.not_eq_eq_eq_not, Bool.not_true, sane_mk, h, sane_pending, sane_mem, sane_legs, and_self]
@[simp] theorem loopsStepDiv_sane (p : List Instr) (s : State) (h : Sane p s) : Sane p ((loopsStepDiv s)) := by
  unfold loopsStepDiv
  simp +contextual (maxDischargeDepth := 30) only [Bool.not_eq_eq_eq_not, Bool.not_true, Fin.getElem_fin, sane_mk, h, sane_pending, sane_mem, sane_legs, and_self]
@[simp] theorem loopAfterCommit_sane (p : List Instr) (old : Word) (s : State) (l : LoopIx) (h : Sane p s) : Sane p ((loopAfterCommit old s l)) := by
  unfold loopAfterCommit
  simp +contextual (maxDischargeDepth := 30) only [Bool.and_eq_true, Bool.not_eq_eq_eq_not, Bool.not_true, Bool.and_true, Bool.false_eq_true, ↓reduceIte, bne_self_eq_false, Bool.false_or, bne_iff_ne, ne_eq, ite_not, Bool.bne_true, Bool.not_false, Bool.true_or, Bool.or_eq_true, h, State.modLoop_sane, sane_ite, State.evt_sane]
@[simp] theorem oscBoundary_sane (p : List Instr) (s : State) (o : OscIx) (h : Sane p s) : Sane p ((oscBoundary s o)) := by
  unfold oscBoundary
  ((try dsimp only); (repeat' split) <;> (simp +contextual (maxDischargeDepth := 30) only [Fin.isValue, State.modOsc_sane, State.evt_sane, h, *]; done))
@[simp] theorem preloadLoops_sane (p : List Instr) (s : State) (t : Train) (h : Sane p s) : Sane p ((preloadLoops s t)) := by
  unfold preloadLoops
  simp +contextual (maxDischargeDepth := 30) only [Fin.getElem_fin, Bool.and_eq_true, Bool.not_eq_eq_eq_not, Bool.not_true, bne_iff_ne, ne_eq, h, sane_mk, sane_pending, sane_mem, sane_legs, and_self, State.modLoop_sane, State.evt_sane, sane_ite, implies_true, forAll_sane]

/-! ### Legs -/

@[simp] theorem setCtl_sane (p : List Instr) (s : State) (n : Leg) (on : Bool) (h : Sane p s) : Sane p ((setCtl s n on)) := by
  unfold setCtl
  (repeat' split) <;> simp +contextual (maxDischargeDepth := 30) only [drive_sane, h, *]
@[simp] theorem setRect_sane (p : List Instr) (s : State) (n : Leg) (on : Bool) (h : Sane p s) : Sane p ((setRect s n on)) := by
  unfold setRect
  (repeat' split) <;> simp +contextual (maxDischargeDepth := 30) only [drive_sane, h, *]
@[simp] theorem holdOn_sane (p : List Instr) (s : State) (n : Leg) (wait : Bool) (h : Sane p s) : Sane p ((holdOn s n wait)) := by
  unfold holdOn
  simp +contextual (maxDischargeDepth := 30) only [h, Fin.getElem_fin, saneLeg_mk, apart_low, modHw_sane, drive_sane, sane_ite]
@[simp] theorem takeRegion_sane (p : List Instr) (s : State) (n : Leg) (r : Region) (lowIn lowOut : Bool) (h : Sane p s) : Sane p ((takeRegion s n r lowIn lowOut)) := by
  unfold takeRegion
  ((try dsimp only); (repeat' split) <;> (simp +contextual (maxDischargeDepth := 30) only [drive_sane, Fin.getElem_fin, saneLeg_mk, sane_apart_val, modHw_sane, holdOn_sane, h, *]; done))
@[simp] theorem phaseLow_sane (p : List Instr) (s : State) (n : Leg) (h : Sane p s) : Sane p ((phaseLow s n)) := by
  unfold phaseLow
  have h1 : Sane p (s.modHw n LegHw.low) := modHw_sane _ _ _ _ h (by simp)
  dsimp only
  split
  · exact modHw_sane _ _ _ _ h1 (by simp)
  · exact h1
@[simp] theorem countFour_sane (p : List Instr) (s : State) (n : Leg) (cnt : Nat) (hit : Bool) (put : LegHw → Nat → LegHw) (b : Nat) (h : Sane p s) (hp : ∀ g k, SaneLeg p g → SaneLeg p (put g k)) : Sane p ((countFour s n cnt hit put b)) := by
  unfold countFour
  have hm : ∀ (u : State) k, Sane p u → Sane p (u.modHw n fun h => put h k) :=
    fun u k hu => modHw_sane p u n (fun h => put h k) hu (hp _ _ (sane_apart _ _ _ hu))
  dsimp only
  generalize (if hit = true then cnt + 1 else 0) = k
  split
  · exact legError_sane _ _ _ _ (hm _ _ (hm _ _ h))
  · exact hm _ _ h
@[simp] theorem endPeriod_sane (p : List Instr) (s : State) (n : Leg) (sh : LegShadow) (h : Sane p s) : Sane p ((endPeriod s n sh)) := by
  unfold endPeriod
  simp +contextual (maxDischargeDepth := 30) only [Fin.getElem_fin, Bool.or_eq_true, Bool.not_eq_eq_eq_not, Bool.not_true, bne_iff_ne, ne_eq, h, setRect_sane, setCtl_sane, sane_ite]
@[simp] theorem controlOff_sane (p : List Instr) (s : State) (n : Leg) (h : Sane p s) : Sane p ((controlOff s n)) := by
  unfold controlOff
  simp +contextual (maxDischargeDepth := 30) only [Fin.getElem_fin, Bool.and_eq_true, decide_eq_true_eq, h, setCtl_sane, drive_sane, saneLeg_mk, sane_apart_val, modHw_sane, sane_ite]
@[simp] theorem endOnTime_sane (p : List Instr) (s : State) (n : Leg) (ton : Nat) (f : LegHw → LegHw) (h : Sane p s) (hp : ∀ g : LegHw, SaneLeg p g → SaneLeg p (f g)) : Sane p ((endOnTime s n ton f)) := by
  unfold endOnTime
  have h1 := setCtl_sane p s n false h
  exact modHw_sane _ _ _ _ h1 (hp _ (sane_apart _ _ n h1))
@[simp] theorem peakTrip_sane (p : List Instr) (s : State) (n : Leg) (ton : Nat) (h : Sane p s) : Sane p ((peakTrip s n ton)) := by
  unfold peakTrip
  simp +contextual (maxDischargeDepth := 30) only [h, saneLeg_mk, setEst_pwmH, setEst_pwmL, implies_true, endOnTime_sane]

/-! ### Supv -/

@[simp] theorem predictCurrent_sane (p : List Instr) (s : State) (t : Train) (h : Sane p s) : Sane p ((predictCurrent s t)) := by
  unfold predictCurrent
  simp +contextual (maxDischargeDepth := 30) only [Bool.not_eq_eq_eq_not, Bool.not_true, Fin.getElem_fin, h, State.modModel_sane, sane_ite]
@[simp] theorem runModel_sane (p : List Instr) (s : State) (t : Train) (h : Sane p s) : Sane p ((runModel s t)) := by
  unfold runModel
  simp +contextual (maxDischargeDepth := 30) only [Bool.not_eq_eq_eq_not, Bool.not_true, Fin.getElem_fin, Bool.or_eq_true, bne_iff_ne, ne_eq, ↓reduceIte, Rat.natCast_pow, Rat.natCast_ofNat, Bool.false_eq_true, Bool.and_eq_true, h, State.modModel_sane, sane_ite]
@[simp] theorem countWords_sane (p : List Instr) (s : State) (i : Slice) (h : Sane p s) : Sane p ((countWords s i)) := by
  unfold countWords
  simp +contextual (maxDischargeDepth := 30) only [Fin.getElem_fin, h, State.modSup_sane, sane_ite]
@[simp] theorem blame_sane (p : List Instr) (s : State) (i : Slice) (b : Blame) (mate : Bool) (h : Sane p s) : Sane p ((blame s i b mate)) := by
  unfold blame
  simp +contextual (maxDischargeDepth := 30) only [Fin.getElem_fin, Bool.and_eq_true, Bool.not_eq_eq_eq_not, Bool.not_true, h, State.modSup_sane, raise_sane]
@[simp] theorem verdicts_sane (p : List Instr) (s : State) (h : Sane p s) : Sane p ((verdicts s)) := by
  unfold verdicts
  dsimp only
  refine forAll_sane p _ _ (forAll_sane p _ _ h fun s a hs => by simp [hs]) fun s a hs => ?_
  split
  · exact hs
  · simp [hs]
@[simp] theorem releaseSpare_sane (p : List Instr) (s : State) (st : SpareState) (h : Sane p s) : Sane p ((releaseSpare s st)) := by
  unfold releaseSpare
  simp +contextual (maxDischargeDepth := 30) only [sane_mk, h, sane_pending, sane_mem, sane_legs, and_self]
@[simp] theorem windowTick_sane (p : List Instr) (s : State) (i : Slice) (h : Sane p s) : Sane p ((windowTick s i)) := by
  unfold windowTick
  simp +contextual (maxDischargeDepth := 30) only [State.evt_cp, State.modSup_cp, Fin.getElem_fin, upd_same_val, h, State.modSup_sane,
    State.evt_sane, releaseSpare_sane, sane_ite]
@[simp] theorem altTick_sane (p : List Instr) (s : State) (i : Slice) (h : Sane p s) : Sane p ((altTick s i)) := by
  unfold altTick
  ((try dsimp only); (repeat' split) <;> (simp +contextual (maxDischargeDepth := 30) only [h, State.modSup_sane, releaseSpare_sane,
                                            windowTick_sane, *]; done))

/-! ### Source -/

@[simp] theorem presetLegs_sane (p : List Instr) (s : State) (t : Train) (share : Nat) (h : Sane p s) : Sane p ((presetLegs s t share)) := by
  unfold presetLegs
  simp +contextual (maxDischargeDepth := 30) only [Bool.and_eq_true, beq_iff_eq, Bool.not_eq_eq_eq_not, Bool.not_true, Fin.getElem_fin, h, State.modLeg_sane, setCtl_sane, setRect_sane, sane_ite, saneLeg_mk, apart_low', modHw_sane, implies_true, forAll_sane]
@[simp] theorem presetTrain_sane (p : List Instr) (s : State) (t : Train) (total : Nat) (h : Sane p s) : Sane p ((presetTrain s t total)) := by
  unfold presetTrain
  simp +contextual (maxDischargeDepth := 30) only [beq_iff_eq, Fin.getElem_fin, h, sane_mk, State.evt_sane, sane_ite, State.modTrain_sane,
    setTrain_sane, presetLegs_sane, sane_pending, sane_mem, sane_legs, and_self]
@[simp] theorem ridePreset_sane (p : List Instr) (s : State) (h : Sane p s) : Sane p ((ridePreset s)) := by
  unfold ridePreset
  simp +contextual (maxDischargeDepth := 30) only [Bool.not_eq_eq_eq_not, Bool.not_true, List.isEmpty_iff, List.filter_eq_nil_iff, List.mem_finRange, Bool.and_eq_true, bne_iff_ne, ne_eq, not_and, Decidable.not_not, forall_const, Fin.isValue, Fin.getElem_fin, Fin.val_zero, Fin.val_one, not_true_eq_false, not_false_eq_true, implies_true, imp_self, ↓reduceIte, List.contains_eq_mem, List.mem_filter, true_and, Bool.decide_and, Bool.decide_eq_true, decide_not, sane_mk, h, sane_pending, sane_mem, sane_legs, and_self, presetTrain_sane, foldl_sane, State.evt_sane, sane_ite]
@[simp] theorem nodeCheck_sane (p : List Instr) (s : State) (k : Fin 2) (h : Sane p s) : Sane p ((nodeCheck s k)) := by
  unfold nodeCheck
  dsimp only
  split
  · refine ridePreset_sane _ _ (forAll_sane p _ _ (by simp [h]) fun s a hs => ?_)
    split
    · split
      · exact modHw_sane _ _ _ _ hs (by simp)
      · exact hs
    · exact hs
  · exact h
@[simp] theorem ridePreload_sane (p : List Instr) (s : State) (h : Sane p s) : Sane p ((ridePreload s)) := by
  unfold ridePreload
  (repeat' split) <;> simp +contextual (maxDischargeDepth := 30) only [Fin.getElem_fin, State.modLoop_sane, h, *]
@[simp] theorem srcBoundary_sane (p : List Instr) (s : State) (h : Sane p s) : Sane p ((srcBoundary s)) := by
  unfold srcBoundary
  simp +contextual (maxDischargeDepth := 30) only [Fin.getElem_fin, List.any_eq_true, List.mem_finRange, bne_iff_ne, ne_eq, true_and, Bool.and_eq_true, beq_iff_eq, decide_eq_true_eq, sane_mk, h, sane_pending, sane_mem, sane_legs, and_self, State.modSrc_sane, implies_true, forAll_sane, State.evt_sane, sane_ite, nodeCheck_sane, State.modNode_sane]
@[simp] theorem powerPathEvents_sane (p : List Instr) (s : State) (h : Sane p s) : Sane p ((powerPathEvents s)) := by
  unfold powerPathEvents
  simp +contextual (maxDischargeDepth := 30) only [Fin.getElem_fin, Bool.and_eq_true, List.any_eq_true, List.mem_finRange, beq_iff_eq, decide_eq_true_eq, true_and, Bool.not_eq_eq_eq_not, Bool.not_true, sane_mk, h, State.evt_sane, sane_ite, sane_pending, sane_mem, sane_legs, and_self]

/-! ### Battery -/

@[simp] theorem batNewTemp_sane (q : List Instr) (s : State) (p : BPort) (h : Sane q s) : Sane q ((batNewTemp s p)) := by
  unfold batNewTemp
  (repeat' split) <;> simp +contextual (maxDischargeDepth := 30) only [h, Fin.getElem_fin, ne_eq, decide_not, Bool.not_eq_eq_eq_not, Bool.not_true,
                        decide_eq_false_iff_not, ite_not, State.modBat_sane, State.evt_sane, sane_ite, *]
@[simp] theorem ntcResult_sane (q : List Instr) (s : State) (p : BPort) (isB : Bool) (res : Int) (ow : Bool) (h : Sane q s) : Sane q ((ntcResult s p isB res ow)) := by
  unfold ntcResult
  simp +contextual (maxDischargeDepth := 30) only [Int.reduceMul, Bool.or_eq_true, decide_eq_true_eq, State.modBat_cp, Fin.getElem_fin, upd_same_val, Bool.and_eq_true, bne_iff_ne, ne_eq, Bool.not_and, Bool.not_eq_eq_eq_not, Bool.not_true, ite_not, h, State.modBat_sane, sane_ite, State.evt_sane, batNewTemp_sane]
@[simp] theorem guardCount_sane (q : List Instr) (s : State) (p : BPort) (h : Sane q s) : Sane q ((guardCount s p)) := by
  unfold guardCount
  simp +contextual (maxDischargeDepth := 30) only [Bool.if_true_left, Bool.decide_eq_true, Fin.getElem_fin, decide_eq_true_eq, Bool.and_eq_true, h, State.modBat_sane]
@[simp] theorem guardTrip_sane (q : List Instr) (s : State) (p : BPort) (h : Sane q s) : Sane q ((guardTrip s p)) := by
  unfold guardTrip
  simp +contextual (maxDischargeDepth := 30) only [Fin.getElem_fin, BitVec.ofNat_eq_ofNat, beq_iff_eq, BitVec.or_eq_zero_iff, h, State.modBat_sane, raiseMask_sane, sane_ite]
@[simp] theorem timersTick_sane (q : List Instr) (s : State) (p : BPort) (h : Sane q s) : Sane q ((timersTick s p)) := by
  unfold timersTick
  simp +contextual (maxDischargeDepth := 30) only [Bool.and_eq_true, decide_eq_true_eq, Bool.or_eq_true, beq_iff_eq, Bool.not_eq_eq_eq_not,
    Bool.not_true, h, State.modBat_sane]
@[simp] theorem energyTick_sane (q : List Instr) (s : State) (p : BPort) (h : Sane q s) : Sane q ((energyTick s p)) := by
  unfold energyTick
  simp +contextual (maxDischargeDepth := 30) only [h, State.modBat_sane]
@[simp] theorem removalStop_sane (q : List Instr) (s : State) (p : BPort) (h : Sane q s) : Sane q ((removalStop s p)) := by
  unfold removalStop
  simp +contextual (maxDischargeDepth := 30) only [h, trainHold_sane, implies_true, foldl_sane]
@[simp] theorem removalTick_sane (q : List Instr) (s : State) (p : BPort) (h : Sane q s) : Sane q ((removalTick s p)) := by
  unfold removalTick
  simp +contextual (maxDischargeDepth := 30) only [Fin.getElem_fin, Bool.and_eq_true, bne_iff_ne, ne_eq, decide_eq_true_eq, Bool.or_eq_true, beq_iff_eq, h, State.modBatHw_sane, removalStop_sane, sane_ite]
@[simp] theorem phaseEntered_sane (q : List Instr) (s : State) (p : BPort) (old : Nat) (h : Sane q s) : Sane q ((phaseEntered s p old)) := by
  unfold phaseEntered
  simp +contextual (maxDischargeDepth := 30) only [beq_iff_eq, Bool.and_eq_true, Nat.reduceBEq, Bool.or_self, Bool.and_self, Bool.false_eq_true,
    ↓reduceIte, Bool.or_eq_true, h, State.modBat_sane, State.evt_sane, sane_ite]
@[simp] theorem qualWindow_sane (q : List Instr) (s : State) (p : BPort) (h : Sane q s) : Sane q ((qualWindow s p)) := by
  unfold qualWindow
  simp +contextual (maxDischargeDepth := 30) only [Fin.getElem_fin, h, batNewTemp_sane, sane_ite]
@[simp] theorem forcePhase_sane (q : List Instr) (s : State) (p : BPort) (ph : Nat) (h : Sane q s) : Sane q ((forcePhase s p ph)) := by
  unfold forcePhase
  simp +contextual (maxDischargeDepth := 30) only [h, set_BP_PHASE_PHASE_sane, phaseEntered_sane, qualWindow_sane]
@[simp] theorem forceFault_sane (q : List Instr) (s : State) (p : BPort) (cause : Nat) (h : Sane q s) : Sane q ((forceFault s p cause)) := by
  unfold forceFault
  simp +contextual (maxDischargeDepth := 30) only [h, forcePhase_sane, State.modBat_sane, raise_sane, sane_ite]
@[simp] theorem bpRestart_sane (q : List Instr) (s : State) (p : BPort) (h : Sane q s) : Sane q ((bpRestart s p)) := by
  unfold bpRestart
  simp +contextual (maxDischargeDepth := 30) only [bne_iff_ne, ne_eq, Fin.getElem_fin, Bool.and_eq_true, decide_eq_true_eq, Bool.or_eq_true, Bool.not_eq_eq_eq_not, Bool.not_true, ite_not, h, State.modBat_sane, forcePhase_sane, State.evt_sane, sane_ite]
@[simp] theorem probeAdd_sane (q : List Instr) (s : State) (p : BPort) (h : Sane q s) : Sane q ((probeAdd s p)) := by
  unfold probeAdd
  simp +contextual (maxDischargeDepth := 30) only [h, State.modBat_sane]
@[simp] theorem probeDiscard_sane (q : List Instr) (s : State) (p : BPort) (cause : Nat) (h : Sane q s) : Sane q ((probeDiscard s p cause)) := by
  unfold probeDiscard
  simp +contextual (maxDischargeDepth := 30) only [h, State.modBat_sane, State.evt_sane]
@[simp] theorem probeBoundary_sane (q : List Instr) (s : State) (p : BPort) (h : Sane q s) : Sane q ((probeBoundary s p)) := by
  unfold probeBoundary
  simp +contextual (maxDischargeDepth := 30) only [Bool.and_eq_true, Fin.getElem_fin, decide_eq_true_eq, h, probeDiscard_sane, State.modBat_sane, sane_ite]
@[simp] theorem probeTick_sane (q : List Instr) (s : State) (p : BPort) (h : Sane q s) : Sane q ((probeTick s p)) := by
  unfold probeTick
  ((try dsimp only); (repeat' split) <;> (simp +contextual (maxDischargeDepth := 30) only [h, probeDiscard_sane, probeAdd_sane, Fin.getElem_fin, State.modBat_sane, *]; done))
@[simp] theorem zlearn_sane (q : List Instr) (s : State) (p : BPort) (h : Sane q s) : Sane q ((zlearn s p)) := by
  unfold zlearn
  simp +contextual (maxDischargeDepth := 30) only [Fin.getElem_fin, Bool.and_eq_true, decide_eq_true_eq, Rat.intCast_add, h, State.setReg_sane,
    set_BP_CTRL_ZLEARN_sane, sane_ite]
@[simp] theorem batGuard_sane (q : List Instr) (s : State) (p : BPort) (h : Sane q s) : Sane q ((batGuard s p)) := by
  unfold batGuard
  simp +contextual (maxDischargeDepth := 30) only [h, guardCount_sane, guardTrip_sane, removalTick_sane, State.modBat_sane]
@[simp] theorem batAccrue_sane (q : List Instr) (s : State) (p : BPort) (h : Sane q s) : Sane q ((batAccrue s p)) := by
  unfold batAccrue
  simp +contextual (maxDischargeDepth := 30) only [h, timersTick_sane, probeTick_sane]
@[simp] theorem batMeasure_sane (q : List Instr) (s : State) (p : BPort) (h : Sane q s) : Sane q ((batMeasure s p)) := by
  unfold batMeasure
  simp +contextual (maxDischargeDepth := 30) only [h, State.modBat_sane]
@[simp] theorem batTargets_sane (q : List Instr) (s : State) (p : BPort) (h : Sane q s) : Sane q ((batTargets s p)) := by
  unfold batTargets
  simp +contextual (maxDischargeDepth := 30) only [h, State.modBat_sane]
@[simp] theorem batForce_sane (q : List Instr) (s : State) (p : BPort) (h : Sane q s) : Sane q ((batForce s p)) := by
  unfold batForce
  ((try dsimp only); (repeat' split) <;> (simp +contextual (maxDischargeDepth := 30) only [State.modBatHw_sane, State.modBat_sane, removalStop_sane, h, forceFault_sane, forcePhase_sane, State.evt_sane, *]; done))
@[simp] theorem batPin_sane (q : List Instr) (s : State) (p : BPort) (h : Sane q s) : Sane q ((batPin s p)) := by
  unfold batPin
  simp +contextual (maxDischargeDepth := 30) only [Bool.not_eq_eq_eq_not, Bool.not_true, Fin.getElem_fin, Bool.and_eq_true, decide_eq_true_eq, beq_iff_eq, h, State.modBatHw_sane, forceFault_sane, sane_ite, sane_mk, sane_pending, sane_mem, sane_legs, and_self]
@[simp] theorem batPhase_sane (q : List Instr) (old : State) (staged : Bool) (s : State) (p : BPort) (h : Sane q s) : Sane q ((batPhase old staged s p)) := by
  unfold batPhase
  simp +contextual (maxDischargeDepth := 30) only [Bool.not_eq_eq_eq_not, Bool.not_true, Bool.false_eq_true, ↓reduceIte, bne_iff_ne, ne_eq, ite_not, h, set_BP_PHASE_PHASE_sane, batForce_sane, batPin_sane, phaseEntered_sane, qualWindow_sane, State.evt_sane, sane_ite]
@[simp] theorem batPresence_sane (q : List Instr) (s : State) (p : BPort) (h : Sane q s) : Sane q ((batPresence s p)) := by
  unfold batPresence
  simp +contextual (maxDischargeDepth := 30) only [Bool.and_eq_true, beq_iff_eq, h, State.modBatHw_sane, State.modBat_sane]
@[simp] theorem batAge_sane (q : List Instr) (s : State) (p : BPort) (h : Sane q s) : Sane q ((batAge s p)) := by
  unfold batAge
  ((try dsimp only); (repeat' split) <;> (simp +contextual (maxDischargeDepth := 30) only [h, State.modBat_sane, batNewTemp_sane, *]; done))

/-! ### Trains -/

@[simp] theorem oneLeg_sane (p : List Instr) (s : State) (t : Train) (h : Sane p s) : Sane p ((oneLeg s t)) := by
  unfold oneLeg
  simp +contextual (maxDischargeDepth := 30) only [Fin.getElem_fin, Bool.and_eq_true, Bool.not_eq_eq_eq_not, Bool.not_true, beq_iff_eq,
    List.contains_eq_mem, h, State.modTrain_sane, State.modLeg_sane, sane_ite, implies_true, forAll_sane]
@[simp] theorem addLeg_sane (p : List Instr) (s : State) (t : Train) (h : Sane p s) : Sane p ((addLeg s t)) := by
  unfold addLeg
  ((try dsimp only); (repeat' split) <;> (simp +contextual (maxDischargeDepth := 30) only [State.modLeg_sane, State.evt_sane, h, *]; done))
@[simp] theorem shedStep_sane (p : List Instr) (s : State) (t : Train) (h : Sane p s) : Sane p ((shedStep s t)) := by
  unfold shedStep
  simp +contextual (maxDischargeDepth := 30) only [Bool.and_eq_true, beq_iff_eq, Bool.not_eq_eq_eq_not, Bool.not_true, decide_eq_true_eq, Fin.getElem_fin, decide_true, Bool.and_true, decide_false, Bool.and_false, Bool.false_eq_true, ↓reduceIte, h, cancelShed_sane, addLeg_sane, State.modTrain_sane, sane_ite]
@[simp] theorem direct_sane (p : List Instr) (s : State) (t : Train) (d : Int) (h : Sane p s) : Sane p ((direct s t d).1) := by
  unfold direct
  ((try dsimp only); (repeat' split) <;> (simp +contextual (maxDischargeDepth := 30) only [h, cancelShed_sane, setTrain_sane, State.modTrain_sane,
                                            *]; done))
@[simp] theorem softstartEnd_sane (p : List Instr) (s : State) (t : Train) (h : Sane p s) : Sane p ((softstartEnd s t)) := by
  unfold softstartEnd
  simp +contextual (maxDischargeDepth := 30) only [Fin.getElem_fin, h, State.modTrain_sane, sane_ite, setTrain_sane]
@[simp] theorem availTest_sane (p : List Instr) (s : State) (t : Train) (h : Sane p s) : Sane p ((availTest s t)) := by
  unfold availTest
  (repeat' split) <;> simp +contextual (maxDischargeDepth := 30) only [h, beq_iff_eq, raise_sane, sane_ite, trainHold_sane, *]
@[simp] theorem trainProcess_sane (p : List Instr) (s : State) (t : Train) (h : Sane p s) : Sane p ((trainProcess s t)) := by
  unfold trainProcess
  simp +contextual (maxDischargeDepth := 30) only [Fin.getElem_fin, Bool.and_eq_true, decide_eq_true_eq, Bool.not_eq_eq_eq_not, Bool.not_true, decide_true, h, State.modTrain_sane, availTest_sane, softstartEnd_sane, direct_sane, State.evt_sane, sane_ite, oneLeg_sane, shedStep_sane]
@[simp] theorem useSlots_sane (p : List Instr) (s : State) (h : Sane p s) : Sane p ((useSlots s)) := by
  unfold useSlots
  simp +contextual (maxDischargeDepth := 30) only [Bool.not_eq_eq_eq_not, Bool.not_true, Fin.getElem_fin, Bool.or_eq_true, beq_iff_eq, Bool.and_eq_true, Option.orElse_eq_or, h, sane_mk, sane_pending, sane_mem, sane_legs, and_self, sane_ite]
@[simp] theorem writeShadows_sane (p : List Instr) (s : State) (t : Train) (h : Sane p s) : Sane p ((writeShadows s t)) := by
  have ht : ∀ (s : State) (t : Train) (g : TrainSt → TrainSt), Sane p s → Sane p (s.modTrain t g) := fun _ _ _ h => h
  have hl : ∀ (s : State) (n : Leg) (g : LegCp → LegCp), Sane p s → Sane p (s.modLeg n g) := fun _ _ _ h => h
  unfold writeShadows
  dsimp only
  split
  · exact h
  · refine ht _ _ _ (forAll_sane p _ s h fun s n hn => ?_)
    split
    · exact hl _ _ _ hn
    · exact hn
@[simp] theorem sendDemand_sane (p : List Instr) (s : State) (held : Bool) (h : Sane p s) : Sane p ((sendDemand s held)) := by
  unfold sendDemand
  split
  · exact h
  · exact h
@[simp] theorem applyDemand_sane (p : List Instr) (s : State) (f : DemandFrame) (t : Train) (h : Sane p s) : Sane p ((applyDemand s f t)) := by
  unfold applyDemand
  simp +contextual (maxDischargeDepth := 30) only [Bool.not_eq_eq_eq_not, Bool.not_true, Fin.getElem_fin, Bool.and_eq_true, beq_iff_eq, Bool.not_and, Bool.or_eq_true, h, State.modTrain_sane, setTrain_sane, sane_ite, legsOff_sane, State.modLeg_sane, implies_true, forAll_sane]
@[simp] theorem trainEstimate_sane (p : List Instr) (s : State) (t : Train) (h : Sane p s) : Sane p ((trainEstimate s t)) := by
  unfold trainEstimate
  simp +contextual (maxDischargeDepth := 30) only [Fin.getElem_fin, h, State.modTrain_sane, State.modLeg_sane, implies_true, foldl_sane]
@[simp] theorem adopt_sane (p : List Instr) (s : State) (a : Nat) (mask : Word) (h : Sane p s) : Sane p ((adopt s a mask)) := by
  unfold adopt
  simp +contextual (maxDischargeDepth := 30) only [sane_mk, h, sane_pending, sane_mem, sane_legs, and_self]
@[simp] theorem adoptCells_sane (p : List Instr) (s : State) (h : Sane p s) : Sane p ((adoptCells s)) := by
  unfold adoptCells
  simp +contextual (maxDischargeDepth := 30) only [Fin.getElem_fin, h, State.modCal_sane]
@[simp] theorem adoptPending_sane (p : List Instr) (s : State) (h : Sane p s) : Sane p ((adoptPending s)) := by
  unfold adoptPending
  simp +contextual (maxDischargeDepth := 30) only [Bool.and_eq_true, BitVec.ofNat_eq_ofNat, h, adoptCells_sane, adopt_sane, sane_ite, implies_true, forAll_sane, foldl_sane, raise_sane]
@[simp] theorem startTrain_sane (p : List Instr) (s : State) (t : Train) (h : Sane p s) : Sane p ((startTrain s t)) := by
  unfold startTrain
  simp +contextual (maxDischargeDepth := 30) only [State.modTrain_pending, State.modTrain_cp, Fin.getElem_fin, State.modTrain_x, State.modTrain_pub, State.modTrain_views, State.modTrain_ck, State.modTrain_free, sane_mk, h, State.modTrain_sane, setTrain_sane, sane_pending, sane_mem, sane_legs, and_self]
@[simp] theorem beginStop_sane (p : List Instr) (s : State) (t : Train) (h : Sane p s) : Sane p ((beginStop s t)) := by
  unfold beginStop
  simp +contextual (maxDischargeDepth := 30) only [h, cancelShed_sane, State.modTrain_sane, setTrain_sane]
@[simp] theorem ssRise_sane (p : List Instr) (s : State) (t : Train) (h : Sane p s) : Sane p ((ssRise s t)) := by
  unfold ssRise
  simp +contextual (maxDischargeDepth := 30) only [Int.reduceMul, h, State.modTrain_sane]
@[simp] theorem legsOn_sane (p : List Instr) (s : State) (t : Train) (h : Sane p s) : Sane p ((legsOn s t)) := by
  unfold legsOn
  simp +contextual (maxDischargeDepth := 30) only [Bool.and_eq_true, beq_iff_eq, Bool.not_eq_eq_eq_not, Bool.not_true, h, State.modLeg_sane, sane_ite, implies_true, forAll_sane]
@[simp] theorem trainBoundary_sane (p : List Instr) (s : State) (t : Train) (h : Sane p s) : Sane p ((trainBoundary s t)) := by
  unfold trainBoundary
  ((try dsimp only); (repeat' split) <;> (simp +contextual (maxDischargeDepth := 30) only [sane_mk, sane_pending, sane_mem, sane_legs, and_self, h, State.modTrain_sane, setTrain_sane, legsOff_sane, legsOn_sane, ssRise_sane, beginStop_sane, *]; done))
@[simp] theorem trainStart_sane (p : List Instr) (s : State) (t : Train) (h : Sane p s) : Sane p ((trainStart s t)) := by
  unfold trainStart
  simp +contextual (maxDischargeDepth := 30) only [Fin.getElem_fin, Bool.and_eq_true, decide_eq_true_eq, h, startTrain_sane, State.modTrain_sane,
    State.evt_sane, sane_ite]
@[simp] theorem preload_sane (p : List Instr) (s : State) (t : Train) (h : Sane p s) : Sane p ((preload s t)) := by
  unfold preload
  simp +contextual (maxDischargeDepth := 30) only [Fin.getElem_fin, Bool.and_eq_true, beq_iff_eq, bne_iff_ne, ne_eq, Rat.natCast_mul,
    Rat.natCast_add, h, State.modTrain_sane, preloadLoops_sane, sane_ite]

/-! ### Conv -/

@[simp] theorem fineTrigger_sane (p : List Instr) (s : State) (i : Slice) (cyc : Nat) (h : Sane p s) : Sane p ((fineTrigger s i cyc)) := by
  unfold fineTrigger
  simp +contextual (maxDischargeDepth := 30) only [Fin.getElem_fin, Bool.or_eq_true, bne_iff_ne, ne_eq, beq_iff_eq, Bool.not_eq_eq_eq_not, Bool.not_true, h, State.modSl_sane, State.evt_sane, sane_ite]
@[simp] theorem fineTake_sane (p : List Instr) (s : State) (i : Slice) (h : Sane p s) : Sane p ((fineTake s i)) := by
  unfold fineTake
  simp +contextual (maxDischargeDepth := 30) only [Fin.getElem_fin, Bool.not_eq_eq_eq_not, Bool.not_true, h, State.modSl_sane, State.evt_sane, sane_ite]
@[simp] theorem fineTakeBefore_sane (p : List Instr) (s : State) (i : Slice) (cyc : Nat) (h : Sane p s) : Sane p ((fineTakeBefore s i cyc)) := by
  unfold fineTakeBefore
  simp +contextual (maxDischargeDepth := 30) only [Fin.getElem_fin, h, State.modSl_sane, fineTake_sane, implies_true, foldl_sane]
@[simp] theorem fineTickEnd_sane (p : List Instr) (s : State) (h : Sane p s) : Sane p ((fineTickEnd s)) := by
  unfold fineTickEnd
  simp +contextual (maxDischargeDepth := 30) only [h, fineTakeBefore_sane, implies_true, forAll_sane]
@[simp] theorem fineRestart_sane (p : List Instr) (old s : State) (h : Sane p s) : Sane p ((fineRestart old s)) := by
  unfold fineRestart
  simp +contextual (maxDischargeDepth := 30) only [bne_iff_ne, ne_eq, ite_not, h, State.modSl_sane, sane_ite, implies_true, forAll_sane]
@[simp] theorem fineBoundary_sane (p : List Instr) (s : State) (i : Slice) (h : Sane p s) : Sane p ((fineBoundary s i)) := by
  unfold fineBoundary
  ((try dsimp only); (repeat' split) <;> (simp +contextual (maxDischargeDepth := 30) only [State.modSl_pending, State.evt_pending, State.modSl_cp, State.evt_cp, State.modSl_x, State.evt_x, Fin.getElem_fin, upd_same_val, State.modSl_pub, State.evt_pub, State.modSl_views, State.evt_views, State.modSl_ck, State.evt_ck, State.modSl_free, State.evt_free, sane_mk, sane_pending, sane_mem, sane_legs, and_self, h, *]; done))
@[simp] theorem judgeWindow_sane (p : List Instr) (s : State) (i : Slice) (w : Int) (cyc : Nat) (h : Sane p s) : Sane p ((judgeWindow s i w cyc)) := by
  unfold judgeWindow
  simp +contextual (maxDischargeDepth := 30) only [Bool.or_eq_true, Bool.not_eq_eq_eq_not, Bool.not_true, Fin.getElem_fin, Bool.and_eq_true, h, State.modSl_sane, sane_ite, State.evt_sane, fineTrigger_sane]
@[simp] theorem latchConv_sane (p : List Instr) (raw : Vector Raw 17) (s : State) (c : Conv) (h : Sane p s) : Sane p ((latchConv raw s c)) := by
  unfold latchConv
  ((try dsimp only); (repeat' split) <;> (simp +contextual (maxDischargeDepth := 30) only [h, State.modConv_sane, *]; done))
@[simp] theorem deliver_sane (p : List Instr) (s : State) (i : Slice) (h : Sane p s) : Sane p ((deliver s i)) := by
  unfold deliver
  simp +contextual (maxDischargeDepth := 30) only [Fin.getElem_fin, Bool.not_false, Bool.and_true, Bool.and_eq_true, Bool.not_eq_eq_eq_not,
    Bool.not_true, beq_iff_eq, sane_mk, h, sane_pending, sane_mem, sane_legs, and_self]
@[simp] theorem owCount_sane (p : List Instr) (s : State) (i : Slice) (h : Sane p s) : Sane p ((owCount s i)) := by
  unfold owCount
  simp +contextual (maxDischargeDepth := 30) only [Bool.or_eq_true, Bool.not_eq_eq_eq_not, Bool.not_true, Fin.getElem_fin, Bool.and_eq_true, h,
    State.modSl_sane, sane_ite]
@[simp] theorem axOwTest_sane (p : List Instr) (s : State) (n : Fin 14) (res : Int) (h : Sane p s) : Sane p ((axOwTest s n res)) := by
  unfold axOwTest
  simp +contextual (maxDischargeDepth := 30) only [Bool.not_eq_eq_eq_not, Bool.not_true, Fin.getElem_fin, State.modAx_x, upd_same_val,
    Bool.and_eq_true, decide_eq_true_eq, h, State.modAx_sane, State.evt_sane, sane_ite]
@[simp] theorem dieResult_sane (p : List Instr) (s : State) (res : Int) (h : Sane p s) : Sane p ((dieResult s res)) := by
  unfold dieResult
  simp +contextual (maxDischargeDepth := 30) only [Int.reduceNeg, h, State.modAx_sane, sane_ite]
@[simp] theorem refResult_sane (p : List Instr) (s : State) (res : Int) (h : Sane p s) : Sane p ((refResult s res)) := by
  unfold refResult
  simp +contextual (maxDischargeDepth := 30) only [decide_eq_true_eq, Rat.intCast_sub, Rat.intCast_ofNat, Nat.min_eq_right, h, State.modAx_sane,
    raise_sane, sane_ite]
@[simp] theorem axConsumers_sane (p : List Instr) (s : State) (n : Fin 16) (res raw : Int) (h : Sane p s) : Sane p ((axConsumers s n res raw)) := by
  unfold axConsumers
  simp +contextual (maxDischargeDepth := 30) only [beq_iff_eq, Bool.and_eq_true, bne_iff_ne, ne_eq, decide_eq_true_eq, State.modAx_x, h,
    State.modSrc_sane, sane_ite, implies_true, forAll_sane, State.modAx_sane, ntcResult_sane]
@[simp] theorem axStart_sane (p : List Instr) (s : State) (h : Sane p s) : Sane p ((axStart s)) := by
  unfold axStart
  simp +contextual (maxDischargeDepth := 30) only [Bool.and_eq_true, Bool.not_eq_eq_eq_not, Bool.not_true, Fin.isValue, BitVec.ofNat_eq_ofNat,
    Fin.getElem_fin, h, State.modAx_sane]
@[simp] theorem axFaultFlags_sane (p : List Instr) (s : State) (h : Sane p s) : Sane p ((axFaultFlags s)) := by
  unfold axFaultFlags
  simp +contextual (maxDischargeDepth := 30) only [Fin.getElem_fin, BitVec.ofNat_eq_ofNat, h, State.modAx_sane, sane_ite]
@[simp] theorem axOwStep_sane (p : List Instr) (s : State) (n : Slice) (res : Int) (h : Sane p s) : Sane p ((axOwStep s n res)) := by
  unfold axOwStep
  (repeat' split) <;> simp +contextual (maxDischargeDepth := 30) only [axOwTest_sane, h, *]
@[simp] theorem axLatch_sane (p : List Instr) (s : State) (n : Slice) (raw0 : Int) (h : Sane p s) : Sane p ((axLatch s n raw0)) := by
  unfold axLatch
  extract_lets raw res x0 s1 s2 s3
  have h1 : Sane p s1 := ⟨h.1, h.2.1, h.2.2⟩
  have h2 : Sane p s2 := axFaultFlags_sane _ _ (axOwStep_sane _ _ _ _ (State.modAx_sane _ _ _ h1))
  have h3 : Sane p s3 := axConsumers_sane _ _ _ _ _ h2
  split
  · exact dieResult_sane _ _ _ h3
  · split
    · exact refResult_sane _ _ _ h3
    · exact h3
@[simp] theorem axBoundary_sane (p : List Instr) (s : State) (h : Sane p s) : Sane p ((axBoundary s)) := by
  unfold axBoundary
  refine axFaultFlags_sane _ _ (forAll_sane p _ _ (axStart_sane _ s h) fun s a hs => ?_)
  split
  · exact hs
  · exact axLatch_sane _ _ _ _ hs
@[simp] theorem sysStart_sane (p : List Instr) (s : State) (i : Slice) (kind : Nat) (h : Sane p s) : Sane p ((sysStart s i kind)) := by
  unfold sysStart
  simp +contextual (maxDischargeDepth := 30) only [Fin.getElem_fin, Bool.or_eq_true, bne_iff_ne, ne_eq, Bool.not_eq_eq_eq_not, Bool.not_true, h,
    State.modSys_sane, sane_ite]
@[simp] theorem sysAbort_sane (p : List Instr) (s : State) (i : Slice) (h : Sane p s) : Sane p ((sysAbort s i)) := by
  unfold sysAbort
  simp +contextual (maxDischargeDepth := 30) only [Fin.getElem_fin, beq_iff_eq, Bool.and_eq_true, h, State.modSys_sane, sane_ite]
@[simp] theorem sysAccumulate_sane (p : List Instr) (s : State) (i : Slice) (h : Sane p s) : Sane p ((sysAccumulate s i)) := by
  unfold sysAccumulate
  simp +contextual (maxDischargeDepth := 30) only [Fin.getElem_fin, Bool.and_eq_true, bne_iff_ne, ne_eq, decide_eq_true_eq, h, State.modSys_sane,
    sane_ite]
@[simp] theorem axCalStart_sane (p : List Instr) (s : State) (kind : Nat) (h : Sane p s) : Sane p ((axCalStart s kind)) := by
  unfold axCalStart
  simp +contextual (maxDischargeDepth := 30) only [ne_eq, decide_not, Bool.or_eq_true, bne_iff_ne, Bool.not_eq_eq_eq_not, Bool.not_true,
    decide_eq_false_iff_not, h, State.modAx_sane, sane_ite]
@[simp] theorem axCalAbort_sane (p : List Instr) (s : State) (h : Sane p s) : Sane p ((axCalAbort s)) := by
  unfold axCalAbort
  simp +contextual (maxDischargeDepth := 30) only [beq_iff_eq, Bool.and_eq_true, h, State.modAx_sane, sane_ite]
@[simp] theorem bgRelease_sane (p : List Instr) (s : State) (h : Sane p s) : Sane p ((bgRelease s)) := by
  unfold bgRelease
  simp +contextual (maxDischargeDepth := 30) only [State.modBg_cp, Bool.or_eq_true, h, State.modBg_sane, State.modSpare_sane, sane_ite]
@[simp] theorem bgCancel_sane (p : List Instr) (s : State) (h : Sane p s) : Sane p ((bgCancel s)) := by
  unfold bgCancel
  simp +contextual (maxDischargeDepth := 30) only [Bool.or_eq_true, beq_iff_eq, h, State.modBg_sane, State.modSpare_sane, bgRelease_sane, sane_ite]
@[simp] theorem bgOwn_sane (p : List Instr) (s : State) (h : Sane p s) : Sane p ((bgOwn s)) := by
  unfold bgOwn
  simp +contextual (maxDischargeDepth := 30) only [beq_iff_eq, h, State.modBg_sane, State.modSpare_sane, sane_ite]
@[simp] theorem bgAccumulate_sane (p : List Instr) (s : State) (h : Sane p s) : Sane p ((bgAccumulate s)) := by
  unfold bgAccumulate
  simp +contextual (maxDischargeDepth := 30) only [Bool.or_eq_true, beq_iff_eq, Bool.and_eq_true, decide_eq_true_eq, Fin.getElem_fin, State.modBg_x, h, State.modBg_sane, bgRelease_sane, State.evt_sane, sane_ite]
@[simp] theorem traceRequest_sane (p : List Instr) (s : State) (h : Sane p s) : Sane p ((traceRequest s)) := by
  unfold traceRequest
  simp +contextual (maxDischargeDepth := 30) only [Bool.or_eq_true, decide_eq_true_eq, h, State.modTrace_sane, set_ADC_REF_CTRL_TRACE_sane, sane_ite]
@[simp] theorem traceEnd_sane (p : List Instr) (s : State) (f : TraceSt → TraceSt) (h : Sane p s) : Sane p ((traceEnd s f)) := by
  unfold traceEnd
  simp +contextual (maxDischargeDepth := 30) only [h, State.modTrace_sane, set_ADC_REF_CTRL_TRACE_sane]
@[simp] theorem traceStop_sane (p : List Instr) (s : State) (h : Sane p s) : Sane p ((traceStop s)) := by
  unfold traceStop
  simp +contextual (maxDischargeDepth := 30) only [h, traceEnd_sane]
@[simp] theorem traceAbort_sane (p : List Instr) (s : State) (h : Sane p s) : Sane p ((traceAbort s)) := by
  unfold traceAbort
  simp +contextual (maxDischargeDepth := 30) only [Bool.and_eq_true, decide_eq_true_eq, Bool.or_eq_true, beq_iff_eq, h, State.modTrace_sane,
    traceStop_sane, sane_ite]
@[simp] theorem traceAccumulate_sane (p : List Instr) (s : State) (h : Sane p s) : Sane p ((traceAccumulate s)) := by
  unfold traceAccumulate
  simp +contextual (maxDischargeDepth := 30) only [Bool.not_eq_eq_eq_not, Bool.not_true, Bool.and_eq_true, decide_eq_true_eq, Fin.getElem_fin, h,
    State.modTrace_sane, sane_ite]
@[simp] theorem spareBoundary_sane (p : List Instr) (s : State) (h : Sane p s) : Sane p ((spareBoundary s)) := by
  unfold spareBoundary
  extract_lets s1 call s2 s3
  have h1 : Sane p s1 := forAll_sane p _ _ h fun s i hs => by simp [hs]
  clear_value s1
  have h2 : Sane p s2 := by simp only [s2]; (repeat' split) <;> simp [h1]
  clear_value s2
  have h3 : Sane p s3 := by simp only [s3]; split <;> simp [h2]
  clear_value s3
  (repeat' split) <;> simp [h3]
@[simp] theorem pairBoundary_sane (p : List Instr) (s : State) (h : Sane p s) : Sane p ((pairBoundary s)) := by
  unfold pairBoundary
  simp +contextual (maxDischargeDepth := 30) only [bne_iff_ne, ne_eq, ite_not, sane_mk, h, sane_pending, sane_mem, sane_legs, and_self, sane_ite,
    implies_true, forAll_sane]
@[simp] theorem convBoundary_sane (p : List Instr) (raw : Vector Raw 17) (s : State) (h : Sane p s) : Sane p ((convBoundary raw s)) := by
  unfold convBoundary
  simp +contextual (maxDischargeDepth := 30) only [Bool.and_eq_true, beq_iff_eq, Fin.getElem_fin, h, pairBoundary_sane, latchConv_sane, implies_true, forAll_sane, fineBoundary_sane, deliver_sane, judgeWindow_sane, sane_ite, owCount_sane, axBoundary_sane, sysAccumulate_sane, bgAccumulate_sane, traceAccumulate_sane]

/-! ### Subst -/

@[simp] theorem noteBlamed_sane (p : List Instr) (rolled : Bool) (s : State) (blamed : List Slice) (h : Sane p s) : Sane p ((noteBlamed rolled s blamed)) := by
  unfold noteBlamed
  simp +contextual (maxDischargeDepth := 30) only [List.any_eq_true, h, State.modModel_sane, sane_ite, implies_true, forAll_sane]
@[simp] theorem estimates_sane (p : List Instr) (s : State) (h : Sane p s) : Sane p ((estimates s)) := by
  unfold estimates
  simp +contextual (maxDischargeDepth := 30) only [Fin.getElem_fin, h, State.modSup_sane, sane_ite, implies_true, forAll_sane]
@[simp] theorem dutyReturn_sane (p : List Instr) (s : State) (t : Train) (h : Sane p s) : Sane p ((dutyReturn s t)) := by
  unfold dutyReturn
  simp +contextual (maxDischargeDepth := 30) only [Fin.getElem_fin, Rat.intCast_mul, Rat.intCast_ofNat, Rat.natCast_mul, h, State.modLoop_sane]
@[simp] theorem substNow_sane (p : List Instr) (s : State) (t : Train) (on : Bool) (tk before : Nat) (h : Sane p s) : Sane p ((substNow s t on tk before)) := by
  unfold substNow
  simp +contextual (maxDischargeDepth := 30) only [Fin.getElem_fin, Bool.not_and, Option.not_isSome, State.modModel_cp, Bool.and_eq_true, Bool.or_eq_true, Bool.not_eq_eq_eq_not, Bool.not_true, Option.isNone_iff_eq_none, h, State.modModel_sane, dutyReturn_sane, sane_ite]
@[simp] theorem substTrain_sane (p : List Instr) (s : State) (t : Train) (h : Sane p s) : Sane p ((substTrain s t)) := by
  unfold substTrain
  simp +contextual (maxDischargeDepth := 30) only [Bool.not_eq_eq_eq_not, Bool.not_true, Fin.getElem_fin, Bool.or_eq_true, h, substNow_sane, sane_ite]
@[simp] theorem substAnew_sane (p : List Instr) (s : State) (t : Train) (h : Sane p s) : Sane p ((substAnew s t)) := by
  unfold substAnew
  simp +contextual (maxDischargeDepth := 30) only [Fin.getElem_fin, h, substTrain_sane, sane_ite]
@[simp] theorem substAgain_sane (p : List Instr) (s : State) (t : Train) (h : Sane p s) : Sane p ((substAgain s t)) := by
  unfold substAgain
  simp +contextual (maxDischargeDepth := 30) only [Fin.getElem_fin, h, substNow_sane, sane_ite]

/-! ### Tally -/

@[simp] theorem tlNote_sane (p : List Instr) (s : State) (n : TallyIx) (hit wrap : Bool) (h : Sane p s) : Sane p ((tlNote s n hit wrap)) := by
  unfold tlNote
  simp +contextual (maxDischargeDepth := 30) only [Bool.toNat_false, Bool.false_eq_true, ↓reduceIte, BitVec.ofNat_eq_ofNat, Bool.toNat_true, h, State.evt_sane, State.orReg_sane, sane_ite, State.modTl_sane]
@[simp] theorem countEdge_sane (p : List Instr) (s : State) (n : TallyIx) (cyc : Nat) (h : Sane p s) : Sane p ((countEdge s n cyc)) := by
  unfold countEdge
  simp +contextual (maxDischargeDepth := 30) only [State.modTl_x, Fin.getElem_fin, upd_same_val, Nat.mod_mul_right_mod, h, State.modTl_sane, sane_ite, tlNote_sane]
@[simp] theorem tlTickEdges_sane (p : List Instr) (s : State) (h : Sane p s) : Sane p ((tlTickEdges s)) := by
  unfold tlTickEdges
  simp +contextual (maxDischargeDepth := 30) only [beq_iff_eq, h, countEdge_sane, sane_ite, implies_true, forAll_sane]
@[simp] theorem tlReload_sane (p : List Instr) (s : State) (n : TallyIx) (h : Sane p s) : Sane p ((tlReload s n)) := by
  unfold tlReload
  simp +contextual (maxDischargeDepth := 30) only [h, State.modTl_sane, sane_ite]
@[simp] theorem chainAct_sane (p : List Instr) (s : State) (n : TallyIx) (code cyc : Nat) (h : Sane p s) : Sane p ((chainAct s n code cyc)) := by
  unfold chainAct
  ((try dsimp only); (repeat' split) <;> (simp +contextual (maxDischargeDepth := 30) only [h, State.modTl_sane, tlReload_sane, *]; done))
@[simp] theorem toutAct_sane (p : List Instr) (s : State) (n : TallyIx) (code : Nat) (h : Sane p s) : Sane p ((toutAct s n code)) := by
  unfold toutAct
  simp +contextual (maxDischargeDepth := 30) only [Bool.or_eq_true, Bool.not_eq_eq_eq_not, Bool.not_true, decide_eq_true_eq, bne_iff_ne, ne_eq,
    Fin.getElem_fin, ite_not, h, sane_mk, sane_pending, sane_mem, sane_legs, and_self, sane_ite]
@[simp] theorem tlActions_sane (p : List Instr) (s : State) (n : TallyIx) (wrap : Bool) (cyc : Nat) (h : Sane p s) : Sane p ((tlActions s n wrap cyc)) := by
  unfold tlActions
  simp +contextual (maxDischargeDepth := 30) only [↓reduceIte, Bool.false_eq_true, Bool.ite_eq_true_distrib, h, toutAct_sane, fineTrigger_sane, sane_ite, larderTrigger_sane, chainAct_sane]
@[simp] theorem tinPut_sane (p : List Instr) (s : State) (e : TinEdge) (level : Bool) (h : Sane p s) : Sane p ((tinPut s e level)) := by
  unfold tinPut
  simp +contextual (maxDischargeDepth := 30) only [Fin.getElem_fin, beq_iff_eq, h, sane_mk, sane_pending, sane_mem, sane_legs, and_self, sane_ite]
@[simp] theorem captureRise_sane (p : List Instr) (s : State) (n : TallyIx) (h : Sane p s) : Sane p ((captureRise s n)) := by
  unfold captureRise
  simp +contextual (maxDischargeDepth := 30) only [h, State.modTl_sane, State.evt_sane]
@[simp] theorem captureFall_sane (p : List Instr) (s : State) (n : TallyIx) (h : Sane p s) : Sane p ((captureFall s n)) := by
  unfold captureFall
  simp +contextual (maxDischargeDepth := 30) only [h, State.modTl_sane, State.evt_sane]
@[simp] theorem tlSync_sane (p : List Instr) (s : State) (mask : Word) (h : Sane p s) : Sane p ((tlSync s mask)) := by
  unfold tlSync
  simp +contextual (maxDischargeDepth := 30) only [h, set_TLn_CFG_EN_sane, sane_ite, implies_true, forAll_sane]
@[simp] theorem tlStart_sane (p : List Instr) (s : State) (n : TallyIx) (h : Sane p s) : Sane p ((tlStart s n)) := by
  unfold tlStart
  simp +contextual (maxDischargeDepth := 30) only [h, State.modTl_sane, toutAct_sane, sane_ite]
@[simp] theorem cntLWrite_sane (p : List Instr) (s : State) (n : TallyIx) (v : Word) (h : Sane p s) : Sane p ((cntLWrite s n v)) := by
  unfold cntLWrite
  simp +contextual (maxDischargeDepth := 30) only [h, State.modTl_sane]
@[simp] theorem cmpLWrite_sane (p : List Instr) (s : State) (n : TallyIx) (v : Word) (h : Sane p s) : Sane p ((cmpLWrite s n v)) := by
  unfold cmpLWrite
  simp +contextual (maxDischargeDepth := 30) only [h, State.modTl_sane]
@[simp] theorem cntHWrite_sane (p : List Instr) (s : State) (n : TallyIx) (w : TallyLoad) (h : Sane p s) : Sane p ((cntHWrite s n w)) := by
  unfold cntHWrite
  simp +contextual (maxDischargeDepth := 30) only [Bool.not_eq_eq_eq_not, Bool.not_true, BitVec.ofNat_eq_ofNat, beq_iff_eq, Fin.getElem_fin, h, State.modTl_sane, sane_ite]
@[simp] theorem cmpHWrite_sane (p : List Instr) (s : State) (n : TallyIx) (w : TallyLoad) (h : Sane p s) : Sane p ((cmpHWrite s n w)) := by
  unfold cmpHWrite
  simp +contextual (maxDischargeDepth := 30) only [Bool.not_eq_eq_eq_not, Bool.not_true, BitVec.ofNat_eq_ofNat, beq_iff_eq, Fin.getElem_fin, h, State.modTl_sane, sane_ite]
@[simp] theorem tlCopy_sane (p : List Instr) (s : State) (h : Sane p s) : Sane p ((tlCopy s)) := by
  unfold tlCopy
  simp +contextual (maxDischargeDepth := 30) only [h, State.modTl_sane, implies_true, forAll_sane]
@[simp] theorem tlBoundary_sane (p : List Instr) (s : State) (n : TallyIx) (h : Sane p s) : Sane p ((tlBoundary s n)) := by
  unfold tlBoundary
  simp +contextual (maxDischargeDepth := 30) only [State.modTl_x, Fin.getElem_fin, upd_same_val, Bool.and_eq_true, Bool.not_eq_eq_eq_not, Bool.not_true, Bool.or_eq_true, bne_iff_ne, ne_eq, h, State.modTl_sane, sane_ite, tlStart_sane]
@[simp] theorem tlWake_sane (p : List Instr) (e : Nat) (s : State) (n : TallyIx) (h : Sane p s) : Sane p ((tlWake e s n)) := by
  unfold tlWake
  simp +contextual (maxDischargeDepth := 30) only [Bool.not_and, Bool.or_eq_true, Bool.not_eq_eq_eq_not, Bool.not_true, Fin.getElem_fin, Nat.mod_mul_right_mod, Int.natCast_add, Int.natCast_mul, Int.natCast_ediv, Int.cast_ofNat_Int, h, State.modTl_sane, tlNote_sane, sane_ite]

/-! ### Cal -/

@[simp] theorem calStart_sane (p : List Instr) (s : State) (kind target : Nat) (h : Sane p s) : Sane p ((calStart s kind target)) := by
  unfold calStart
  simp +contextual (maxDischargeDepth := 30) only [bne_iff_ne, ne_eq, beq_iff_eq, Nat.reduceBEq, Bool.false_eq_true, ↓reduceIte, List.length_nil,
    Nat.reduceBNe, Nat.zero_le, decide_true, Bool.or_self, State.modCal_pending, State.modCal_cp, State.modCal_x, State.modCal_pub,
    State.modCal_views, State.modCal_ck, State.modCal_free, ite_not, sane_mk, h, sane_pending, sane_mem, sane_legs, and_self, nodeCheck_sane,
    State.modCal_sane, sane_ite]
@[simp] theorem calEnd_sane (p : List Instr) (s : State) (f : CalSt → CalSt) (h : Sane p s) : Sane p ((calEnd s f)) := by
  unfold calEnd
  simp +contextual (maxDischargeDepth := 30) only [h, State.modCal_sane, set_CAL_CMD_KIND_sane]
@[simp] theorem calAbortWith_sane (p : List Instr) (s : State) (cause : Nat) (h : Sane p s) : Sane p ((calAbortWith s cause)) := by
  unfold calAbortWith
  simp +contextual (maxDischargeDepth := 30) only [h, calEnd_sane, State.evt_sane]
@[simp] theorem calAbort_sane (p : List Instr) (s : State) (h : Sane p s) : Sane p ((calAbort s)) := by
  unfold calAbort
  simp +contextual (maxDischargeDepth := 30) only [bne_iff_ne, ne_eq, Bool.and_eq_true, Bool.or_eq_true, beq_iff_eq, ite_not, h, State.modCal_sane,
    sane_ite, calAbortWith_sane]
@[simp] theorem calFreeSource_sane (p : List Instr) (old : CalSt) (s : State) (h : Sane p s) : Sane p ((calFreeSource old s)) := by
  unfold calFreeSource
  simp +contextual (maxDischargeDepth := 30) only [bne_iff_ne, ne_eq, Bool.and_eq_true, beq_iff_eq, Fin.getElem_fin, ite_not, sane_mk, h, sane_pending, sane_mem, sane_legs, and_self, sane_ite]
@[simp] theorem calRelease_sane (p : List Instr) (old : CalSt) (s : State) (h : Sane p s) : Sane p ((calRelease old s)) := by
  unfold calRelease
  simp +contextual (maxDischargeDepth := 30) only [Bool.and_eq_true, beq_iff_eq, h, adoptPending_sane, trainStart_sane, preload_sane, calFreeSource_sane, sane_ite]
@[simp] theorem calSave_sane (p : List Instr) (s : State) (h : Sane p s) : Sane p ((calSave s)) := by
  unfold calSave
  simp +contextual (maxDischargeDepth := 30) only [h, State.modCal_sane, raise_sane, sane_ite]
@[simp] theorem calBoundary_sane (p : List Instr) (s : State) (h : Sane p s) : Sane p ((calBoundary s)) := by
  unfold calBoundary
  simp +contextual (maxDischargeDepth := 30) only [beq_iff_eq, Bool.not_eq_eq_eq_not, Bool.not_true, Bool.and_eq_true, h, State.modCal_sane, calSave_sane, sane_ite, calAbortWith_sane]
@[simp] theorem calWrite_sane (p : List Instr) (s : State) (item v : Nat) (x : Int) (h : Sane p s) : Sane p ((calWrite s item v x)) := by
  unfold calWrite
  (repeat' split) <;> simp +contextual (maxDischargeDepth := 30) only [set_CAL_LDn_H_RISE_sane, h, set_CAL_LDn_H_FALL_sane,
                        set_CAL_LDn_L_RISE_sane, set_CAL_LDn_L_FALL_sane, set_L_TRIM_TRIM_sane, set_CAL_SRCs_UV_sane, set_CAL_SRCs_OV_sane,
                        set_CAL_RING_CELLS_sane, *]
@[simp] theorem calForget_sane (p : List Instr) (s : State) (page off : Nat) (h : Sane p s) : Sane p ((calForget s page off)) := by
  unfold calForget
  simp +contextual (maxDischargeDepth := 30) only [Bool.and_eq_true, beq_iff_eq, decide_eq_true_eq, h, State.modCal_sane, sane_ite]
@[simp] theorem calMark_sane (p : List Instr) (s : State) (h : Sane p s) : Sane p ((calMark s)) := by
  unfold calMark
  simp +contextual (maxDischargeDepth := 30) only [Fin.getElem_fin, List.contains_eq_mem, Bool.and_eq_true, decide_eq_true_eq, Bool.not_eq_eq_eq_not, Bool.not_true, h, State.modCal_sane]
@[simp] theorem calVerdict_sane (p : List Instr) (m : CalResults) (s : State) (h : Sane p s) : Sane p ((calVerdict m s)) := by
  unfold calVerdict
  ((try dsimp only); (repeat' split) <;> (simp +contextual (maxDischargeDepth := 30) only [h, calEnd_sane, State.evt_sane, raise_sane, calRelease_sane, List.getD_eq_getElem?_getD, calWrite_sane, implies_true, foldl_sane, calMark_sane, State.modCal_sane, *]; done))

/-! ### Mem -/

@[simp] theorem flushNext_sane (p : List Instr) (s : State) (h : Sane p s) : Sane p ((flushNext s)) := by
  unfold flushNext
  simp +contextual (maxDischargeDepth := 30) only [sane_mk, h, sane_pending, sane_mem, sane_legs, and_self]
@[simp] theorem eccFound_sane (p : List Instr) (s : State) (r : ArrayRead) (h : Sane p s) : Sane p ((eccFound s r)) := by
  unfold eccFound
  have h1 : Sane p { s with x := { s.x with store := { s.x.store with eccCnt := min 0xFFFF (s.x.store.eccCnt + r.corrected) } } } := h
  dsimp only
  split
  · exact raise_sane _ _ _ _ h1
  · exact h1
@[simp] theorem verifyError_sane (p : List Instr) (s : State) (wrong : Bool) (h : Sane p s) : Sane p ((verifyError s wrong)) := by
  unfold verifyError
  simp +contextual (maxDischargeDepth := 30) only [h, State.orReg_sane, raise_sane, sane_ite]
@[simp] theorem eraseSector_sane (p : List Instr) (s : State) (k : Nat) (r : ArrayRead) (h : Sane p s) : Sane p ((eraseSector s k r)) := by
  unfold eraseSector
  have hm : SaneMem p (r.bad.foldl (fun m c => stPut m (k * sectorWords + c.1 % sectorWords) c.2) (stErase s.x.store.mem k)) :=
    memFold_sane _ _ _ _ (stErase_sane _ _ _ h.2.1) fun m a hm => stPut_sane _ _ _ _ hm
  have h1 : Sane p { s with x := { s.x with store := { s.x.store with
      mem := r.bad.foldl (fun m c => stPut m (k * sectorWords + c.1 % sectorWords) c.2) (stErase s.x.store.mem k) } } } := ⟨h.1, hm, h.2.2⟩
  refine eccFound_sane _ _ _ ?_
  dsimp only
  split
  · exact raise_sane _ _ _ _ h1
  · exact h1
@[simp] theorem progWords_sane (p : List Instr) (s : State) (a : Nat) (l : List (Nat × Word)) (r : ArrayRead) (h : Sane p s) : Sane p ((progWords s a l r).1) := by
  unfold progWords
  refine eccFound_sane _ _ _ (verifyError_sane _ _ _ ⟨h.1, ?_, h.2.2⟩)
  exact memFold_sane p _ _ _ (memFold_sane p _ _ _ h.2.1 fun m b hm => stPut_sane p _ _ _ hm) fun m b hm => stPut_sane p _ _ _ hm

/-! ### Device -/

@[simp] theorem setDev_sane (p : List Instr) (s : State) (d : DevState) (h : Sane p s) : Sane p ((setDev s d)) := by
  unfold setDev
  simp +contextual (maxDischargeDepth := 30) only [h, sane_mk, sane_pending, sane_mem, sane_legs, and_self, State.evt_sane, sane_ite]
@[simp] theorem testClose_sane (p : List Instr) (s : State) (h : Sane p s) : Sane p ((testClose s)) := by
  unfold testClose
  simp +contextual (maxDischargeDepth := 30) only [sane_mk, h, sane_pending, sane_mem, sane_legs, and_self]
@[simp] theorem trainsHold_sane (p : List Instr) (s : State) (h : Sane p s) : Sane p ((trainsHold s)) := by
  unfold trainsHold
  simp +contextual (maxDischargeDepth := 30) only [h, trainHold_sane, implies_true, forAll_sane]
@[simp] theorem enterHold_sane (p : List Instr) (s : State) (byReaction : Bool) (h : Sane p s) : Sane p ((enterHold s byReaction)) := by
  unfold enterHold
  simp +contextual (maxDischargeDepth := 30) only [ne_eq, ite_not, sane_mk, h, trainsHold_sane, setDev_sane, sane_pending, sane_mem, sane_legs,
    and_self, State.modCol_sane, sane_ite]
@[simp] theorem enterRun_sane (p : List Instr) (s : State) (h : Sane p s) : Sane p ((enterRun s)) := by
  unfold enterRun
  simp +contextual (maxDischargeDepth := 30) only [h, testClose_sane, setDev_sane, State.modCol_sane]
@[simp] theorem startTrains_sane (p : List Instr) (old s : State) (h : Sane p s) : Sane p ((startTrains old s)) := by
  unfold startTrains
  simp +contextual (maxDischargeDepth := 30) only [ne_eq, decide_not, Bool.and_eq_true, decide_eq_true_eq, Bool.not_eq_eq_eq_not, Bool.not_true, decide_eq_false_iff_not, h, trainStart_sane, implies_true, forAll_sane, preload_sane, sane_ite]
@[simp] theorem enterSafe_sane (p : List Instr) (s : State) (b : Nat) (h : Sane p s) : Sane p ((enterSafe s b)) := by
  unfold enterSafe
  ((try dsimp only); (repeat' split) <;> (simp +contextual (maxDischargeDepth := 30) only [h, sane_mk, trainsHold_sane, State.allLegsLow_sane, enablesToStraps_sane, testClose_sane, setDev_sane, sane_pending, sane_mem, sane_legs, and_self, State.modCol_sane, State.orReg_sane, larderTrigger_sane, *]; done))
@[simp] theorem State.modPwr_sane (p : List Instr) (s : State) (f : PwrSt → PwrSt) (h : Sane p s) : Sane p ((State.modPwr s f)) := by
  unfold State.modPwr
  simp +contextual (maxDischargeDepth := 30) only [sane_mk, h, sane_pending, sane_mem, sane_legs, and_self]
@[simp] theorem strapsAt_sane (q : List Instr) (p : Straps) (s : State) (h : Sane q s) : Sane q ((strapsAt p s)) := by
  unfold strapsAt
  simp +contextual (maxDischargeDepth := 30) only [h, State.modPwr_sane]
@[simp] theorem sampleStraps_sane (p : List Instr) (s : State) (h : Sane p s) : Sane p ((sampleStraps s)) := by
  unfold sampleStraps
  simp +contextual (maxDischargeDepth := 30) only [Fin.getElem_fin, sane_mk, h, sane_pending, sane_mem, sane_legs, and_self, set_SRC_CTRL_EN_sane,
    enablesToStraps_sane, set_RG_CFG_POS_sane]
@[simp] theorem keepSticky_sane (p : List Instr) (old s : State) (h : Sane p s) : Sane p ((keepSticky old s)) := by
  unfold keepSticky
  simp +contextual (maxDischargeDepth := 30) only [h, State.setReg_sane, State.modCol_sane]
@[simp] theorem cutOff_sane (p : List Instr) (s : State) (h : Sane p s) : Sane p ((cutOff s)) := by
  unfold cutOff
  ((try dsimp only); (repeat' split) <;> (simp +contextual (maxDischargeDepth := 30) only [h, stFree_sane, implies_true, foldl_sane, *]; done))
@[simp] theorem cutCheck_sane (p : List Instr) (s : State) (h : Sane p s) : Sane p ((cutCheck s)) := by
  unfold cutCheck
  simp +contextual (maxDischargeDepth := 30) only [List.any_eq_true, beq_iff_eq, h, stFree_sane, sane_ite]
@[simp] theorem deviceReset_sane (p : List Instr) (s : State) (cause : Nat) (h : Sane p s) : Sane p ((deviceReset s cause)) := by
  unfold deviceReset
  extract_lets s1 r s2 l x l0 st pw s3 s4
  have h1 : Sane p s1 := cutCheck_sane _ _ (cutOff_sane _ _ h)
  clear_value s1
  have h3 : Sane p s3 := ⟨h1.1, h1.2.1, fun n => by simp [s3, x, s2, r, State.reset]⟩
  have h4 : Sane p s4 := sampleStraps_sane _ _ (keepSticky_sane _ _ _ h3)
  exact h4

/-! ### Faults -/

@[simp] theorem lostConv_sane (p : List Instr) (dead : List Conv) (s : State) (c : Conv) (h : Sane p s) : Sane p ((lostConv dead s c)) := by
  unfold lostConv
  simp +contextual (maxDischargeDepth := 30) only [Fin.getElem_fin, Bool.and_eq_true, beq_iff_eq, Bool.or_eq_true, decide_eq_true_eq, List.contains_eq_mem, h, blame_sane, sane_ite, implies_true, foldl_sane]
@[simp] theorem collectorFault_sane (p : List Instr) (s : State) (cause : Nat) (h : Sane p s) : Sane p ((collectorFault s cause)) := by
  unfold collectorFault
  simp +contextual (maxDischargeDepth := 30) only [h, State.orReg_sane, State.modCol_sane, latch_sane, pinShutdown_sane]
@[simp] theorem collectorCheck_sane (p : List Instr) (f : CheckFault) (s : State) (h : Sane p s) : Sane p ((collectorCheck f s)) := by
  unfold collectorCheck
  ((try dsimp only); (repeat' split) <;> (simp +contextual (maxDischargeDepth := 30) only [collectorFault_sane, h, overrun_sane, *]; done))
@[simp] theorem State.modLar_sane (p : List Instr) (s : State) (f : LarderSt → LarderSt) (h : Sane p s) : Sane p ((State.modLar s f)) := by
  unfold State.modLar
  simp +contextual (maxDischargeDepth := 30) only [sane_mk, h, sane_pending, sane_mem, sane_legs, and_self]
@[simp] theorem storeFence_sane (p : List Instr) (s : State) (h : Sane p s) : Sane p ((storeFence s)) := by
  unfold storeFence
  simp +contextual (maxDischargeDepth := 30) only [h, sane_ite, cutOff_sane, set_STORE_CMD_CMD_sane, sane_mem, modStore_sane, State.evt_sane, State.modLar_sane,
    flushNext_sane, raise_sane, State.modCal_sane]
@[simp] theorem pbEnd_sane (p : List Instr) (s : State) (r : PbReq) (cause : Nat) (data : Word) (h : Sane p s) : Sane p ((pbEnd s r cause data)) := by
  unfold pbEnd
  simp +contextual (maxDischargeDepth := 30) only [sane_mk, h, sane_pending, sane_mem, sane_legs, and_self]
@[simp] theorem pbFinish_sane (p : List Instr) (s : State) (cause : Nat) (data : Word) (h : Sane p s) : Sane p ((pbFinish s cause data)) := by
  unfold pbFinish
  (repeat' split) <;> simp +contextual (maxDischargeDepth := 30) only [h, sane_mk, pbEnd_sane, sane_pending, sane_mem, sane_legs, and_self, *]
@[simp] theorem twpFence_sane (p : List Instr) (s : State) (h : Sane p s) : Sane p ((twpFence s)) := by
  unfold twpFence
  simp +contextual (maxDischargeDepth := 30) only [BitVec.ofNat_eq_ofNat, sane_mk, h, pbEnd_sane, implies_true, foldl_sane, sane_pending, sane_mem,
    sane_legs, and_self]
@[simp] theorem applyFence_sane (p : List Instr) (s : State) (u : FenceUnit) (h : Sane p s) : Sane p ((applyFence s u)) := by
  unfold applyFence
  have hf : ∀ u, Sane p (s.fence u) := fun u => State.fence_sane p s u h
  split
  · simp [h]
  · simp [h]
  · split <;> simp [h]
  · split <;> simp [h]
  · dsimp only
    split
    · exact forAll_sane p _ _ (hf _) fun s i hs => by split <;> simp [hs]
    · exact hf _
  · exact ⟨(hf _).1, (hf _).2.1, (hf _).2.2⟩
  · exact hf _
@[simp] theorem unfFail_sane (p : List Instr) (s : State) (page : Nat) (h : Sane p s) : Sane p ((unfFail s page)) := by
  unfold unfFail
  simp +contextual (maxDischargeDepth := 30) only [h, State.modCol_sane, State.evt_sane]
@[simp] theorem reqClear_sane (p : List Instr) (s : State) (page : Nat) (h : Sane p s) : Sane p ((reqClear s page)) := by
  unfold reqClear
  simp +contextual (maxDischargeDepth := 30) only [List.any_eq_true, beq_iff_eq, BitVec.ofNat_eq_ofNat, BitVec.reduceNot, h, State.setReg_sane, sane_ite]
@[simp] theorem unfence_sane (p : List Instr) (s : State) (page : Nat) (h : Sane p s) : Sane p ((unfence s page)) := by
  unfold unfence
  simp +contextual (maxDischargeDepth := 30) only [Bool.or_eq_true, Bool.not_eq_eq_eq_not, Bool.not_true, List.any_eq_true, beq_iff_eq, decide_eq_true_eq, h, unfFail_sane, sane_mk, sane_pending, sane_mem, sane_legs, and_self, sane_ite, implies_true, foldl_sane]
@[simp] theorem ckStart_sane (p : List Instr) (s : State) (c : ClerkIx) (h : Sane p s) : Sane p ((ckStart s c)) := by
  unfold ckStart
  simp +contextual (maxDischargeDepth := 30) only [Fin.getElem_fin, sane_mk, h, sane_pending, sane_mem, sane_legs, and_self]
@[simp] theorem ckStop_sane (p : List Instr) (s : State) (c : ClerkIx) (h : Sane p s) : Sane p ((ckStop s c)) := by
  unfold ckStop
  simp +contextual (maxDischargeDepth := 30) only [Fin.getElem_fin, sane_mk, h, sane_pending, sane_mem, sane_legs, and_self]
@[simp] theorem sliceBack_sane (p : List Instr) (s : State) (i : Slice) (h : Sane p s) : Sane p ((sliceBack s i)) := by
  unfold sliceBack
  extract_lets v s1 s2
  have h1 : Sane p s1 := by simp only [s1]; split <;> simp [h]
  clear_value s1
  have h2 : Sane p s2 := by
    simp only [s2]
    split
    · split <;> simp [h1]
    · exact h1
  clear_value s2
  exact forAll_sane p _ _ (State.modSup_sane p _ _ _ h2) fun s t hs => substAgain_sane p s t hs
@[simp] theorem selfTest_sane (p : List Instr) (s : State) (q : SelfTest) (h : Sane p s) : Sane p ((selfTest s q)) := by
  unfold selfTest
  cases q
  · exact h
  · exact h
  · exact eraseSector_sane _ _ _ _ (eccFound_sane _ _ _ (verifyError_sane _ _ _ h))
@[simp] theorem readmitEffect_sane (p : List Instr) (s : State) (u : FenceUnit) (h : Sane p s) : Sane p ((readmitEffect s u)) := by
  unfold readmitEffect
  ((try dsimp only); (repeat' split) <;> (simp +contextual (maxDischargeDepth := 30) only [h, setTrain_sane, State.modConv_sane, sliceBack_sane, State.modLoop_sane, ckStart_sane, Fin.getElem_fin, sane_mk, sane_pending, sane_mem, sane_legs, and_self, State.modModel_sane, implies_true, forAll_sane, stErase_sane, *]; done))
@[simp] theorem readmit_sane (p : List Instr) (s : State) (u : FenceUnit) (h : Sane p s) : Sane p ((readmit s u)) := by
  unfold readmit
  simp +contextual (maxDischargeDepth := 30) only [sane_mk, h, sane_pending, sane_mem, sane_legs, and_self, State.evt_sane, readmitEffect_sane]
@[simp] theorem endCheck_sane (p : List Instr) (u : FenceUnit) (ok : Bool) (s : State) (h : Sane p s) : Sane p ((endCheck u ok s)) := by
  unfold endCheck
  simp +contextual (maxDischargeDepth := 30) only [h, readmit_sane, reqClear_sane, State.modCol_sane, sane_mk, sane_pending, sane_mem, sane_legs, and_self, unfFail_sane, sane_ite]
@[simp] theorem faultClear_sane (p : List Instr) (s : State) (hi : Bool) (m : Word) (h : Sane p s) : Sane p ((faultClear s hi m)) := by
  unfold faultClear
  simp +contextual (maxDischargeDepth := 30) only [Bool.and_eq_true, Bool.not_eq_eq_eq_not, Bool.not_true, BitVec.ofNat_eq_ofNat, h, State.modCol_sane, fltPin_sane]
@[simp] theorem faultLatch_sane (q : List Instr) (s : State) (p : Port) (h : Sane q s) : Sane q ((faultLatch s p)) := by
  unfold faultLatch
  simp +contextual (maxDischargeDepth := 30) only [h, State.modCol_sane]

/-! ### Store -/

@[simp] theorem bufferOut_sane (p : List Instr) (s : State) (h : Sane p s) : Sane p ((bufferOut s)) := by
  unfold bufferOut
  refine modStore_sane _ _ _ h ?_
  split <;> exact h.2.1
@[simp] theorem setAddr_sane (p : List Instr) (s : State) (a : Nat) (h : Sane p s) : Sane p ((setAddr s a)) := by
  unfold setAddr
  ((try dsimp only); (repeat' split) <;> (simp +contextual (maxDischargeDepth := 30) only [sane_mem, modStore_sane, h, bufferOut_sane, *]; done))
@[simp] theorem stepAddr_sane (p : List Instr) (s : State) (h : Sane p s) : Sane p ((stepAddr s)) := by
  unfold stepAddr
  simp +contextual (maxDischargeDepth := 30) only [h, setAddr_sane]
@[simp] theorem loadAddr_sane (p : List Instr) (s : State) (h : Sane p s) : Sane p ((loadAddr s)) := by
  unfold loadAddr
  simp +contextual (maxDischargeDepth := 30) only [h, setAddr_sane]
@[simp] theorem storeRead_sane (p : List Instr) (s : State) (e : StoreEcc) (h : Sane p s) : Sane p ((storeRead s e)) := by
  unfold storeRead
  (repeat' split) <;> simp +contextual (maxDischargeDepth := 30) only [BitVec.ofNat_eq_ofNat, sane_mem, modStore_sane, h, stepAddr_sane,
                        raise_sane, *]
@[simp] theorem storeWrite_sane (p : List Instr) (s : State) (w : Word) (h : Sane p s) : Sane p ((storeWrite s w)) := by
  unfold storeWrite
  simp +contextual (maxDischargeDepth := 30) only [Bool.not_eq_eq_eq_not, Bool.not_true, h, State.orReg_sane, sane_mem, modStore_sane, sane_ite,
    stepAddr_sane]
@[simp] theorem hostCmdEnd_sane (p : List Instr) (s : State) (f : StoreSt → StoreSt) (h : Sane p s) (hf : ∀ v : StoreSt, SaneMem p v.mem → SaneMem p (f v).mem) : Sane p ((hostCmdEnd s f)) := by
  unfold hostCmdEnd
  exact set_STORE_CMD_CMD_sane _ _ _ (modStore_sane _ _ _ h (hf _ h.2.1))
@[simp] theorem storeErase_sane (p : List Instr) (s : State) (sector : Nat) (h : Sane p s) : Sane p ((storeErase s sector)) := by
  unfold storeErase
  extract_lets v den s1
  have hi : Sane p s1 := by simp only [s1]; split <;> simp [h]
  clear_value s1
  split
  · exact modStore_sane _ _ _ hi (sane_mem _ _ hi)
  · split
    · exact set_STORE_CMD_CMD_sane _ _ _ (modStore_sane _ _ _ hi (sane_mem _ _ hi))
    · exact modStore_sane _ _ _ hi (sane_mem _ _ hi)
@[simp] theorem storeProg_sane (p : List Instr) (s : State) (h : Sane p s) : Sane p ((storeProg s)) := by
  unfold storeProg
  have hb := bufferOut_sane p s h
  dsimp only
  split
  · exact set_STORE_CMD_CMD_sane _ _ _ (modStore_sane _ _ _ h (sane_mem _ _ h))
  · split
    · exact hb
    · split
      · exact State.evt_sane _ _ _ _ (hostCmdEnd_sane _ _ _ (modStore_sane _ _ _ hb (sane_mem _ _ hb)) fun v hv => hv)
      · exact modStore_sane _ _ _ hb (sane_mem _ _ hb)
@[simp] theorem storeAbort_sane (p : List Instr) (s : State) (h : Sane p s) : Sane p ((storeAbort s)) := by
  unfold storeAbort
  ((try dsimp only); (repeat' split) <;> (simp +contextual (maxDischargeDepth := 30) only [stFree_sane, sane_mem, modStore_sane, implies_true, hostCmdEnd_sane, h, *]; done))
@[simp] theorem flushEnd_sane (p : List Instr) (s : State) (h : Sane p s) : Sane p ((flushEnd s)) := by
  unfold flushEnd
  simp +contextual (maxDischargeDepth := 30) only [h, flushNext_sane, State.modLar_sane, State.evt_sane]
@[simp] theorem programDone_sane (p : List Instr) (s : State) (r : ArrayRead) (h : Sane p s) : Sane p ((programDone s r)) := by
  unfold programDone
  ((try dsimp only); (repeat' split) <;> (simp +contextual (maxDischargeDepth := 30) only [sane_mem, modStore_sane, h, progWords_sane, implies_true, hostCmdEnd_sane, State.evt_sane, flushNext_sane, State.modLar_sane, flushEnd_sane, *]; done))
@[simp] theorem eraseDone_sane (p : List Instr) (s : State) (r : ArrayRead) (h : Sane p s) : Sane p ((eraseDone s r)) := by
  unfold eraseDone
  dsimp only
  have hgo : ∀ k, Sane p ((eraseSector s k r).modStore fun v => { v with op := none }) := fun k =>
    modStore_sane _ _ _ (eraseSector_sane _ _ _ _ h) (eraseSector_sane _ _ _ _ h).2.1
  split
  · exact modStore_sane _ _ _ (hgo _) (hgo _).2.1
  · exact modStore_sane _ _ _ (hgo _) (hgo _).2.1
  · exact modStore_sane _ _ _ (hgo _) (hgo _).2.1
  · exact h
@[simp] theorem storeBoundary_sane (p : List Instr) (s : State) (h : Sane p s) : Sane p ((storeBoundary s)) := by
  unfold storeBoundary
  simp +contextual (maxDischargeDepth := 30) only [Bool.and_eq_true, beq_iff_eq, Bool.not_eq_eq_eq_not, Bool.not_true, h, sane_mem, modStore_sane, sane_ite, implies_true, hostCmdEnd_sane, State.evt_sane]
@[simp] theorem saveFailed_sane (p : List Instr) (s : State) (h : Sane p s) : Sane p ((saveFailed s)) := by
  unfold saveFailed
  simp +contextual (maxDischargeDepth := 30) only [h, State.modCal_sane, raise_sane]
@[simp] theorem saveRecord_sane (p : List Instr) (s : State) (slot seq : Nat) (r : ArrayRead) (h : Sane p s) : Sane p ((saveRecord s slot seq r)) := by
  unfold saveRecord
  simp +contextual (maxDischargeDepth := 30) only [Bool.or_eq_true, h, progWords_sane, saveFailed_sane, State.modCal_sane, State.evt_sane, sane_ite]
@[simp] theorem ledgerPut_sane (p : List Instr) (s : State) (r : LedgerRec) (h : Sane p s) : Sane p ((ledgerPut s r)) := by
  unfold ledgerPut
  simp +contextual (maxDischargeDepth := 30) only [Bool.and_eq_true, decide_eq_true_eq, Bool.not_eq_eq_eq_not, Bool.not_true, h, sane_mem, modStore_sane, State.evt_sane, sane_ite]
@[simp] theorem ledgerAppend_sane (p : List Instr) (s : State) (h : Sane p s) : Sane p ((ledgerAppend s)) := by
  unfold ledgerAppend
  simp +contextual (maxDischargeDepth := 30) only [Bool.and_eq_true, beq_iff_eq, decide_eq_true_eq, Fin.getElem_fin, BitVec.ofNat_eq_ofNat,
    List.getD_eq_getElem?_getD, List.length_map, List.length_range, Nat.reduceLT, getElem?_pos, List.getElem_map, List.getElem_range,
    Nat.reduceAdd, Option.getD_some, Nat.lt_add_one, State.modStore_x, h, sane_mem, modStore_sane, ledgerPut_sane, sane_ite]
@[simp] theorem ledgerMinute_sane (p : List Instr) (s : State) (h : Sane p s) : Sane p ((ledgerMinute s)) := by
  unfold ledgerMinute
  split
  · exact modStore_sane _ _ _ h h.2.1
  · refine forAll_sane p _ _ (modStore_sane _ _ _ h h.2.1) fun s a hs => ?_
    split
    · exact hs
    · exact modStore_sane _ _ _ hs hs.2.1
@[simp] theorem larderArm_sane (p : List Instr) (s : State) (h : Sane p s) : Sane p ((larderArm s)) := by
  unfold larderArm
  (repeat' split) <;> simp +contextual (maxDischargeDepth := 30) only [State.modLar_sane, h, *]
@[simp] theorem larderFlush_sane (p : List Instr) (s : State) (h : Sane p s) : Sane p ((larderFlush s)) := by
  unfold larderFlush
  (repeat' split) <;> simp +contextual (maxDischargeDepth := 30) only [State.modLar_sane, h, *]
@[simp] theorem flushStop_sane (p : List Instr) (s : State) (h : Sane p s) : Sane p ((flushStop s)) := by
  unfold flushStop
  ((try dsimp only); (repeat' split) <;> (simp +contextual (maxDischargeDepth := 30) only [h, sane_mem, modStore_sane, flushNext_sane, *]; done))
@[simp] theorem larderBoundary_sane (p : List Instr) (s : State) (h : Sane p s) : Sane p ((larderBoundary s)) := by
  unfold larderBoundary
  simp +contextual (maxDischargeDepth := 30) only [Bool.not_eq_eq_eq_not, Bool.not_true, h, flushStop_sane, State.modLar_sane, sane_ite]

/-! ### Test -/

@[simp] theorem State.modTest_sane (p : List Instr) (s : State) (f : TestSt → TestSt) (h : Sane p s) : Sane p ((State.modTest s f)) := by
  unfold State.modTest
  simp +contextual (maxDischargeDepth := 30) only [sane_mk, h, sane_pending, sane_mem, sane_legs, and_self]
@[simp] theorem testKey_sane (q : List Instr) (s : State) (p : Port) (v : Word) (h : Sane q s) : Sane q ((testKey s p v)) := by
  unfold testKey
  simp +contextual (maxDischargeDepth := 30) only [State.modTest_x, ne_eq, BitVec.ofNat_eq_ofNat, beq_iff_eq, ite_not, h, State.modTest_sane,
    sane_ite]
@[simp] theorem testGo_sane (p : List Instr) (s : State) (ext : Bool) (h : Sane p s) : Sane p ((testGo s ext)) := by
  unfold testGo
  simp +contextual (maxDischargeDepth := 30) only [Bool.not_eq_eq_eq_not, Bool.not_true, bne_iff_ne, ne_eq, BitVec.ofNat_eq_ofNat, ite_not, h,
    State.modTest_sane, sane_ite]
@[simp] theorem testStop_sane (p : List Instr) (s : State) (cyc : Nat) (h : Sane p s) : Sane p ((testStop s cyc)) := by
  unfold testStop
  simp +contextual (maxDischargeDepth := 30) only [Bool.not_eq_eq_eq_not, Bool.not_true, State.modTest_x, Bool.and_eq_true, beq_iff_eq, h,
    State.modTest_sane, latchAll_sane, sane_ite]
@[simp] theorem testWrite_sane (q : List Instr) (s : State) (p : Port) (off : Nat) (v : Word) (cyc : Nat) (ext : Bool) (h : Sane q s) : Sane q ((testWrite s p off v cyc ext)) := by
  unfold testWrite
  simp +contextual (maxDischargeDepth := 30) only [beq_iff_eq, Bool.not_and, Bool.or_eq_true, Bool.not_eq_eq_eq_not, Bool.not_true, decide_eq_false_iff_not, Nat.not_le, BitVec.ofNat_eq_ofNat, h, testKey_sane, State.modTest_sane, State.setReg_sane, testClose_sane, latchAll_sane, testStop_sane, sane_ite, testGo_sane]

/-! ### Ring -/

@[simp] theorem State.modRing_sane (p : List Instr) (s : State) (f : RingSt → RingSt) (h : Sane p s) : Sane p ((State.modRing s f)) := by
  unfold State.modRing
  simp +contextual (maxDischargeDepth := 30) only [sane_mk, h, sane_pending, sane_mem, sane_legs, and_self]
@[simp] theorem modPort_sane (p : List Instr) (s : State) (east : Bool) (f : RgPort → RgPort) (h : Sane p s) : Sane p ((modPort s east f)) := by
  unfold modPort
  simp +contextual (maxDischargeDepth := 30) only [h, State.modRing_sane]
@[simp] theorem takeRef_sane (p : List Instr) (s : State) (r : Nat) (h : Sane p s) : Sane p ((takeRef s r)) := by
  unfold takeRef
  simp +contextual (maxDischargeDepth := 30) only [sane_mk, h, sane_pending, sane_mem, sane_legs, and_self]
@[simp] theorem setRing_sane (p : List Instr) (s : State) (st : RgState) (h : Sane p s) : Sane p ((setRing s st)) := by
  unfold setRing
  simp +contextual (maxDischargeDepth := 30) only [reduceCtorEq, decide_false, Bool.or_false, ↓reduceIte, Bool.or_eq_true, decide_eq_true_eq, h, takeRef_sane, sane_ite, State.modRing_sane, State.modCal_sane]
@[simp] theorem ringEvent_sane (p : List Instr) (s : State) (b : Nat) (h : Sane p s) : Sane p ((ringEvent s b)) := by
  unfold ringEvent
  simp +contextual (maxDischargeDepth := 30) only [h, State.modRing_sane, State.evt_sane]
@[simp] theorem autoAdmit_sane (p : List Instr) (s : State) (east : Bool) (h : Sane p s) : Sane p ((autoAdmit s east)) := by
  unfold autoAdmit
  simp +contextual (maxDischargeDepth := 30) only [ne_eq, decide_not, Bool.and_eq_true, Bool.not_eq_eq_eq_not, Bool.not_true, decide_eq_false_iff_not, BitVec.ofNat_eq_ofNat, State.setReg_x, List.any_eq_true, beq_iff_eq, State.setReg_pending, State.setReg_cp, State.setReg_pub, State.setReg_views, State.setReg_ck, State.setReg_free, h, State.setReg_sane, sane_mk, sane_pending, sane_mem, sane_legs, and_self, sane_ite]
@[simp] theorem trainingDone_sane (p : List Instr) (s : State) (east : Bool) (flight : Nat) (h : Sane p s) : Sane p ((trainingDone s east flight)) := by
  unfold trainingDone
  simp +contextual (maxDischargeDepth := 30) only [Nat.reduceMul, Bool.or_eq_true, Bool.not_eq_eq_eq_not, Bool.not_true, decide_eq_true_eq, Bool.and_eq_true, h, modPort_sane, autoAdmit_sane, setRing_sane, sane_ite]
@[simp] theorem portDown_sane (p : List Instr) (s : State) (east : Bool) (b : Nat) (h : Sane p s) : Sane p ((portDown s east b)) := by
  unfold portDown
  simp +contextual (maxDischargeDepth := 30) only [Bool.not_eq_eq_eq_not, Bool.not_true, Bool.and_eq_true, h, modPort_sane, raise_sane, State.modRing_sane, sane_ite]
@[simp] theorem crcError_sane (p : List Instr) (s : State) (east : Bool) (h : Sane p s) : Sane p ((crcError s east)) := by
  unfold crcError
  simp +contextual (maxDischargeDepth := 30) only [h, modPort_sane, portDown_sane, sane_ite]
@[simp] theorem ringCntClr_sane (p : List Instr) (s : State) (h : Sane p s) : Sane p ((ringCntClr s)) := by
  unfold ringCntClr
  simp +contextual (maxDischargeDepth := 30) only [h, modPort_sane]
@[simp] theorem slotFinal_sane (p : List Instr) (s : State) (h : Sane p s) : Sane p ((slotFinal s)) := by
  unfold slotFinal
  simp +contextual (maxDischargeDepth := 30) only [beq_iff_eq, h, State.modRing_sane]
@[simp] theorem foreign_sane (p : List Instr) (s : State) (east : Bool) (h : Sane p s) : Sane p ((foreign s east)) := by
  unfold foreign
  simp +contextual (maxDischargeDepth := 30) only [h, raise_sane, modPort_sane]
@[simp] theorem phaseCheck_sane (p : List Instr) (s : State) (east : Bool) (e : Int) (h : Sane p s) : Sane p ((phaseCheck s east e)) := by
  unfold phaseCheck
  simp +contextual (maxDischargeDepth := 30) only [Int.reduceNeg, Bool.and_eq_true, decide_eq_true_eq, ↓reduceIte, h, modPort_sane,
    State.modRing_sane, raise_sane, sane_ite]
@[simp] theorem diverge_sane (p : List Instr) (s : State) (h : Sane p s) : Sane p ((diverge s)) := by
  unfold diverge
  simp +contextual (maxDischargeDepth := 30) only [h, State.modRing_sane, raise_sane]
@[simp] theorem digestCheck_sane (p : List Instr) (s : State) (f : TickFrame) (h : Sane p s) : Sane p ((digestCheck s f)) := by
  unfold digestCheck
  simp +contextual (maxDischargeDepth := 30) only [Bool.not_eq_eq_eq_not, Bool.not_true, beq_iff_eq, h, State.modRing_sane, diverge_sane, sane_ite]
@[simp] theorem loopHealed_sane (p : List Instr) (s : State) (h : Sane p s) : Sane p ((loopHealed s)) := by
  unfold loopHealed
  simp +contextual (maxDischargeDepth := 30) only [h, State.modRing_sane, ringEvent_sane]
@[simp] theorem memberTake_sane (p : List Instr) (s : State) (f : TickFrame) (h : Sane p s) : Sane p ((memberTake s f)) := by
  unfold memberTake
  ((try dsimp only); (repeat' split) <;> (simp +contextual (maxDischargeDepth := 30) only [sane_mk, sane_pending, sane_mem, sane_legs, and_self, State.modRing_sane, ringEvent_sane, loopHealed_sane, phaseCheck_sane, digestCheck_sane, h, *]; done))
@[simp] theorem hear_sane (p : List Instr) (s : State) (a : Announce) (h : Sane p s) : Sane p ((hear s a)) := by
  unfold hear
  simp +contextual (maxDischargeDepth := 30) only [h, State.modRing_sane]
@[simp] theorem masterGather_sane (p : List Instr) (s : State) (f : TickFrame) (h : Sane p s) : Sane p ((masterGather s f)) := by
  unfold masterGather
  refine foldl_sane p _ _ _ (by simp [h]) fun s a hs => ?_
  split
  · refine foldl_sane p _ _ _ hs fun s b hb => ?_
    split <;> simp [hb]
  · exact hs
@[simp] theorem forward_sane (p : List Instr) (s : State) (f : TickFrame) (h : Sane p s) : Sane p ((forward s f)) := by
  unfold forward
  simp +contextual (maxDischargeDepth := 30) only [Bool.not_eq_eq_eq_not, Bool.not_true, h, State.modRing_sane, sane_ite]
@[simp] theorem masterLoop_sane (p : List Instr) (s : State) (f : TickFrame) (h : Sane p s) : Sane p ((masterLoop s f)) := by
  unfold masterLoop
  simp +contextual (maxDischargeDepth := 30) only [Bool.and_eq_true, bne_iff_ne, ne_eq, Bool.true_and, ite_not, h, State.modRing_sane, ringEvent_sane, sane_ite, masterGather_sane]
@[simp] theorem frameTake_sane (p : List Instr) (s : State) (f : TickFrame) (h : Sane p s) : Sane p ((frameTake s f)) := by
  unfold frameTake
  ((try dsimp only); (repeat' split) <;> (simp +contextual (maxDischargeDepth := 30) only [State.modRing_sane, h, setRing_sane, takeRef_sane, Bool.and_eq_true, beq_iff_eq, decide_eq_true_eq, memberTake_sane, masterLoop_sane, *]; done))
@[simp] theorem tickFrame_sane (p : List Instr) (s : State) (f : TickFrame) (h : Sane p s) : Sane p ((tickFrame s f)) := by
  unfold tickFrame
  simp +contextual (maxDischargeDepth := 30) only [Bool.or_eq_true, Bool.not_eq_eq_eq_not, Bool.not_true, h, crcError_sane, foreign_sane, State.modRing_sane, forward_sane, frameTake_sane, sane_ite]
@[simp] theorem tapPort_sane (p : List Instr) (s : State) (east : Bool) (joins : Bool) (h : Sane p s) : Sane p ((tapPort s east joins)) := by
  unfold tapPort
  simp +contextual (maxDischargeDepth := 30) only [h, modPort_sane, sane_ite]
@[simp] theorem becomeMaster_sane (p : List Instr) (s : State) (memb : Nat) (h : Sane p s) : Sane p ((becomeMaster s memb)) := by
  unfold becomeMaster
  simp +contextual (maxDischargeDepth := 30) only [h, takeRef_sane, setRing_sane, State.modRing_sane, ringEvent_sane]
@[simp] theorem tickJump_sane (p : List Instr) (s : State) (num : Nat) (h : Sane p s) : Sane p ((tickJump s num)) := by
  unfold tickJump
  ((try dsimp only); (repeat' split) <;> (simp +contextual (maxDischargeDepth := 30) only [Bool.not_and, Option.not_isSome, List.filter_filter, sane_mk, sane_pending, sane_mem, sane_legs, and_self, State.modLar_sane, State.modTick_sane, h, *]; done))
@[simp] theorem applyDrop_sane (p : List Instr) (s : State) (m : Nat) (h : Sane p s) : Sane p ((applyDrop s m)) := by
  unfold applyDrop
  simp +contextual (maxDischargeDepth := 30) only [Bool.not_eq_eq_eq_not, Bool.not_true, Fin.getElem_fin, h, State.modRing_sane, ringEvent_sane,
    setRing_sane, sane_ite]
@[simp] theorem ringDrops_sane (p : List Instr) (s : State) (h : Sane p s) : Sane p ((ringDrops s)) := by
  unfold ringDrops
  simp +contextual (maxDischargeDepth := 30) only [h, State.modRing_sane, applyDrop_sane, implies_true, foldl_sane]
@[simp] theorem spanLegsLow_sane (p : List Instr) (s : State) (h : Sane p s) : Sane p ((spanLegsLow s)) := by
  unfold spanLegsLow
  refine forAll_sane p _ _ h fun s n hs => ?_
  split
  · split
    · exact State.modLeg_sane _ _ _ _ (modHw_sane _ _ _ _ hs (by simp))
    · exact hs
  · exact hs
@[simp] theorem ringMoves_sane (p : List Instr) (s : State) (h : Sane p s) : Sane p ((ringMoves s)) := by
  unfold ringMoves
  simp +contextual (maxDischargeDepth := 30) only [Bool.and_eq_true, decide_eq_true_eq, Bool.or_eq_true, h, setRing_sane, sane_ite]
@[simp] theorem ringBoundary_sane (p : List Instr) (s : State) (h : Sane p s) : Sane p ((ringBoundary s)) := by
  unfold ringBoundary
  have hr : ∀ s f, Sane p s → Sane p (s.modRing f) := fun s f hs => State.modRing_sane p s f hs
  split
  · exact hr _ _ (setRing_sane p _ _ h)
  · extract_lets tr s1 live s2 s3 s4
    have h1 : Sane p s1 := hr _ _ h
    clear_value s1
    have h2 : Sane p s2 := hr _ _ h1
    clear_value s2
    have h3 : Sane p s3 := ringDrops_sane p _ (hr _ _ (ringMoves_sane p _ h2))
    clear_value s3
    have h4 : Sane p s4 := hr _ _ h3
    split
    · exact spanLegsLow_sane p _ h4
    · exact h4

/-! ### Larder -/

@[simp] theorem larderWrite_sane (p : List Instr) (s : State) (h : Sane p s) : Sane p ((larderWrite s)) := by
  unfold larderWrite
  simp +contextual (maxDischargeDepth := 30) only [Bool.not_and, Bool.not_or, Bool.not_not, Bool.and_eq_true, Bool.not_eq_eq_eq_not, Bool.not_true,
    decide_eq_false_iff_not, Bool.or_eq_true, beq_iff_eq, decide_eq_true_eq, decide_true, Bool.not_false, Bool.and_self, Bool.true_and,
    decide_false, Bool.false_and, h, State.modLar_sane, sane_ite]

/-! ### Validate -/

@[simp] theorem rawWrite_sane (p : List Instr) (s : State) (page off : Nat) (v : Word) (h : Sane p s) : Sane p ((rawWrite s page off v)) := by
  unfold rawWrite
  (repeat' split) <;> simp +contextual (maxDischargeDepth := 30) only [h, Fin.getElem_fin, beq_iff_eq, sane_mk, sane_pending, sane_mem, sane_legs,
                        and_self, State.modSect_sane, State.setReg_sane, *]
@[simp] theorem markDrop_sane (p : List Instr) (s : State) (d : Drop) (h : Sane p s) : Sane p ((markDrop s d)) := by
  unfold markDrop
  (repeat' split) <;> simp +contextual (maxDischargeDepth := 30) only [sane_mk, sane_pending, sane_mem, sane_legs, and_self, State.orReg_sane,
                        State.evt_sane, h, *]
@[simp] theorem applyAll_sane (p : List Instr) (cfg : State) (l : List StagedWrite) (h : Sane p cfg) : Sane p ((applyAll cfg l)) := by
  unfold applyAll
  simp +contextual (maxDischargeDepth := 30) only [h, rawWrite_sane, implies_true, foldl_sane]

/-! ### Staging -/

@[simp] theorem stageHost_sane (q : List Instr) (s : State) (p : Port) (w : StagedWrite) (h : Sane q s) : Sane q ((stageHost s p w)) := by
  unfold stageHost
  simp +contextual (maxDischargeDepth := 30) only [List.any_eq_true, Bool.and_eq_true, beq_iff_eq, sane_mk, h, sane_pending, sane_mem, sane_legs,
    and_self]
@[simp] theorem State.modTxn_sane (q : List Instr) (s : State) (p : Port) (f : TxnBank → TxnBank) (h : Sane q s) : Sane q ((State.modTxn s p f)) := by
  unfold State.modTxn
  simp +contextual (maxDischargeDepth := 30) only [sane_mk, h, sane_pending, sane_mem, sane_legs, and_self]
@[simp] theorem txnExpire_sane (q : List Instr) (s : State) (p : Port) (h : Sane q s) : Sane q ((txnExpire s p)) := by
  unfold txnExpire
  simp +contextual (maxDischargeDepth := 30) only [Bool.and_eq_true, decide_eq_true_eq, h, State.modTxn_sane, sane_ite]
@[simp] theorem badCmd_sane (q : List Instr) (s : State) (p : Port) (h : Sane q s) : Sane q ((badCmd s p)) := by
  unfold badCmd
  simp +contextual (maxDischargeDepth := 30) only [h, State.modTxn_sane]
@[simp] theorem txnOpen_sane (q : List Instr) (s : State) (p : Port) (h : Sane q s) : Sane q ((txnOpen s p)) := by
  unfold txnOpen
  ((try dsimp only); (repeat' split) <;> (simp +contextual (maxDischargeDepth := 30) only [txnExpire_sane, badCmd_sane, h, State.modTxn_sane, *]; done))
@[simp] theorem txnReject_sane (q : List Instr) (s : State) (p : Port) (cause : Nat) (late : Bool) (h : Sane q s) : Sane q ((txnReject s p cause late)) := by
  unfold txnReject
  simp +contextual (maxDischargeDepth := 30) only [h, State.modTxn_sane]
@[simp] theorem txnUnit_sane (q : List Instr) (s : State) (p : Port) (due cyc : Nat) (tgt : Option Nat) (h : Sane q s) : Sane q ((txnUnit s p due cyc tgt)) := by
  unfold txnUnit
  simp +contextual (maxDischargeDepth := 30) only [State.modTxn_pending, State.modTxn_cp, State.modTxn_x, State.modTxn_pub, State.modTxn_views, State.modTxn_ck, State.modTxn_free, sane_mk, h, sane_pending, sane_mem, sane_legs, and_self]
@[simp] theorem txnCommit_sane (q : List Instr) (s : State) (p : Port) (cyc : Nat) (h : Sane q s) : Sane q ((txnCommit s p cyc)) := by
  unfold txnCommit
  simp +contextual (maxDischargeDepth := 30) only [Bool.not_eq_eq_eq_not, Bool.not_true, h, txnExpire_sane, badCmd_sane, txnReject_sane, txnUnit_sane, sane_ite]
@[simp] theorem txnCommitAt_sane (q : List Instr) (s : State) (p : Port) (cyc : Nat) (h : Sane q s) : Sane q ((txnCommitAt s p cyc)) := by
  unfold txnCommitAt
  simp +contextual (maxDischargeDepth := 30) only [Bool.not_eq_eq_eq_not, Bool.not_true, beq_iff_eq, Bool.and_eq_true, decide_eq_true_eq, h, txnExpire_sane, badCmd_sane, txnReject_sane, txnUnit_sane, sane_ite]
@[simp] theorem txnRetarget_sane (p : List Instr) (s : State) (h : Sane p s) : Sane p ((txnRetarget s)) := by
  unfold txnRetarget
  simp +contextual (maxDischargeDepth := 30) only [sane_mk, h, sane_pending, sane_mem, sane_legs, and_self]
@[simp] theorem txnAbort_sane (q : List Instr) (s : State) (p : Port) (cyc : Nat) (h : Sane q s) : Sane q ((txnAbort s p cyc)) := by
  unfold txnAbort
  ((try dsimp only); (repeat' split) <;> (simp +contextual (maxDischargeDepth := 30) only [txnExpire_sane, State.modTxn_sane, h, badCmd_sane, State.modTxn_pending, State.modTxn_cp, State.modTxn_x, State.modTxn_pub, State.modTxn_views, State.modTxn_ck, State.modTxn_free, sane_mk, sane_pending, sane_mem, sane_legs, and_self, *]; done))
@[simp] theorem txnCtrl_sane (q : List Instr) (s : State) (p : Port) (v : Word) (cyc : Nat) (h : Sane q s) : Sane q ((txnCtrl s p v cyc)) := by
  unfold txnCtrl
  (repeat' split) <;> simp +contextual (maxDischargeDepth := 30) only [txnExpire_sane, State.modTxn_sane, h, txnOpen_sane, txnCommit_sane,
                        txnAbort_sane, txnCommitAt_sane, badCmd_sane, *]
@[simp] theorem txnTgt_sane (q : List Instr) (s : State) (p : Port) (v : Word) (h : Sane q s) : Sane q ((txnTgt s p v)) := by
  unfold txnTgt
  simp +contextual (maxDischargeDepth := 30) only [h, State.modTxn_sane]
@[simp] theorem txnHold_sane (q : List Instr) (s : State) (p : Port) (w : StagedWrite) (h : Sane q s) : Sane q ((txnHold s p w)) := by
  unfold txnHold
  simp +contextual (maxDischargeDepth := 30) only [List.any_eq_true, Bool.and_eq_true, beq_iff_eq, h, State.modTxn_sane]
@[simp] theorem State.modSnap_sane (q : List Instr) (s : State) (p : Port) (f : SnapBank → SnapBank) (h : Sane q s) : Sane q ((State.modSnap s p f)) := by
  unfold State.modSnap
  simp +contextual (maxDischargeDepth := 30) only [sane_mk, h, sane_pending, sane_mem, sane_legs, and_self]
@[simp] theorem snapHold_sane (q : List Instr) (s : State) (p : Port) (h : Sane q s) : Sane q ((snapHold s p)) := by
  unfold snapHold
  simp +contextual (maxDischargeDepth := 30) only [State.modSnap_pending, State.modSnap_cp, State.modSnap_x, State.modSnap_pub,
    State.modSnap_views, State.modSnap_ck, State.modSnap_free, h, sane_mk, sane_pending, sane_mem, sane_legs, and_self, sane_ite]
@[simp] theorem snapRelease_sane (q : List Instr) (s : State) (p : Port) (h : Sane q s) : Sane q ((snapRelease s p)) := by
  unfold snapRelease
  simp +contextual (maxDischargeDepth := 30) only [State.modSnap_pending, State.modSnap_cp, State.modSnap_x, State.modSnap_pub,
    State.modSnap_views, State.modSnap_ck, State.modSnap_free, sane_mk, h, sane_pending, sane_mem, sane_legs, and_self]
@[simp] theorem snapExpire_sane (q : List Instr) (s : State) (p : Port) (h : Sane q s) : Sane q ((snapExpire s p)) := by
  unfold snapExpire
  simp +contextual (maxDischargeDepth := 30) only [Bool.and_eq_true, beq_iff_eq, h, State.modSnap_sane, sane_ite]
@[simp] theorem snapSwap_sane (q : List Instr) (s : State) (p : Port) (h : Sane q s) : Sane q ((snapSwap s p)) := by
  unfold snapSwap
  simp +contextual (maxDischargeDepth := 30) only [Bool.and_eq_true, Bool.not_eq_eq_eq_not, Bool.not_true, h, snapRelease_sane, sane_ite]
@[simp] theorem snapWrites_sane (q : List Instr) (s : State) (p : Port) (l : List StagedWrite) (h : Sane q s) : Sane q ((snapWrites s p l)) := by
  unfold snapWrites
  (repeat' split) <;> simp +contextual (maxDischargeDepth := 30) only [State.modSnap_sane, h, snapHold_sane, snapRelease_sane, *]
@[simp] theorem tickLatch_sane (q : List Instr) (s : State) (p : Port) (h : Sane q s) : Sane q ((tickLatch s p)) := by
  unfold tickLatch
  simp +contextual (maxDischargeDepth := 30) only [h, State.modTick_sane]
@[simp] theorem portConfigWrite_sane (p : List Instr) (s : State) (page off : Nat) (v : Word) (h : Sane p s) : Sane p ((portConfigWrite s page off v)) := by
  unfold portConfigWrite
  simp +contextual (maxDischargeDepth := 30) only [Bool.not_eq_eq_eq_not, Bool.not_true, h, raise_sane, State.setReg_sane, sane_ite]
@[simp] theorem freeBit_sane (p : List Instr) (s : State) (h : Sane p s) : Sane p ((freeBit s).2) := by
  unfold freeBit
  simp +contextual (maxDischargeDepth := 30) only [sane_mk, h, sane_pending, sane_mem, sane_legs, and_self]
@[simp] theorem hostWrite_sane (q : List Instr) (s : State) (p : Port) (page off : Nat) (v : Word) (cyc : Nat) (h : Sane q s) : Sane q ((hostWrite s p page off v cyc)) := by
  unfold hostWrite
  have ht := txnExpire_sane q s p h
  dsimp only
  (repeat' split) <;> simp only [ht, txnCtrl_sane, txnTgt_sane, freeBit_sane, testWrite_sane, storeWrite_sane, cntLWrite_sane, cntHWrite_sane, cmpLWrite_sane,
    cmpHWrite_sane, stageHost_sane, txnHold_sane]
@[simp] theorem touch_sane (q : List Instr) (s : State) (p : Port) (h : Sane q s) : Sane q ((touch s p)) := by
  unfold touch
  simp +contextual (maxDischargeDepth := 30) only [sane_mk, h, sane_pending, sane_mem, sane_legs, and_self]

/-! ### Commit -/

@[simp] theorem reportCause_sane (p : List Instr) (s : State) (cause cap : Nat) (h : Sane p s) : Sane p ((reportCause s cause cap)) := by
  unfold reportCause
  (repeat' split) <;> simp +contextual (maxDischargeDepth := 30) only [sane_mk, sane_pending, sane_mem, sane_legs, and_self, State.orReg_sane,
                        State.evt_sane, h, raise_sane, *]
@[simp] theorem bankReject_sane (q : List Instr) (s : State) (p : Port) (cause : Nat) (h : Sane q s) : Sane q ((bankReject s p cause)) := by
  unfold bankReject
  simp +contextual (maxDischargeDepth := 30) only [h, State.modTxn_sane]
@[simp] theorem reportReject_sane (p : List Instr) (s : State) (src : UnitSrc) (cause cap : Nat) (h : Sane p s) : Sane p ((reportReject s src cause cap)) := by
  unfold reportReject
  ((try dsimp only); (repeat' split) <;> (simp +contextual (maxDischargeDepth := 30) only [Fin.getElem_fin, sane_mk, reportCause_sane, sane_pending, sane_mem, sane_legs, and_self, State.orReg_sane, State.evt_sane, h, bankReject_sane, *]; done))
@[simp] theorem markOvr_sane (p : List Instr) (s : State) (c : ClerkIx) (h : Sane p s) : Sane p ((markOvr s c)) := by
  unfold markOvr
  simp +contextual (maxDischargeDepth := 30) only [h, State.orReg_sane, State.evt_sane]
@[simp] theorem collisions_sane (p : List Instr) (s : State) (l : List Judged) (h : Sane p s) : Sane p ((collisions s l)) := by
  unfold collisions
  refine foldl_sane p _ _ _ h fun s a hs => ?_
  split
  · refine foldl_sane p _ _ _ hs fun s b hb => ?_
    (repeat' split) <;> simp [hb]
  · exact hs
@[simp] theorem markDone_sane (p : List Instr) (s : State) (j : Judged) (h : Sane p s) : Sane p ((markDone s j)) := by
  unfold markDone
  ((try dsimp only); (repeat' split) <;> (simp +contextual (maxDischargeDepth := 30) only [State.modTxn_sane, h, *]; done))
@[simp] theorem applyUnits_sane (p : List Instr) (s : State) (l : List Judged) (h : Sane p s) : Sane p ((applyUnits s l).1) := by
  unfold applyUnits
  refine foldl_sane p _ _ _ (collisions_sane _ _ _ (foldl_sane p _ _ _ (foldl_sane p _ _ _ (by simp [h]) ?_) ?_)) ?_
  · intro s a hs
    split
    · exact foldl_sane p _ _ _ hs fun s b hb => by simp [hb]
    · exact hs
  · intro s a hs
    split <;> simp [hs]
  · intro s a hs
    simp [hs]

/-! ### Clerk -/

@[simp] theorem State.modCk_sane (p : List Instr) (s : State) (c : ClerkIx) (f : ClerkSt → ClerkSt) (h : Sane p s) : Sane p ((State.modCk s c f)) := by
  unfold State.modCk
  simp +contextual (maxDischargeDepth := 30) only [Fin.getElem_fin, sane_mk, h, sane_pending, sane_mem, sane_legs, and_self]
@[simp] theorem ckNop_sane (p : List Instr) (s : State) (c : ClerkIx) (h : Sane p s) : Sane p ((ckNop s c)) := by
  unfold ckNop
  simp +contextual (maxDischargeDepth := 30) only [h, State.modCk_sane]
@[simp] theorem ckLd_sane (p : List Instr) (s : State) (c : ClerkIx) (sx : Bool) (d : Fin 4) (page : Byte) (x : Bool) (off : Byte) (h : Sane p s) : Sane p ((ckLd s c sx d page x off)) := by
  unfold ckLd
  simp +contextual (maxDischargeDepth := 30) only [Fin.getElem_fin, BitVec.truncate_eq_setWidth, h, State.modCk_sane]
@[simp] theorem ckLdi_sane (p : List Instr) (s : State) (c : ClerkIx) (d : Fin 4) (hi : Bool) (i : Word) (h : Sane p s) : Sane p ((ckLdi s c d hi i)) := by
  unfold ckLdi
  simp +contextual (maxDischargeDepth := 30) only [Nat.reduceAdd, Fin.getElem_fin, BitVec.truncate_eq_setWidth, h, State.modCk_sane]
@[simp] theorem ckStage_sane (p : List Instr) (s : State) (c : ClerkIx) (page off : Nat) (w : Word) (h : Sane p s) : Sane p ((ckStage s c page off w)) := by
  unfold ckStage
  simp +contextual (maxDischargeDepth := 30) only [List.any_eq_true, Bool.and_eq_true, beq_iff_eq, sane_mk, h, sane_pending, sane_mem, sane_legs,
    and_self]
@[simp] theorem ckWrite_sane (p : List Instr) (s : State) (c : ClerkIx) (page off : Nat) (w : Word) (h : Sane p s) : Sane p ((ckWrite s c page off w)) := by
  unfold ckWrite
  simp +contextual (maxDischargeDepth := 30) only [Bool.not_eq_eq_eq_not, Bool.not_true, h, State.modCk_sane, State.orReg_sane, raise_sane,
    ckStage_sane, sane_ite]
@[simp] theorem ckSt_sane (p : List Instr) (s : State) (c : ClerkIx) (r : Fin 4) (page : Byte) (x : Bool) (off : Byte) (h : Sane p s) : Sane p ((ckSt s c r page x off)) := by
  unfold ckSt
  simp +contextual (maxDischargeDepth := 30) only [Fin.getElem_fin, BitVec.truncate_eq_setWidth, h, ckWrite_sane, State.modCk_sane]
@[simp] theorem ckAdd_sane (p : List Instr) (s : State) (c : ClerkIx) (d : Fin 4) (o : CkOp) (h : Sane p s) : Sane p ((ckAdd s c d o)) := by
  unfold ckAdd
  simp +contextual (maxDischargeDepth := 30) only [Fin.getElem_fin, h, State.modCk_sane]
@[simp] theorem ckSub_sane (p : List Instr) (s : State) (c : ClerkIx) (d : Fin 4) (o : CkOp) (h : Sane p s) : Sane p ((ckSub s c d o)) := by
  unfold ckSub
  simp +contextual (maxDischargeDepth := 30) only [Fin.getElem_fin, h, State.modCk_sane]
@[simp] theorem ckAnd_sane (p : List Instr) (s : State) (c : ClerkIx) (d : Fin 4) (o : CkOp) (h : Sane p s) : Sane p ((ckAnd s c d o)) := by
  unfold ckAnd
  simp +contextual (maxDischargeDepth := 30) only [Fin.getElem_fin, h, State.modCk_sane]
@[simp] theorem ckOr_sane (p : List Instr) (s : State) (c : ClerkIx) (d : Fin 4) (o : CkOp) (h : Sane p s) : Sane p ((ckOr s c d o)) := by
  unfold ckOr
  simp +contextual (maxDischargeDepth := 30) only [Fin.getElem_fin, h, State.modCk_sane]
@[simp] theorem ckSh_sane (p : List Instr) (s : State) (c : ClerkIx) (a : Bool) (d : Fin 4) (o : CkOp) (h : Sane p s) : Sane p ((ckSh s c a d o)) := by
  unfold ckSh
  simp +contextual (maxDischargeDepth := 30) only [Fin.getElem_fin, BitVec.truncate_eq_setWidth, BitVec.toInt_setWidth, Nat.reducePow, h,
    State.modCk_sane]
@[simp] theorem ckCmp_sane (p : List Instr) (s : State) (c : ClerkIx) (d : Fin 4) (o : CkOp) (h : Sane p s) : Sane p ((ckCmp s c d o)) := by
  unfold ckCmp
  simp +contextual (maxDischargeDepth := 30) only [Fin.getElem_fin, h, State.modCk_sane]
@[simp] theorem ckBr_sane (p : List Instr) (s : State) (c : ClerkIx) (k : Fin 8) (target : Nat) (h : Sane p s) : Sane p ((ckBr s c k target)) := by
  unfold ckBr
  simp +contextual (maxDischargeDepth := 30) only [h, State.modCk_sane]
@[simp] theorem ckWait_sane (p : List Instr) (s : State) (c : ClerkIx) (o : CkOp) (h : Sane p s) : Sane p ((ckWait s c o)) := by
  unfold ckWait
  simp +contextual (maxDischargeDepth := 30) only [h, State.modCk_sane]
@[simp] theorem ckWaitc_sane (p : List Instr) (s : State) (c : ClerkIx) (k : WaitCond) (h : Sane p s) : Sane p ((ckWaitc s c k)) := by
  unfold ckWaitc
  simp +contextual (maxDischargeDepth := 30) only [Bool.or_eq_true, h, State.modCk_sane]
@[simp] theorem ckEvt_sane (p : List Instr) (s : State) (c : ClerkIx) (r : Fin 4) (l : Bool) (code : Word) (h : Sane p s) : Sane p ((ckEvt s c r l code)) := by
  unfold ckEvt
  simp +contextual (maxDischargeDepth := 30) only [Fin.getElem_fin, BitVec.truncate_eq_setWidth, BitVec.ofNat_eq_ofNat, h, State.modCk_sane]
@[simp] theorem ckTstart_sane (p : List Instr) (s : State) (c : ClerkIx) (t : Fin 4) (unit : Fin 3) (o : CkOp) (h : Sane p s) : Sane p ((ckTstart s c t unit o)) := by
  unfold ckTstart
  simp +contextual (maxDischargeDepth := 30) only [Fin.getElem_fin, h, State.modCk_sane]
@[simp] theorem ckTchk_sane (p : List Instr) (s : State) (c : ClerkIx) (t : Fin 4) (h : Sane p s) : Sane p ((ckTchk s c t)) := by
  unfold ckTchk
  simp +contextual (maxDischargeDepth := 30) only [Fin.getElem_fin, h, State.modCk_sane]
@[simp] theorem ckRequest_sane (p : List Instr) (s : State) (c : ClerkIx) (r : PbReq) (h : Sane p s) : Sane p ((ckRequest s c r)) := by
  unfold ckRequest
  simp +contextual (maxDischargeDepth := 30) only [h, State.modCk_sane]
@[simp] theorem ckPbr_sane (p : List Instr) (s : State) (c : ClerkIx) (w : Bool) (a : BitVec 7) (cmd : Byte) (h : Sane p s) : Sane p ((ckPbr s c w a cmd)) := by
  unfold ckPbr
  simp +contextual (maxDischargeDepth := 30) only [BitVec.ofNat_eq_ofNat, h, ckRequest_sane]
@[simp] theorem ckPbw_sane (p : List Instr) (s : State) (c : ClerkIx) (w : Bool) (r : Fin 4) (a : BitVec 7) (cmd : Byte) (h : Sane p s) : Sane p ((ckPbw s c w r a cmd)) := by
  unfold ckPbw
  simp +contextual (maxDischargeDepth := 30) only [Fin.getElem_fin, BitVec.truncate_eq_setWidth, h, ckRequest_sane]
@[simp] theorem ckHalt_sane (p : List Instr) (s : State) (c : ClerkIx) (h : Sane p s) : Sane p ((ckHalt s c)) := by
  unfold ckHalt
  simp +contextual (maxDischargeDepth := 30) only [h, State.modCk_sane, State.evt_sane]
@[simp] theorem ckFault_sane (p : List Instr) (s : State) (c : ClerkIx) (cause : Nat) (h : Sane p s) : Sane p ((ckFault s c cause)) := by
  unfold ckFault
  simp +contextual (maxDischargeDepth := 30) only [Fin.getElem_fin, State.modCk_pending, State.modCk_cp, State.modCk_x, State.modCk_pub,
    State.modCk_views, State.modCk_ck, State.modCk_free, sane_mk, h, sane_pending, sane_mem, sane_legs, and_self]
@[simp] theorem ckIllegal_sane (p : List Instr) (s : State) (c : ClerkIx) (cause : Nat) (h : Sane p s) : Sane p ((ckIllegal s c cause)) := by
  unfold ckIllegal
  simp +contextual (maxDischargeDepth := 30) only [State.modCk_pending, State.modCk_cp, Fin.getElem_fin, Bool.and_eq_true, beq_iff_eq,
    State.modCk_x, State.modCk_pub, State.modCk_views, State.modCk_ck, State.modCk_free, sane_mk, h, ckFault_sane, sane_pending, sane_mem,
    sane_legs, and_self, raise_sane]
@[simp] theorem ckRun_sane (p : List Instr) (s : State) (c : ClerkIx) (i : CkInstr) (h : Sane p s) : Sane p ((ckRun s c i)) := by
  unfold ckRun
  (repeat' split) <;> simp +contextual (maxDischargeDepth := 30) only [ckNop_sane, h, ckLd_sane, ckLdi_sane, ckSt_sane, ckAdd_sane, ckSub_sane,
                        ckAnd_sane, ckOr_sane, ckSh_sane, ckCmp_sane, ckBr_sane, ckWait_sane, ckWaitc_sane, ckEvt_sane, ckTstart_sane, ckTchk_sane,
                        ckPbr_sane, ckPbw_sane, ckHalt_sane, ckIllegal_sane, *]
@[simp] theorem ckStep_sane (p : List Instr) (s : State) (c : ClerkIx) (h : Sane p s) : Sane p ((ckStep s c)) := by
  unfold ckStep
  simp +contextual (maxDischargeDepth := 30) only [Fin.getElem_fin, h, ckIllegal_sane, ckRun_sane, sane_ite]
@[simp] theorem ckRetest_sane (p : List Instr) (s : State) (c : ClerkIx) (h : Sane p s) : Sane p ((ckRetest s c)) := by
  unfold ckRetest
  simp +contextual (maxDischargeDepth := 30) only [Fin.getElem_fin, h, ckWaitc_sane]
@[simp] theorem ckSlot_sane (p : List Instr) (n : Nat) (s : State) (c : ClerkIx) (h : Sane p s) : Sane p (ckSlot n s c) := by
  induction n generalizing s with
  | zero => exact h
  | succ n ih =>
    unfold ckSlot
    dsimp only
    (repeat' split) <;> simp [h, ih]
@[simp] theorem ckRunBit_sane (p : List Instr) (s : State) (c : ClerkIx) (h : Sane p s) : Sane p ((ckRunBit s c)) := by
  unfold ckRunBit
  simp +contextual (maxDischargeDepth := 30) only [beq_iff_eq, Bool.and_eq_true, bne_iff_ne, ne_eq, h, ckStart_sane, sane_ite, ckStop_sane]
@[simp] theorem ckBoundary_sane (p : List Instr) (s : State) (c : ClerkIx) (h : Sane p s) : Sane p ((ckBoundary s c)) := by
  unfold ckBoundary
  simp +contextual (maxDischargeDepth := 30) only [Bool.and_eq_true, decide_eq_true_eq, beq_iff_eq, Bool.not_eq_eq_eq_not, Bool.not_true, h,
    ckRunBit_sane, State.modCk_sane, sane_ite]
@[simp] theorem eqPut_sane (p : List Instr) (s : State) (r : EvtRec) (h : Sane p s) : Sane p ((eqPut s r)) := by
  unfold eqPut
  simp +contextual (maxDischargeDepth := 30) only [sane_mk, h, ledgerPut_sane, sane_ite, sane_pending, sane_mem, sane_legs, and_self, State.evt_sane]
@[simp] theorem eqEnter_sane (p : List Instr) (s : State) (h : Sane p s) : Sane p ((eqEnter s)) := by
  unfold eqEnter
  simp +contextual (maxDischargeDepth := 30) only [Fin.getElem_fin, h, State.modCk_sane, implies_true, forAll_sane, eqPut_sane, foldl_sane]
@[simp] theorem eqPop_sane (p : List Instr) (s : State) (h : Sane p s) : Sane p ((eqPop s)) := by
  unfold eqPop
  simp +contextual (maxDischargeDepth := 30) only [List.drop_one, sane_mk, h, sane_pending, sane_mem, sane_legs, and_self]
@[simp] theorem pbEnter_sane (p : List Instr) (s : State) (r : PbReq) (h : Sane p s) : Sane p ((pbEnter s r)) := by
  unfold pbEnter
  (repeat' split) <;> simp +contextual (maxDischargeDepth := 30) only [List.isEmpty_iff, sane_mk, sane_pending, sane_mem, sane_legs, and_self,
                        State.modCk_sane, h, *]
@[simp] theorem pbRequests_sane (p : List Instr) (s : State) (h : Sane p s) : Sane p ((pbRequests s)) := by
  unfold pbRequests
  refine forAll_sane p _ _ h fun s c hs => ?_
  split
  · split
    · exact hs
    · exact pbEnter_sane _ _ _ (State.modCk_sane _ _ _ _ hs)
  · exact hs
@[simp] theorem pbResult_sane (p : List Instr) (s : State) (x : PbReq × Nat × Word) (h : Sane p s) : Sane p ((pbResult s x)) := by
  unfold pbResult
  (repeat' split) <;> simp +contextual (maxDischargeDepth := 30) only [Bool.and_eq_true, Bool.not_eq_eq_eq_not, Bool.not_true, beq_iff_eq,
                        State.modCk_sane, State.evt_sane, h, sane_mk, sane_pending, sane_mem, sane_legs, and_self, BitVec.ofNat_eq_ofNat, *]
@[simp] theorem pbResults_sane (p : List Instr) (s : State) (h : Sane p s) : Sane p ((pbResults s)) := by
  unfold pbResults
  simp +contextual (maxDischargeDepth := 30) only [sane_mk, h, sane_pending, sane_mem, sane_legs, and_self, pbResult_sane, implies_true, foldl_sane]

/-! ### Factory -/

@[simp] theorem State.modFact_sane (p : List Instr) (s : State) (c : ClerkIx) (f : FactSt → FactSt) (h : Sane p s) : Sane p ((State.modFact s c f)) := by
  unfold State.modFact
  simp +contextual (maxDischargeDepth := 30) only [h, modCk_sane]
@[simp] theorem listPut_sane (p : List Instr) (s : State) (c : ClerkIx) (page off : Nat) (w : Word) (h : Sane p s) : Sane p ((listPut s c page off w)) := by
  unfold listPut
  simp +contextual (maxDischargeDepth := 30) only [beq_iff_eq, h, ckWrite_sane, sane_ite]
@[simp] theorem limitPut_sane (p : List Instr) (s v : State) (c : ClerkIx) (old new : Option Src) (off : Nat) (h : Sane p s) : Sane p ((limitPut s v c old new off)) := by
  unfold limitPut
  (repeat' split) <;> simp +contextual (maxDischargeDepth := 30) only [ckWrite_sane, h, *]
@[simp] theorem startIntakes_sane (p : List Instr) (s v : State) (c : ClerkIx) (h : Sane p s) : Sane p ((startIntakes s v c)) := by
  unfold startIntakes
  simp +contextual (maxDischargeDepth := 30) only [Fin.getElem_fin, Bool.and_eq_true, beq_iff_eq, decide_eq_true_eq, Bool.not_eq_eq_eq_not,
    Bool.not_true, h, State.modFact_sane, listPut_sane, sane_ite, implies_true, forAll_sane]
@[simp] theorem sourceWrites_sane (p : List Instr) (s v : State) (c : ClerkIx) (x y a b : NodePass) (h : Sane p s) : Sane p ((sourceWrites s v c x y a b)) := by
  unfold sourceWrites
  extract_lets s1 s2 s3 half s4
  have h1 : Sane p s1 := sane_ite _ _ _ _ (ckWrite_sane _ _ _ _ _ _ h) h
  have h2 : Sane p s2 := sane_ite _ _ _ _ (limitPut_sane _ _ _ _ _ _ _ (limitPut_sane _ _ _ _ _ _ _ h1)) h1
  have h4 : Sane p s4 := ckWrite_sane _ _ _ _ _ _ (State.modFact_sane _ _ _ _ h2)
  split
  · exact h4
  · exact startIntakes_sane _ _ _ _ h4
@[simp] theorem sourcePass_sane (p : List Instr) (s : State) (c : ClerkIx) (h : Sane p s) : Sane p ((sourcePass s c)) := by
  unfold sourcePass
  simp +contextual (maxDischargeDepth := 30) only [Fin.getElem_fin, Fin.isValue, Fin.val_zero, Fin.val_one, ↓reduceIte, Bool.false_eq_true, h, State.modFact_sane, sourceWrites_sane]
@[simp] theorem chargeQual_sane (q : List Instr) (s v : State) (c : ClerkIx) (p : BPort) (t : Option Train) (h : Sane q s) : Sane q ((chargeQual s v c p t)) := by
  unfold chargeQual
  (repeat' split) <;> simp +contextual (maxDischargeDepth := 30) only [BitVec.ofNat_eq_ofNat, listPut_sane, h, *]
@[simp] theorem chargeOff_sane (q : List Instr) (s v : State) (c : ClerkIx) (p : BPort) (t : Option Train) (h : Sane q s) : Sane q ((chargeOff s v c p t)) := by
  unfold chargeOff
  (repeat' split) <;> simp +contextual (maxDischargeDepth := 30) only [listPut_sane, h, *]
@[simp] theorem cellarSetup_sane (q : List Instr) (s v : State) (c : ClerkIx) (p : BPort) (t : Train) (h : Sane q s) : Sane q ((cellarSetup s v c p t)) := by
  unfold cellarSetup
  simp +contextual (maxDischargeDepth := 30) only [h, listPut_sane, State.modFact_sane]
@[simp] theorem cellarEntry_sane (q : List Instr) (s v : State) (c : ClerkIx) (p : BPort) (t : Train) (h : Sane q s) : Sane q ((cellarEntry s v c p t)) := by
  unfold cellarEntry
  simp +contextual (maxDischargeDepth := 30) only [BitVec.ofNat_eq_ofNat, h, cellarSetup_sane, listPut_sane]
@[simp] theorem peakSetup_sane (p : List Instr) (s v : State) (c : ClerkIx) (t : Train) (h : Sane p s) : Sane p ((peakSetup s v c t)) := by
  unfold peakSetup
  simp +contextual (maxDischargeDepth := 30) only [Fin.getElem_fin, h, listPut_sane]
@[simp] theorem closedSetup_sane (q : List Instr) (s v : State) (c : ClerkIx) (p : BPort) (t : Train) (h : Sane q s) : Sane q ((closedSetup s v c p t)) := by
  unfold closedSetup
  simp +contextual (maxDischargeDepth := 30) only [h, peakSetup_sane, listPut_sane, State.modFact_sane]
@[simp] theorem phaseSetup_sane (q : List Instr) (s v : State) (c : ClerkIx) (p : BPort) (t : Train) (ph : Nat) (h : Sane q s) : Sane q ((phaseSetup s v c p t ph)) := by
  unfold phaseSetup
  ((try dsimp only); (repeat' split) <;> (simp +contextual (maxDischargeDepth := 30) only [cellarEntry_sane, h, cellarSetup_sane, closedSetup_sane, peakSetup_sane, *]; done))
@[simp] theorem chargeTo_sane (q : List Instr) (s v : State) (c : ClerkIx) (p : BPort) (t : Train) (old new : Nat) (h : Sane q s) : Sane q ((chargeTo s v c p t old new)) := by
  unfold chargeTo
  simp +contextual (maxDischargeDepth := 30) only [beq_iff_eq, Bool.and_eq_true, Bool.or_eq_true, bne_iff_ne, ne_eq, h, cellarEntry_sane, closedSetup_sane, sane_ite, State.modFact_sane, listPut_sane]
@[simp] theorem chargeQualPass_sane (q : List Instr) (s v : State) (c : ClerkIx) (p : BPort) (t : Option Train) (h : Sane q s) : Sane q ((chargeQualPass s v c p t)) := by
  unfold chargeQualPass
  (repeat' split) <;> simp +contextual (maxDischargeDepth := 30) only [BitVec.ofNat_eq_ofNat, listPut_sane, State.modFact_sane, chargeOff_sane, h,
                        Fin.getElem_fin, Bool.not_eq_eq_eq_not, Bool.not_true, sane_ite, ckWrite_sane, chargeTo_sane, *]
@[simp] theorem cellarRule_sane (q : List Instr) (s v : State) (c : ClerkIx) (p : BPort) (h : Sane q s) : Sane q ((cellarRule s v c p)) := by
  unfold cellarRule
  simp +contextual (maxDischargeDepth := 30) only [Fin.getElem_fin, h, listPut_sane]
@[simp] theorem termCount_sane (q : List Instr) (s v : State) (c : ClerkIx) (p : BPort) (t : Train) (h : Sane q s) : Sane q ((termCount s v c p t)) := by
  unfold termCount
  simp +contextual (maxDischargeDepth := 30) only [Fin.getElem_fin, Bool.and_eq_true, Bool.not_eq_eq_eq_not, Bool.not_true, h, State.modFact_sane, sane_ite]
@[simp] theorem probePass_sane (q : List Instr) (s v : State) (c : ClerkIx) (p : BPort) (ph : Nat) (h : Sane q s) : Sane q ((probePass s v c p ph)) := by
  unfold probePass
  (repeat' split) <;> simp +contextual (maxDischargeDepth := 30) only [Fin.getElem_fin, Bool.and_eq_true, bne_iff_ne, ne_eq, Bool.not_eq_eq_eq_not,
                        Bool.not_true, State.modFact_sane, sane_ite, h, listPut_sane, probeDiscard_sane, Bool.not_and, Bool.or_eq_true,
                        bne_eq_false_iff_eq, *]
@[simp] theorem probeStart_sane (q : List Instr) (s : State) (c : ClerkIx) (p : BPort) (h : Sane q s) : Sane q ((probeStart s c p)) := by
  unfold probeStart
  simp +contextual (maxDischargeDepth := 30) only [h, ckWrite_sane, State.modFact_sane]
@[simp] theorem phaseSeen_sane (p : List Instr) (s : State) (c : ClerkIx) (ph : Nat) (h : Sane p s) : Sane p ((phaseSeen s c ph)) := by
  unfold phaseSeen
  simp +contextual (maxDischargeDepth := 30) only [beq_iff_eq, h, State.modFact_sane]
@[simp] theorem chargeRules_sane (q : List Instr) (s v : State) (c : ClerkIx) (p : BPort) (t : Train) (ph : Nat) (h : Sane q s) : Sane q ((chargeRules s v c p t ph)) := by
  unfold chargeRules
  have h1 : Sane q (if (ph == 2 && !(s.cp.clerks[c]).fact.entry) = true then cellarRule s v c p else s) := by split <;> simp [h]
  dsimp only
  generalize (if (ph == 2 && !(s.cp.clerks[c]).fact.entry) = true then cellarRule s v c p else s) = s1 at h1
  have h2 : Sane q (if (ph == 5) = true then termCount s1 v c p t else s1) := by split <;> simp [h1]
  generalize (if (ph == 5) = true then termCount s1 v c p t else s1) = s2 at h2
  (repeat' split) <;> simp [h2]
@[simp] theorem chargeOn_sane (q : List Instr) (s v : State) (c : ClerkIx) (p : BPort) (t : Train) (h : Sane q s) : Sane q ((chargeOn s v c p t)) := by
  unfold chargeOn
  simp +contextual (maxDischargeDepth := 30) only [Fin.getElem_fin, h, listPut_sane, sane_ite]
@[simp] theorem chargeRunPass_sane (q : List Instr) (s v : State) (c : ClerkIx) (p : BPort) (t : Train) (ph : Nat) (h : Sane q s) : Sane q ((chargeRunPass s v c p t ph)) := by
  unfold chargeRunPass
  simp +contextual (maxDischargeDepth := 30) only [Fin.getElem_fin, Bool.and_eq_true, decide_eq_true_eq, Bool.or_eq_true, Bool.not_eq_eq_eq_not, Bool.not_true, bne_iff_ne, ne_eq, Bool.not_or, beq_iff_eq, decide_eq_false_iff_not, h, chargeQual_sane, chargeOn_sane, State.modFact_sane, chargeTo_sane, chargeRules_sane, sane_ite]
@[simp] theorem chargePass_sane (q : List Instr) (s : State) (c : ClerkIx) (p : BPort) (h : Sane q s) : Sane q ((chargePass s c p)) := by
  unfold chargePass
  ((try dsimp only); (repeat' split) <;> (simp +contextual (maxDischargeDepth := 30) only [Fin.getElem_fin, phaseSeen_sane, probePass_sane, phaseSetup_sane, chargeOff_sane, State.modFact_sane, listPut_sane, *, chargeQualPass_sane, chargeRunPass_sane, h, chargeQual_sane]; done))
@[simp] theorem listAppend_sane (p : List Instr) (s : State) (c : ClerkIx) (kind sub : Nat) (pay : List Nat) (h : Sane p s) : Sane p ((listAppend s c kind sub pay)) := by
  unfold listAppend
  simp +contextual (maxDischargeDepth := 30) only [BitVec.ofNat_eq_ofNat, h, ckWrite_sane, implies_true, foldl_sane]
@[simp] theorem ledgerPass_sane (p : List Instr) (s : State) (c : ClerkIx) (h : Sane p s) : Sane p ((ledgerPass s c)) := by
  unfold ledgerPass
  ((try dsimp only); (repeat' split) <;> (simp +contextual (maxDischargeDepth := 30) only [Fin.getElem_fin, BitVec.ofNat_eq_ofNat, State.modFact_sane, ckWrite_sane, listAppend_sane, h, *]; done))
@[simp] theorem housePass_sane (p : List Instr) (s : State) (c : ClerkIx) (h : Sane p s) : Sane p ((housePass s c)) := by
  unfold housePass
  ((try dsimp only); (repeat' split) <;> (simp +contextual (maxDischargeDepth := 30) only [BitVec.ofNat_eq_ofNat, State.modFact_sane, ckWrite_sane,
                                            State.modCk_sane, h, *]; done))
@[simp] theorem romValues_sane (p : List Instr) (s : State) (c : ClerkIx) (h : Sane p s) : Sane p ((romValues s c)) := by
  unfold romValues
  simp +contextual (maxDischargeDepth := 30) only [Nat.testBit_zero, State.modCk_pending, State.modCk_cp, Fin.getElem_fin, State.modCk_x,
    State.modCk_pub, State.modCk_views, State.modCk_ck, State.modCk_free, sane_mk, h, sane_pending, sane_mem, sane_legs, and_self]
@[simp] theorem factorySlot_sane (p : List Instr) (s : State) (c : ClerkIx) (pass : Bool) (h : Sane p s) : Sane p ((factorySlot s c pass)) := by
  unfold factorySlot
  ((try dsimp only); (repeat' split) <;> (simp +contextual (maxDischargeDepth := 30) only [h, ckHalt_sane, sourcePass_sane, State.modFact_sane, romValues_sane, State.modCk_sane, ledgerPass_sane, housePass_sane, probeStart_sane, chargePass_sane, *]; done))
@[simp] theorem slotUpTo_sane (p : List Instr) (s : State) (c : ClerkIx) (cyc : Nat) (h : Sane p s) : Sane p ((slotUpTo s c cyc)) := by
  unfold slotUpTo
  simp +contextual (maxDischargeDepth := 30) only [h, ckSlot_sane, sane_ite]

/-! ### Ports -/

@[simp] theorem hostRead_sane (q : List Instr) (s : State) (p : Port) (staged : Bool) (page off : Nat) (e : StoreEcc) (h : Sane q s) : Sane q ((hostRead s p staged page off e).1) := by
  unfold hostRead
  (repeat' split) <;> simp +contextual (maxDischargeDepth := 30) only [storeRead_sane, h, tickLatch_sane, faultLatch_sane, *]
@[simp] theorem readWords_sane (q : List Instr) (s : State) (p : Port) (staged ai : Bool) (page off k0 n : Nat) (e : List StoreEcc) (h : Sane q s) : Sane q ((readWords s p staged ai page off k0 n e).1) := by
  unfold readWords
  suffices hl : ∀ (l : List Nat) (r : State × List Word), Sane q r.1 → Sane q (l.foldl (fun (r : State × List Word) k =>
      ((hostRead r.1 p staged page (burstOff ai off (k0 + k)) (e.getD k .good)).1,
        r.2 ++ [(hostRead r.1 p staged page (burstOff ai off (k0 + k)) (e.getD k .good)).2])) r).1 from hl _ _ h
  intro l
  induction l with
  | nil => intro r hr; exact hr
  | cons a t ih => intro r hr; exact ih _ (by simp [hr])
@[simp] theorem burstWrite_sane (q : List Instr) (s : State) (p : Port) (page off : Nat) (v : Word) (cyc : Nat) (h : Sane q s) : Sane q ((burstWrite s p page off v cyc)) := by
  unfold burstWrite
  simp +contextual (maxDischargeDepth := 30) only [h, hostWrite_sane, sane_ite]
@[simp] theorem configWrites_sane (p : List Instr) (s : State) (l : List (Nat × Nat × Word)) (h : Sane p s) : Sane p ((configWrites s l)) := by
  unfold configWrites
  simp +contextual (maxDischargeDepth := 30) only [h, portConfigWrite_sane, sane_ite, implies_true, foldl_sane]
@[simp] theorem portCheck_sane (p : List Instr) (s : State) (u : FenceUnit) (b : Nat) (f : CheckFault) (h : Sane p s) : Sane p ((portCheck s u b f)) := by
  unfold portCheck
  ((try dsimp only); (repeat' split) <;> (simp +contextual (maxDischargeDepth := 30) only [State.modCol_sane, raise_sane, h, trip_sane, *]; done))
@[simp] theorem State.modSpi_sane (p : List Instr) (s : State) (f : SpiSt → SpiSt) (h : Sane p s) : Sane p ((State.modSpi s f)) := by
  unfold State.modSpi
  simp +contextual (maxDischargeDepth := 30) only [sane_mk, h, sane_pending, sane_mem, sane_legs, and_self]
@[simp] theorem spiIgnore_sane (p : List Instr) (s : State) (crcBad resBad : Bool) (h : Sane p s) : Sane p ((spiIgnore s crcBad resBad)) := by
  unfold spiIgnore
  simp +contextual (maxDischargeDepth := 30) only [↓reduceIte, Bool.false_eq_true, h, State.modSpi_sane, raise_sane, sane_ite]
@[simp] theorem spiEnd_sane (p : List Instr) (s : State) (part crcBad : Bool) (h : Sane p s) : Sane p ((spiEnd s part crcBad)) := by
  unfold spiEnd
  simp +contextual (maxDischargeDepth := 30) only [h, State.modSpi_sane]
@[simp] theorem spiHead_sane (p : List Instr) (s : State) (cmd ad : Word) (crc : Byte) (h : Sane p s) : Sane p ((spiHead s cmd ad crc)) := by
  unfold spiHead
  simp +contextual (maxDischargeDepth := 30) only [Bool.or_eq_true, h, State.modSpi_sane, spiIgnore_sane, sane_ite]
@[simp] theorem spiClose_sane (p : List Instr) (s : State) (part : Bool) (fr : SpiFrame) (h : Sane p s) : Sane p ((spiClose s part fr)) := by
  unfold spiClose
  simp +contextual (maxDischargeDepth := 30) only [h, spiEnd_sane, configWrites_sane, sane_ite, State.modSpi_sane]
@[simp] theorem spiShort_sane (p : List Instr) (s : State) (part : Bool) (h : Sane p s) : Sane p ((spiShort s part)) := by
  unfold spiShort
  ((try dsimp only); (repeat' split) <;> (simp +contextual (maxDischargeDepth := 30) only [State.modSpi_sane, h, spiEnd_sane, *]; done))
@[simp] theorem spiFrame_sane (p : List Instr) (read : Bool) (cmd ad : Word) (crc : Byte) (cut : SpiCut) (f : CheckFault) (data : State → SpiFrame → State × SpiFrame) (s : State) (h : Sane p s) (hd : ∀ t fr, Sane p t → Sane p (data t fr).1) : Sane p ((spiFrame read cmd ad crc cut f data s)) := by
  unfold spiFrame
  extract_lets s1 s2 s3
  have h1 : Sane p s1 := touch_sane p _ _ h
  clear_value s1
  have h2 : Sane p s2 := by
    simp only [s2]
    split
    · exact h1
    · exact portCheck_sane p _ _ _ _ h1
  clear_value s2
  have h3 : Sane p s3 := by
    simp only [s3]
    split
    · exact spiHead_sane p _ _ _ _ h2
    · exact h2
  clear_value s3
  split
  · exact State.modSpi_sane p _ _ h1
  · split
    · exact spiShort_sane p _ _ h2
    · split
      · exact h3
      · next fr _ =>
        have hr : Sane p (if (fr.read == read) = true then data s3 fr else (s3, fr)).1 := by
          split
          · exact hd _ fr h3
          · exact h3
        dsimp only
        split
        · exact spiClose_sane p _ _ _ hr
        · exact State.modSpi_sane p _ _ hr
@[simp] theorem spiReadData_sane (p : List Instr) (n : Nat) (e : List StoreEcc) (s : State) (fr : SpiFrame) (h : Sane p s) : Sane p ((spiReadData n e s fr).1) := by
  unfold spiReadData
  ((try dsimp only); (repeat' split) <;> (simp +contextual (maxDischargeDepth := 30) only [readWords_sane, State.modSpi_sane, h, BitVec.ofNat_eq_ofNat, *]; done))
@[simp] theorem spiWriteData_sane (p : List Instr) (l : List SpiWord) (s : State) (fr : SpiFrame) (h : Sane p s) : Sane p ((spiWriteData l s fr).1) := by
  unfold spiWriteData
  ((try dsimp only); (repeat' split) <;> (simp +contextual (maxDischargeDepth := 30) only [h, burstWrite_sane, implies_true, foldl_sane, State.modSpi_sane, raise_sane, *]; done))
@[simp] theorem spiCntClr_sane (p : List Instr) (s : State) (h : Sane p s) : Sane p ((spiCntClr s)) := by
  unfold spiCntClr
  simp +contextual (maxDischargeDepth := 30) only [h, State.modSpi_sane]
@[simp] theorem State.modTwm_sane (p : List Instr) (s : State) (f : TwmSt → TwmSt) (h : Sane p s) : Sane p ((State.modTwm s f)) := by
  unfold State.modTwm
  simp +contextual (maxDischargeDepth := 30) only [sane_mk, h, sane_pending, sane_mem, sane_legs, and_self]
@[simp] theorem twmOver_sane (p : List Instr) (s : State) (h : Sane p s) : Sane p ((twmOver s)) := by
  unfold twmOver
  simp +contextual (maxDischargeDepth := 30) only [h, State.modTwm_sane]
@[simp] theorem twmAbort_sane (p : List Instr) (s : State) (f : TwmSt → TwmSt) (h : Sane p s) : Sane p ((twmAbort s f)) := by
  unfold twmAbort
  simp +contextual (maxDischargeDepth := 30) only [h, State.modTwm_sane, twmOver_sane]
@[simp] theorem twmPecError_sane (p : List Instr) (s : State) (h : Sane p s) : Sane p ((twmPecError s)) := by
  unfold twmPecError
  simp +contextual (maxDischargeDepth := 30) only [h, twmAbort_sane, raise_sane]
@[simp] theorem twmStart_sane (p : List Instr) (begins : Bool) (s : State) (f : CheckFault) (h : Sane p s) : Sane p ((twmStart begins s f).1) := by
  unfold twmStart
  ((try dsimp only); (repeat' split) <;> (simp +contextual (maxDischargeDepth := 30) only [wakeBy_sane, touch_sane, State.modTwm_sane, portCheck_sane, h, *]; done))
@[simp] theorem twmStep_sane (p : List Instr) (s : State) (n : Nat) (h : Sane p s) : Sane p ((twmStep s n)) := by
  unfold twmStep
  simp +contextual (maxDischargeDepth := 30) only [h, State.modTwm_sane]
@[simp] theorem twmSend_sane (p : List Instr) (s : State) (e : StoreEcc) (h : Sane p s) : Sane p ((twmSend s e)) := by
  unfold twmSend
  simp +contextual (maxDischargeDepth := 30) only [Bool.and_eq_true, decide_eq_true_eq, beq_iff_eq, BitVec.ofNat_eq_ofNat, List.append_assoc, List.cons_append, List.nil_append, h, State.modTwm_sane, hostRead_sane, sane_ite]
@[simp] theorem twmSendAll_sane (p : List Instr) (s : State) (n : Nat) (ecc : List StoreEcc) (h : Sane p s) : Sane p ((twmSendAll s n ecc)) := by
  unfold twmSendAll
  simp +contextual (maxDischargeDepth := 30) only [List.getD_eq_getElem?_getD, h, twmSend_sane, implies_true, foldl_sane]
@[simp] theorem twmCntClr_sane (p : List Instr) (s : State) (h : Sane p s) : Sane p ((twmCntClr s)) := by
  unfold twmCntClr
  simp +contextual (maxDischargeDepth := 30) only [h, State.modTwm_sane]
@[simp] theorem pinsBoundary_sane (p : List Instr) (s : State) (h : Sane p s) : Sane p ((pinsBoundary s)) := by
  unfold pinsBoundary
  simp +contextual (maxDischargeDepth := 30) only [Bool.not_or, Bool.or_eq_true, List.isEmpty_iff, sane_mk, h, sane_pending, sane_mem, sane_legs,
    and_self]
@[simp] theorem State.modTwp_sane (p : List Instr) (s : State) (f : TwpSt → TwpSt) (h : Sane p s) : Sane p ((State.modTwp s f)) := by
  unfold State.modTwp
  simp +contextual (maxDischargeDepth := 30) only [sane_mk, h, sane_pending, sane_mem, sane_legs, and_self]
@[simp] theorem pbServe_sane (p : List Instr) (n : Nat) (s : State) (h : Sane p s) : Sane p (pbServe n s) := by
  induction n generalizing s with
  | zero => exact h
  | succ n ih =>
    unfold pbServe
    (repeat' split) <;> simp [h, ih]
@[simp] theorem pbGo_sane (p : List Instr) (s : State) (h : Sane p s) : Sane p ((pbGo s)) := by
  unfold pbGo
  simp +contextual (maxDischargeDepth := 30) only [h, pbEnter_sane, sane_ite]
@[simp] theorem twpCut_sane (p : List Instr) (s : State) (h : Sane p s) : Sane p ((twpCut s)) := by
  unfold twpCut
  simp +contextual (maxDischargeDepth := 30) only [Bool.or_eq_true, Bool.not_eq_eq_eq_not, Bool.not_true, BitVec.ofNat_eq_ofNat, h, pbFinish_sane, State.modTwp_sane, sane_ite]
@[simp] theorem pbRetry_sane (p : List Instr) (s : State) (cause : Nat) (h : Sane p s) : Sane p ((pbRetry s cause)) := by
  unfold pbRetry
  simp +contextual (maxDischargeDepth := 30) only [BitVec.ofNat_eq_ofNat, h, State.modTwp_sane, pbFinish_sane, sane_ite]
@[simp] theorem pbReadEnd_sane (p : List Instr) (s : State) (r : PbReq) (rx : List Byte) (h : Sane p s) : Sane p ((pbReadEnd s r rx)) := by
  unfold pbReadEnd
  simp +contextual (maxDischargeDepth := 30) only [BitVec.ofNat_eq_ofNat, List.getD_eq_getElem?_getD, List.length_map, List.length_range, Bool.or_eq_true, Bool.not_eq_eq_eq_not, Bool.not_true, beq_iff_eq, List.getElem?_map, h, pbFinish_sane, sane_ite]
@[simp] theorem peerSend_sane (p : List Instr) (s : State) (ix : Nat) (h : Sane p s) : Sane p ((peerSend s ix)) := by
  unfold peerSend
  simp +contextual (maxDischargeDepth := 30) only [State.modTwp_pending, State.modTwp_cp, State.modTwp_x, State.modTwp_pub, State.modTwp_views, State.modTwp_ck, beq_iff_eq, sane_mk, h, sane_pending, sane_mem, sane_legs, and_self, State.modTwp_sane, sane_ite]

/-! ### Power -/

@[simp] theorem devRefuse_sane (p : List Instr) (s : State) (cause : Nat) (h : Sane p s) : Sane p ((devRefuse s cause)) := by
  unfold devRefuse
  simp +contextual (maxDischargeDepth := 30) only [h, State.modPwr_sane]
@[simp] theorem devAccept_sane (p : List Instr) (s : State) (h : Sane p s) : Sane p ((devAccept s)) := by
  unfold devAccept
  simp +contextual (maxDischargeDepth := 30) only [h, State.modPwr_sane]
@[simp] theorem devRun_sane (p : List Instr) (s : State) (h : Sane p s) : Sane p ((devRun s)) := by
  unfold devRun
  (repeat' split) <;> simp +contextual (maxDischargeDepth := 30) only [devRefuse_sane, h, devAccept_sane, State.modPwr_sane, enterRun_sane, *]
@[simp] theorem devHold_sane (p : List Instr) (s : State) (h : Sane p s) : Sane p ((devHold s)) := by
  unfold devHold
  simp +contextual (maxDischargeDepth := 30) only [ne_eq, ite_not, h, devAccept_sane, enterHold_sane, devRefuse_sane, sane_ite]
@[simp] theorem devSleep_sane (p : List Instr) (s : State) (h : Sane p s) : Sane p ((devSleep s)) := by
  unfold devSleep
  simp +contextual (maxDischargeDepth := 30) only [Bool.not_eq_eq_eq_not, Bool.not_true, Fin.getElem_fin, List.any_eq_true, List.mem_finRange,
    Bool.and_eq_true, bne_iff_ne, ne_eq, true_and, h, devRefuse_sane, devAccept_sane, State.modPwr_sane, sane_ite]
@[simp] theorem devReset_sane (p : List Instr) (s : State) (key : Word) (h : Sane p s) : Sane p ((devReset s key)) := by
  unfold devReset
  simp +contextual (maxDischargeDepth := 30) only [BitVec.ofNat_eq_ofNat, beq_iff_eq, h, deviceReset_sane, devRefuse_sane, sane_ite]
@[simp] theorem powerLost_sane (p : List Instr) (s : State) (h : Sane p s) : Sane p ((powerLost s)) := by
  unfold powerLost
  extract_lets s1 r x st pw off
  have h1 : Sane p s1 := cutCheck_sane _ _ (cutOff_sane _ _ h)
  clear_value s1
  have h3 : Sane p off := ⟨h1.1, h1.2.1, fun n => by simp [off, x, r, State.reset]⟩
  split
  · exact keepSticky_sane _ _ _ h3
  · exact h3
@[simp] theorem suppliesLost_sane (p : List Instr) (s : State) (h : Sane p s) : Sane p ((suppliesLost s)) := by
  unfold suppliesLost
  simp +contextual (maxDischargeDepth := 30) only [h, State.modPwr_sane, keepSticky_sane]

/-! ### Hooks -/

@[simp] theorem clearSelf_sane (p : List Instr) (s : State) (r : Nat × Nat) (h : Sane p s) : Sane p ((clearSelf s r)) := by
  unfold clearSelf
  simp +contextual (maxDischargeDepth := 30) only [beq_iff_eq, BitVec.ofNat_eq_ofNat, h, reqClear_sane, State.setReg_sane, sane_ite]
@[simp] theorem larCtrl_sane (p : List Instr) (s : State) (w : Word) (h : Sane p s) : Sane p ((larCtrl s w)) := by
  unfold larCtrl
  simp +contextual (maxDischargeDepth := 30) only [h, larderArm_sane, sane_ite, larderTrigger_sane, larderFlush_sane]
@[simp] theorem storeCmd_sane (p : List Instr) (s : State) (w : Word) (h : Sane p s) : Sane p ((storeCmd s w)) := by
  unfold storeCmd
  (repeat' split) <;> simp +contextual (maxDischargeDepth := 30) only [storeErase_sane, h, storeProg_sane, storeAbort_sane, *]
@[simp] theorem calCmd_sane (p : List Instr) (s : State) (w : Word) (h : Sane p s) : Sane p ((calCmd s w)) := by
  unfold calCmd
  simp +contextual (maxDischargeDepth := 30) only [beq_iff_eq, h, calAbort_sane, calFreeSource_sane, calStart_sane, sane_ite]
@[simp] theorem sysCmd_sane (p : List Instr) (s : State) (i : Slice) (w : Word) (h : Sane p s) : Sane p ((sysCmd s i w)) := by
  unfold sysCmd
  simp +contextual (maxDischargeDepth := 30) only [beq_iff_eq, h, sysAbort_sane, sysStart_sane, sane_ite]
@[simp] theorem axCmd_sane (p : List Instr) (s : State) (w : Word) (h : Sane p s) : Sane p ((axCmd s w)) := by
  unfold axCmd
  simp +contextual (maxDischargeDepth := 30) only [beq_iff_eq, h, axCalAbort_sane, axCalStart_sane, sane_ite]
@[simp] theorem eqCtrl_sane (p : List Instr) (s : State) (w : Word) (h : Sane p s) : Sane p ((eqCtrl s w)) := by
  unfold eqCtrl
  simp +contextual (maxDischargeDepth := 30) only [sane_mk, h, eqPop_sane, sane_ite, sane_pending, sane_mem, sane_legs, and_self]
@[simp] theorem slCtrl_sane (p : List Instr) (s : State) (i : Slice) (w : Word) (h : Sane p s) : Sane p ((slCtrl s i w)) := by
  unfold slCtrl
  simp +contextual (maxDischargeDepth := 30) only [h, State.modSl_sane, sane_ite, fineTrigger_sane]
@[simp] theorem rgCtrl_sane (p : List Instr) (s : State) (w : Word) (h : Sane p s) : Sane p ((rgCtrl s w)) := by
  unfold rgCtrl
  simp +contextual (maxDischargeDepth := 30) only [h, ringCntClr_sane, sane_ite, State.modRing_sane]
@[simp] theorem hook_sane (p : List Instr) (old s : State) (r : Nat × Nat) (h : Sane p s) : Sane p ((hook old s r)) := by
  unfold hook
  ((try dsimp only); (repeat' split) <;> (simp +contextual (maxDischargeDepth := 30) only [calForget_sane, bpRestart_sane, h, slCtrl_sane, sysCmd_sane, loopAfterCommit_sane, State.modTick_sane, *, traceRequest_sane, traceAbort_sane, axCmd_sane, calCmd_sane, calSave_sane, sane_mk, sane_pending, sane_mem, sane_legs, and_self, eqCtrl_sane, tlSync_sane, loadAddr_sane, storeCmd_sane, larCtrl_sane, rgCtrl_sane, spiCntClr_sane, twmCntClr_sane]; done))
@[simp] theorem hookUnfence_sane (p : List Instr) (s : State) (r : Nat × Nat) (h : Sane p s) : Sane p ((hookUnfence s r)) := by
  unfold hookUnfence
  simp +contextual (maxDischargeDepth := 30) only [Bool.and_eq_true, beq_iff_eq, h, unfence_sane, sane_ite]
@[simp] theorem hookAppend_sane (p : List Instr) (s : State) (l : List (Nat × Nat)) (h : Sane p s) : Sane p ((hookAppend s l)) := by
  unfold hookAppend
  simp +contextual (maxDischargeDepth := 30) only [List.contains_eq_mem, Bool.and_eq_true, decide_eq_true_eq, h, ledgerAppend_sane, sane_ite]
@[simp] theorem hookGo_sane (p : List Instr) (s : State) (l : List (Nat × Nat)) (h : Sane p s) : Sane p ((hookGo s l)) := by
  unfold hookGo
  simp +contextual (maxDischargeDepth := 30) only [List.contains_eq_mem, Bool.and_eq_true, decide_eq_true_eq, h, pbGo_sane, sane_ite]
@[simp] theorem hookAppends_sane (p : List Instr) (s : State) (l : List (Nat × Nat)) (h : Sane p s) : Sane p ((hookAppends s l)) := by
  unfold hookAppends
  simp +contextual (maxDischargeDepth := 30) only [h, hookAppend_sane, hookGo_sane]
@[simp] theorem hookQueues_sane (p : List Instr) (s : State) (l : List (Nat × Nat)) (h : Sane p s) : Sane p ((hookQueues s l)) := by
  unfold hookQueues
  simp +contextual (maxDischargeDepth := 30) only [h, eqEnter_sane, hookAppend_sane, pbResults_sane, pbRequests_sane, hookGo_sane, twpCut_sane, pbServe_sane]
@[simp] theorem hookDevice_sane (p : List Instr) (s : State) (l : List (Nat × Nat)) (h : Sane p s) : Sane p ((hookDevice s l)) := by
  unfold hookDevice
  (repeat' split) <;> simp +contextual (maxDischargeDepth := 30) only [h, devRun_sane, devHold_sane, devSleep_sane, devReset_sane, *]
@[simp] theorem hookUnits_sane (p : List Instr) (old s : State) (l : List (Nat × Nat)) (h : Sane p s) : Sane p ((hookUnits old s l)) := by
  unfold hookUnits
  simp +contextual (maxDischargeDepth := 30) only [h, fineRestart_sane, hook_sane, implies_true, foldl_sane, hookUnfence_sane]
@[simp] theorem hooks_sane (p : List Instr) (old s : State) (ws : List StagedWrite) (h : Sane p s) : Sane p ((hooks old s ws)) := by
  unfold hooks
  simp +contextual (maxDischargeDepth := 30) only [h, hookUnits_sane, hookQueues_sane, hookDevice_sane, clearSelf_sane, implies_true, foldl_sane, sane_ite]
@[simp] theorem faultWrites_sane (p : List Instr) (s : State) (ws : List StagedWrite) (h : Sane p s) : Sane p ((faultWrites s ws)) := by
  unfold faultWrites
  simp +contextual (maxDischargeDepth := 30) only [Bool.and_eq_true, beq_iff_eq, h, faultClear_sane, sane_ite, implies_true, foldl_sane]

/-! ### RingTx -/

@[simp] theorem nextConfig_sane (p : List Instr) (s : State) (h : Sane p s) : Sane p ((nextConfig s)) := by
  unfold nextConfig
  simp +contextual (maxDischargeDepth := 30) only [h, applyAll_sane]
@[simp] theorem takeDecision_sane (p : List Instr) (s : State) (d : Decision) (h : Sane p s) : Sane p ((takeDecision s d)) := by
  unfold takeDecision
  simp +contextual (maxDischargeDepth := 30) only [sane_mk, h, sane_pending, sane_mem, sane_legs, and_self, collisions_sane, markDrop_sane, implies_true, foldl_sane, reportReject_sane]
@[simp] theorem ringTopo_sane (p : List Instr) (s : State) (h : Sane p s) : Sane p ((ringTopo s)) := by
  unfold ringTopo
  simp +contextual (maxDischargeDepth := 30) only [beq_iff_eq, Bool.and_eq_true, h, loopHealed_sane, sane_ite, State.modRing_sane, ringEvent_sane]
@[simp] theorem ringHeader_sane (p : List Instr) (s : State) (h : Sane p s) : Sane p ((ringHeader s)) := by
  unfold ringHeader
  ((try dsimp only); (repeat' split) <;> (simp +contextual (maxDischargeDepth := 30) only [beq_iff_eq, Fin.getElem_fin, ringTopo_sane, State.modRing_sane, h, State.modRing_x, *, State.evt_sane, State.evt_x]; done))
@[simp] theorem ringNav_sane (p : List Instr) (s : State) (h : Sane p s) : Sane p ((ringNav s)) := by
  unfold ringNav
  simp +contextual (maxDischargeDepth := 30) only [h, State.modRing_sane]
@[simp] theorem masterDecision_sane (p : List Instr) (s : State) (h : Sane p s) : Sane p ((masterDecision s)) := by
  unfold masterDecision
  simp +contextual (maxDischargeDepth := 30) only [h, takeDecision_sane, ringHeader_sane, ringNav_sane, State.modRing_sane]
@[simp] theorem applyBatch_sane (p : List Instr) (old s : State) (k : Nat) (h : Sane p s) : Sane p ((applyBatch old s k).1) := by
  unfold applyBatch
  ((try dsimp only); (repeat' split) <;> (simp +contextual (maxDischargeDepth := 30) only [State.modRing_sane, h, reportCause_sane, diverge_sane, applyAll_sane, *]; done))
@[simp] theorem bootRecord_sane (p : List Instr) (s : State) (h : Sane p s) : Sane p ((bootRecord s)) := by
  unfold bootRecord
  simp +contextual (maxDischargeDepth := 30) only [h, ledgerPut_sane]
@[simp] theorem loadWrite_sane (p : List Instr) (s : State) (w : StagedWrite) (h : Sane p s) : Sane p ((loadWrite s w)) := by
  unfold loadWrite
  ((try dsimp only); (repeat' split) <;> (simp +contextual (maxDischargeDepth := 30) only [portConfigWrite_sane, h, cntLWrite_sane, cntHWrite_sane, cmpLWrite_sane, cmpHWrite_sane, rawWrite_sane, *]; done))
@[simp] theorem loadUnit_sane (p : List Instr) (s : State) (ws : List StagedWrite) (h : Sane p s) : Sane p ((loadUnit s ws).1) := by
  unfold loadUnit
  split
  · simp [h]
  · have h1 : Sane p (ws.foldl loadWrite s) := foldl_sane p _ _ _ h fun s w hs => loadWrite_sane p s w hs
    have h2 := hookDevice_sane p _ (written ws) (hookAppends_sane p _ (written ws) (hookUnits_sane p s _ (written ws) h1))
    dsimp only
    split
    · exact h2
    · exact faultWrites_sane p _ _ (foldl_sane p _ _ _ h2 fun s w hs => by simp [hs])
@[simp] theorem imageApply_sane (p : List Instr) (s : State) (h : Sane p s) : Sane p ((imageApply s)) := by
  unfold imageApply
  have h1 := loadUnit_sane p s (entryWrites s ((imageTaken s).getD [] ++ s.x.ring.scope)) h
  dsimp only
  split
  · next t e => exact State.modRing_sane p t _ (by rw [e] at h1; exact h1)
  · next t e =>
    rw [e] at h1
    split
    · exact h1
    · refine setRing_sane p _ _ (State.evt_sane p _ _ _ (State.modRing_sane p _ _ ?_))
      split
      · exact h1
      · exact bootRecord_sane p _ (State.modPwr_sane p _ _ h1)

/-! ### Tick -/

@[simp] theorem publish_sane (p : List Instr) (rolled : Bool) (s0 : State) (h : Sane p s0) : Sane p ((publish rolled s0)) := by
  unfold publish
  simp +contextual (maxDischargeDepth := 30) only [sane_mk, h, tlCopy_sane, sane_pending, sane_mem, sane_legs, and_self]
@[simp] theorem nextTick_sane (p : List Instr) (rolled : Bool) (s : State) (h : Sane p s) : Sane p ((nextTick rolled s)) := by
  unfold nextTick
  simp +contextual (maxDischargeDepth := 30) only [h, State.modTick_sane]
@[simp] theorem deferUnits_sane (p : List Instr) (s : State) (k : Nat) (h : Sane p s) : Sane p ((deferUnits s k)) := by
  unfold deferUnits
  simp +contextual (maxDischargeDepth := 30) only [beq_iff_eq, List.foldl_append, sane_mk, h, sane_pending, sane_mem, sane_legs, and_self]
@[simp] theorem rejectHost_sane (p : List Instr) (s : State) (k : Nat) (h : Sane p s) : Sane p ((rejectHost s k)) := by
  unfold rejectHost
  simp +contextual (maxDischargeDepth := 30) only [sane_mk, h, sane_pending, sane_mem, sane_legs, and_self, reportReject_sane, implies_true,
    foldl_sane]
@[simp] theorem rollbackRecord_sane (p : List Instr) (old s : State) (h : Sane p s) : Sane p ((rollbackRecord old s)) := by
  unfold rollbackRecord
  ((try dsimp only); (repeat' split) <;> (simp +contextual (maxDischargeDepth := 30) only [State.evt_sane, raise_sane, h, State.modTick_sane,
                                            *]; done))
@[simp] theorem refenced_sane (p : List Instr) (old s : State) (h : Sane p s) : Sane p ((refenced old s)) := by
  unfold refenced
  simp +contextual (maxDischargeDepth := 30) only [List.contains_eq_mem, h, lostConv_sane, implies_true, foldl_sane]
@[simp] theorem rollback_sane (p : List Instr) (old s : State) (h : Sane p s) : Sane p ((rollback old s)) := by
  unfold rollback
  simp +contextual (maxDischargeDepth := 30) only [List.any_eq_true, beq_iff_eq, Fin.getElem_fin, sane_mk, h, sane_pending, sane_mem, sane_legs, and_self, rejectHost_sane, sane_ite, refenced_sane, deferUnits_sane, rollbackRecord_sane]
@[simp] theorem endOfTick_sane (p : List Instr) (s : State) (h : Sane p s) : Sane p ((endOfTick s)) := by
  unfold endOfTick
  simp +contextual (maxDischargeDepth := 30) only [List.take_succ_cons, h, batTargets_sane, implies_true, forAll_sane, loopsStepDiv_sane,
    State.modModel_sane]
@[simp] theorem fenceNow_sane (p : List Instr) (s : State) (u : FenceUnit) (h : Sane p s) : Sane p ((fenceNow s u)) := by
  unfold fenceNow
  simp +contextual (maxDischargeDepth := 30) only [beq_iff_eq, List.any_eq_true, reduceCtorEq, ↓reduceIte, Bool.and_eq_true, Bool.not_eq_eq_eq_not, Bool.not_true, false_and, h, endCheck_sane, sane_ite, State.modAx_sane, State.modModel_sane, trainHold_sane, implies_true, forAll_sane, cutCheck_sane, applyFence_sane]
@[simp] theorem faultBoundary_sane (p : List Instr) (old s : State) (h : Sane p s) : Sane p ((faultBoundary old s)) := by
  unfold faultBoundary
  ((try dsimp only); (repeat' split) <;> (simp +contextual (maxDischargeDepth := 30) only [List.foldl_append, Nat.reduceLT, BitVec.getLsbD_eq_getElem, fenceNow_sane, implies_true, foldl_sane, State.modCol_sane, enterHold_sane, enterSafe_sane, h, *]; done))
@[simp] theorem beginSubst_sane (p : List Instr) (s : State) (i : Slice) (h : Sane p s) : Sane p ((beginSubst s i)) := by
  unfold beginSubst
  simp +contextual (maxDischargeDepth := 30) only [Fin.getElem_fin, Bool.and_eq_true, decide_eq_true_eq, beq_iff_eq, h, fenceNow_sane,
    releaseSpare_sane, sane_ite, State.evt_sane, State.modSup_sane]
@[simp] theorem acceptAlt_sane (p : List Instr) (s : State) (i : Slice) (h : Sane p s) : Sane p ((acceptAlt s i)) := by
  unfold acceptAlt
  ((try dsimp only); (repeat' split) <;> (simp +contextual (maxDischargeDepth := 30) only [State.modSup_sane, State.modSpare_sane, h,
                                            fenceNow_sane, *]; done))
@[simp] theorem substStart_sane (p : List Instr) (s : State) (h : Sane p s) : Sane p ((substStart s)) := by
  unfold substStart
  simp +contextual (maxDischargeDepth := 30) only [Fin.getElem_fin, h, beginSubst_sane, acceptAlt_sane, sane_ite, implies_true, forAll_sane]
@[simp] theorem latchLegs_sane (p : List Instr) (s : State) (h : Sane p s) : Sane p ((latchLegs s)) := by
  unfold latchLegs
  refine ⟨h.1, h.2.1, fun n => ?_⟩
  dsimp only
  rw [tab_at]
  exact h.2.2 n
@[simp] theorem samples_sane (p : List Instr) (rolled : Bool) (inp : TickInputs) (s : State) (h : Sane p s) : Sane p ((samples rolled inp s)) := by
  unfold samples
  simp +contextual (maxDischargeDepth := 30) only [Fin.getElem_fin, h, State.modBatHw_sane, implies_true, forAll_sane, substStart_sane, latchLegs_sane, trainEstimate_sane, spareBoundary_sane, convBoundary_sane, noteBlamed_sane, estimates_sane, batMeasure_sane]
@[simp] theorem pulseTick_sane (p : List Instr) (s : State) (l : LoopIx) (h : Sane p s) : Sane p ((pulseTick s l)) := by
  unfold pulseTick
  simp +contextual (maxDischargeDepth := 30) only [bne_iff_ne, ne_eq, ite_not, h, State.modLoop_sane, sane_ite]
@[simp] theorem checkpointed_sane (p : List Instr) (s : State) (h : Sane p s) : Sane p ((checkpointed s)) := by
  unfold checkpointed
  simp +contextual (maxDischargeDepth := 30) only [h, batPresence_sane, batAge_sane, implies_true, forAll_sane, trainBoundary_sane, adoptPending_sane, trainStart_sane, estimates_sane, batMeasure_sane, preload_sane, substTrain_sane, oscBoundary_sane, probeBoundary_sane, loopsTickStart_sane, pulseTick_sane]
@[simp] theorem uncheckpointed_sane (p : List Instr) (s : State) (h : Sane p s) : Sane p ((uncheckpointed s)) := by
  unfold uncheckpointed
  simp +contextual (maxDischargeDepth := 30) only [h, calBoundary_sane, calRelease_sane, tlBoundary_sane, implies_true, forAll_sane,
    larderBoundary_sane, ledgerMinute_sane, ringBoundary_sane]
@[simp] theorem batteries_sane (p : List Instr) (old s : State) (ws : List StagedWrite) (h : Sane p s) : Sane p ((batteries old s ws)) := by
  unfold batteries
  simp +contextual (maxDischargeDepth := 30) only [h, batPhase_sane, implies_true, forAll_sane]
@[simp] theorem portCounts_sane (p : List Instr) (s : State) (h : Sane p s) : Sane p ((portCounts s)) := by
  unfold portCounts
  simp +contextual (maxDischargeDepth := 30) only [sane_mk, h, sane_pending, sane_mem, sane_legs, and_self]
@[simp] theorem lines_sane (p : List Instr) (s : State) (h : Sane p s) : Sane p ((lines s)) := by
  unfold lines
  simp +contextual (maxDischargeDepth := 30) only [State.modCol_x, Bool.and_eq_true, Bool.not_eq_eq_eq_not, Bool.not_true, h, State.modCol_sane, latchAll_sane, fltPin_sane]
@[simp] theorem clearFirst_sane (p : List Instr) (s : State) (l : List StagedWrite) (h : Sane p s) : Sane p ((clearFirst s l)) := by
  unfold clearFirst
  simp +contextual (maxDischargeDepth := 30) only [BitVec.ofNat_eq_ofNat, beq_iff_eq, h, State.setReg_sane, sane_ite, implies_true, foldl_sane]
@[simp] theorem keepSet_sane (p : List Instr) (hw s : State) (l : List StagedWrite) (h : Sane p s) : Sane p ((keepSet hw s l)) := by
  unfold keepSet
  simp +contextual (maxDischargeDepth := 30) only [BitVec.ofNat_eq_ofNat, beq_iff_eq, h, State.orReg_sane, sane_ite, implies_true, foldl_sane]
@[simp] theorem commits_sane (p : List Instr) (old s : State) (judged : List Judged) (h : Sane p s) : Sane p ((commits old s judged).1) := by
  unfold commits
  simp +contextual (maxDischargeDepth := 30) only [sane_mk, h, sane_pending, sane_mem, sane_legs, and_self, applyUnits_sane, keepSet_sane, applyBatch_sane, hooks_sane]
@[simp] theorem afterCommits_sane (p : List Instr) (rolled : Bool) (inp : TickInputs) (judged : List Judged) (ws : List StagedWrite) (old s : State) (h : Sane p s) : Sane p ((afterCommits rolled inp judged ws old s)) := by
  unfold afterCommits
  simp +contextual (maxDischargeDepth := 30) only [sane_mk, h, samples_sane, batteries_sane, srcBoundary_sane, substAnew_sane, implies_true, forAll_sane, checkpointed_sane, sane_ite, ridePreload_sane, ckBoundary_sane, uncheckpointed_sane, portCounts_sane, lines_sane, faultWrites_sane, pinsBoundary_sane, snapWrites_sane, sane_pending, sane_mem, sane_legs, and_self]
@[simp] theorem dropFenced_sane (p : List Instr) (s : State) (h : Sane p s) : Sane p ((dropFenced s)) := by
  unfold dropFenced
  simp +contextual (maxDischargeDepth := 30) only [List.contains_eq_mem, List.mem_append, List.mem_flatMap, Bool.decide_or, Bool.not_or, sane_mk, h, sane_pending, sane_mem, sane_legs, and_self]
@[simp] theorem tickEdge_sane (p : List Instr) (inp : TickInputs) (s0 : State) (h : Sane p s0) : Sane p ((tickEdge inp s0)) := by
  unfold tickEdge
  extract_lets s1 rolled k held judged old s2 s3 s4 s5 s6 s7 before
  have h1 : Sane p s1 := slotFinal_sane p _ (dropFenced_sane p _ h)
  clear_value s1
  have h2 : Sane p s2 := nextTick_sane p _ _ (publish_sane p _ _ (fineTickEnd_sane p _ (forAll_sane p _ _ h1 fun s a hs => energyTick_sane p s a hs)))
  clear_value s2
  have h3 : Sane p s3 := by
    refine clearFirst_sane p _ _ ?_
    split
    · exact h2
    · exact snapSwap_sane p _ _ (snapSwap_sane p _ _ h2)
  clear_value s3
  have h4 : Sane p s4 := by
    refine tlTickEdges_sane p _ ?_
    split
    · exact rollback_sane p _ _ h3
    · exact endOfTick_sane p _ h3
  clear_value s4
  have h5 : Sane p s5 := faultBoundary_sane p _ _ h4
  clear_value s5
  have h6 : Sane p s6 := by
    simp only [s6]
    split
    · exact h5
    · exact deferUnits_sane p _ _ h5
  clear_value s6
  have h7 : Sane p s7 := storeBoundary_sane p _ h6
  clear_value s7
  have h8 : Sane p (commits old s7 judged).1 := commits_sane p _ _ _ h7
  dsimp only
  split
  · exact h8
  · exact afterCommits_sane p _ _ _ _ _ _ h8
@[simp] theorem tickBoundary_sane (p : List Instr) (inp : TickInputs) (s : State) (h : Sane p s) : Sane p ((tickBoundary inp s)) := by
  unfold tickBoundary
  exact oneCycle_sane p _ _ h fun t ht => tickEdge_sane p inp t ht

/-! ### Boot -/

@[simp] theorem calLeg_sane (p : List Instr) (r : List Word) (s : State) (n : Leg) (h : Sane p s) : Sane p ((calLeg r s n)) := by
  unfold calLeg
  simp +contextual (maxDischargeDepth := 30) only [BitVec.ofNat_eq_ofNat, List.getD_eq_getElem?_getD, h, State.setReg_sane, set_L_TRIM_TRIM_sane, State.modCal_sane, sane_ite]
@[simp] theorem calSource_sane (p : List Instr) (r : List Word) (s : State) (i : Src) (h : Sane p s) : Sane p ((calSource r s i)) := by
  unfold calSource
  simp +contextual (maxDischargeDepth := 30) only [BitVec.ofNat_eq_ofNat, List.getD_eq_getElem?_getD, h, State.setReg_sane, State.modCal_sane,
    sane_ite]
@[simp] theorem calRingLine_sane (p : List Instr) (r : List Word) (s : State) (h : Sane p s) : Sane p ((calRingLine r s)) := by
  unfold calRingLine
  simp +contextual (maxDischargeDepth := 30) only [BitVec.ofNat_eq_ofNat, List.getD_eq_getElem?_getD, h, set_CAL_RING_CELLS_sane,
    State.modCal_sane, sane_ite]
@[simp] theorem bootCal_sane (p : List Instr) (s : State) (h : Sane p s) : Sane p ((bootCal s)) := by
  unfold bootCal
  (repeat' split) <;> simp +contextual (maxDischargeDepth := 30) only [raise_sane, h, State.modCal_sane, calLeg_sane, implies_true, forAll_sane,
                        calSource_sane, calRingLine_sane, *]
@[simp] theorem bootCalTrains_sane (p : List Instr) (ok24 : Vector Bool 24) (s : State) (h : Sane p s) : Sane p ((bootCalTrains ok24 s)) := by
  unfold bootCalTrains
  simp +contextual (maxDischargeDepth := 30) only [Fin.getElem_fin, List.all_filter, h, State.modCal_sane]
@[simp] theorem bootList_sane (p : List Instr) (s : State) (c : ClerkIx) (h : Sane p s) : Sane p ((bootList s c)) := by
  unfold bootList
  (repeat' split) <;> simp +contextual (maxDischargeDepth := 30) only [h, rawWrite_sane, implies_true, foldl_sane, *]
@[simp] theorem bootLedger_sane (p : List Instr) (s : State) (h : Sane p s) : Sane p ((bootLedger s)) := by
  unfold bootLedger
  simp +contextual (maxDischargeDepth := 30) only [BitVec.ofNat_eq_ofNat, List.getD_eq_getElem?_getD, h, sane_mem, modStore_sane]
@[simp] theorem tryBank_sane (p : List Instr) (s : State) (b : Bool) (r : List Word) (h : Sane p s) : Sane p ((tryBank s b r)) := by
  unfold tryBank
  have h1 := loadUnit_sane p s (entryWrites s (imageEntries s r)) h
  generalize loadUnit s (entryWrites s (imageEntries s r)) = q at h1
  obtain ⟨t, b⟩ := q
  cases b
  · simp [h1]
  · dsimp only at h1 ⊢
    split
    · exact h1
    · exact ⟨h1.1, h1.2.1, h1.2.2⟩
@[simp] theorem bootConfig_sane (p : List Instr) (s : State) (h : Sane p s) : Sane p ((bootConfig s)) := by
  unfold bootConfig
  simp +contextual (maxDischargeDepth := 30) only [List.reverse_append, h, sane_mem, modStore_sane, tryBank_sane, sane_ite, implies_true,
    foldl_sane, bootRecord_sane]
@[simp] theorem firstTick_sane (p : List Instr) (s : State) (h : Sane p s) : Sane p ((firstTick s)) := by
  unfold firstTick
  simp +contextual (maxDischargeDepth := 30) only [sane_mk, h, adoptPending_sane, srcBoundary_sane, batPin_sane, implies_true, forAll_sane, checkpointed_sane, ckBoundary_sane, larderBoundary_sane, tlBoundary_sane, ringBoundary_sane, lines_sane, pinsBoundary_sane, sane_pending, sane_mem, sane_legs, and_self]
@[simp] theorem bootSteps_sane (p : List Instr) (s : State) (h : Sane p s) : Sane p ((bootSteps s)) := by
  unfold bootSteps
  extract_lets s1 ok s2 s3 s4
  have h1 : Sane p s1 := bootCal_sane p _ h
  clear_value s1
  have h2 : Sane p s2 := bootLedger_sane p _ (foldl_sane p _ _ _ h1 fun s c hs => bootList_sane p s c hs)
  clear_value s2
  have h3 : Sane p s3 := State.modPwr_sane p _ _ (setDev_sane p _ _ h2)
  clear_value s3
  have h4 : Sane p s4 := bootConfig_sane p _ h3
  clear_value s4
  split
  · exact h4
  · exact firstTick_sane p _ (bootCalTrains_sane p _ _ (adoptPending_sane p _ h4))

end Sys2Proof.Machine
end

