-- ==== Sys2Proof/Laws/Clock.lean ====
section
/-! SUPPORT. What the operations of a boundary keep: the tick's two counts, and the published snapshot but for the pins that are set
from it. -/

namespace Sys2Proof.Machine

/-- The counts of the tick are p's and the published snapshot is p's, but for the pins. -/
def Clocked (p : Nat × Nat × Snap) (s : State) : Prop :=
  (s.x.tick.count = p.1 ∧ s.x.tick.num = p.2.1) ∧ s.pub.cp = p.2.2.cp ∧
    { s.pub.x with alert := {} } = { p.2.2.x with alert := {} }

/-- The tick's part of Clocked. -/
def ClockTick (p : Nat × Nat × Snap) (t : TickSt) : Prop := t.count = p.1 ∧ t.num = p.2.1
/-- The snapshot's part of Clocked. -/
def ClockPub (p : Nat × Nat × Snap) (u : Snap) : Prop := u.cp = p.2.2.cp ∧ { u.x with alert := {} } = { p.2.2.x with alert := {} }

@[simp] theorem clocked_mk (p : Nat × Nat × Snap) (q : List Instr) (c : Cp) (x : Ext) (u : Snap) (v : PerPort (Option Snap)) (k : Cp)
    (n : Nat) : Clocked p ⟨q, c, x, u, v, k, n⟩ ↔ (ClockTick p x.tick ∧ ClockPub p u) := Iff.rfl
@[simp] theorem clocked_tick (p : Nat × Nat × Snap) (s : State) (h : Clocked p s) : ClockTick p s.x.tick := h.1
@[simp] theorem clocked_pub (p : Nat × Nat × Snap) (s : State) (h : Clocked p s) : ClockPub p s.pub := h.2
@[simp] theorem clockTick_mk (p : Nat × Nat × Snap) (a b : Nat) (c : Bool) (d : Nat) (e : Word) (f g : Nat) (l : List Trip) (i j : Bool)
    (k : PerPort (Option (Word × Word))) : ClockTick p ⟨a, b, c, d, e, f, g, l, i, j, k⟩ ↔ (a = p.1 ∧ b = p.2.1) := Iff.rfl
@[simp] theorem clocked_count (p : Nat × Nat × Snap) (s : State) (h : Clocked p s) : s.x.tick.count = p.1 := h.1.1
@[simp] theorem clocked_num (p : Nat × Nat × Snap) (s : State) (h : Clocked p s) : s.x.tick.num = p.2.1 := h.1.2

@[simp] theorem modHw_clocked (p : Nat × Nat × Snap) (s : State) (n : Leg) (f : LegHw → LegHw) (h : Clocked p s) :
    Clocked p (s.modHw n f) := ⟨h.1, h.2⟩
@[simp] theorem modStore_clocked (p : Nat × Nat × Snap) (s : State) (f : StoreSt → StoreSt) (h : Clocked p s) :
    Clocked p (s.modStore f) := ⟨h.1, h.2⟩
@[simp] theorem drive_clocked (p : Nat × Nat × Snap) (s : State) (n : Leg) (high on : Bool) (h : Clocked p s) :
    Clocked p (drive s n high on) := ⟨h.1, h.2⟩
@[simp] theorem stFree_clocked (p : Nat × Nat × Snap) (s : State) (a n : Nat) (h : Clocked p s) : Clocked p (stFree s a n) := ⟨h.1, h.2⟩
@[simp] theorem flushNext_clocked (p : Nat × Nat × Snap) (s : State) (h : Clocked p s) : Clocked p ((flushNext s)) := by
  unfold flushNext
  simp +contextual (maxDischargeDepth := 30) only [clocked_mk, h, clocked_tick, clocked_pub, and_self]
@[simp] theorem clocked_ite (p : Nat × Nat × Snap) (c : Prop) [Decidable c] (a b : State) (ha : Clocked p a) (hb : Clocked p b) :
    Clocked p (if c then a else b) := by
  split <;> assumption
@[simp] theorem foldl_clocked {α : Type} (p : Nat × Nat × Snap) (l : List α) (g : State → α → State) (s : State) (h : Clocked p s)
    (hg : ∀ s a, Clocked p s → Clocked p (g s a)) : Clocked p (l.foldl g s) := by
  induction l generalizing s with
  | nil => exact h
  | cons a t ih => rw [List.foldl_cons]; exact ih _ (hg _ _ h)
@[simp] theorem forAll_clocked {n : Nat} (p : Nat × Nat × Snap) (g : State → Fin n → State) (s : State) (h : Clocked p s)
    (hg : ∀ s a, Clocked p s → Clocked p (g s a)) : Clocked p (forAll s g) := foldl_clocked p _ g s h hg

/-! ### Ops -/

@[simp] theorem State.setReg_clocked (p : Nat × Nat × Snap) (s : State) (a : Nat) (w : Word) (h : Clocked p s) : Clocked p ((State.setReg s a w)) := by
  unfold State.setReg
  simp +contextual (maxDischargeDepth := 30) only [clocked_mk, h, clocked_tick, clocked_pub, and_self, clocked_ite]
@[simp] theorem State.orReg_clocked (p : Nat × Nat × Snap) (s : State) (a : Nat) (w : Word) (h : Clocked p s) : Clocked p ((State.orReg s a w)) := by
  unfold State.orReg
  simp +contextual (maxDischargeDepth := 30) only [h, setReg_clocked]
@[simp] theorem State.modTrain_clocked (p : Nat × Nat × Snap) (s : State) (t : Train) (f : TrainSt → TrainSt) (h : Clocked p s) : Clocked p ((State.modTrain s t f)) := by
  unfold State.modTrain
  simp +contextual (maxDischargeDepth := 30) only [Fin.getElem_fin, clocked_mk, h, clocked_tick, clocked_pub, and_self]
@[simp] theorem State.modLeg_clocked (p : Nat × Nat × Snap) (s : State) (n : Leg) (f : LegCp → LegCp) (h : Clocked p s) : Clocked p ((State.modLeg s n f)) := by
  unfold State.modLeg
  simp +contextual (maxDischargeDepth := 30) only [Fin.getElem_fin, clocked_mk, h, clocked_tick, clocked_pub, and_self]
@[simp] theorem State.modLoop_clocked (p : Nat × Nat × Snap) (s : State) (l : LoopIx) (f : LoopSt → LoopSt) (h : Clocked p s) : Clocked p ((State.modLoop s l f)) := by
  unfold State.modLoop
  simp +contextual (maxDischargeDepth := 30) only [Fin.getElem_fin, clocked_mk, h, clocked_tick, clocked_pub, and_self]
@[simp] theorem State.modSect_clocked (p : Nat × Nat × Snap) (s : State) (i : Slot) (f : SectSt → SectSt) (h : Clocked p s) : Clocked p ((State.modSect s i f)) := by
  unfold State.modSect
  simp +contextual (maxDischargeDepth := 30) only [Fin.getElem_fin, clocked_mk, h, clocked_tick, clocked_pub, and_self]
@[simp] theorem State.modOsc_clocked (p : Nat × Nat × Snap) (s : State) (i : OscIx) (f : OscSt → OscSt) (h : Clocked p s) : Clocked p ((State.modOsc s i f)) := by
  unfold State.modOsc
  simp +contextual (maxDischargeDepth := 30) only [Fin.getElem_fin, clocked_mk, h, clocked_tick, clocked_pub, and_self]
@[simp] theorem State.modModel_clocked (p : Nat × Nat × Snap) (s : State) (t : Train) (f : ModelSt → ModelSt) (h : Clocked p s) : Clocked p ((State.modModel s t f)) := by
  unfold State.modModel
  simp +contextual (maxDischargeDepth := 30) only [Fin.getElem_fin, clocked_mk, h, clocked_tick, clocked_pub, and_self]
@[simp] theorem State.modSup_clocked (p : Nat × Nat × Snap) (s : State) (i : Slice) (f : SliceSup → SliceSup) (h : Clocked p s) : Clocked p ((State.modSup s i f)) := by
  unfold State.modSup
  simp +contextual (maxDischargeDepth := 30) only [Fin.getElem_fin, clocked_mk, h, clocked_tick, clocked_pub, and_self]
@[simp] theorem State.modBat_clocked (q : Nat × Nat × Snap) (s : State) (p : BPort) (f : BatSt → BatSt) (h : Clocked q s) : Clocked q ((State.modBat s p f)) := by
  unfold State.modBat
  simp +contextual (maxDischargeDepth := 30) only [Fin.getElem_fin, clocked_mk, h, clocked_tick, clocked_pub, and_self]
@[simp] theorem State.modBatHw_clocked (q : Nat × Nat × Snap) (s : State) (p : BPort) (f : BatHw → BatHw) (h : Clocked q s) : Clocked q ((State.modBatHw s p f)) := by
  unfold State.modBatHw
  simp +contextual (maxDischargeDepth := 30) only [Fin.getElem_fin, clocked_mk, h, clocked_tick, clocked_pub, and_self]
@[simp] theorem State.modSrc_clocked (p : Nat × Nat × Snap) (s : State) (i : Src) (f : SrcSt → SrcSt) (h : Clocked p s) : Clocked p ((State.modSrc s i f)) := by
  unfold State.modSrc
  simp +contextual (maxDischargeDepth := 30) only [Fin.getElem_fin, clocked_mk, h, clocked_tick, clocked_pub, and_self]
@[simp] theorem State.modNode_clocked (p : Nat × Nat × Snap) (s : State) (i : Fin 2) (f : NodeSt → NodeSt) (h : Clocked p s) : Clocked p ((State.modNode s i f)) := by
  unfold State.modNode
  simp +contextual (maxDischargeDepth := 30) only [Fin.getElem_fin, clocked_mk, h, clocked_tick, clocked_pub, and_self]
@[simp] theorem State.modSl_clocked (p : Nat × Nat × Snap) (s : State) (i : Slice) (f : SliceSt → SliceSt) (h : Clocked p s) : Clocked p ((State.modSl s i f)) := by
  unfold State.modSl
  simp +contextual (maxDischargeDepth := 30) only [Fin.getElem_fin, clocked_mk, h, clocked_tick, clocked_pub, and_self]
@[simp] theorem State.modSys_clocked (p : Nat × Nat × Snap) (s : State) (i : Slice) (f : SysCal → SysCal) (h : Clocked p s) : Clocked p ((State.modSys s i f)) := by
  unfold State.modSys
  simp +contextual (maxDischargeDepth := 30) only [Fin.getElem_fin, clocked_mk, h, clocked_tick, clocked_pub, and_self]
@[simp] theorem State.modConv_clocked (p : Nat × Nat × Snap) (s : State) (i : Conv) (f : ConvSt → ConvSt) (h : Clocked p s) : Clocked p ((State.modConv s i f)) := by
  unfold State.modConv
  simp +contextual (maxDischargeDepth := 30) only [Fin.getElem_fin, clocked_mk, h, clocked_tick, clocked_pub, and_self]
@[simp] theorem State.modBg_clocked (p : Nat × Nat × Snap) (s : State) (f : BgSt → BgSt) (h : Clocked p s) : Clocked p ((State.modBg s f)) := by
  unfold State.modBg
  simp +contextual (maxDischargeDepth := 30) only [clocked_mk, h, clocked_tick, clocked_pub, and_self]
@[simp] theorem State.modTrace_clocked (p : Nat × Nat × Snap) (s : State) (f : TraceSt → TraceSt) (h : Clocked p s) : Clocked p ((State.modTrace s f)) := by
  unfold State.modTrace
  simp +contextual (maxDischargeDepth := 30) only [clocked_mk, h, clocked_tick, clocked_pub, and_self]
@[simp] theorem State.modAx_clocked (p : Nat × Nat × Snap) (s : State) (f : AxSt → AxSt) (h : Clocked p s) : Clocked p ((State.modAx s f)) := by
  unfold State.modAx
  simp +contextual (maxDischargeDepth := 30) only [clocked_mk, h, clocked_tick, clocked_pub, and_self]
@[simp] theorem State.modTl_clocked (p : Nat × Nat × Snap) (s : State) (n : TallyIx) (f : TallySt → TallySt) (h : Clocked p s) : Clocked p ((State.modTl s n f)) := by
  unfold State.modTl
  simp +contextual (maxDischargeDepth := 30) only [Fin.getElem_fin, clocked_mk, h, clocked_tick, clocked_pub, and_self]
@[simp] theorem State.modCal_clocked (p : Nat × Nat × Snap) (s : State) (f : CalSt → CalSt) (h : Clocked p s) : Clocked p ((State.modCal s f)) := by
  unfold State.modCal
  simp +contextual (maxDischargeDepth := 30) only [clocked_mk, h, clocked_tick, clocked_pub, and_self]
@[simp] theorem State.modSpare_clocked (p : Nat × Nat × Snap) (s : State) (f : SpareSt → SpareSt) (h : Clocked p s) : Clocked p ((State.modSpare s f)) := by
  unfold State.modSpare
  simp +contextual (maxDischargeDepth := 30) only [clocked_mk, h, clocked_tick, clocked_pub, and_self]
@[simp] theorem State.modCol_clocked (p : Nat × Nat × Snap) (s : State) (f : Collector → Collector) (h : Clocked p s) : Clocked p ((State.modCol s f)) := by
  unfold State.modCol
  simp +contextual (maxDischargeDepth := 30) only [clocked_mk, h, clocked_tick, clocked_pub, and_self]
@[simp] theorem State.modTick_clocked (p : Nat × Nat × Snap) (s : State) (f : TickSt → TickSt) (h : Clocked p s) (hf : ∀ t, (f t).count = t.count ∧ (f t).num = t.num) : Clocked p ((State.modTick s f)) := by
  exact ⟨⟨(hf _).1.trans h.1.1, (hf _).2.trans h.1.2⟩, h.2⟩
@[simp] theorem State.evt_clocked (p : Nat × Nat × Snap) (s : State) (page b : Nat) (h : Clocked p s) : Clocked p ((State.evt s page b)) := by
  unfold State.evt
  simp +contextual (maxDischargeDepth := 30) only [h, orReg_clocked]
@[simp] theorem State.allLegsLow_clocked (p : Nat × Nat × Snap) (s : State) (h : Clocked p s) : Clocked p ((State.allLegsLow s)) := by
  unfold State.allLegsLow
  simp +contextual (maxDischargeDepth := 30) only [Fin.getElem_fin, clocked_mk, h, clocked_tick, clocked_pub, and_self]
@[simp] theorem State.fence_clocked (p : Nat × Nat × Snap) (s : State) (u : FenceUnit) (h : Clocked p s) : Clocked p ((State.fence s u)) := by
  unfold State.fence
  ((try dsimp only); (repeat' split) <;> (simp +contextual (maxDischargeDepth := 30) only [h, clocked_mk, clocked_tick, clocked_pub, and_self,
                                            evt_clocked, modHw_clocked, *]; done))

/-! ### Fields -/

@[simp] theorem set_ADC_REF_CTRL_TRACE_clocked (p : Nat × Nat × Snap) (s : State) (v : Bool) (h : Clocked p s) : Clocked p ((set_ADC_REF_CTRL_TRACE s v)) := by
  unfold set_ADC_REF_CTRL_TRACE
  simp +contextual (maxDischargeDepth := 30) only [h, State.setReg_clocked]
@[simp] theorem set_BP_PHASE_PHASE_clocked (p : Nat × Nat × Snap) (s : State) (i : Nat) (v : Nat) (h : Clocked p s) : Clocked p ((set_BP_PHASE_PHASE s i v)) := by
  unfold set_BP_PHASE_PHASE
  simp +contextual (maxDischargeDepth := 30) only [h, State.setReg_clocked]
@[simp] theorem set_CAL_CMD_KIND_clocked (p : Nat × Nat × Snap) (s : State) (v : Nat) (h : Clocked p s) : Clocked p ((set_CAL_CMD_KIND s v)) := by
  unfold set_CAL_CMD_KIND
  simp +contextual (maxDischargeDepth := 30) only [h, State.setReg_clocked]
@[simp] theorem set_STORE_CMD_CMD_clocked (p : Nat × Nat × Snap) (s : State) (v : Nat) (h : Clocked p s) : Clocked p ((set_STORE_CMD_CMD s v)) := by
  unfold set_STORE_CMD_CMD
  simp +contextual (maxDischargeDepth := 30) only [h, State.setReg_clocked]
@[simp] theorem set_TLn_CFG_EN_clocked (p : Nat × Nat × Snap) (s : State) (i : Nat) (v : Bool) (h : Clocked p s) : Clocked p ((set_TLn_CFG_EN s i v)) := by
  unfold set_TLn_CFG_EN
  simp +contextual (maxDischargeDepth := 30) only [h, State.setReg_clocked]

/-! ### Topo -/

@[simp] theorem setTrain_clocked (p : Nat × Nat × Snap) (s : State) (t : Train) (st : TrState) (h : Clocked p s) : Clocked p ((setTrain s t st)) := by
  unfold setTrain
  simp +contextual (maxDischargeDepth := 30) only [Fin.getElem_fin, h, State.modModel_clocked, clocked_ite, State.modTrain_clocked, State.evt_clocked]
@[simp] theorem legsOff_clocked (p : Nat × Nat × Snap) (s : State) (t : Train) (h : Clocked p s) : Clocked p ((legsOff s t)) := by
  unfold legsOff
  simp +contextual (maxDischargeDepth := 30) only [beq_iff_eq, h, State.modLeg_clocked, modHw_clocked, clocked_ite, implies_true, forAll_clocked]
@[simp] theorem cancelShed_clocked (p : Nat × Nat × Snap) (s : State) (t : Train) (h : Clocked p s) : Clocked p ((cancelShed s t)) := by
  unfold cancelShed
  simp +contextual (maxDischargeDepth := 30) only [Fin.getElem_fin, h, State.modTrain_clocked, State.evt_clocked, clocked_ite]
@[simp] theorem trainHold_clocked (p : Nat × Nat × Snap) (s : State) (t : Train) (h : Clocked p s) : Clocked p ((trainHold s t)) := by
  unfold trainHold
  ((try dsimp only); (repeat' split) <;> (simp +contextual (maxDischargeDepth := 30) only [h, cancelShed_clocked, State.modTrain_clocked, setTrain_clocked, legsOff_clocked, *]; done))
@[simp] theorem trainFence_clocked (p : Nat × Nat × Snap) (s : State) (t : Train) (h : Clocked p s) : Clocked p ((trainFence s t)) := by
  unfold trainFence
  simp +contextual (maxDischargeDepth := 30) only [h, State.fence_clocked, cancelShed_clocked, State.modTrain_clocked, setTrain_clocked, legsOff_clocked]

/-! ### Collect -/

@[simp] theorem larderTrigger_clocked (p : Nat × Nat × Snap) (s : State) (src idx : Nat) (h : Clocked p s) : Clocked p ((larderTrigger s src idx)) := by
  unfold larderTrigger
  ((try dsimp only); (repeat' split) <;> (simp +contextual (maxDischargeDepth := 30) only [clocked_mk, clocked_tick, clocked_pub, and_self, h,
                                            *]; done))
@[simp] theorem fltPin_clocked (p : Nat × Nat × Snap) (s : State) (h : Clocked p s) : Clocked p ((fltPin s)) := by
  unfold fltPin
  simp +contextual (maxDischargeDepth := 30) only [h, State.modCol_clocked]
@[simp] theorem enablesToStraps_clocked (p : Nat × Nat × Snap) (s : State) (h : Clocked p s) : Clocked p ((enablesToStraps s)) := by
  unfold enablesToStraps
  simp +contextual (maxDischargeDepth := 30) only [clocked_mk, h, clocked_tick, clocked_pub, and_self]
@[simp] theorem pinShutdown_clocked (p : Nat × Nat × Snap) (s : State) (code : Nat) (h : Clocked p s) : Clocked p ((pinShutdown s code)) := by
  unfold pinShutdown
  simp +contextual (maxDischargeDepth := 30) only [beq_iff_eq, Nat.reduceBEq, BEq.rfl, Bool.or_true, ↓reduceIte, Bool.or_eq_true, or_false, h,
    State.allLegsLow_clocked, State.modCol_clocked, enablesToStraps_clocked, clocked_ite]
@[simp] theorem noteLine_clocked (p : Nat × Nat × Snap) (s : State) (b : Nat) (h : Clocked p s) : Clocked p ((noteLine s b)) := by
  unfold noteLine
  simp +contextual (maxDischargeDepth := 30) only [BitVec.ofNat_eq_ofNat, List.contains_eq_mem, h, State.modCol_clocked]
@[simp] theorem latch_clocked (p : Nat × Nat × Snap) (s : State) (b : Nat) (h : Clocked p s) : Clocked p ((latch s b)) := by
  unfold latch
  simp +contextual (maxDischargeDepth := 30) only [Bool.not_eq_eq_eq_not, Bool.not_true, BitVec.ofNat_eq_ofNat, h, noteLine_clocked, State.modCol_clocked, pinShutdown_clocked, larderTrigger_clocked, clocked_ite, fltPin_clocked]
@[simp] theorem latchAll_clocked (p : Nat × Nat × Snap) (s : State) (h : Clocked p s) : Clocked p ((latchAll s)) := by
  unfold latchAll
  simp +contextual (maxDischargeDepth := 30) only [h, latch_clocked, implies_true, foldl_clocked]
@[simp] theorem noteCheck_clocked (p : Nat × Nat × Snap) (s : State) (page : Nat) (m : Word) (h : Clocked p s) : Clocked p ((noteCheck s page m)) := by
  unfold noteCheck
  simp +contextual (maxDischargeDepth := 30) only [BitVec.ofNat_eq_ofNat, clocked_mk, h, clocked_tick, clocked_pub, and_self]
@[simp] theorem raiseMask_clocked (p : Nat × Nat × Snap) (s : State) (page : Nat) (m : Word) (h : Clocked p s) : Clocked p ((raiseMask s page m)) := by
  unfold raiseMask
  simp +contextual (maxDischargeDepth := 30) only [h, noteCheck_clocked, State.orReg_clocked, latch_clocked, implies_true, foldl_clocked]
@[simp] theorem raise_clocked (p : Nat × Nat × Snap) (s : State) (page b : Nat) (h : Clocked p s) : Clocked p ((raise s page b)) := by
  unfold raise
  simp +contextual (maxDischargeDepth := 30) only [h, raiseMask_clocked]
@[simp] theorem legOut_clocked (p : Nat × Nat × Snap) (s : State) (n : Leg) (h : Clocked p s) : Clocked p ((legOut s n)) := by
  unfold legOut
  simp +contextual (maxDischargeDepth := 30) only [h, State.fence_clocked, State.modLeg_clocked, modHw_clocked, clocked_ite]

/-! ### Ce -/

@[simp] theorem loopsTickStart_clocked (p : Nat × Nat × Snap) (s : State) (h : Clocked p s) : Clocked p ((loopsTickStart s)) := by
  unfold loopsTickStart
  simp +contextual (maxDischargeDepth := 30) only [Fin.getElem_fin, Bool.and_eq_true, Bool.not_eq_eq_eq_not, Bool.not_true, clocked_mk, h, clocked_tick, clocked_pub, and_self]
@[simp] theorem loopsStepDiv_clocked (p : Nat × Nat × Snap) (s : State) (h : Clocked p s) : Clocked p ((loopsStepDiv s)) := by
  unfold loopsStepDiv
  simp +contextual (maxDischargeDepth := 30) only [Bool.not_eq_eq_eq_not, Bool.not_true, Fin.getElem_fin, clocked_mk, h, clocked_tick, clocked_pub, and_self]
@[simp] theorem loopAfterCommit_clocked (p : Nat × Nat × Snap) (old : Word) (s : State) (l : LoopIx) (h : Clocked p s) : Clocked p ((loopAfterCommit old s l)) := by
  unfold loopAfterCommit
  simp +contextual (maxDischargeDepth := 30) only [Bool.and_eq_true, Bool.not_eq_eq_eq_not, Bool.not_true, Bool.and_true, Bool.false_eq_true, ↓reduceIte, bne_self_eq_false, Bool.false_or, bne_iff_ne, ne_eq, ite_not, Bool.bne_true, Bool.not_false, Bool.true_or, Bool.or_eq_true, h, State.modLoop_clocked, clocked_ite, State.evt_clocked]
@[simp] theorem oscBoundary_clocked (p : Nat × Nat × Snap) (s : State) (o : OscIx) (h : Clocked p s) : Clocked p ((oscBoundary s o)) := by
  unfold oscBoundary
  ((try dsimp only); (repeat' split) <;> (simp +contextual (maxDischargeDepth := 30) only [Fin.isValue, State.modOsc_clocked, State.evt_clocked, h, *]; done))
@[simp] theorem preloadLoops_clocked (p : Nat × Nat × Snap) (s : State) (t : Train) (h : Clocked p s) : Clocked p ((preloadLoops s t)) := by
  unfold preloadLoops
  simp +contextual (maxDischargeDepth := 30) only [Fin.getElem_fin, Bool.and_eq_true, Bool.not_eq_eq_eq_not, Bool.not_true, bne_iff_ne, ne_eq, h, clocked_mk, clocked_tick, clocked_pub, and_self, State.modLoop_clocked, State.evt_clocked, clocked_ite, implies_true, forAll_clocked]

/-! ### Legs -/

@[simp] theorem setCtl_clocked (p : Nat × Nat × Snap) (s : State) (n : Leg) (on : Bool) (h : Clocked p s) : Clocked p ((setCtl s n on)) := by
  unfold setCtl
  ((try dsimp only); (repeat' split) <;> (simp +contextual (maxDischargeDepth := 30) only [drive_clocked, h, *]; done))
@[simp] theorem setRect_clocked (p : Nat × Nat × Snap) (s : State) (n : Leg) (on : Bool) (h : Clocked p s) : Clocked p ((setRect s n on)) := by
  unfold setRect
  ((try dsimp only); (repeat' split) <;> (simp +contextual (maxDischargeDepth := 30) only [drive_clocked, h, *]; done))

/-! ### Supv -/

@[simp] theorem blame_clocked (p : Nat × Nat × Snap) (s : State) (i : Slice) (b : Blame) (mate : Bool) (h : Clocked p s) : Clocked p ((blame s i b mate)) := by
  unfold blame
  simp +contextual (maxDischargeDepth := 30) only [Fin.getElem_fin, Bool.and_eq_true, Bool.not_eq_eq_eq_not, Bool.not_true, h, State.modSup_clocked, raise_clocked]
@[simp] theorem releaseSpare_clocked (p : Nat × Nat × Snap) (s : State) (st : SpareState) (h : Clocked p s) : Clocked p ((releaseSpare s st)) := by
  unfold releaseSpare
  simp +contextual (maxDischargeDepth := 30) only [clocked_mk, h, clocked_tick, clocked_pub, and_self]

/-! ### Source -/

@[simp] theorem presetLegs_clocked (p : Nat × Nat × Snap) (s : State) (t : Train) (share : Nat) (h : Clocked p s) : Clocked p ((presetLegs s t share)) := by
  unfold presetLegs
  simp +contextual (maxDischargeDepth := 30) only [Bool.and_eq_true, beq_iff_eq, Bool.not_eq_eq_eq_not, Bool.not_true, Fin.getElem_fin, h, State.modLeg_clocked, setCtl_clocked, setRect_clocked, clocked_ite, modHw_clocked, implies_true, forAll_clocked]
@[simp] theorem presetTrain_clocked (p : Nat × Nat × Snap) (s : State) (t : Train) (total : Nat) (h : Clocked p s) : Clocked p ((presetTrain s t total)) := by
  unfold presetTrain
  simp +contextual (maxDischargeDepth := 30) only [beq_iff_eq, Fin.getElem_fin, h, clocked_mk, State.evt_clocked, clocked_ite,
    State.modTrain_clocked, setTrain_clocked, presetLegs_clocked, clocked_tick, clocked_pub, and_self]
@[simp] theorem ridePreset_clocked (p : Nat × Nat × Snap) (s : State) (h : Clocked p s) : Clocked p ((ridePreset s)) := by
  unfold ridePreset
  simp +contextual (maxDischargeDepth := 30) only [Bool.not_eq_eq_eq_not, Bool.not_true, List.isEmpty_iff, List.filter_eq_nil_iff, List.mem_finRange, Bool.and_eq_true, bne_iff_ne, ne_eq, not_and, Decidable.not_not, forall_const, Fin.isValue, Fin.getElem_fin, Fin.val_zero, Fin.val_one, not_true_eq_false, not_false_eq_true, implies_true, imp_self, ↓reduceIte, List.contains_eq_mem, List.mem_filter, true_and, Bool.decide_and, Bool.decide_eq_true, decide_not, clocked_mk, h, clocked_tick, clocked_pub, and_self, presetTrain_clocked, foldl_clocked, State.evt_clocked, clocked_ite]
@[simp] theorem nodeCheck_clocked (p : Nat × Nat × Snap) (s : State) (k : Fin 2) (h : Clocked p s) : Clocked p ((nodeCheck s k)) := by
  unfold nodeCheck
  dsimp only
  split
  · refine ridePreset_clocked _ _ (forAll_clocked p _ _ (by simp [h]) fun s a hs => ?_)
    (repeat' split) <;> simp [hs]
  · exact h
@[simp] theorem ridePreload_clocked (p : Nat × Nat × Snap) (s : State) (h : Clocked p s) : Clocked p ((ridePreload s)) := by
  unfold ridePreload
  ((try dsimp only); (repeat' split) <;> (simp +contextual (maxDischargeDepth := 30) only [Fin.getElem_fin, State.modLoop_clocked, h, *]; done))
@[simp] theorem srcBoundary_clocked (p : Nat × Nat × Snap) (s : State) (h : Clocked p s) : Clocked p ((srcBoundary s)) := by
  unfold srcBoundary
  simp +contextual (maxDischargeDepth := 30) only [Fin.getElem_fin, List.any_eq_true, List.mem_finRange, bne_iff_ne, ne_eq, true_and, Bool.and_eq_true, beq_iff_eq, decide_eq_true_eq, clocked_mk, h, clocked_tick, clocked_pub, and_self, State.modSrc_clocked, implies_true, forAll_clocked, State.evt_clocked, clocked_ite, nodeCheck_clocked, State.modNode_clocked]

/-! ### Battery -/

@[simp] theorem batNewTemp_clocked (q : Nat × Nat × Snap) (s : State) (p : BPort) (h : Clocked q s) : Clocked q ((batNewTemp s p)) := by
  unfold batNewTemp
  ((try dsimp only); (repeat' split) <;> (simp +contextual (maxDischargeDepth := 30) only [h, State.modBat_clocked, State.evt_clocked, *]; done))
@[simp] theorem ntcResult_clocked (q : Nat × Nat × Snap) (s : State) (p : BPort) (isB : Bool) (res : Int) (ow : Bool) (h : Clocked q s) : Clocked q ((ntcResult s p isB res ow)) := by
  unfold ntcResult
  simp +contextual (maxDischargeDepth := 30) only [Int.reduceMul, Bool.or_eq_true, decide_eq_true_eq, State.modBat_cp, Fin.getElem_fin, upd_same_val, Bool.and_eq_true, bne_iff_ne, ne_eq, Bool.not_and, Bool.not_eq_eq_eq_not, Bool.not_true, ite_not, h, State.modBat_clocked, clocked_ite, State.evt_clocked, batNewTemp_clocked]
@[simp] theorem energyTick_clocked (q : Nat × Nat × Snap) (s : State) (p : BPort) (h : Clocked q s) : Clocked q ((energyTick s p)) := by
  unfold energyTick
  simp +contextual (maxDischargeDepth := 30) only [h, State.modBat_clocked]
@[simp] theorem removalStop_clocked (q : Nat × Nat × Snap) (s : State) (p : BPort) (h : Clocked q s) : Clocked q ((removalStop s p)) := by
  unfold removalStop
  simp +contextual (maxDischargeDepth := 30) only [h, trainHold_clocked, implies_true, foldl_clocked]
@[simp] theorem phaseEntered_clocked (q : Nat × Nat × Snap) (s : State) (p : BPort) (old : Nat) (h : Clocked q s) : Clocked q ((phaseEntered s p old)) := by
  unfold phaseEntered
  simp +contextual (maxDischargeDepth := 30) only [beq_iff_eq, Bool.and_eq_true, Nat.reduceBEq, Bool.or_self, Bool.and_self, Bool.false_eq_true,
    ↓reduceIte, Bool.or_eq_true, h, State.modBat_clocked, State.evt_clocked, clocked_ite]
@[simp] theorem qualWindow_clocked (q : Nat × Nat × Snap) (s : State) (p : BPort) (h : Clocked q s) : Clocked q ((qualWindow s p)) := by
  unfold qualWindow
  simp +contextual (maxDischargeDepth := 30) only [Fin.getElem_fin, h, batNewTemp_clocked, clocked_ite]
@[simp] theorem forcePhase_clocked (q : Nat × Nat × Snap) (s : State) (p : BPort) (ph : Nat) (h : Clocked q s) : Clocked q ((forcePhase s p ph)) := by
  unfold forcePhase
  simp +contextual (maxDischargeDepth := 30) only [h, set_BP_PHASE_PHASE_clocked, phaseEntered_clocked, qualWindow_clocked]
@[simp] theorem forceFault_clocked (q : Nat × Nat × Snap) (s : State) (p : BPort) (cause : Nat) (h : Clocked q s) : Clocked q ((forceFault s p cause)) := by
  unfold forceFault
  simp +contextual (maxDischargeDepth := 30) only [h, forcePhase_clocked, State.modBat_clocked, raise_clocked, clocked_ite]
@[simp] theorem bpRestart_clocked (q : Nat × Nat × Snap) (s : State) (p : BPort) (h : Clocked q s) : Clocked q ((bpRestart s p)) := by
  unfold bpRestart
  simp +contextual (maxDischargeDepth := 30) only [bne_iff_ne, ne_eq, Fin.getElem_fin, Bool.and_eq_true, decide_eq_true_eq, Bool.or_eq_true, Bool.not_eq_eq_eq_not, Bool.not_true, ite_not, h, State.modBat_clocked, forcePhase_clocked, State.evt_clocked, clocked_ite]
@[simp] theorem probeDiscard_clocked (q : Nat × Nat × Snap) (s : State) (p : BPort) (cause : Nat) (h : Clocked q s) : Clocked q ((probeDiscard s p cause)) := by
  unfold probeDiscard
  simp +contextual (maxDischargeDepth := 30) only [h, State.modBat_clocked, State.evt_clocked]
@[simp] theorem probeBoundary_clocked (q : Nat × Nat × Snap) (s : State) (p : BPort) (h : Clocked q s) : Clocked q ((probeBoundary s p)) := by
  unfold probeBoundary
  simp +contextual (maxDischargeDepth := 30) only [Bool.and_eq_true, Fin.getElem_fin, decide_eq_true_eq, h, probeDiscard_clocked, State.modBat_clocked, clocked_ite]
@[simp] theorem batMeasure_clocked (q : Nat × Nat × Snap) (s : State) (p : BPort) (h : Clocked q s) : Clocked q ((batMeasure s p)) := by
  unfold batMeasure
  simp +contextual (maxDischargeDepth := 30) only [h, State.modBat_clocked]
@[simp] theorem batTargets_clocked (q : Nat × Nat × Snap) (s : State) (p : BPort) (h : Clocked q s) : Clocked q ((batTargets s p)) := by
  unfold batTargets
  simp +contextual (maxDischargeDepth := 30) only [h, State.modBat_clocked]
@[simp] theorem batForce_clocked (q : Nat × Nat × Snap) (s : State) (p : BPort) (h : Clocked q s) : Clocked q ((batForce s p)) := by
  unfold batForce
  ((try dsimp only); (repeat' split) <;> (simp +contextual (maxDischargeDepth := 30) only [State.modBatHw_clocked, State.modBat_clocked, removalStop_clocked, h, forceFault_clocked, forcePhase_clocked, State.evt_clocked, *]; done))
@[simp] theorem batPin_clocked (q : Nat × Nat × Snap) (s : State) (p : BPort) (h : Clocked q s) : Clocked q ((batPin s p)) := by
  unfold batPin
  simp +contextual (maxDischargeDepth := 30) only [Bool.not_eq_eq_eq_not, Bool.not_true, Fin.getElem_fin, Bool.and_eq_true, decide_eq_true_eq, beq_iff_eq, h, State.modBatHw_clocked, forceFault_clocked, clocked_ite, clocked_mk, clocked_tick, clocked_pub, and_self]
@[simp] theorem batPhase_clocked (q : Nat × Nat × Snap) (old : State) (staged : Bool) (s : State) (p : BPort) (h : Clocked q s) : Clocked q ((batPhase old staged s p)) := by
  unfold batPhase
  simp +contextual (maxDischargeDepth := 30) only [Bool.not_eq_eq_eq_not, Bool.not_true, Bool.false_eq_true, ↓reduceIte, bne_iff_ne, ne_eq, ite_not, h, set_BP_PHASE_PHASE_clocked, batForce_clocked, batPin_clocked, phaseEntered_clocked, qualWindow_clocked, State.evt_clocked, clocked_ite]
@[simp] theorem batPresence_clocked (q : Nat × Nat × Snap) (s : State) (p : BPort) (h : Clocked q s) : Clocked q ((batPresence s p)) := by
  unfold batPresence
  simp +contextual (maxDischargeDepth := 30) only [Bool.and_eq_true, beq_iff_eq, h, State.modBatHw_clocked, State.modBat_clocked]
@[simp] theorem batAge_clocked (q : Nat × Nat × Snap) (s : State) (p : BPort) (h : Clocked q s) : Clocked q ((batAge s p)) := by
  unfold batAge
  ((try dsimp only); (repeat' split) <;> (simp +contextual (maxDischargeDepth := 30) only [h, State.modBat_clocked, batNewTemp_clocked, *]; done))

/-! ### Trains -/

@[simp] theorem trainEstimate_clocked (p : Nat × Nat × Snap) (s : State) (t : Train) (h : Clocked p s) : Clocked p ((trainEstimate s t)) := by
  unfold trainEstimate
  simp +contextual (maxDischargeDepth := 30) only [Fin.getElem_fin, h, State.modTrain_clocked, State.modLeg_clocked, implies_true, foldl_clocked]
@[simp] theorem adopt_clocked (p : Nat × Nat × Snap) (s : State) (a : Nat) (mask : Word) (h : Clocked p s) : Clocked p ((adopt s a mask)) := by
  unfold adopt
  simp +contextual (maxDischargeDepth := 30) only [clocked_mk, h, clocked_tick, clocked_pub, and_self]
@[simp] theorem adoptCells_clocked (p : Nat × Nat × Snap) (s : State) (h : Clocked p s) : Clocked p ((adoptCells s)) := by
  unfold adoptCells
  simp +contextual (maxDischargeDepth := 30) only [Fin.getElem_fin, h, State.modCal_clocked]
@[simp] theorem adoptPending_clocked (p : Nat × Nat × Snap) (s : State) (h : Clocked p s) : Clocked p ((adoptPending s)) := by
  unfold adoptPending
  simp +contextual (maxDischargeDepth := 30) only [Bool.and_eq_true, BitVec.ofNat_eq_ofNat, h, adoptCells_clocked, adopt_clocked, clocked_ite, implies_true, forAll_clocked, foldl_clocked, raise_clocked]
@[simp] theorem startTrain_clocked (p : Nat × Nat × Snap) (s : State) (t : Train) (h : Clocked p s) : Clocked p ((startTrain s t)) := by
  unfold startTrain
  simp +contextual (maxDischargeDepth := 30) only [State.modTrain_pending, State.modTrain_cp, Fin.getElem_fin, State.modTrain_x, State.modTrain_pub, State.modTrain_views, State.modTrain_ck, State.modTrain_free, clocked_mk, h, State.modTrain_clocked, setTrain_clocked, clocked_tick, clocked_pub, and_self]
@[simp] theorem beginStop_clocked (p : Nat × Nat × Snap) (s : State) (t : Train) (h : Clocked p s) : Clocked p ((beginStop s t)) := by
  unfold beginStop
  simp +contextual (maxDischargeDepth := 30) only [h, cancelShed_clocked, State.modTrain_clocked, setTrain_clocked]
@[simp] theorem ssRise_clocked (p : Nat × Nat × Snap) (s : State) (t : Train) (h : Clocked p s) : Clocked p ((ssRise s t)) := by
  unfold ssRise
  simp +contextual (maxDischargeDepth := 30) only [Int.reduceMul, h, State.modTrain_clocked]
@[simp] theorem legsOn_clocked (p : Nat × Nat × Snap) (s : State) (t : Train) (h : Clocked p s) : Clocked p ((legsOn s t)) := by
  unfold legsOn
  simp +contextual (maxDischargeDepth := 30) only [Bool.and_eq_true, beq_iff_eq, Bool.not_eq_eq_eq_not, Bool.not_true, h, State.modLeg_clocked, clocked_ite, implies_true, forAll_clocked]
@[simp] theorem trainBoundary_clocked (p : Nat × Nat × Snap) (s : State) (t : Train) (h : Clocked p s) : Clocked p ((trainBoundary s t)) := by
  unfold trainBoundary
  ((try dsimp only); (repeat' split) <;> (simp +contextual (maxDischargeDepth := 30) only [clocked_mk, clocked_tick, clocked_pub, and_self, h, State.modTrain_clocked, setTrain_clocked, legsOff_clocked, legsOn_clocked, ssRise_clocked, beginStop_clocked, *]; done))
@[simp] theorem trainStart_clocked (p : Nat × Nat × Snap) (s : State) (t : Train) (h : Clocked p s) : Clocked p ((trainStart s t)) := by
  unfold trainStart
  simp +contextual (maxDischargeDepth := 30) only [Fin.getElem_fin, Bool.and_eq_true, decide_eq_true_eq, h, startTrain_clocked,
    State.modTrain_clocked, State.evt_clocked, clocked_ite]
@[simp] theorem preload_clocked (p : Nat × Nat × Snap) (s : State) (t : Train) (h : Clocked p s) : Clocked p ((preload s t)) := by
  unfold preload
  simp +contextual (maxDischargeDepth := 30) only [Fin.getElem_fin, Bool.and_eq_true, beq_iff_eq, bne_iff_ne, ne_eq, Rat.natCast_mul,
    Rat.natCast_add, h, State.modTrain_clocked, preloadLoops_clocked, clocked_ite]

/-! ### Conv -/

@[simp] theorem fineTrigger_clocked (p : Nat × Nat × Snap) (s : State) (i : Slice) (cyc : Nat) (h : Clocked p s) : Clocked p ((fineTrigger s i cyc)) := by
  unfold fineTrigger
  simp +contextual (maxDischargeDepth := 30) only [Fin.getElem_fin, Bool.or_eq_true, bne_iff_ne, ne_eq, beq_iff_eq, Bool.not_eq_eq_eq_not, Bool.not_true, h, State.modSl_clocked, State.evt_clocked, clocked_ite]
@[simp] theorem fineTake_clocked (p : Nat × Nat × Snap) (s : State) (i : Slice) (h : Clocked p s) : Clocked p ((fineTake s i)) := by
  unfold fineTake
  simp +contextual (maxDischargeDepth := 30) only [Fin.getElem_fin, Bool.not_eq_eq_eq_not, Bool.not_true, h, State.modSl_clocked, State.evt_clocked, clocked_ite]
@[simp] theorem fineTakeBefore_clocked (p : Nat × Nat × Snap) (s : State) (i : Slice) (cyc : Nat) (h : Clocked p s) : Clocked p ((fineTakeBefore s i cyc)) := by
  unfold fineTakeBefore
  simp +contextual (maxDischargeDepth := 30) only [Fin.getElem_fin, h, State.modSl_clocked, fineTake_clocked, implies_true, foldl_clocked]
@[simp] theorem fineTickEnd_clocked (p : Nat × Nat × Snap) (s : State) (h : Clocked p s) : Clocked p ((fineTickEnd s)) := by
  unfold fineTickEnd
  simp +contextual (maxDischargeDepth := 30) only [h, fineTakeBefore_clocked, implies_true, forAll_clocked]
@[simp] theorem fineRestart_clocked (p : Nat × Nat × Snap) (old s : State) (h : Clocked p s) : Clocked p ((fineRestart old s)) := by
  unfold fineRestart
  simp +contextual (maxDischargeDepth := 30) only [bne_iff_ne, ne_eq, ite_not, h, State.modSl_clocked, clocked_ite, implies_true, forAll_clocked]
@[simp] theorem fineBoundary_clocked (p : Nat × Nat × Snap) (s : State) (i : Slice) (h : Clocked p s) : Clocked p ((fineBoundary s i)) := by
  unfold fineBoundary
  ((try dsimp only); (repeat' split) <;> (simp +contextual (maxDischargeDepth := 30) only [State.modSl_pending, State.evt_pending, State.modSl_cp, State.evt_cp, State.modSl_x, State.evt_x, Fin.getElem_fin, upd_same_val, State.modSl_pub, State.evt_pub, State.modSl_views, State.evt_views, State.modSl_ck, State.evt_ck, State.modSl_free, State.evt_free, clocked_mk, clocked_tick, clocked_pub, and_self, h, *]; done))
@[simp] theorem judgeWindow_clocked (p : Nat × Nat × Snap) (s : State) (i : Slice) (w : Int) (cyc : Nat) (h : Clocked p s) : Clocked p ((judgeWindow s i w cyc)) := by
  unfold judgeWindow
  simp +contextual (maxDischargeDepth := 30) only [Bool.or_eq_true, Bool.not_eq_eq_eq_not, Bool.not_true, Fin.getElem_fin, Bool.and_eq_true, h, State.modSl_clocked, clocked_ite, State.evt_clocked, fineTrigger_clocked]
@[simp] theorem latchConv_clocked (p : Nat × Nat × Snap) (raw : Vector Raw 17) (s : State) (c : Conv) (h : Clocked p s) : Clocked p ((latchConv raw s c)) := by
  unfold latchConv
  ((try dsimp only); (repeat' split) <;> (simp +contextual (maxDischargeDepth := 30) only [h, State.modConv_clocked, *]; done))
@[simp] theorem deliver_clocked (p : Nat × Nat × Snap) (s : State) (i : Slice) (h : Clocked p s) : Clocked p ((deliver s i)) := by
  unfold deliver
  simp +contextual (maxDischargeDepth := 30) only [Fin.getElem_fin, Bool.not_false, Bool.and_true, Bool.and_eq_true, Bool.not_eq_eq_eq_not,
    Bool.not_true, beq_iff_eq, clocked_mk, h, clocked_tick, clocked_pub, and_self]
@[simp] theorem owCount_clocked (p : Nat × Nat × Snap) (s : State) (i : Slice) (h : Clocked p s) : Clocked p ((owCount s i)) := by
  unfold owCount
  simp +contextual (maxDischargeDepth := 30) only [Bool.or_eq_true, Bool.not_eq_eq_eq_not, Bool.not_true, Fin.getElem_fin, Bool.and_eq_true, h,
    State.modSl_clocked, clocked_ite]
@[simp] theorem axOwTest_clocked (p : Nat × Nat × Snap) (s : State) (n : Fin 14) (res : Int) (h : Clocked p s) : Clocked p ((axOwTest s n res)) := by
  unfold axOwTest
  simp +contextual (maxDischargeDepth := 30) only [Bool.not_eq_eq_eq_not, Bool.not_true, Fin.getElem_fin, State.modAx_x, upd_same_val,
    Bool.and_eq_true, decide_eq_true_eq, h, State.modAx_clocked, State.evt_clocked, clocked_ite]
@[simp] theorem dieResult_clocked (p : Nat × Nat × Snap) (s : State) (res : Int) (h : Clocked p s) : Clocked p ((dieResult s res)) := by
  unfold dieResult
  simp +contextual (maxDischargeDepth := 30) only [Int.reduceNeg, h, State.modAx_clocked, clocked_ite]
@[simp] theorem refResult_clocked (p : Nat × Nat × Snap) (s : State) (res : Int) (h : Clocked p s) : Clocked p ((refResult s res)) := by
  unfold refResult
  simp +contextual (maxDischargeDepth := 30) only [decide_eq_true_eq, Rat.intCast_sub, Rat.intCast_ofNat, Nat.min_eq_right, h, State.modAx_clocked,
    raise_clocked, clocked_ite]
@[simp] theorem axConsumers_clocked (p : Nat × Nat × Snap) (s : State) (n : Fin 16) (res raw : Int) (h : Clocked p s) : Clocked p ((axConsumers s n res raw)) := by
  unfold axConsumers
  simp +contextual (maxDischargeDepth := 30) only [beq_iff_eq, Bool.and_eq_true, bne_iff_ne, ne_eq, decide_eq_true_eq, State.modAx_x, h,
    State.modSrc_clocked, clocked_ite, implies_true, forAll_clocked, State.modAx_clocked, ntcResult_clocked]
@[simp] theorem axStart_clocked (p : Nat × Nat × Snap) (s : State) (h : Clocked p s) : Clocked p ((axStart s)) := by
  unfold axStart
  simp +contextual (maxDischargeDepth := 30) only [Bool.and_eq_true, Bool.not_eq_eq_eq_not, Bool.not_true, Fin.isValue, BitVec.ofNat_eq_ofNat,
    Fin.getElem_fin, h, State.modAx_clocked]
@[simp] theorem axFaultFlags_clocked (p : Nat × Nat × Snap) (s : State) (h : Clocked p s) : Clocked p ((axFaultFlags s)) := by
  unfold axFaultFlags
  simp +contextual (maxDischargeDepth := 30) only [Fin.getElem_fin, BitVec.ofNat_eq_ofNat, h, State.modAx_clocked, clocked_ite]
@[simp] theorem axOwStep_clocked (p : Nat × Nat × Snap) (s : State) (n : Slice) (res : Int) (h : Clocked p s) : Clocked p ((axOwStep s n res)) := by
  unfold axOwStep
  ((try dsimp only); (repeat' split) <;> (simp +contextual (maxDischargeDepth := 30) only [axOwTest_clocked, h, *]; done))
@[simp] theorem axLatch_clocked (p : Nat × Nat × Snap) (s : State) (n : Slice) (raw0 : Int) (h : Clocked p s) : Clocked p ((axLatch s n raw0)) := by
  unfold axLatch
  simp +contextual (maxDischargeDepth := 30) only [beq_iff_eq, clocked_mk, h, clocked_tick, clocked_pub, and_self, State.modAx_clocked, axOwStep_clocked, axFaultFlags_clocked, axConsumers_clocked, dieResult_clocked, refResult_clocked, clocked_ite]
@[simp] theorem axBoundary_clocked (p : Nat × Nat × Snap) (s : State) (h : Clocked p s) : Clocked p ((axBoundary s)) := by
  unfold axBoundary
  refine axFaultFlags_clocked _ _ (forAll_clocked p _ _ (axStart_clocked _ s h) fun s a hs => ?_)
  split
  · exact hs
  · exact axLatch_clocked _ _ _ _ hs
@[simp] theorem sysStart_clocked (p : Nat × Nat × Snap) (s : State) (i : Slice) (kind : Nat) (h : Clocked p s) : Clocked p ((sysStart s i kind)) := by
  unfold sysStart
  simp +contextual (maxDischargeDepth := 30) only [Fin.getElem_fin, Bool.or_eq_true, bne_iff_ne, ne_eq, Bool.not_eq_eq_eq_not, Bool.not_true, h,
    State.modSys_clocked, clocked_ite]
@[simp] theorem sysAbort_clocked (p : Nat × Nat × Snap) (s : State) (i : Slice) (h : Clocked p s) : Clocked p ((sysAbort s i)) := by
  unfold sysAbort
  simp +contextual (maxDischargeDepth := 30) only [Fin.getElem_fin, beq_iff_eq, Bool.and_eq_true, h, State.modSys_clocked, clocked_ite]
@[simp] theorem sysAccumulate_clocked (p : Nat × Nat × Snap) (s : State) (i : Slice) (h : Clocked p s) : Clocked p ((sysAccumulate s i)) := by
  unfold sysAccumulate
  simp +contextual (maxDischargeDepth := 30) only [Fin.getElem_fin, Bool.and_eq_true, bne_iff_ne, ne_eq, decide_eq_true_eq, h,
    State.modSys_clocked, clocked_ite]
@[simp] theorem axCalStart_clocked (p : Nat × Nat × Snap) (s : State) (kind : Nat) (h : Clocked p s) : Clocked p ((axCalStart s kind)) := by
  unfold axCalStart
  simp +contextual (maxDischargeDepth := 30) only [ne_eq, decide_not, Bool.or_eq_true, bne_iff_ne, Bool.not_eq_eq_eq_not, Bool.not_true,
    decide_eq_false_iff_not, h, State.modAx_clocked, clocked_ite]
@[simp] theorem axCalAbort_clocked (p : Nat × Nat × Snap) (s : State) (h : Clocked p s) : Clocked p ((axCalAbort s)) := by
  unfold axCalAbort
  simp +contextual (maxDischargeDepth := 30) only [beq_iff_eq, Bool.and_eq_true, h, State.modAx_clocked, clocked_ite]
@[simp] theorem bgRelease_clocked (p : Nat × Nat × Snap) (s : State) (h : Clocked p s) : Clocked p ((bgRelease s)) := by
  unfold bgRelease
  simp +contextual (maxDischargeDepth := 30) only [State.modBg_cp, Bool.or_eq_true, h, State.modBg_clocked, State.modSpare_clocked, clocked_ite]
@[simp] theorem bgCancel_clocked (p : Nat × Nat × Snap) (s : State) (h : Clocked p s) : Clocked p ((bgCancel s)) := by
  unfold bgCancel
  simp +contextual (maxDischargeDepth := 30) only [Bool.or_eq_true, beq_iff_eq, h, State.modBg_clocked, State.modSpare_clocked, bgRelease_clocked,
    clocked_ite]
@[simp] theorem bgOwn_clocked (p : Nat × Nat × Snap) (s : State) (h : Clocked p s) : Clocked p ((bgOwn s)) := by
  unfold bgOwn
  simp +contextual (maxDischargeDepth := 30) only [beq_iff_eq, h, State.modBg_clocked, State.modSpare_clocked, clocked_ite]
@[simp] theorem bgAccumulate_clocked (p : Nat × Nat × Snap) (s : State) (h : Clocked p s) : Clocked p ((bgAccumulate s)) := by
  unfold bgAccumulate
  simp +contextual (maxDischargeDepth := 30) only [Bool.or_eq_true, beq_iff_eq, Bool.and_eq_true, decide_eq_true_eq, Fin.getElem_fin, State.modBg_x, h, State.modBg_clocked, bgRelease_clocked, State.evt_clocked, clocked_ite]
@[simp] theorem traceRequest_clocked (p : Nat × Nat × Snap) (s : State) (h : Clocked p s) : Clocked p ((traceRequest s)) := by
  unfold traceRequest
  simp +contextual (maxDischargeDepth := 30) only [Bool.or_eq_true, decide_eq_true_eq, h, State.modTrace_clocked, set_ADC_REF_CTRL_TRACE_clocked,
    clocked_ite]
@[simp] theorem traceEnd_clocked (p : Nat × Nat × Snap) (s : State) (f : TraceSt → TraceSt) (h : Clocked p s) : Clocked p ((traceEnd s f)) := by
  unfold traceEnd
  simp +contextual (maxDischargeDepth := 30) only [h, State.modTrace_clocked, set_ADC_REF_CTRL_TRACE_clocked]
@[simp] theorem traceStop_clocked (p : Nat × Nat × Snap) (s : State) (h : Clocked p s) : Clocked p ((traceStop s)) := by
  unfold traceStop
  simp +contextual (maxDischargeDepth := 30) only [h, traceEnd_clocked]
@[simp] theorem traceAbort_clocked (p : Nat × Nat × Snap) (s : State) (h : Clocked p s) : Clocked p ((traceAbort s)) := by
  unfold traceAbort
  simp +contextual (maxDischargeDepth := 30) only [Bool.and_eq_true, decide_eq_true_eq, Bool.or_eq_true, beq_iff_eq, h, State.modTrace_clocked,
    traceStop_clocked, clocked_ite]
@[simp] theorem traceAccumulate_clocked (p : Nat × Nat × Snap) (s : State) (h : Clocked p s) : Clocked p ((traceAccumulate s)) := by
  unfold traceAccumulate
  simp +contextual (maxDischargeDepth := 30) only [Bool.not_eq_eq_eq_not, Bool.not_true, Bool.and_eq_true, decide_eq_true_eq, Fin.getElem_fin, h,
    State.modTrace_clocked, clocked_ite]
@[simp] theorem spareBoundary_clocked (p : Nat × Nat × Snap) (s : State) (h : Clocked p s) : Clocked p ((spareBoundary s)) := by
  unfold spareBoundary
  extract_lets s1 call s2 s3
  have h1 : Clocked p s1 := forAll_clocked p _ _ h fun s i hs => by simp [hs]
  clear_value s1
  have h2 : Clocked p s2 := by simp only [s2]; (repeat' split) <;> simp [h1]
  clear_value s2
  have h3 : Clocked p s3 := by simp only [s3]; split <;> simp [h2]
  clear_value s3
  (repeat' split) <;> simp [h3]
@[simp] theorem pairBoundary_clocked (p : Nat × Nat × Snap) (s : State) (h : Clocked p s) : Clocked p ((pairBoundary s)) := by
  unfold pairBoundary
  simp +contextual (maxDischargeDepth := 30) only [bne_iff_ne, ne_eq, ite_not, clocked_mk, h, clocked_tick, clocked_pub, and_self, clocked_ite,
    implies_true, forAll_clocked]
@[simp] theorem convBoundary_clocked (p : Nat × Nat × Snap) (raw : Vector Raw 17) (s : State) (h : Clocked p s) : Clocked p ((convBoundary raw s)) := by
  unfold convBoundary
  simp +contextual (maxDischargeDepth := 30) only [Bool.and_eq_true, beq_iff_eq, Fin.getElem_fin, h, pairBoundary_clocked, latchConv_clocked, implies_true, forAll_clocked, fineBoundary_clocked, deliver_clocked, judgeWindow_clocked, clocked_ite, owCount_clocked, axBoundary_clocked, sysAccumulate_clocked, bgAccumulate_clocked, traceAccumulate_clocked]

/-! ### Subst -/

@[simp] theorem noteBlamed_clocked (p : Nat × Nat × Snap) (rolled : Bool) (s : State) (blamed : List Slice) (h : Clocked p s) : Clocked p ((noteBlamed rolled s blamed)) := by
  unfold noteBlamed
  simp +contextual (maxDischargeDepth := 30) only [List.any_eq_true, h, State.modModel_clocked, clocked_ite, implies_true, forAll_clocked]
@[simp] theorem estimates_clocked (p : Nat × Nat × Snap) (s : State) (h : Clocked p s) : Clocked p ((estimates s)) := by
  unfold estimates
  simp +contextual (maxDischargeDepth := 30) only [Fin.getElem_fin, h, State.modSup_clocked, clocked_ite, implies_true, forAll_clocked]
@[simp] theorem dutyReturn_clocked (p : Nat × Nat × Snap) (s : State) (t : Train) (h : Clocked p s) : Clocked p ((dutyReturn s t)) := by
  unfold dutyReturn
  simp +contextual (maxDischargeDepth := 30) only [Fin.getElem_fin, Rat.intCast_mul, Rat.intCast_ofNat, Rat.natCast_mul, h, State.modLoop_clocked]
@[simp] theorem substNow_clocked (p : Nat × Nat × Snap) (s : State) (t : Train) (on : Bool) (tk before : Nat) (h : Clocked p s) : Clocked p ((substNow s t on tk before)) := by
  unfold substNow
  simp +contextual (maxDischargeDepth := 30) only [Fin.getElem_fin, Bool.not_and, Option.not_isSome, State.modModel_cp, Bool.and_eq_true, Bool.or_eq_true, Bool.not_eq_eq_eq_not, Bool.not_true, Option.isNone_iff_eq_none, h, State.modModel_clocked, dutyReturn_clocked, clocked_ite]
@[simp] theorem substTrain_clocked (p : Nat × Nat × Snap) (s : State) (t : Train) (h : Clocked p s) : Clocked p ((substTrain s t)) := by
  unfold substTrain
  simp +contextual (maxDischargeDepth := 30) only [Bool.not_eq_eq_eq_not, Bool.not_true, Fin.getElem_fin, Bool.or_eq_true, h, substNow_clocked, clocked_ite]
@[simp] theorem substAnew_clocked (p : Nat × Nat × Snap) (s : State) (t : Train) (h : Clocked p s) : Clocked p ((substAnew s t)) := by
  unfold substAnew
  simp +contextual (maxDischargeDepth := 30) only [Fin.getElem_fin, h, substTrain_clocked, clocked_ite]
@[simp] theorem substAgain_clocked (p : Nat × Nat × Snap) (s : State) (t : Train) (h : Clocked p s) : Clocked p ((substAgain s t)) := by
  unfold substAgain
  simp +contextual (maxDischargeDepth := 30) only [Fin.getElem_fin, h, substNow_clocked, clocked_ite]

/-! ### Tally -/

@[simp] theorem tlNote_clocked (p : Nat × Nat × Snap) (s : State) (n : TallyIx) (hit wrap : Bool) (h : Clocked p s) : Clocked p ((tlNote s n hit wrap)) := by
  unfold tlNote
  simp +contextual (maxDischargeDepth := 30) only [Bool.toNat_false, Bool.false_eq_true, ↓reduceIte, BitVec.ofNat_eq_ofNat, Bool.toNat_true, h, State.evt_clocked, State.orReg_clocked, clocked_ite, State.modTl_clocked]
@[simp] theorem countEdge_clocked (p : Nat × Nat × Snap) (s : State) (n : TallyIx) (cyc : Nat) (h : Clocked p s) : Clocked p ((countEdge s n cyc)) := by
  unfold countEdge
  simp +contextual (maxDischargeDepth := 30) only [State.modTl_x, Fin.getElem_fin, upd_same_val, Nat.mod_mul_right_mod, h, State.modTl_clocked, clocked_ite, tlNote_clocked]
@[simp] theorem tlTickEdges_clocked (p : Nat × Nat × Snap) (s : State) (h : Clocked p s) : Clocked p ((tlTickEdges s)) := by
  unfold tlTickEdges
  simp +contextual (maxDischargeDepth := 30) only [beq_iff_eq, h, countEdge_clocked, clocked_ite, implies_true, forAll_clocked]
@[simp] theorem toutAct_clocked (p : Nat × Nat × Snap) (s : State) (n : TallyIx) (code : Nat) (h : Clocked p s) : Clocked p ((toutAct s n code)) := by
  unfold toutAct
  simp +contextual (maxDischargeDepth := 30) only [Bool.or_eq_true, Bool.not_eq_eq_eq_not, Bool.not_true, decide_eq_true_eq, bne_iff_ne, ne_eq,
    Fin.getElem_fin, ite_not, h, clocked_mk, clocked_tick, clocked_pub, and_self, clocked_ite]
@[simp] theorem tlSync_clocked (p : Nat × Nat × Snap) (s : State) (mask : Word) (h : Clocked p s) : Clocked p ((tlSync s mask)) := by
  unfold tlSync
  simp +contextual (maxDischargeDepth := 30) only [h, set_TLn_CFG_EN_clocked, clocked_ite, implies_true, forAll_clocked]
@[simp] theorem tlStart_clocked (p : Nat × Nat × Snap) (s : State) (n : TallyIx) (h : Clocked p s) : Clocked p ((tlStart s n)) := by
  unfold tlStart
  simp +contextual (maxDischargeDepth := 30) only [h, State.modTl_clocked, toutAct_clocked, clocked_ite]
@[simp] theorem tlBoundary_clocked (p : Nat × Nat × Snap) (s : State) (n : TallyIx) (h : Clocked p s) : Clocked p ((tlBoundary s n)) := by
  unfold tlBoundary
  simp +contextual (maxDischargeDepth := 30) only [State.modTl_x, Fin.getElem_fin, upd_same_val, Bool.and_eq_true, Bool.not_eq_eq_eq_not, Bool.not_true, Bool.or_eq_true, bne_iff_ne, ne_eq, h, State.modTl_clocked, clocked_ite, tlStart_clocked]

/-! ### Cal -/

@[simp] theorem calStart_clocked (p : Nat × Nat × Snap) (s : State) (kind target : Nat) (h : Clocked p s) : Clocked p ((calStart s kind target)) := by
  unfold calStart
  simp +contextual (maxDischargeDepth := 30) only [bne_iff_ne, ne_eq, beq_iff_eq, Nat.reduceBEq, Bool.false_eq_true, ↓reduceIte, List.length_nil,
    Nat.reduceBNe, Nat.zero_le, decide_true, Bool.or_self, State.modCal_pending, State.modCal_cp, State.modCal_x, State.modCal_pub,
    State.modCal_views, State.modCal_ck, State.modCal_free, ite_not, clocked_mk, h, clocked_tick, clocked_pub, and_self, nodeCheck_clocked,
    State.modCal_clocked, clocked_ite]
@[simp] theorem calEnd_clocked (p : Nat × Nat × Snap) (s : State) (f : CalSt → CalSt) (h : Clocked p s) : Clocked p ((calEnd s f)) := by
  unfold calEnd
  simp +contextual (maxDischargeDepth := 30) only [h, State.modCal_clocked, set_CAL_CMD_KIND_clocked]
@[simp] theorem calAbortWith_clocked (p : Nat × Nat × Snap) (s : State) (cause : Nat) (h : Clocked p s) : Clocked p ((calAbortWith s cause)) := by
  unfold calAbortWith
  simp +contextual (maxDischargeDepth := 30) only [h, calEnd_clocked, State.evt_clocked]
@[simp] theorem calAbort_clocked (p : Nat × Nat × Snap) (s : State) (h : Clocked p s) : Clocked p ((calAbort s)) := by
  unfold calAbort
  simp +contextual (maxDischargeDepth := 30) only [bne_iff_ne, ne_eq, Bool.and_eq_true, Bool.or_eq_true, beq_iff_eq, ite_not, h,
    State.modCal_clocked, clocked_ite, calAbortWith_clocked]
@[simp] theorem calFreeSource_clocked (p : Nat × Nat × Snap) (old : CalSt) (s : State) (h : Clocked p s) : Clocked p ((calFreeSource old s)) := by
  unfold calFreeSource
  simp +contextual (maxDischargeDepth := 30) only [bne_iff_ne, ne_eq, Bool.and_eq_true, beq_iff_eq, Fin.getElem_fin, ite_not, clocked_mk, h, clocked_tick, clocked_pub, and_self, clocked_ite]
@[simp] theorem calRelease_clocked (p : Nat × Nat × Snap) (old : CalSt) (s : State) (h : Clocked p s) : Clocked p ((calRelease old s)) := by
  unfold calRelease
  simp +contextual (maxDischargeDepth := 30) only [Bool.and_eq_true, beq_iff_eq, h, adoptPending_clocked, trainStart_clocked, preload_clocked, calFreeSource_clocked, clocked_ite]
@[simp] theorem calSave_clocked (p : Nat × Nat × Snap) (s : State) (h : Clocked p s) : Clocked p ((calSave s)) := by
  unfold calSave
  simp +contextual (maxDischargeDepth := 30) only [h, State.modCal_clocked, raise_clocked, clocked_ite]
@[simp] theorem calBoundary_clocked (p : Nat × Nat × Snap) (s : State) (h : Clocked p s) : Clocked p ((calBoundary s)) := by
  unfold calBoundary
  simp +contextual (maxDischargeDepth := 30) only [beq_iff_eq, Bool.not_eq_eq_eq_not, Bool.not_true, Bool.and_eq_true, h, State.modCal_clocked, calSave_clocked, clocked_ite, calAbortWith_clocked]
@[simp] theorem calForget_clocked (p : Nat × Nat × Snap) (s : State) (page off : Nat) (h : Clocked p s) : Clocked p ((calForget s page off)) := by
  unfold calForget
  simp +contextual (maxDischargeDepth := 30) only [Bool.and_eq_true, beq_iff_eq, decide_eq_true_eq, h, State.modCal_clocked, clocked_ite]

/-! ### Device -/

@[simp] theorem setDev_clocked (p : Nat × Nat × Snap) (s : State) (d : DevState) (h : Clocked p s) : Clocked p ((setDev s d)) := by
  unfold setDev
  simp +contextual (maxDischargeDepth := 30) only [h, clocked_mk, clocked_tick, clocked_pub, and_self, State.evt_clocked, clocked_ite]
@[simp] theorem testClose_clocked (p : Nat × Nat × Snap) (s : State) (h : Clocked p s) : Clocked p ((testClose s)) := by
  unfold testClose
  simp +contextual (maxDischargeDepth := 30) only [clocked_mk, h, clocked_tick, clocked_pub, and_self]
@[simp] theorem trainsHold_clocked (p : Nat × Nat × Snap) (s : State) (h : Clocked p s) : Clocked p ((trainsHold s)) := by
  unfold trainsHold
  simp +contextual (maxDischargeDepth := 30) only [h, trainHold_clocked, implies_true, forAll_clocked]
@[simp] theorem enterHold_clocked (p : Nat × Nat × Snap) (s : State) (byReaction : Bool) (h : Clocked p s) : Clocked p ((enterHold s byReaction)) := by
  unfold enterHold
  simp +contextual (maxDischargeDepth := 30) only [ne_eq, ite_not, clocked_mk, h, trainsHold_clocked, setDev_clocked, clocked_tick, clocked_pub,
    and_self, State.modCol_clocked, clocked_ite]
@[simp] theorem enterSafe_clocked (p : Nat × Nat × Snap) (s : State) (b : Nat) (h : Clocked p s) : Clocked p ((enterSafe s b)) := by
  unfold enterSafe
  ((try dsimp only); (repeat' split) <;> (simp +contextual (maxDischargeDepth := 30) only [h, clocked_mk, trainsHold_clocked, State.allLegsLow_clocked, enablesToStraps_clocked, testClose_clocked, setDev_clocked, clocked_tick, clocked_pub, and_self, State.modCol_clocked, State.orReg_clocked, larderTrigger_clocked, *]; done))
@[simp] theorem cutOff_clocked (p : Nat × Nat × Snap) (s : State) (h : Clocked p s) : Clocked p ((cutOff s)) := by
  unfold cutOff
  ((try dsimp only); (repeat' split) <;> (simp +contextual (maxDischargeDepth := 30) only [h, stFree_clocked, implies_true, foldl_clocked, *]; done))
@[simp] theorem cutCheck_clocked (p : Nat × Nat × Snap) (s : State) (h : Clocked p s) : Clocked p ((cutCheck s)) := by
  unfold cutCheck
  simp +contextual (maxDischargeDepth := 30) only [List.any_eq_true, beq_iff_eq, h, stFree_clocked, clocked_ite]

/-! ### Faults -/

@[simp] theorem lostConv_clocked (p : Nat × Nat × Snap) (dead : List Conv) (s : State) (c : Conv) (h : Clocked p s) : Clocked p ((lostConv dead s c)) := by
  unfold lostConv
  simp +contextual (maxDischargeDepth := 30) only [Fin.getElem_fin, Bool.and_eq_true, beq_iff_eq, Bool.or_eq_true, decide_eq_true_eq, List.contains_eq_mem, h, blame_clocked, clocked_ite, implies_true, foldl_clocked]
@[simp] theorem State.modLar_clocked (p : Nat × Nat × Snap) (s : State) (f : LarderSt → LarderSt) (h : Clocked p s) : Clocked p ((State.modLar s f)) := by
  unfold State.modLar
  simp +contextual (maxDischargeDepth := 30) only [clocked_mk, h, clocked_tick, clocked_pub, and_self]
@[simp] theorem storeFence_clocked (p : Nat × Nat × Snap) (s : State) (h : Clocked p s) : Clocked p ((storeFence s)) := by
  unfold storeFence
  simp +contextual (maxDischargeDepth := 30) only [h, clocked_ite, cutOff_clocked, set_STORE_CMD_CMD_clocked, modStore_clocked, State.evt_clocked, State.modLar_clocked,
    flushNext_clocked, raise_clocked, State.modCal_clocked]
@[simp] theorem pbEnd_clocked (p : Nat × Nat × Snap) (s : State) (r : PbReq) (cause : Nat) (data : Word) (h : Clocked p s) : Clocked p ((pbEnd s r cause data)) := by
  unfold pbEnd
  simp +contextual (maxDischargeDepth := 30) only [clocked_mk, h, clocked_tick, clocked_pub, and_self]
@[simp] theorem pbFinish_clocked (p : Nat × Nat × Snap) (s : State) (cause : Nat) (data : Word) (h : Clocked p s) : Clocked p ((pbFinish s cause data)) := by
  unfold pbFinish
  ((try dsimp only); (repeat' split) <;> (simp +contextual (maxDischargeDepth := 30) only [h, clocked_mk, pbEnd_clocked, clocked_tick, clocked_pub,
                                            and_self, *]; done))
@[simp] theorem twpFence_clocked (p : Nat × Nat × Snap) (s : State) (h : Clocked p s) : Clocked p ((twpFence s)) := by
  unfold twpFence
  simp +contextual (maxDischargeDepth := 30) only [BitVec.ofNat_eq_ofNat, clocked_mk, h, pbEnd_clocked, implies_true, foldl_clocked, clocked_tick,
    clocked_pub, and_self]
@[simp] theorem applyFence_clocked (p : Nat × Nat × Snap) (s : State) (u : FenceUnit) (h : Clocked p s) : Clocked p ((applyFence s u)) := by
  unfold applyFence
  ((try dsimp only); (repeat' split) <;> (simp +contextual (maxDischargeDepth := 30) only [trainFence_clocked, h, legOut_clocked, State.fence_clocked, storeFence_clocked, twpFence_clocked, Fin.getElem_fin, Bool.and_eq_true, decide_eq_true_eq, Bool.or_eq_true, State.modSup_clocked, clocked_ite, implies_true, forAll_clocked, fence_cp, fence_x, clocked_mk, clocked_tick, clocked_pub, and_self, *]; done))
@[simp] theorem unfFail_clocked (p : Nat × Nat × Snap) (s : State) (page : Nat) (h : Clocked p s) : Clocked p ((unfFail s page)) := by
  unfold unfFail
  simp +contextual (maxDischargeDepth := 30) only [h, State.modCol_clocked, State.evt_clocked]
@[simp] theorem reqClear_clocked (p : Nat × Nat × Snap) (s : State) (page : Nat) (h : Clocked p s) : Clocked p ((reqClear s page)) := by
  unfold reqClear
  simp +contextual (maxDischargeDepth := 30) only [List.any_eq_true, beq_iff_eq, BitVec.ofNat_eq_ofNat, BitVec.reduceNot, h, State.setReg_clocked, clocked_ite]
@[simp] theorem unfence_clocked (p : Nat × Nat × Snap) (s : State) (page : Nat) (h : Clocked p s) : Clocked p ((unfence s page)) := by
  unfold unfence
  simp +contextual (maxDischargeDepth := 30) only [Bool.or_eq_true, Bool.not_eq_eq_eq_not, Bool.not_true, List.any_eq_true, beq_iff_eq, decide_eq_true_eq, h, unfFail_clocked, clocked_mk, clocked_tick, clocked_pub, and_self, clocked_ite, implies_true, foldl_clocked]
@[simp] theorem ckStart_clocked (p : Nat × Nat × Snap) (s : State) (c : ClerkIx) (h : Clocked p s) : Clocked p ((ckStart s c)) := by
  unfold ckStart
  simp +contextual (maxDischargeDepth := 30) only [Fin.getElem_fin, clocked_mk, h, clocked_tick, clocked_pub, and_self]
@[simp] theorem ckStop_clocked (p : Nat × Nat × Snap) (s : State) (c : ClerkIx) (h : Clocked p s) : Clocked p ((ckStop s c)) := by
  unfold ckStop
  simp +contextual (maxDischargeDepth := 30) only [Fin.getElem_fin, clocked_mk, h, clocked_tick, clocked_pub, and_self]
@[simp] theorem sliceBack_clocked (p : Nat × Nat × Snap) (s : State) (i : Slice) (h : Clocked p s) : Clocked p ((sliceBack s i)) := by
  unfold sliceBack
  ((try dsimp only); (repeat' split) <;> (simp +contextual (maxDischargeDepth := 30) only [Fin.getElem_fin, State.evt_clocked, State.modSpare_clocked, State.modSup_clocked, substAgain_clocked, implies_true, forAll_clocked, h, *]; done))
@[simp] theorem readmitEffect_clocked (p : Nat × Nat × Snap) (s : State) (u : FenceUnit) (h : Clocked p s) : Clocked p ((readmitEffect s u)) := by
  unfold readmitEffect
  ((try dsimp only); (repeat' split) <;> (simp +contextual (maxDischargeDepth := 30) only [h, setTrain_clocked, State.modConv_clocked, sliceBack_clocked, State.modLoop_clocked, ckStart_clocked, Fin.getElem_fin, clocked_mk, clocked_tick, clocked_pub, and_self, State.modModel_clocked, implies_true, forAll_clocked, *]; done))
@[simp] theorem readmit_clocked (p : Nat × Nat × Snap) (s : State) (u : FenceUnit) (h : Clocked p s) : Clocked p ((readmit s u)) := by
  unfold readmit
  simp +contextual (maxDischargeDepth := 30) only [clocked_mk, h, clocked_tick, clocked_pub, and_self, State.evt_clocked, readmitEffect_clocked]
@[simp] theorem endCheck_clocked (p : Nat × Nat × Snap) (u : FenceUnit) (ok : Bool) (s : State) (h : Clocked p s) : Clocked p ((endCheck u ok s)) := by
  unfold endCheck
  simp +contextual (maxDischargeDepth := 30) only [h, readmit_clocked, reqClear_clocked, State.modCol_clocked, clocked_mk, clocked_tick, clocked_pub, and_self, unfFail_clocked, clocked_ite]
@[simp] theorem faultClear_clocked (p : Nat × Nat × Snap) (s : State) (hi : Bool) (m : Word) (h : Clocked p s) : Clocked p ((faultClear s hi m)) := by
  unfold faultClear
  simp +contextual (maxDischargeDepth := 30) only [Bool.and_eq_true, Bool.not_eq_eq_eq_not, Bool.not_true, BitVec.ofNat_eq_ofNat, h, State.modCol_clocked, fltPin_clocked]

/-! ### Store -/

@[simp] theorem bufferOut_clocked (p : Nat × Nat × Snap) (s : State) (h : Clocked p s) : Clocked p ((bufferOut s)) := by
  unfold bufferOut
  simp +contextual (maxDischargeDepth := 30) only [h, modStore_clocked]
@[simp] theorem setAddr_clocked (p : Nat × Nat × Snap) (s : State) (a : Nat) (h : Clocked p s) : Clocked p ((setAddr s a)) := by
  unfold setAddr
  ((try dsimp only); (repeat' split) <;> (simp +contextual (maxDischargeDepth := 30) only [modStore_clocked, h, bufferOut_clocked, *]; done))
@[simp] theorem loadAddr_clocked (p : Nat × Nat × Snap) (s : State) (h : Clocked p s) : Clocked p ((loadAddr s)) := by
  unfold loadAddr
  simp +contextual (maxDischargeDepth := 30) only [h, setAddr_clocked]
@[simp] theorem hostCmdEnd_clocked (p : Nat × Nat × Snap) (s : State) (f : StoreSt → StoreSt) (h : Clocked p s) : Clocked p ((hostCmdEnd s f)) := by
  unfold hostCmdEnd
  simp +contextual (maxDischargeDepth := 30) only [h, modStore_clocked, set_STORE_CMD_CMD_clocked]
@[simp] theorem storeErase_clocked (p : Nat × Nat × Snap) (s : State) (sector : Nat) (h : Clocked p s) : Clocked p ((storeErase s sector)) := by
  unfold storeErase
  simp +contextual (maxDischargeDepth := 30) only [Bool.not_eq_eq_eq_not, Bool.not_true, Bool.or_eq_true, h, State.orReg_clocked, clocked_ite, modStore_clocked, set_STORE_CMD_CMD_clocked]
@[simp] theorem storeProg_clocked (p : Nat × Nat × Snap) (s : State) (h : Clocked p s) : Clocked p ((storeProg s)) := by
  unfold storeProg
  simp +contextual (maxDischargeDepth := 30) only [List.isEmpty_iff, h, modStore_clocked, set_STORE_CMD_CMD_clocked, bufferOut_clocked,
    hostCmdEnd_clocked, State.evt_clocked, clocked_ite]
@[simp] theorem storeAbort_clocked (p : Nat × Nat × Snap) (s : State) (h : Clocked p s) : Clocked p ((storeAbort s)) := by
  unfold storeAbort
  ((try dsimp only); (repeat' split) <;> (simp +contextual (maxDischargeDepth := 30) only [stFree_clocked, modStore_clocked, hostCmdEnd_clocked, h, *]; done))
@[simp] theorem storeBoundary_clocked (p : Nat × Nat × Snap) (s : State) (h : Clocked p s) : Clocked p ((storeBoundary s)) := by
  unfold storeBoundary
  simp +contextual (maxDischargeDepth := 30) only [Bool.and_eq_true, beq_iff_eq, Bool.not_eq_eq_eq_not, Bool.not_true, h, modStore_clocked, clocked_ite, hostCmdEnd_clocked, State.evt_clocked]
@[simp] theorem ledgerPut_clocked (p : Nat × Nat × Snap) (s : State) (r : LedgerRec) (h : Clocked p s) : Clocked p ((ledgerPut s r)) := by
  unfold ledgerPut
  simp +contextual (maxDischargeDepth := 30) only [Bool.and_eq_true, decide_eq_true_eq, Bool.not_eq_eq_eq_not, Bool.not_true, h, modStore_clocked, State.evt_clocked, clocked_ite]
@[simp] theorem ledgerAppend_clocked (p : Nat × Nat × Snap) (s : State) (h : Clocked p s) : Clocked p ((ledgerAppend s)) := by
  unfold ledgerAppend
  simp +contextual (maxDischargeDepth := 30) only [Bool.and_eq_true, beq_iff_eq, decide_eq_true_eq, Fin.getElem_fin, BitVec.ofNat_eq_ofNat,
    List.getD_eq_getElem?_getD, List.length_map, List.length_range, Nat.reduceLT, getElem?_pos, List.getElem_map, List.getElem_range,
    Nat.reduceAdd, Option.getD_some, Nat.lt_add_one, State.modStore_x, h, modStore_clocked, ledgerPut_clocked, clocked_ite]
@[simp] theorem ledgerMinute_clocked (p : Nat × Nat × Snap) (s : State) (h : Clocked p s) : Clocked p ((ledgerMinute s)) := by
  unfold ledgerMinute
  split
  · exact modStore_clocked _ _ _ h
  · refine forAll_clocked p _ _ (modStore_clocked _ _ _ h) fun s a hs => ?_
    split
    · exact hs
    · exact modStore_clocked _ _ _ hs
@[simp] theorem larderArm_clocked (p : Nat × Nat × Snap) (s : State) (h : Clocked p s) : Clocked p ((larderArm s)) := by
  unfold larderArm
  ((try dsimp only); (repeat' split) <;> (simp +contextual (maxDischargeDepth := 30) only [State.modLar_clocked, h, *]; done))
@[simp] theorem larderFlush_clocked (p : Nat × Nat × Snap) (s : State) (h : Clocked p s) : Clocked p ((larderFlush s)) := by
  unfold larderFlush
  ((try dsimp only); (repeat' split) <;> (simp +contextual (maxDischargeDepth := 30) only [State.modLar_clocked, h, *]; done))
@[simp] theorem flushStop_clocked (p : Nat × Nat × Snap) (s : State) (h : Clocked p s) : Clocked p ((flushStop s)) := by
  unfold flushStop
  ((try dsimp only); (repeat' split) <;> (simp +contextual (maxDischargeDepth := 30) only [h, modStore_clocked, flushNext_clocked, *]; done))
@[simp] theorem larderBoundary_clocked (p : Nat × Nat × Snap) (s : State) (h : Clocked p s) : Clocked p ((larderBoundary s)) := by
  unfold larderBoundary
  simp +contextual (maxDischargeDepth := 30) only [Bool.not_eq_eq_eq_not, Bool.not_true, h, flushStop_clocked, State.modLar_clocked, clocked_ite]

/-! ### Ring -/

@[simp] theorem State.modRing_clocked (p : Nat × Nat × Snap) (s : State) (f : RingSt → RingSt) (h : Clocked p s) : Clocked p ((State.modRing s f)) := by
  unfold State.modRing
  simp +contextual (maxDischargeDepth := 30) only [clocked_mk, h, clocked_tick, clocked_pub, and_self]
@[simp] theorem modPort_clocked (p : Nat × Nat × Snap) (s : State) (east : Bool) (f : RgPort → RgPort) (h : Clocked p s) : Clocked p ((modPort s east f)) := by
  unfold modPort
  simp +contextual (maxDischargeDepth := 30) only [h, State.modRing_clocked]
@[simp] theorem takeRef_clocked (p : Nat × Nat × Snap) (s : State) (r : Nat) (h : Clocked p s) : Clocked p ((takeRef s r)) := by
  unfold takeRef
  simp +contextual (maxDischargeDepth := 30) only [clocked_mk, h, clocked_tick, clocked_pub, and_self]
@[simp] theorem setRing_clocked (p : Nat × Nat × Snap) (s : State) (st : RgState) (h : Clocked p s) : Clocked p ((setRing s st)) := by
  unfold setRing
  simp +contextual (maxDischargeDepth := 30) only [reduceCtorEq, decide_false, Bool.or_false, ↓reduceIte, Bool.or_eq_true, decide_eq_true_eq, h, takeRef_clocked, clocked_ite, State.modRing_clocked, State.modCal_clocked]
@[simp] theorem ringEvent_clocked (p : Nat × Nat × Snap) (s : State) (b : Nat) (h : Clocked p s) : Clocked p ((ringEvent s b)) := by
  unfold ringEvent
  simp +contextual (maxDischargeDepth := 30) only [h, State.modRing_clocked, State.evt_clocked]
@[simp] theorem ringCntClr_clocked (p : Nat × Nat × Snap) (s : State) (h : Clocked p s) : Clocked p ((ringCntClr s)) := by
  unfold ringCntClr
  simp +contextual (maxDischargeDepth := 30) only [h, modPort_clocked]
@[simp] theorem slotFinal_clocked (p : Nat × Nat × Snap) (s : State) (h : Clocked p s) : Clocked p ((slotFinal s)) := by
  unfold slotFinal
  simp +contextual (maxDischargeDepth := 30) only [beq_iff_eq, h, State.modRing_clocked]
@[simp] theorem foreign_clocked (p : Nat × Nat × Snap) (s : State) (east : Bool) (h : Clocked p s) : Clocked p ((foreign s east)) := by
  unfold foreign
  simp +contextual (maxDischargeDepth := 30) only [h, raise_clocked, modPort_clocked]
@[simp] theorem diverge_clocked (p : Nat × Nat × Snap) (s : State) (h : Clocked p s) : Clocked p ((diverge s)) := by
  unfold diverge
  simp +contextual (maxDischargeDepth := 30) only [h, State.modRing_clocked, raise_clocked]
@[simp] theorem applyDrop_clocked (p : Nat × Nat × Snap) (s : State) (m : Nat) (h : Clocked p s) : Clocked p ((applyDrop s m)) := by
  unfold applyDrop
  simp +contextual (maxDischargeDepth := 30) only [Bool.not_eq_eq_eq_not, Bool.not_true, Fin.getElem_fin, h, State.modRing_clocked,
    ringEvent_clocked, setRing_clocked, clocked_ite]
@[simp] theorem ringDrops_clocked (p : Nat × Nat × Snap) (s : State) (h : Clocked p s) : Clocked p ((ringDrops s)) := by
  unfold ringDrops
  exact foldl_clocked p _ _ _ (by simp [h]) fun s a hs => by simp [hs]
@[simp] theorem spanLegsLow_clocked (p : Nat × Nat × Snap) (s : State) (h : Clocked p s) : Clocked p ((spanLegsLow s)) := by
  unfold spanLegsLow
  refine forAll_clocked p _ _ h fun s n hs => ?_
  split
  · split
    · exact State.modLeg_clocked _ _ _ _ (modHw_clocked _ _ _ _ hs)
    · exact hs
  · exact hs
@[simp] theorem ringMoves_clocked (p : Nat × Nat × Snap) (s : State) (h : Clocked p s) : Clocked p ((ringMoves s)) := by
  unfold ringMoves
  simp +contextual (maxDischargeDepth := 30) only [Bool.and_eq_true, decide_eq_true_eq, Bool.or_eq_true, h, setRing_clocked, clocked_ite]
@[simp] theorem ringBoundary_clocked (p : Nat × Nat × Snap) (s : State) (h : Clocked p s) : Clocked p ((ringBoundary s)) := by
  unfold ringBoundary
  have hr : ∀ s f, Clocked p s → Clocked p (s.modRing f) := fun s f hs => State.modRing_clocked p s f hs
  split
  · exact hr _ _ (setRing_clocked p _ _ h)
  · extract_lets tr s1 live s2 s3 s4
    have h1 : Clocked p s1 := hr _ _ h
    clear_value s1
    have h2 : Clocked p s2 := hr _ _ h1
    clear_value s2
    have h3 : Clocked p s3 := ringDrops_clocked p _ (hr _ _ (ringMoves_clocked p _ h2))
    clear_value s3
    have h4 : Clocked p s4 := hr _ _ h3
    split
    · exact spanLegsLow_clocked p _ h4
    · exact h4

/-! ### Validate -/

@[simp] theorem rawWrite_clocked (p : Nat × Nat × Snap) (s : State) (page off : Nat) (v : Word) (h : Clocked p s) : Clocked p ((rawWrite s page off v)) := by
  unfold rawWrite
  ((try dsimp only); (repeat' split) <;> (simp +contextual (maxDischargeDepth := 30) only [h, Fin.getElem_fin, clocked_mk, clocked_tick,
                                            clocked_pub, and_self, State.modSect_clocked, State.setReg_clocked, *]; done))
@[simp] theorem markDrop_clocked (p : Nat × Nat × Snap) (s : State) (d : Drop) (h : Clocked p s) : Clocked p ((markDrop s d)) := by
  unfold markDrop
  ((try dsimp only); (repeat' split) <;> (simp +contextual (maxDischargeDepth := 30) only [clocked_mk, clocked_tick, clocked_pub, and_self,
                                            State.orReg_clocked, State.evt_clocked, h, *]; done))
@[simp] theorem applyAll_clocked (p : Nat × Nat × Snap) (cfg : State) (l : List StagedWrite) (h : Clocked p cfg) : Clocked p ((applyAll cfg l)) := by
  unfold applyAll
  simp +contextual (maxDischargeDepth := 30) only [h, rawWrite_clocked, implies_true, foldl_clocked]

/-! ### Staging -/

@[simp] theorem State.modTxn_clocked (q : Nat × Nat × Snap) (s : State) (p : Port) (f : TxnBank → TxnBank) (h : Clocked q s) : Clocked q ((State.modTxn s p f)) := by
  unfold State.modTxn
  simp +contextual (maxDischargeDepth := 30) only [clocked_mk, h, clocked_tick, clocked_pub, and_self]
@[simp] theorem State.modSnap_clocked (q : Nat × Nat × Snap) (s : State) (p : Port) (f : SnapBank → SnapBank) (h : Clocked q s) : Clocked q ((State.modSnap s p f)) := by
  unfold State.modSnap
  simp +contextual (maxDischargeDepth := 30) only [clocked_mk, h, clocked_tick, clocked_pub, and_self]
@[simp] theorem snapHold_clocked (q : Nat × Nat × Snap) (s : State) (p : Port) (h : Clocked q s) : Clocked q ((snapHold s p)) := by
  unfold snapHold
  simp +contextual (maxDischargeDepth := 30) only [State.modSnap_pending, State.modSnap_cp, State.modSnap_x, State.modSnap_pub,
    State.modSnap_views, State.modSnap_ck, State.modSnap_free, h, clocked_mk, clocked_tick, clocked_pub, and_self, clocked_ite]
@[simp] theorem snapRelease_clocked (q : Nat × Nat × Snap) (s : State) (p : Port) (h : Clocked q s) : Clocked q ((snapRelease s p)) := by
  unfold snapRelease
  simp +contextual (maxDischargeDepth := 30) only [State.modSnap_pending, State.modSnap_cp, State.modSnap_x, State.modSnap_pub,
    State.modSnap_views, State.modSnap_ck, State.modSnap_free, clocked_mk, h, clocked_tick, clocked_pub, and_self]
@[simp] theorem snapSwap_clocked (q : Nat × Nat × Snap) (s : State) (p : Port) (h : Clocked q s) : Clocked q ((snapSwap s p)) := by
  unfold snapSwap
  simp +contextual (maxDischargeDepth := 30) only [Bool.and_eq_true, Bool.not_eq_eq_eq_not, Bool.not_true, h, snapRelease_clocked, clocked_ite]
@[simp] theorem snapWrites_clocked (q : Nat × Nat × Snap) (s : State) (p : Port) (l : List StagedWrite) (h : Clocked q s) : Clocked q ((snapWrites s p l)) := by
  unfold snapWrites
  ((try dsimp only); (repeat' split) <;> (simp +contextual (maxDischargeDepth := 30) only [State.modSnap_clocked, h, snapHold_clocked,
                                            snapRelease_clocked, *]; done))

/-! ### Commit -/

@[simp] theorem reportCause_clocked (p : Nat × Nat × Snap) (s : State) (cause cap : Nat) (h : Clocked p s) : Clocked p ((reportCause s cause cap)) := by
  unfold reportCause
  ((try dsimp only); (repeat' split) <;> (simp +contextual (maxDischargeDepth := 30) only [clocked_mk, clocked_tick, clocked_pub, and_self,
                                            State.orReg_clocked, State.evt_clocked, h, raise_clocked, *]; done))
@[simp] theorem bankReject_clocked (q : Nat × Nat × Snap) (s : State) (p : Port) (cause : Nat) (h : Clocked q s) : Clocked q ((bankReject s p cause)) := by
  unfold bankReject
  simp +contextual (maxDischargeDepth := 30) only [h, State.modTxn_clocked]
@[simp] theorem reportReject_clocked (p : Nat × Nat × Snap) (s : State) (src : UnitSrc) (cause cap : Nat) (h : Clocked p s) : Clocked p ((reportReject s src cause cap)) := by
  unfold reportReject
  ((try dsimp only); (repeat' split) <;> (simp +contextual (maxDischargeDepth := 30) only [Fin.getElem_fin, clocked_mk, reportCause_clocked, clocked_tick, clocked_pub, and_self, State.orReg_clocked, State.evt_clocked, h, bankReject_clocked, *]; done))
@[simp] theorem markOvr_clocked (p : Nat × Nat × Snap) (s : State) (c : ClerkIx) (h : Clocked p s) : Clocked p ((markOvr s c)) := by
  unfold markOvr
  simp +contextual (maxDischargeDepth := 30) only [h, State.orReg_clocked, State.evt_clocked]
@[simp] theorem collisions_clocked (p : Nat × Nat × Snap) (s : State) (l : List Judged) (h : Clocked p s) : Clocked p ((collisions s l)) := by
  unfold collisions
  refine foldl_clocked p _ _ _ h fun s a hs => ?_
  split
  · refine foldl_clocked p _ _ _ hs fun s b hb => ?_
    (repeat' split) <;> simp [hb]
  · exact hs
@[simp] theorem markDone_clocked (p : Nat × Nat × Snap) (s : State) (j : Judged) (h : Clocked p s) : Clocked p ((markDone s j)) := by
  unfold markDone
  ((try dsimp only); (repeat' split) <;> (simp +contextual (maxDischargeDepth := 30) only [State.modTxn_clocked, h, *]; done))
@[simp] theorem applyUnits_clocked (p : Nat × Nat × Snap) (s : State) (l : List Judged) (h : Clocked p s) : Clocked p ((applyUnits s l).1) := by
  unfold applyUnits
  refine foldl_clocked p _ _ _ (collisions_clocked _ _ _ (foldl_clocked p _ _ _ (foldl_clocked p _ _ _ (by simp [h]) ?_) ?_)) ?_
  · intro s a hs
    split
    · exact foldl_clocked p _ _ _ hs fun s b hb => by simp [hb]
    · exact hs
  · intro s a hs
    split <;> simp [hs]
  · intro s a hs
    simp [hs]

/-! ### Clerk -/

@[simp] theorem State.modCk_clocked (p : Nat × Nat × Snap) (s : State) (c : ClerkIx) (f : ClerkSt → ClerkSt) (h : Clocked p s) : Clocked p ((State.modCk s c f)) := by
  unfold State.modCk
  simp +contextual (maxDischargeDepth := 30) only [Fin.getElem_fin, clocked_mk, h, clocked_tick, clocked_pub, and_self]
@[simp] theorem ckRunBit_clocked (p : Nat × Nat × Snap) (s : State) (c : ClerkIx) (h : Clocked p s) : Clocked p ((ckRunBit s c)) := by
  unfold ckRunBit
  simp +contextual (maxDischargeDepth := 30) only [beq_iff_eq, Bool.and_eq_true, bne_iff_ne, ne_eq, h, ckStart_clocked, clocked_ite, ckStop_clocked]
@[simp] theorem ckBoundary_clocked (p : Nat × Nat × Snap) (s : State) (c : ClerkIx) (h : Clocked p s) : Clocked p ((ckBoundary s c)) := by
  unfold ckBoundary
  simp +contextual (maxDischargeDepth := 30) only [Bool.and_eq_true, decide_eq_true_eq, beq_iff_eq, Bool.not_eq_eq_eq_not, Bool.not_true, h,
    ckRunBit_clocked, State.modCk_clocked, clocked_ite]
@[simp] theorem eqPut_clocked (p : Nat × Nat × Snap) (s : State) (r : EvtRec) (h : Clocked p s) : Clocked p ((eqPut s r)) := by
  unfold eqPut
  simp +contextual (maxDischargeDepth := 30) only [clocked_mk, h, ledgerPut_clocked, clocked_ite, clocked_tick, clocked_pub, and_self,
    State.evt_clocked]
@[simp] theorem eqEnter_clocked (p : Nat × Nat × Snap) (s : State) (h : Clocked p s) : Clocked p ((eqEnter s)) := by
  unfold eqEnter
  simp +contextual (maxDischargeDepth := 30) only [Fin.getElem_fin, h, State.modCk_clocked, implies_true, forAll_clocked, eqPut_clocked,
    foldl_clocked]
@[simp] theorem eqPop_clocked (p : Nat × Nat × Snap) (s : State) (h : Clocked p s) : Clocked p ((eqPop s)) := by
  unfold eqPop
  simp +contextual (maxDischargeDepth := 30) only [List.drop_one, clocked_mk, h, clocked_tick, clocked_pub, and_self]
@[simp] theorem pbEnter_clocked (p : Nat × Nat × Snap) (s : State) (r : PbReq) (h : Clocked p s) : Clocked p ((pbEnter s r)) := by
  unfold pbEnter
  ((try dsimp only); (repeat' split) <;> (simp +contextual (maxDischargeDepth := 30) only [clocked_mk, clocked_tick, clocked_pub, and_self,
                                            State.modCk_clocked, h, *]; done))
@[simp] theorem pbRequests_clocked (p : Nat × Nat × Snap) (s : State) (h : Clocked p s) : Clocked p ((pbRequests s)) := by
  unfold pbRequests
  refine forAll_clocked p _ _ h fun s c hs => ?_
  split
  · split
    · exact hs
    · exact pbEnter_clocked _ _ _ (State.modCk_clocked _ _ _ _ hs)
  · exact hs
@[simp] theorem pbResult_clocked (p : Nat × Nat × Snap) (s : State) (x : PbReq × Nat × Word) (h : Clocked p s) : Clocked p ((pbResult s x)) := by
  unfold pbResult
  ((try dsimp only); (repeat' split) <;> (simp +contextual (maxDischargeDepth := 30) only [State.modCk_clocked, State.evt_clocked, h,
                                            BitVec.ofNat_eq_ofNat, clocked_mk, clocked_tick, clocked_pub, and_self, *]; done))
@[simp] theorem pbResults_clocked (p : Nat × Nat × Snap) (s : State) (h : Clocked p s) : Clocked p ((pbResults s)) := by
  unfold pbResults
  simp +contextual (maxDischargeDepth := 30) only [clocked_mk, h, clocked_tick, clocked_pub, and_self, pbResult_clocked, implies_true, foldl_clocked]

/-! ### Ports -/

@[simp] theorem State.modSpi_clocked (p : Nat × Nat × Snap) (s : State) (f : SpiSt → SpiSt) (h : Clocked p s) : Clocked p ((State.modSpi s f)) := by
  unfold State.modSpi
  simp +contextual (maxDischargeDepth := 30) only [clocked_mk, h, clocked_tick, clocked_pub, and_self]
@[simp] theorem spiCntClr_clocked (p : Nat × Nat × Snap) (s : State) (h : Clocked p s) : Clocked p ((spiCntClr s)) := by
  unfold spiCntClr
  simp +contextual (maxDischargeDepth := 30) only [h, State.modSpi_clocked]
@[simp] theorem State.modTwm_clocked (p : Nat × Nat × Snap) (s : State) (f : TwmSt → TwmSt) (h : Clocked p s) : Clocked p ((State.modTwm s f)) := by
  unfold State.modTwm
  simp +contextual (maxDischargeDepth := 30) only [clocked_mk, h, clocked_tick, clocked_pub, and_self]
@[simp] theorem twmCntClr_clocked (p : Nat × Nat × Snap) (s : State) (h : Clocked p s) : Clocked p ((twmCntClr s)) := by
  unfold twmCntClr
  simp +contextual (maxDischargeDepth := 30) only [h, State.modTwm_clocked]
@[simp] theorem pinsBoundary_clocked (p : Nat × Nat × Snap) (s : State) (h : Clocked p s) : Clocked p ((pinsBoundary s)) := by
  unfold pinsBoundary
  exact ⟨h.1, h.2⟩
@[simp] theorem State.modTwp_clocked (p : Nat × Nat × Snap) (s : State) (f : TwpSt → TwpSt) (h : Clocked p s) : Clocked p ((State.modTwp s f)) := by
  unfold State.modTwp
  simp +contextual (maxDischargeDepth := 30) only [clocked_mk, h, clocked_tick, clocked_pub, and_self]
@[simp] theorem pbServe_clocked (p : Nat × Nat × Snap) (n : Nat) (s : State) (h : Clocked p s) : Clocked p (pbServe n s) := by
  induction n generalizing s with
  | zero => exact h
  | succ n ih =>
    unfold pbServe
    (repeat' split) <;> simp [h, ih]
@[simp] theorem pbGo_clocked (p : Nat × Nat × Snap) (s : State) (h : Clocked p s) : Clocked p ((pbGo s)) := by
  unfold pbGo
  simp +contextual (maxDischargeDepth := 30) only [h, pbEnter_clocked, clocked_ite]
@[simp] theorem twpCut_clocked (p : Nat × Nat × Snap) (s : State) (h : Clocked p s) : Clocked p ((twpCut s)) := by
  unfold twpCut
  simp +contextual (maxDischargeDepth := 30) only [Bool.or_eq_true, Bool.not_eq_eq_eq_not, Bool.not_true, BitVec.ofNat_eq_ofNat, h, pbFinish_clocked, State.modTwp_clocked, clocked_ite]

/-! ### Hooks -/

@[simp] theorem clearSelf_clocked (p : Nat × Nat × Snap) (s : State) (r : Nat × Nat) (h : Clocked p s) : Clocked p ((clearSelf s r)) := by
  unfold clearSelf
  simp +contextual (maxDischargeDepth := 30) only [beq_iff_eq, BitVec.ofNat_eq_ofNat, h, reqClear_clocked, State.setReg_clocked, clocked_ite]
@[simp] theorem larCtrl_clocked (p : Nat × Nat × Snap) (s : State) (w : Word) (h : Clocked p s) : Clocked p ((larCtrl s w)) := by
  unfold larCtrl
  simp +contextual (maxDischargeDepth := 30) only [h, larderArm_clocked, clocked_ite, larderTrigger_clocked, larderFlush_clocked]
@[simp] theorem storeCmd_clocked (p : Nat × Nat × Snap) (s : State) (w : Word) (h : Clocked p s) : Clocked p ((storeCmd s w)) := by
  unfold storeCmd
  ((try dsimp only); (repeat' split) <;> (simp +contextual (maxDischargeDepth := 30) only [storeErase_clocked, h, storeProg_clocked,
                                            storeAbort_clocked, *]; done))
@[simp] theorem calCmd_clocked (p : Nat × Nat × Snap) (s : State) (w : Word) (h : Clocked p s) : Clocked p ((calCmd s w)) := by
  unfold calCmd
  simp +contextual (maxDischargeDepth := 30) only [beq_iff_eq, h, calAbort_clocked, calFreeSource_clocked, calStart_clocked, clocked_ite]
@[simp] theorem sysCmd_clocked (p : Nat × Nat × Snap) (s : State) (i : Slice) (w : Word) (h : Clocked p s) : Clocked p ((sysCmd s i w)) := by
  unfold sysCmd
  simp +contextual (maxDischargeDepth := 30) only [beq_iff_eq, h, sysAbort_clocked, sysStart_clocked, clocked_ite]
@[simp] theorem axCmd_clocked (p : Nat × Nat × Snap) (s : State) (w : Word) (h : Clocked p s) : Clocked p ((axCmd s w)) := by
  unfold axCmd
  simp +contextual (maxDischargeDepth := 30) only [beq_iff_eq, h, axCalAbort_clocked, axCalStart_clocked, clocked_ite]
@[simp] theorem eqCtrl_clocked (p : Nat × Nat × Snap) (s : State) (w : Word) (h : Clocked p s) : Clocked p ((eqCtrl s w)) := by
  unfold eqCtrl
  simp +contextual (maxDischargeDepth := 30) only [clocked_mk, h, eqPop_clocked, clocked_ite, clocked_tick, clocked_pub, and_self]
@[simp] theorem slCtrl_clocked (p : Nat × Nat × Snap) (s : State) (i : Slice) (w : Word) (h : Clocked p s) : Clocked p ((slCtrl s i w)) := by
  unfold slCtrl
  simp +contextual (maxDischargeDepth := 30) only [h, State.modSl_clocked, clocked_ite, fineTrigger_clocked]
@[simp] theorem rgCtrl_clocked (p : Nat × Nat × Snap) (s : State) (w : Word) (h : Clocked p s) : Clocked p ((rgCtrl s w)) := by
  unfold rgCtrl
  simp +contextual (maxDischargeDepth := 30) only [h, ringCntClr_clocked, clocked_ite, State.modRing_clocked]
@[simp] theorem hook_clocked (p : Nat × Nat × Snap) (old s : State) (r : Nat × Nat) (h : Clocked p s) : Clocked p ((hook old s r)) := by
  unfold hook
  ((try dsimp only); (repeat' split) <;> (simp +contextual (maxDischargeDepth := 30) only [calForget_clocked, bpRestart_clocked, h, slCtrl_clocked, sysCmd_clocked, loopAfterCommit_clocked, and_self, implies_true, State.modTick_clocked, *, traceRequest_clocked, traceAbort_clocked, axCmd_clocked, calCmd_clocked, calSave_clocked, clocked_mk, clocked_tick, clocked_pub, eqCtrl_clocked, tlSync_clocked, loadAddr_clocked, storeCmd_clocked, larCtrl_clocked, rgCtrl_clocked, spiCntClr_clocked, twmCntClr_clocked]; done))
@[simp] theorem hookUnfence_clocked (p : Nat × Nat × Snap) (s : State) (r : Nat × Nat) (h : Clocked p s) : Clocked p ((hookUnfence s r)) := by
  unfold hookUnfence
  simp +contextual (maxDischargeDepth := 30) only [Bool.and_eq_true, beq_iff_eq, h, unfence_clocked, clocked_ite]
@[simp] theorem hookAppend_clocked (p : Nat × Nat × Snap) (s : State) (l : List (Nat × Nat)) (h : Clocked p s) : Clocked p ((hookAppend s l)) := by
  unfold hookAppend
  simp +contextual (maxDischargeDepth := 30) only [List.contains_eq_mem, Bool.and_eq_true, decide_eq_true_eq, h, ledgerAppend_clocked, clocked_ite]
@[simp] theorem hookGo_clocked (p : Nat × Nat × Snap) (s : State) (l : List (Nat × Nat)) (h : Clocked p s) : Clocked p ((hookGo s l)) := by
  unfold hookGo
  simp +contextual (maxDischargeDepth := 30) only [List.contains_eq_mem, Bool.and_eq_true, decide_eq_true_eq, h, pbGo_clocked, clocked_ite]
@[simp] theorem hookQueues_clocked (p : Nat × Nat × Snap) (s : State) (l : List (Nat × Nat)) (h : Clocked p s) : Clocked p ((hookQueues s l)) := by
  unfold hookQueues
  simp +contextual (maxDischargeDepth := 30) only [h, eqEnter_clocked, hookAppend_clocked, pbResults_clocked, pbRequests_clocked, hookGo_clocked, twpCut_clocked, pbServe_clocked]
@[simp] theorem hookUnits_clocked (p : Nat × Nat × Snap) (old s : State) (l : List (Nat × Nat)) (h : Clocked p s) : Clocked p ((hookUnits old s l)) := by
  unfold hookUnits
  simp +contextual (maxDischargeDepth := 30) only [h, fineRestart_clocked, hook_clocked, implies_true, foldl_clocked, hookUnfence_clocked]
@[simp] theorem faultWrites_clocked (p : Nat × Nat × Snap) (s : State) (ws : List StagedWrite) (h : Clocked p s) : Clocked p ((faultWrites s ws)) := by
  unfold faultWrites
  simp +contextual (maxDischargeDepth := 30) only [Bool.and_eq_true, beq_iff_eq, h, faultClear_clocked, clocked_ite, implies_true, foldl_clocked]

/-! ### RingTx -/

@[simp] theorem applyBatch_clocked (p : Nat × Nat × Snap) (old s : State) (k : Nat) (h : Clocked p s) : Clocked p ((applyBatch old s k).1) := by
  unfold applyBatch
  ((try dsimp only); (repeat' split) <;> (simp +contextual (maxDischargeDepth := 30) only [State.modRing_clocked, h, reportCause_clocked, diverge_clocked, applyAll_clocked, *]; done))

/-! ### Tick -/

@[simp] theorem deferUnits_clocked (p : Nat × Nat × Snap) (s : State) (k : Nat) (h : Clocked p s) : Clocked p ((deferUnits s k)) := by
  unfold deferUnits
  simp +contextual (maxDischargeDepth := 30) only [beq_iff_eq, List.foldl_append, clocked_mk, h, clocked_tick, clocked_pub, and_self]
@[simp] theorem rejectHost_clocked (p : Nat × Nat × Snap) (s : State) (k : Nat) (h : Clocked p s) : Clocked p ((rejectHost s k)) := by
  unfold rejectHost
  simp +contextual (maxDischargeDepth := 30) only [clocked_mk, h, clocked_tick, clocked_pub, and_self, reportReject_clocked, implies_true,
    foldl_clocked]
@[simp] theorem rollbackRecord_clocked (p : Nat × Nat × Snap) (old s : State) (h : Clocked p s) : Clocked p ((rollbackRecord old s)) := by
  unfold rollbackRecord
  extract_lets t s1 s2 s3 s4
  have h1 : Clocked p s1 := by
    simp only [s1]; split
    · exact h
    · exact State.modTick_clocked _ _ _ h fun _ => ⟨rfl, rfl⟩
  have h2 : Clocked p s2 := State.evt_clocked _ _ _ _ h1
  have h3 : Clocked p s3 := clocked_ite _ _ _ _ (raise_clocked _ _ _ _ h2) h2
  have h4 : Clocked p s4 := clocked_ite _ _ _ _ (raise_clocked _ _ _ _ h3) h3
  exact clocked_ite _ _ _ _ (raise_clocked _ _ _ _ h4) h4
@[simp] theorem refenced_clocked (p : Nat × Nat × Snap) (old s : State) (h : Clocked p s) : Clocked p ((refenced old s)) := by
  unfold refenced
  simp +contextual (maxDischargeDepth := 30) only [List.contains_eq_mem, h, lostConv_clocked, implies_true, foldl_clocked]
@[simp] theorem rollback_clocked (p : Nat × Nat × Snap) (old s : State) (h : Clocked p s) : Clocked p ((rollback old s)) := by
  unfold rollback
  simp +contextual (maxDischargeDepth := 30) only [List.any_eq_true, beq_iff_eq, Fin.getElem_fin, clocked_mk, h, clocked_tick, clocked_pub, and_self, rejectHost_clocked, clocked_ite, refenced_clocked, deferUnits_clocked, rollbackRecord_clocked]
@[simp] theorem endOfTick_clocked (p : Nat × Nat × Snap) (s : State) (h : Clocked p s) : Clocked p ((endOfTick s)) := by
  unfold endOfTick
  simp +contextual (maxDischargeDepth := 30) only [List.take_succ_cons, h, batTargets_clocked, implies_true, forAll_clocked, loopsStepDiv_clocked,
    State.modModel_clocked]
@[simp] theorem fenceNow_clocked (p : Nat × Nat × Snap) (s : State) (u : FenceUnit) (h : Clocked p s) : Clocked p ((fenceNow s u)) := by
  unfold fenceNow
  simp +contextual (maxDischargeDepth := 30) only [beq_iff_eq, List.any_eq_true, reduceCtorEq, ↓reduceIte, Bool.and_eq_true, Bool.not_eq_eq_eq_not, Bool.not_true, false_and, h, endCheck_clocked, clocked_ite, State.modAx_clocked, State.modModel_clocked, trainHold_clocked, implies_true, forAll_clocked, cutCheck_clocked, applyFence_clocked]
@[simp] theorem faultBoundary_clocked (p : Nat × Nat × Snap) (old s : State) (h : Clocked p s) : Clocked p ((faultBoundary old s)) := by
  unfold faultBoundary
  ((try dsimp only); (repeat' split) <;> (simp +contextual (maxDischargeDepth := 30) only [List.foldl_append, Nat.reduceLT, BitVec.getLsbD_eq_getElem, fenceNow_clocked, implies_true, foldl_clocked, State.modCol_clocked, enterHold_clocked, enterSafe_clocked, h, *]; done))
@[simp] theorem beginSubst_clocked (p : Nat × Nat × Snap) (s : State) (i : Slice) (h : Clocked p s) : Clocked p ((beginSubst s i)) := by
  unfold beginSubst
  simp +contextual (maxDischargeDepth := 30) only [Fin.getElem_fin, Bool.and_eq_true, decide_eq_true_eq, beq_iff_eq, h, fenceNow_clocked,
    releaseSpare_clocked, clocked_ite, State.evt_clocked, State.modSup_clocked]
@[simp] theorem acceptAlt_clocked (p : Nat × Nat × Snap) (s : State) (i : Slice) (h : Clocked p s) : Clocked p ((acceptAlt s i)) := by
  unfold acceptAlt
  ((try dsimp only); (repeat' split) <;> (simp +contextual (maxDischargeDepth := 30) only [State.modSup_clocked, State.modSpare_clocked, h,
                                            fenceNow_clocked, *]; done))
@[simp] theorem substStart_clocked (p : Nat × Nat × Snap) (s : State) (h : Clocked p s) : Clocked p ((substStart s)) := by
  unfold substStart
  simp +contextual (maxDischargeDepth := 30) only [Fin.getElem_fin, h, beginSubst_clocked, acceptAlt_clocked, clocked_ite, implies_true, forAll_clocked]
@[simp] theorem latchLegs_clocked (p : Nat × Nat × Snap) (s : State) (h : Clocked p s) : Clocked p ((latchLegs s)) := by
  unfold latchLegs
  simp +contextual (maxDischargeDepth := 30) only [Fin.getElem_fin, clocked_mk, h, clocked_tick, clocked_pub, and_self]
@[simp] theorem samples_clocked (p : Nat × Nat × Snap) (rolled : Bool) (inp : TickInputs) (s : State) (h : Clocked p s) : Clocked p ((samples rolled inp s)) := by
  unfold samples
  simp +contextual (maxDischargeDepth := 30) only [Fin.getElem_fin, h, State.modBatHw_clocked, implies_true, forAll_clocked, substStart_clocked, latchLegs_clocked, trainEstimate_clocked, spareBoundary_clocked, convBoundary_clocked, noteBlamed_clocked, estimates_clocked, batMeasure_clocked]
@[simp] theorem pulseTick_clocked (p : Nat × Nat × Snap) (s : State) (l : LoopIx) (h : Clocked p s) : Clocked p ((pulseTick s l)) := by
  unfold pulseTick
  simp +contextual (maxDischargeDepth := 30) only [bne_iff_ne, ne_eq, ite_not, h, State.modLoop_clocked, clocked_ite]
@[simp] theorem checkpointed_clocked (p : Nat × Nat × Snap) (s : State) (h : Clocked p s) : Clocked p ((checkpointed s)) := by
  unfold checkpointed
  simp +contextual (maxDischargeDepth := 30) only [h, batPresence_clocked, batAge_clocked, implies_true, forAll_clocked, trainBoundary_clocked, adoptPending_clocked, trainStart_clocked, estimates_clocked, batMeasure_clocked, preload_clocked, substTrain_clocked, oscBoundary_clocked, probeBoundary_clocked, loopsTickStart_clocked, pulseTick_clocked]
@[simp] theorem uncheckpointed_clocked (p : Nat × Nat × Snap) (s : State) (h : Clocked p s) : Clocked p ((uncheckpointed s)) := by
  unfold uncheckpointed
  simp +contextual (maxDischargeDepth := 30) only [h, calBoundary_clocked, calRelease_clocked, tlBoundary_clocked, implies_true, forAll_clocked,
    larderBoundary_clocked, ledgerMinute_clocked, ringBoundary_clocked]
@[simp] theorem batteries_clocked (p : Nat × Nat × Snap) (old s : State) (ws : List StagedWrite) (h : Clocked p s) : Clocked p ((batteries old s ws)) := by
  unfold batteries
  simp +contextual (maxDischargeDepth := 30) only [h, batPhase_clocked, implies_true, forAll_clocked]
@[simp] theorem portCounts_clocked (p : Nat × Nat × Snap) (s : State) (h : Clocked p s) : Clocked p ((portCounts s)) := by
  unfold portCounts
  simp +contextual (maxDischargeDepth := 30) only [clocked_mk, h, clocked_tick, clocked_pub, and_self]
@[simp] theorem lines_clocked (p : Nat × Nat × Snap) (s : State) (h : Clocked p s) : Clocked p ((lines s)) := by
  unfold lines
  simp +contextual (maxDischargeDepth := 30) only [State.modCol_x, Bool.and_eq_true, Bool.not_eq_eq_eq_not, Bool.not_true, h, State.modCol_clocked, latchAll_clocked, fltPin_clocked]
@[simp] theorem clearFirst_clocked (p : Nat × Nat × Snap) (s : State) (l : List StagedWrite) (h : Clocked p s) : Clocked p ((clearFirst s l)) := by
  unfold clearFirst
  simp +contextual (maxDischargeDepth := 30) only [BitVec.ofNat_eq_ofNat, beq_iff_eq, h, State.setReg_clocked, clocked_ite, implies_true, foldl_clocked]
@[simp] theorem keepSet_clocked (p : Nat × Nat × Snap) (hw s : State) (l : List StagedWrite) (h : Clocked p s) : Clocked p ((keepSet hw s l)) := by
  unfold keepSet
  simp +contextual (maxDischargeDepth := 30) only [BitVec.ofNat_eq_ofNat, beq_iff_eq, h, State.orReg_clocked, clocked_ite, implies_true, foldl_clocked]
@[simp] theorem dropFenced_clocked (p : Nat × Nat × Snap) (s : State) (h : Clocked p s) : Clocked p ((dropFenced s)) := by
  unfold dropFenced
  simp +contextual (maxDischargeDepth := 30) only [List.contains_eq_mem, List.mem_append, List.mem_flatMap, Bool.decide_or, Bool.not_or, clocked_mk, h, clocked_tick, clocked_pub, and_self]

end Sys2Proof.Machine
end

