-- ==== Sys2Proof/Laws/Memory.lean ====
section
/-! SUPPORT. Reading the storeroom's array after a write or an erase. -/

namespace Sys2Proof.Machine

/-- Below the bound nothing is listed: the byte reads as erased. -/
theorem memGet_below (l : List Host.Cell) (lo a : Nat) (h : a < lo) (hw : memWfFrom lo l = true) : memGet l a = erasedByte := by
  induction l generalizing lo with
  | nil => rfl
  | cons c t ih =>
    obtain ⟨b, w⟩ := c
    simp only [memWfFrom, Bool.and_eq_true, decide_eq_true_eq] at hw
    have hb : (a == b) = false := by simp; omega
    simp only [memGet, hb]
    exact ih (b + 1) (by omega) hw.2

/-- A byte written reads back. -/
theorem memGet_memPut_same (l : List Host.Cell) (lo a : Nat) (v : Byte) (hw : memWfFrom lo l = true) :
    memGet (memPut l a v) a = v := by
  induction l generalizing lo with
  | nil =>
    unfold memPut
    split
    · next h => simpa [memGet] using (beq_iff_eq.mp h).symm
    · simp [memGet]
  | cons c t ih =>
    obtain ⟨b, w⟩ := c
    simp only [memWfFrom, Bool.and_eq_true, decide_eq_true_eq] at hw
    unfold memPut
    split
    · next hab =>
      split
      · next h =>
        have hb : (a == b) = false := by simp; omega
        simp only [memGet, hb]
        rw [beq_iff_eq.mp h]
        exact memGet_below t (b + 1) a (by omega) hw.2
      · simp [memGet]
    · next hab =>
      split
      · next he =>
        have e : a = b := beq_iff_eq.mp he
        split
        · next h =>
          rw [beq_iff_eq.mp h]
          exact memGet_below t (b + 1) a (by omega) hw.2
        · simp [memGet]
      · next he =>
        have hb : (a == b) = false := by simpa using he
        simp only [memGet, hb]
        exact ih (b + 1) hw.2

/-- Another byte reads as before. -/
theorem memGet_memPut_other (l : List Host.Cell) (a k : Nat) (v : Byte) (h : k ≠ a) : memGet (memPut l a v) k = memGet l k := by
  have hk : (k == a) = false := by simpa using h
  induction l with
  | nil =>
    unfold memPut
    split <;> simp [memGet, h]
  | cons c t ih =>
    obtain ⟨b, w⟩ := c
    unfold memPut
    split
    · split <;> simp [memGet, h]
    · split
      · next he =>
        have e : a = b := beq_iff_eq.mp he
        subst e
        split <;> simp [memGet, h]
      · simp only [memGet]; rw [ih]

/-- The bytes of a word are the word. -/
theorem ofBytes_hiLo (w : Word) : ofBytes (hiByte w) (loByte w) = w := by
  apply BitVec.eq_of_toNat_eq
  have := w.isLt
  simp only [ofBytes, hiByte, loByte, word, BitVec.toNat_ofNat]
  omega

/-- A word written reads back. -/
theorem stGet_stPut_same (m : List Host.Cell) (a : Nat) (w : Word) (hw : Memory.wf m = true) : stGet (stPut m a w) a = w := by
  unfold stGet stPut
  rw [memGet_memPut_same _ 0 _ _ (memPut_wfFrom m 0 _ _ (Nat.zero_le _) hw), memGet_memPut_other _ _ _ _ (by omega),
    memGet_memPut_same _ 0 _ _ hw, ofBytes_hiLo]

/-- Another word reads as before. -/
theorem stGet_stPut_other (m : List Host.Cell) (a k : Nat) (w : Word) (h : k ≠ a) : stGet (stPut m a w) k = stGet m k := by
  unfold stGet stPut
  rw [memGet_memPut_other _ _ _ _ (by omega), memGet_memPut_other _ _ _ _ (by omega), memGet_memPut_other _ _ _ _ (by omega),
    memGet_memPut_other _ _ _ _ (by omega)]

/-- Programming only clears bits. -/
theorem stGet_stProg_same (m : List Host.Cell) (a : Nat) (w : Word) (hw : Memory.wf m = true) :
    stGet (stProg m a w) a = stGet m a &&& w := stGet_stPut_same m a _ hw
/-- Programming leaves the other words. -/
theorem stGet_stProg_other (m : List Host.Cell) (a k : Nat) (w : Word) (h : k ≠ a) : stGet (stProg m a w) k = stGet m k :=
  stGet_stPut_other m a k _ h

/-- An erase removes the bytes of its sector. -/
theorem memGet_stErase (m : List Host.Cell) (sector a : Nat) :
    memGet (stErase m sector) a = if a / 65536 = sector then erasedByte else memGet m a := by
  induction m with
  | nil => simp [stErase, memGet]
  | cons c t ih =>
    obtain ⟨b, v⟩ := c
    by_cases hb : b / 65536 = sector
    · have e : stErase ((b, v) :: t) sector = stErase t sector := List.filter_cons_of_neg (by simp [hb])
      rw [e, ih]
      by_cases ha : a / 65536 = sector
      · simp [ha]
      · have : (a == b) = false := by
          simp
          intro e
          exact ha (e ▸ hb)
        simp [ha, memGet, this]
    · have e : stErase ((b, v) :: t) sector = (b, v) :: stErase t sector := List.filter_cons_of_pos (by simp [hb])
      rw [e, memGet, ih]
      by_cases hab : a = b
      · subst hab; simp [hb, memGet]
      · simp [memGet, hab]

/-- A word of an erased sector reads 0xFFFF. -/
theorem stGet_stErase_in (m : List Host.Cell) (sector a : Nat) (h : a / sectorWords = sector) : stGet (stErase m sector) a = 0xFFFF := by
  have h1 : (2 * a + 1) / 65536 = sector := by unfold sectorWords at h; omega
  have h2 : 2 * a / 65536 = sector := by unfold sectorWords at h; omega
  unfold stGet
  rw [memGet_stErase, memGet_stErase, if_pos h1, if_pos h2]
  decide

/-- An erase leaves the words of the other sectors. -/
theorem stGet_stErase_out (m : List Host.Cell) (sector a : Nat) (h : a / sectorWords ≠ sector) :
    stGet (stErase m sector) a = stGet m a := by
  have h1 : (2 * a + 1) / 65536 ≠ sector := by unfold sectorWords at h; omega
  have h2 : 2 * a / 65536 ≠ sector := by unfold sectorWords at h; omega
  unfold stGet
  rw [memGet_stErase, memGet_stErase, if_neg h1, if_neg h2]

end Sys2Proof.Machine
end

