-- ==== Sys2Proof/Machine/Wire.lean ====
section
/-! DEFINITION. The words of the ring's frames as a device sends them (R416-R418). Where the tables name the fields of a word and not their
bits the word is a free value of those fields (log entry 120). -/

namespace Sys2Proof.Machine

/-- Words of a block whose fields the tables name without their places. -/
def openWords (block n : Nat) (fields : List Nat) : List Word := (List.range n).map fun i => Config.ringWord block i fields

/-- A value of two words, low half first. -/
def twoWords (v : Nat) : List Word := [word v, word (v / 65536)]

/-- The two words of a heard announce (R417): position, MPRIO, state, READY. -/
def announceWords (a : Option Announce) : List Word :=
  openWords 0 2 (match a with
    | some a => [1, a.pos.val, a.mprio.val, a.state.val, a.ready.toNat]
    | none => [0])

/-- The 32 words of the slot of position q (R417); LATE stands alone in its slot. -/
def slotWords (q : Pos) (v : RingSlot) : List Word :=
  if v.late then bitAt true 14 :: List.replicate 31 0
  else
    let head : Word := bitAt v.valid 15 ||| bitAt v.leave 13 ||| at_ v.dev 11 ||| at_ q.val 8 ||| at_ v.calHold 0
    let alert : Word := match v.alert with
      | some (c, b) => bitAt true 15 ||| at_ c 12 ||| at_ b 7
      | none => 0
    withCrc ([head, v.tick] ++ twoWords v.faults.toNat ++ [alert] ++
      (v.trains.toList.map fun t => at_ t.mapped 10 ||| at_ t.avail 5 ||| at_ t.on 0) ++
      (v.trains.toList.map fun t => BitVec.ofInt 16 t.iest) ++
      twoWords v.digest ++ announceWords v.east ++ announceWords v.west ++ List.replicate 3 0)

/-- The five words of a train in a demand frame (R418). -/
def demandTrainWords (t : DemandTrain) : List Word :=
  [BitVec.ofInt 16 t.d, word t.share, word t.code,
   at_ t.state 13 ||| bitAt t.dir 12 ||| bitAt t.de 11 ||| bitAt t.duty 10 ||| bitAt t.ipred 9 ||| bitAt t.ceil 8,
   at_ t.navail 8 ||| at_ t.non 0]

/-- The 48 words of a demand frame (R418). -/
def demandWords (f : DemandFrame) : List Word :=
  withCrc (openWords 1 1 [f.mpos.val] ++ [f.num, bitAt f.held 15 ||| at_ f.span 0, 0] ++
    f.trains.toList.flatMap demandTrainWords ++ List.replicate 2 0)

/-- Batch entry i: page and offset, and the value; what stands in an entry that is not used is open. -/
def entryWords (l : List BatchEntry) (i : Nat) : List Word :=
  match l[i]? with
  | some e => [at_ e.page 8 ||| at_ e.off 0, e.val]
  | none => openWords 2 2 [i]

/-- The slot of a position; what stands in one that no device has written is open. -/
def slotOf (f : TickFrame) (q : Pos) : List Word :=
  match f.slots[q] with
  | some v => slotWords q v
  | none => openWords 6 32 [q.val]

/-- The 396 words of a tick frame (R416): four a block, the marker with its check word in blocks 0 and 1, the batch with header and end in 2 to
34, and eight slots. -/
def tickWords (f : TickFrame) : List Word :=
  withCrc (openWords 3 1 [f.hop, f.mpos.val, f.line.toNat] ++ twoWords f.num ++ [word (f.num / 4294967296)] ++ openWords 4 2 [f.memb, f.ready]) ++
  withCrc (openWords 5 4 ([(f.num + 2) % 65536, f.entries.length, f.drop] ++
      (match f.join with | some j => [1, j.1.val, j.2.toNat] | none => [0]) ++
      (match f.heal with | some h => [1, h.toNat] | none => [0])) ++
    (List.range 62).flatMap (entryWords f.entries) ++ twoWords f.digest) ++
  (List.finRange 8).flatMap (slotOf f)

/-- What a device sends of words on its ports (E as true) in the tick frames and demand frames of the present tick, its own and those that it
passes on (R413, R414). -/
def ringSends (s : State) : List (List Word × List Bool) :=
  let r := s.x.ring
  let ticks := r.txTick.toList ++ r.fwdTick.toList
  let demands := r.txDemand.toList ++ r.fwdDemand.toList
  (ticks.map fun (f : Sent TickFrame) => (tickWords f.frame, f.ports)) ++ demands.map fun (f : Sent DemandFrame) => (demandWords f.frame, f.ports)

/-- Each word goes low byte first (R416). -/
def wireBytes (l : List Word) : List Byte := l.flatMap fun w => [loByte w, hiByte w]

end Sys2Proof.Machine
end

