-- ==== Sys2Proof/Laws/Wire.lean ====
section
/-! SUPPORT. The lengths of the ring's frames (R416-R418). -/

namespace Sys2Proof.Machine

@[simp] theorem openWords_length (b n : Nat) (l : List Nat) : (openWords b n l).length = n := by simp [openWords]
@[simp] theorem twoWords_length (v : Nat) : (twoWords v).length = 2 := rfl
@[simp] theorem withCrc_length (l : List Word) : (withCrc l).length = l.length + 2 := by simp [withCrc]

/-- A slot has 32 words. -/
@[simp] theorem slotWords_length (q : Pos) (v : RingSlot) : (slotWords q v).length = 32 := by
  unfold slotWords; split <;> simp [announceWords]

@[simp] theorem entryWords_length (l : List BatchEntry) (i : Nat) : (entryWords l i).length = 2 := by
  unfold entryWords; split <;> simp

@[simp] theorem slotOf_length (f : TickFrame) (q : Pos) : (slotOf f q).length = 32 := by
  unfold slotOf; split <;> simp

/-- A demand frame has 48 words, 12 blocks. -/
theorem demandWords_length (f : DemandFrame) : (demandWords f).length = 48 := by
  simp [demandWords, demandTrainWords, List.length_flatMap, List.map_const']

/-- A tick frame has 396 words, 99 blocks. -/
theorem tickWords_length (f : TickFrame) : (tickWords f).length = 396 := by
  simp [tickWords, List.length_flatMap, List.map_const']

end Sys2Proof.Machine
end

