-- ==== Sys2Proof/Tests/Witness.lean ====
section
/-! SUPPORT. For each statement with hypotheses, concrete states and operands that meet them: one theorem per statement, a
conjunct per clause, at the ends of the ranges where there are any. -/

namespace Sys2Proof.Tests

open Sys2Proof Sys2Proof.Machine

/-- The machine after reset with its tick running in a device state, changed outside the checkpoint and in it. -/
def mk (d : DevState) (f : Ext → Ext := id) (g : Cp → Cp := id) : State :=
  { State.reset with x := f { State.reset.x with dev := d, pwr := { State.reset.x.pwr with stopped := false } }, cp := g State.reset.cp }

/-- With stored registers written. -/
def withRegs (s : State) (l : List (Nat × Word)) : State := l.foldl (fun s x => s.setReg x.1 x.2) s

/-- With adopted "P" fields. -/
def withAdopted (s : State) (l : List (Nat × Word)) : State :=
  { s with cp := { s.cp with adopted := l.foldl (fun r x => r.set x.1 x.2) s.cp.adopted } }

/-! ### Clerks -/

/-- Clerk 1 in RUN as a value says. -/
def clerkOne (v : ClerkSt) : State := mk .run id fun c => { c with clerks := upd c.clerks 1 v }
/-- A clerk with four registers, about to execute instruction 5. -/
def busy : ClerkSt := { run := .running, regs := #v[0xFFFFFFFF, 0x80000001, 0x000000E0, 0x10], pc := 5, count := 3 }

theorem meets_ClerkSums_ClerkLogic_ClerkCompare_ClerkLoads_ClerkRequests : ckReady (clerkOne busy) 1 = true := by decide

theorem meets_ClerkShift : ckReady (clerkOne busy) 1 = true ∧
    shAmount busy (.imm 0) = 0 ∧ shAmount busy (.imm 31) = 31 ∧ shAmount busy (.imm 32) = 32 ∧
    shAmount busy (.imm 0xFFE1) = -31 ∧ shAmount busy (.reg 2) = -32 := by decide

/-- The permission mask of clerk 1 grants group 2, pages 8 to 11. -/
def granted : State := withRegs (clerkOne busy) [(addr 0x82 0x24, 4)]

theorem meets_ClerkStores : ckReady granted 1 = true ∧
    (assigned 0x08 = true ∧ ckDenied granted 1 0x08 0x10 = false ∧ stageable 0x08 0x10 = true) ∧
    (assigned 0x10 = true ∧ ckDenied granted 1 0x10 0x10 = true) ∧ (assigned 0x02 = true ∧ ckDenied granted 1 0x02 0x10 = true) ∧
    assigned 0x04 = false := by decide

theorem meets_ClerkBranch : ckReady (clerkOne busy) 1 = true ∧ 239 < 240 ∧ busy.z = false := by decide

theorem meets_ClerkWaits : ckReady (clerkOne busy) 1 = true ∧
    (clerkState (clerkOne { busy with run := .wait }) 1 = 2 ∧ (clerkOne { busy with run := .wait }).cp.clerks[(1 : ClerkIx)].wait = 0) := by
  decide

theorem meets_ClerkCondition :
    (let k : WaitCond := { p := false, t := 2, page := 8, off := 0x10, bit := 15, mode := 1 }
     let s := clerkOne { busy with run := .waitc, cond := k, count := 0 }
     ckReady (clerkOne busy) 1 = true ∧ ticking s = true ∧ clerkState s 1 = 3 ∧ s.cp.clerks[(1 : ClerkIx)].ended = false ∧
       s.cp.clerks[(1 : ClerkIx)].count = 0 ∧ s.cp.clerks[(1 : ClerkIx)].cond = k) := by decide

theorem meets_ClerkIllegal :
    (ckReady (clerkOne { busy with pc := 239 }) 1 = true ∧ ckDecode 0xFFFFFFFF = .illegal 1) ∧
    (ckReady (clerkOne { busy with pc := 240 }) 1 = true) ∧ 240 ≤ 240 := by decide

/-- Clerk 1 runs the user list at instruction 239, which is HALT. -/
def atHalt : State := withRegs (clerkOne { busy with pc := 239 }) [(addr 0x82 0x10, 4), (addr 0x93 0xFF, 0x9000)]

theorem meets_ClerkSlot : ticking atHalt = true ∧ atHalt.x.dev ≠ .safe ∧ CK_CTRL_LISTSEL atHalt 1 = true ∧ ckReady atHalt 1 = true ∧
    ckDecode (ckFetch atHalt 1 239) = .halt := by decide

/-- Clerk 1 fenced. -/
def clerkFenced : State := mk .run fun x => { x with fenced := [.clerk 1] }

theorem meets_ClerkControl : clerkState (mk .run) 1 = 0 ∧
    (clerkState (clerkOne busy) 1 ≠ 0 ∧ clerkState (clerkOne busy) 1 ≠ 6 ∧ CK_CTRL_LISTSEL (clerkOne busy) 1 ≠ true) ∧
    clerkState clerkFenced 1 = 6 := by decide

/-! ### Legs -/

/-- Train 0 in RUN with legs 0 and 1, an intake train of kind 0; leg 0 as its shadow and its hardware say. -/
def leg0 (sh : LegShadow) (h : LegHw) (pair : Word := 0) : State :=
  withAdopted (mk .run (fun x => { x with hw := upd x.hw 0 h }) fun c => { c with
    trains := upd c.trains 0 { c.trains[(0 : Train)] with state := .run }
    legs := upd c.legs 0 { shadow := sh, on := true } }) [(a_PL_MAP 0, 0xFF00), (a_PL_PAIR, pair), (a_TR_CFG 0, 0)]
/-- A share of the full code. -/
def full : LegShadow := { share := 32767, code := 40, step := .on }

theorem meets_LegValleyMoves :
    (mayDrive (leg0 full {}) 0 = true ∧ pairOut (leg0 full {}) 0 = false ∧ full.duty = false ∧ full.step = .on ∧
      (leg0 full { stuckValley := 2 }).x.hw[(0 : Leg)].stuckValley < 3) ∧
    (mayDrive (leg0 { full with duty := true, step := .rampOut } {}) 0 = true) ∧ (mayDrive (leg0 {} {}) 0 = true) ∧
    (leg0 { full with step := .shedOff } { phase := .done }).x.hw[(0 : Leg)].phase = .done ∧
    (let s := leg0 { full with step := .shedOff } { phase := .ctl, active := full }
     mayDrive s 0 = true ∧ s.x.hw[(0 : Leg)].phase = .ctl ∧ s.cp.legs[(0 : Leg)].shadow.disch = s.x.hw[(0 : Leg)].active.disch) := by decide

theorem meets_LegHeldLow : mayDrive (mk .hold) 5 = false ∧ pairOut (mk .hold) 5 = false := by decide

theorem meets_LegDeadTime :
    (let a := leg0 full { phase := .preCtl }
     let b := leg0 full { phase := .preCtl } 1
     let c := leg0 full { phase := .preRect, zcSeen := true, active := { full with de := true } }
     let d := leg0 full { phase := .preRect }
     -- leg 1 as the output leg of a phase in buck-boost, in the dead time after TR_BB.TON
     let e (h : LegHw) := { leg0 full { h with region := .buckBoost } 1 with x := { (leg0 full {} 1).x with
       hw := upd (upd (leg0 full {} 1).x.hw 0 { h with region := .buckBoost }) 1 { phase := .preRect } } }
     (mayDrive (e {}) 1 = true ∧ pairOut (e {}) 1 = true ∧ (e {}).x.hw[(1 : Leg)].phase = .preRect ∧ (e {}).x.hw[(1 : Leg)].pwmL = false ∧
       (e {}).x.hw[partner 1].region = .buckBoost ∧ ((e {}).x.hw[partner 1].active.de && (e {}).x.hw[partner 1].zcSeen) = false) ∧
     (let f := e { zcSeen := true, active := { full with de := true } }
      (f.x.hw[partner 1].active.de && f.x.hw[partner 1].zcSeen) = true) ∧
     mayDrive a 0 = true ∧ pairOut a 0 = false ∧ a.x.hw[(0 : Leg)].boot = false ∧ a.x.hw[(0 : Leg)].phase = .preCtl ∧
       a.x.hw[(0 : Leg)].pwmL = false ∧ a.x.hw[(0 : Leg)].pwmH = false ∧ paired a 0 = false ∧
     mayDrive b 0 = true ∧ pairOut b 0 = false ∧ paired b 0 = true ∧ b.x.hw[partner 0].pwmH = false ∧
     mayDrive c 0 = true ∧ (c.x.hw[(0 : Leg)].active.de && c.x.hw[(0 : Leg)].zcSeen) = true ∧
       c.x.hw[(0 : Leg)].active.step ≠ .shedOff ∧
     mayDrive d 0 = true ∧ (d.x.hw[(0 : Leg)].active.de && d.x.hw[(0 : Leg)].zcSeen) = false ∧
       d.x.hw[(0 : Leg)].pwmL = false ∧ d.x.hw[(0 : Leg)].pwmH = false ∧ paired d 0 = false) := by decide

theorem meets_LegOnTimeEnds :
    (let s := leg0 full { phase := .ctl, armed := true, noTrip := 2, active := { full with duty := true } }
     inSenseTest s 0 = false ∧ s.x.hw[(0 : Leg)].phase = .ctl ∧ s.x.hw[(0 : Leg)].armed = true ∧ s.x.hw[(0 : Leg)].noTrip < 3 ∧
       s.x.hw[(0 : Leg)].active.duty = true ∧ legTrain s 0 = some 0 ∧ (leg0 full {}).x.hw[(0 : Leg)].armed = false ∧
       peakReads s 0 40 (slopeOf s 0) 9 1171880 = true ∧ peakReads s 0 40 (slopeOf s 0) 9 1171879 = false) := by decide

theorem meets_LegArms :
    (let s := leg0 full { phase := .rect, active := { full with duty := true, ton := 1 } }
     let c := leg0 full { phase := .ctl, stuckBlank := 2, active := full }
     c.x.hw[(0 : Leg)].phase = .ctl ∧ c.x.hw[(0 : Leg)].blanked = true ∧ peakReads c 0 40 (slopeOf c 0) (L_BLANK c 0) 0 = false ∧
       peakReads c 0 40 (slopeOf c 0) (L_BLANK c 0) 1171880 = true ∧ c.x.hw[(0 : Leg)].stuckBlank < 3 ∧
       (leg0 full {}).x.hw[(0 : Leg)].blanked = false ∧ mayDrive s 0 = true ∧ pairOut s 0 = false ∧
       s.x.hw[(0 : Leg)].active.duty = true ∧ s.x.hw[(0 : Leg)].active.ton ≠ 0 ∧ s.x.hw[(0 : Leg)].active.step ≠ .idle ∧
       s.x.hw[(0 : Leg)].phase = .rect ∧ (leg0 full { phase := .preRect }).x.hw[(0 : Leg)].phase = .preRect) := by decide

theorem meets_LegZeroCross :
    (let s (k : LegStep) (p : LegPhase) := leg0 full { phase := p, armed := true, active := { full with de := true, step := k } }
     let acts (s : State) : Bool := s.x.hw[(0 : Leg)].active.de && s.x.hw[(0 : Leg)].armed && zeroReads s 0 0
     acts (s .on .rect) = true ∧ (s .on .rect).x.hw[(0 : Leg)].active.step ≠ .shedOff ∧ acts (s .on .ctl) = true ∧ acts (s .on .preRect) = true ∧
       acts (s .shedOff .rect) = true ∧ acts (s .shedOff .preRect) = true ∧ acts (leg0 full {}) = false ∧ zeroReads (s .on .rect) 0 1 = false) := by decide

theorem meets_LegPairs :
    (let hi : LegHw := { pwmH := true, pwmL := true, region := .boost }
     let s (r : Region) := { leg0 full {} 1 with x := { (leg0 full {} 1).x with hw := upd (upd (leg0 full {} 1).x.hw 0 { hi with region := r }) 1 hi } }
     (paired (s .buck) 1 = true ∧ (s .buck).x.hw[(1 : Leg)].pwmH = true ∧ (s .buck).x.hw[phaseLeg (s .buck) 1].region = .buck) ∧
     (paired (s .boost) 0 = true ∧ (s .boost).x.hw[(0 : Leg)].pwmH = true ∧ (s .boost).x.hw[(0 : Leg)].region = .boost) ∧
     (paired (s .buckBoost) 0 = true ∧ (s .buckBoost).x.hw[(0 : Leg)].region = .buckBoost ∧ (s .buckBoost).x.hw[partner 0].pwmL = true)) := by
  decide

theorem meets_LegFails :
    (let s := { leg0 full {} with x := { (leg0 full {}).x with senseTest := true } }
     let a := { s with cp := { s.cp with trains := upd s.cp.trains 0 { s.cp.trains[(0 : Train)] with state := .prebias } } }
     let b := withRegs { s with x := { s.x with hw := upd s.x.hw 0 { active := full } } } [(a_L_CFG 0, 0x2000)]
     inSenseTest a 0 = true ∧ testReads a 0 1875008 = true ∧ testReads a 0 1875007 = false ∧
     (a.x.senseTest = true ∧ legTrain a 0 = some 0 ∧ a.cp.trains[(0 : Train)].state = .prebias ∧ a.isFenced (.leg 0) = false) ∧
     (L_CFG_DFLT_EN b 0 = true ∧ legSwitches b 0 = true)) := by decide

/-! ### The tick -/

theorem meets_TickAdvances :
    (ticking (mk .hold) = true ∧ (mk .hold).x.tick.trips = [] ∧ (mk .hold).x.col.fencePend = [] ∧
      ∀ i : Slice, (mk .hold).x.slices[i].trigs = []) ∧
    (let s := mk .run fun x => { x with tick := { x.tick with trips := [{ checker := 0, unit := [], cyc := 959 }], num := 2 ^ 48 - 1 } }
     ticking s = true ∧ s.x.tick.trips ≠ []) := by decide

theorem meets_NoTickNoWork : (mk .off).x.dev = .off ∧ (mk .boot).x.dev = .boot ∧ (mk .sleep).x.dev = .sleep := by decide

theorem meets_CheckersTrip : working (mk .hold) = true ∧ ticking (mk .hold) = true ∧ (mk .hold).isFenced .supv = false := by decide

/-- Loop 15 of three sections in slots 93 to 95, closed, in a tick in which it is updated. -/
def loop15 : State := withRegs (mk .run id fun c => { c with
  loops := upd c.loops 15 { c.loops[(15 : LoopIx)] with active := true, updating := true, chain := -32768 } })
  [(addr 0x70 0x11, 93), (addr 0x70 0x12, 3), (addr 0x70 0x10, 0xC000)]

theorem meets_SectionUpdates : working loop15 = true ∧ slotLoop loop15 94 = some 15 ∧ loop15.cp.loops[(15 : LoopIx)].active = true ∧
    loop15.isFenced (.loop 15) = false ∧ 94 ≠ LP_FIRST_FIRST loop15 15 ∧ 94 ≠ lastSlot loop15 15 ∧
    LP_CFG_CLOSED loop15 15 = true ∧ fbNoEst loop15 15 = false ∧ loop15.cp.loops[(15 : LoopIx)].updating = true := by decide

/-- Slice 15 is tested and has given one word at a rail. -/
def atRail (w : Int) : State := withRegs (mk .run (fun x => { x with deliv := upd x.deliv 15 { fast := w } })
  fun c => { c with sup := upd c.sup 15 { lostCnt := 1 } }) [(addr 0x78 0xD0, 0x8000), (addr 0x50 0x10, 0x8000)]

theorem meets_LostWordBlamed : working (atRail 32767) = true ∧ (atRail 32767).isFenced .supv = false ∧ tested (atRail 32767) 15 = true ∧
    (atRail 32767).cp.sup[(15 : Slice)].cause = .none ∧ (atRail 32767).x.deliv[(15 : Slice)].fast = 32767 ∧
    (atRail (-32768)).x.deliv[(15 : Slice)].fast = -32768 ∧ 1 ≤ (atRail 32767).cp.sup[(15 : Slice)].lostCnt ∧
    settling (atRail 32767) 15 = false := by decide

theorem meets_DemandWithinCeiling : working (mk .run) = true ∧ spanSlave (mk .run) 7 = false ∧ rideHolds (mk .run) 7 = false := by decide

/-- A demand frame that spans train 7. -/
def frame7 : DemandFrame := { ok := true, mpos := 0, num := 0, held := false, span := 128, trains := Vector.replicate 8 {} }
/-- A member of a formed ring. -/
def ringMember (f : Option DemandFrame) : State := mk .run fun x => { x with ring := { x.ring with state := .member, frame := f } }
/-- The master of a formed ring. -/
def theMaster : State := mk .run fun x => { x with ring := { x.ring with state := .master } }

theorem meets_DemandWrites : working (mk .hold) = true ∧
    (ringFormed (ringMember none) = true ∧ ringMaster (ringMember none) = false ∧ (ringMember none).x.ring.frame = none) ∧
    (ringFormed (ringMember (some frame7)) = true ∧ (ringMember (some frame7)).x.ring.frame = some frame7 ∧
      (ringMember none).x.tick.count < (ringMember none).x.ring.memberAt + 3 ∧
      (let s := { ringMember (some frame7) with x := { (ringMember (some frame7)).x with tick := { (ringMember (some frame7)).x.tick with count := 3 } } }
       s.x.ring.memberAt + 3 ≤ s.x.tick.count) ∧
      nbit frame7.span 7 = true ∧ nbit frame7.span 6 = false) := by decide

/-- Bit 31 latched, not yet decided, with a reaction. -/
def newBit (code : Word) : State := withRegs (mk .run fun x => { x with col := { x.col with word := 0x80000080, newly := 0x80000080 } })
  [(addr 0xB8 0x20, 0), (addr 0xB8 0x21, code * 4096), (addr 0xB8 0x27, code * 4096)]

theorem meets_CollectorDecides : ticking (newBit 4) = true ∧ deadConvs (newBit 4) = [] ∧ (newBit 4).x.col.newly.getLsbD 31 = true ∧
    react (newBit 4) 31 = 4 ∧ react (newBit 1) 7 = 1 ∧ react (newBit 2) 7 = 2 ∧ (∀ b : Fin 32, react (newBit 4) b ≤ 4) := by decide

/-- A unit of the SPI port with one write, for a boundary. -/
def unitFor (due : Nat) (page off : Nat) (r : Option Nat) (dec : Bool := false) : CommitUnit :=
  { src := .host .spi, due := due, writes := [⟨page, off, 5, 8, 899⟩], tick := 8, cyc := 899, reject := r, decided := dec }
/-- Units that wait, in tick 9. -/
def waiting (l : List CommitUnit) (r : RingSt := {}) : State :=
  mk .run fun x => { x with hostUnits := l, ring := r, tick := { x.tick with count := 9, num := 2 ^ 48 - 1 } }

theorem meets_CommitValidationJudges : ticking (waiting [unitFor 10 0x10 0x12 none]) = true ∧
    (waiting [unitFor 10 0x10 0x12 none]).cp.clerkUnits = [] ∧
    (unitFor 10 0x10 0x12 none).due = (waiting [unitFor 10 0x10 0x12 none]).x.tick.count + 1 ∧
    (unitFor 10 0x10 0x12 none).reject = none ∧ (unitFor 10 0x10 0x12 none).decided = false ∧ (unitFor 10 0x10 0x12 (some 1)).reject ≠ none ∧
    (unitFor 11 0x10 0x12 none).due ≠ (waiting []).x.tick.count + 1 := by decide

theorem meets_CommitDecisionBatches :
    (ticking (waiting [] { state := .member }) = true ∧ inLoop (waiting [] { state := .member }) = true ∧
      inLoop (waiting [] { state := .holdover }) = true) ∧
    (let s := withRegs (waiting [unitFor 11 0xC8 0x30 none, unitFor 11 0x10 0x12 none] { state := .master }) [(a_RG_SPAN, 1)]
     ticking s = true ∧ ringMaster s = true ∧ working s = true ∧ (∀ u ∈ s.x.hostUnits, u.decided = false) ∧ 11 = s.x.tick.count + 2) ∧
    (inLoop (waiting []) = false ∧ ringMaster (waiting []) = false) := by decide

theorem meets_LarderRecords : ticking (mk .safe) = true ∧ (mk .safe).x.larder.state = .armed ∧
    (let s (r : Bool) (n : Nat) := mk .run fun x => { x with larder := { x.larder with state := .post, recorded := r, left := n } }
     (s false 0).x.larder.state = .post ∧ (s false 0).x.larder.recorded = false ∧ (s true 1).x.larder.recorded = true ∧
       (s true 1).x.larder.left ≠ 0) ∧
    (∀ k : LarState, k = .off ∨ k = .frozen ∨ k = .flush → (mk .run fun x => { x with larder := { x.larder with state := k } }).x.larder.state = k) := by
  refine ⟨by decide, by decide, by decide, fun k _ => by cases k <;> decide⟩

/-! ### Trains, the engine, the supervisor -/

/-- Train 7 as a value says, with leg 23 and leg 22. -/
def train7 (v : TrainSt) : State := withAdopted (mk .run id fun c => { c with
  trains := upd c.trains 7 v
  legs := upd (upd c.legs 22 { on := true }) 23 { on := true } }) [(a_PL_MAP 5, 0x77FF), (a_TR_CFG 7, 0x8000)]

theorem meets_TrainEnds :
    (let s := withRegs (train7 { state := .stop, stopN := 255 }) [(addr 0x0F 0x21, 255)]
     s.cp.trains[(7 : Train)].state = .stop ∧ TR_STOP_TK_TK s 7 ≤ s.cp.trains[(7 : Train)].stopN ∧ legTrain s 23 = some 7) ∧
    (let s := withRegs (train7 { state := .reverse, rev := 3, want := -99 }) [(addr 0x0F 0x22, 100)]
     s.cp.trains[(7 : Train)].state = .reverse ∧ s.cp.trains[(7 : Train)].rev = 3 ∧
       s.cp.trains[(7 : Train)].want.natAbs < TR_REV_TH_REV s 7) ∧
    (let s := train7 { state := .run, leaving := some 23, shedding := true, rampWritten := true }
     s.cp.trains[(7 : Train)].leaving = some 23 ∧ s.cp.trains[(7 : Train)].shedding = true ∧
       s.cp.trains[(7 : Train)].rampWritten = true ∧ s.x.tick.written = false) := by decide

theorem meets_TrainSheds :
    (let s := withRegs (train7 { state := .run, shedCnt := 9 }) [(addr 0x0F 0x26, 0x8001), (addr 0x0F 0x25, 9)]
     TR_SHED_CFG_EN s 7 = true ∧ spanning s 7 = false ∧ s.cp.trains[(7 : Train)].state = .run ∧ inDuty s 7 = false ∧
       TR_CFG_ONELEG s 7 = false ∧ trainInSubst s 7 = false ∧ s.cp.trains[(7 : Train)].shedding = false ∧
       TR_SHED_DLY s 7 ≤ s.cp.trains[(7 : Train)].shedCnt ∧ TR_SHED_CFG_SMIN s 7 < nOn s 7 ∧ legTrain s 23 = some 7 ∧ pairOut s 23 = false ∧
       s.cp.legs[(23 : Leg)].on = true ∧ legAvail s 23 = true ∧
       (∀ m : Leg, 23 < m → legTrain s m = some 7 → pairOut s m = false → s.cp.legs[m].on = true → legAvail s m = false)) := by decide

theorem meets_ShareDeviationReported :
    (let s := { train7 {} with cp := { (train7 {}).cp with legs := upd (train7 {}).cp.legs 23 { devCnt := 64 } } }
     legTrain s 23 = some 7 ∧ 64 ≤ s.cp.legs[(23 : Leg)].devCnt) := by decide

theorem meets_PendingAdopted : trOff (train7 {}) 7 = true ∧ trOff (train7 { state := .run }) 7 = false := by decide

theorem meets_EngineEvents :
    (let s := mk .run id fun c => { c with oscs := upd c.oscs 3 { run := true, stopping := true, phase := 2 ^ 31 - 1, nextPh := 2 ^ 31 } }
     s.cp.oscs[(3 : OscIx)].run = true ∧ s.cp.oscs[(3 : OscIx)].stopping = true ∧ s.cp.oscs[(3 : OscIx)].phase < 2 ^ 31 ∧
       2 ^ 31 ≤ s.cp.oscs[(3 : OscIx)].nextPh) ∧
    (let s := withRegs (mk .run id fun c => { c with loops := upd c.loops 15 { c.loops[(15 : LoopIx)] with idleTicks := 3 } })
       [(addr 0x70 0x13, 0x500F), (addr 0x70 0x18, 3)]
     LP_SP_SRC_KIND s 15 = 5 ∧ s.cp.loops[(15 : LoopIx)].fallback = false ∧ LP_SP_TMO s 15 ≠ 0 ∧
       LP_SP_TMO s 15 ≤ s.cp.loops[(15 : LoopIx)].idleTicks ∧ capturePair s (ix16 (LP_SP_SRC_INDEX s 15)) = false) := by decide

theorem meets_SubstitutionEvents :
    (let s := withRegs (mk .run id fun c => { c with
       models := upd c.models 7 { c.models[(7 : Train)] with inSubst := true, subTk := 5 }
       trains := upd c.trains 7 { state := .run } }) [(addr 0x78 (0x1A + 112), 5)]
     s.cp.models[(7 : Train)].inSubst = true ∧ SVt_SUB_MAX s 7 ≤ s.cp.models[(7 : Train)].subTk ∧
       s.cp.trains[(7 : Train)].state.switching = true) ∧
    (let s := mk .run id fun c => { c with sup := upd c.sup 15 { alt := .waiting } }
     s.cp.spare.state = .idle ∧ s.cp.sup[(15 : Slice)].alt = .waiting ∧ s.cp.sup[(15 : Slice)].fenceDue = false ∧
       ∀ j : Slice, j < 15 → s.cp.sup[j].alt = .waiting → s.cp.sup[j].fenceDue = true) ∧
    (let s := withRegs (mk .run id fun c => { c with sup := upd c.sup 15 { alt := .agree, altCnt := 31 } }) [(addr 0x78 0xD2, 31)]
     s.cp.sup[(15 : Slice)].alt = .agree ∧ SV_AGREE_N_N s ≤ s.cp.sup[(15 : Slice)].altCnt ∧
       s.cp.sup[(15 : Slice)].acceptDue = false) := by decide

/-! ### Sources, nodes, battery ports -/

/-- Node B live on source 3 alone, train 1 its intake train with leg 0. -/
def nodeB (v : NodeSt) : State := withAdopted (withRegs (mk .run fun x => { x with
    nodes := upd x.nodes 1 v, src := upd x.src 3 { x.src[(3 : Src)] with winTicks := 65536 }
    srcEn := upd x.srcEn 3 true }) [(addr 0x30 0x48, 0x4000)]) [(a_PL_MAP 0, 0xFFF1), (a_TR_CFG 1, 0x4100)]

theorem meets_SourceComparators : (nodeB { state := .live }).x.nodes[srcNode (nodeB { state := .live }) 3].state = .live ∧
    (∀ j : Src, j ≠ 3 → srcNode (nodeB { state := .live }) j = 1 → ¬ (srcActive (nodeB { state := .live }) j = true ∧
      inWindow (nodeB { state := .live }) j = true)) ∧ react (nodeB { state := .live }) 9 ≤ 2 ∧ enablesLive (nodeB { state := .live }) = true ∧
    legTrain (nodeB { state := .live }) 0 = some 1 ∧ trKind (nodeB { state := .live }) 1 = 1 ∧
    trNode (nodeB { state := .live }) 1 = 1 ∧
    ((mk .run).x.dev ≠ .sleep ∧ (mk .run).x.pwr.sleeping = false ∧ (mk .run).x.src[(3 : Src)].uv = false ∧ (mk .run).x.src[(3 : Src)].ov = false) ∧
    (let s := withRegs (mk .sleep fun x => { x with src := upd x.src 3 { x.src[(3 : Src)] with uv := true } }) [(addr 0xE0 0x11, 0xFFFF)]
     s.x.dev = .sleep ∧ s.x.pwr.waking = false ∧ s.x.src[(3 : Src)].uv = true ∧
       wakeOn (s.modSrc 3 fun v => { v with uv := false }) (.src 3) = true) := by decide

theorem meets_RideThroughPreset :
    (let a := nodeB { state := .ramp }
     let s := withAdopted (withRegs { a with cp := { a.cp with trains := upd a.cp.trains 7 { state := .run } } }
       [(addr 0x30 0x13, 0x8080), (addr 0x37 0x13, 10)]) [(a_PL_MAP 5, 0x7FFF), (a_TR_CFG 7, 0x8300)]
     s.x.nodes[srcNode s 3].state = .ramp ∧
       (∀ j : Src, j ≠ 3 → srcNode s j = srcNode s 3 → ¬ (srcActive s j = true ∧ inWindow s j = true)) ∧
       SRC_RIDE_EN s = true ∧ rideEligible s 7 = true ∧ nAvailHere s 7 ≠ 0) := by decide

theorem meets_NodesReturn :
    (let s := withRegs (nodeB { state := .lost }) [(addr 0x30 0x16, 65535)]
     s.x.nodes[(1 : Fin 2)].state = .lost ∧ srcNode s 3 = 1 ∧ srcActive s 3 = true ∧ inWindow s 3 = true ∧
       SRC_NODE_RET s < s.x.src[(3 : Src)].winTicks) ∧
    ((nodeB { state := .ramp, ramp := 32767 }).x.nodes[(1 : Fin 2)].state = .ramp ∧
      32767 ≤ (nodeB { state := .ramp, ramp := 32767 }).x.nodes[(1 : Fin 2)].ramp) ∧
    (let s := withRegs (mk .run fun x => { x with listStill := 64 }) [(addr 0x30 0x10, 0x8000)]
     SRC_CTRL_AUTO s = true ∧ s.x.dev = .run ∧ 64 ≤ s.x.listStill) ∧
    (let s := mk .run fun x => { x with tick := { x.tick with count := 1 } }
     s.x.ride.fired < s.x.tick.count) := by decide

/-- Port 3 with a valid guard of count 1, phase and battery as given. -/
def port3 (phase : Word) (b : BatSt) : State := withRegs (mk .run id fun c => { c with bat := upd c.bat 3 b })
  [(addr 0x38 0x50, 0x8100), (addr 0x38 0x5C, 1), (addr 0x38 0x5D, 1), (addr 0x37 0x13, phase), (addr 0x37 0x10, 0x8000),
   (addr 0x37 0x32, 1), (addr 0x37 0x30, 1), (addr 0x38 0x59, 450), (addr 0x38 0x53, 1000)]
/-- A battery of 1000 counts at 45.1 degrees. -/
def hotPack : BatSt := { v := 1000, ntcA := { valid := true, temp := 451 } }

theorem meets_GuardTrips :
    (let s := port3 3 { hotPack with vCnt := 1, iCnt := 1, vdCnt := 1 }
     GDp_CFG_N s 3 = 1 ∧ GDp_CFG_N s 3 ≤ s.cp.bat[(3 : BPort)].vCnt ∧ s.cp.bat[(3 : BPort)].trips.v = false ∧
       GDp_CFG_N s 3 ≤ s.cp.bat[(3 : BPort)].iCnt ∧ GDp_CFG_N s 3 ≤ s.cp.bat[(3 : BPort)].vdCnt ∧
       bpTemp s 3 = some 451 ∧ GDp_TDMAX_I s 3 < 451) ∧
    (let s := port3 3 { force := some 1 }
     s.cp.bat[(3 : BPort)].vCnt < GDp_CFG_N s 3 ∧ s.cp.bat[(3 : BPort)].iCnt < GDp_CFG_N s 3 ∧
       s.cp.bat[(3 : BPort)].vdCnt < GDp_CFG_N s 3 ∧ bpTemp s 3 = none ∧ s.cp.bat[(3 : BPort)].trips.latched = none) ∧
    (let s := port3 3 { trips := { v := true } }
     s.cp.bat[(3 : BPort)].trips.latched = some 1 ∧ BP_PHASE_PHASE s 3 = 3) := by decide

theorem meets_SafetyTimers :
    (let s := port3 3 { tmrCc := 25000000 * 4096, tmrPre := 25000000, tmrRun := true, ptmrRun := true }
     s.cp.bat[(3 : BPort)].tmrRun = true ∧ s.cp.bat[(3 : BPort)].ptmrRun = true ∧ GDp_TMR_CC s 3 * 25000000 * 4096 ≤ s.cp.bat[(3 : BPort)].tmrCc ∧
       s.cp.bat[(3 : BPort)].trips.timeout = false ∧ GDp_TMR_PRE s 3 * 25000000 ≤ s.cp.bat[(3 : BPort)].tmrPre ∧
       s.cp.bat[(3 : BPort)].trips.preTimeout = false) := by decide

theorem meets_RemovalAndReturn :
    (let a := port3 3 {}
     let s := withAdopted { a with cp := { a.cp with trains := upd a.cp.trains 7 { state := .prebias } } }
       [(a_PL_MAP 5, 0x7FFF), (a_TR_CFG 7, 0x8300)]
     BP_PHASE_PHASE s 3 ≠ 0 ∧ BP_OVC_TH s 3 ≠ 0 ∧ BP_CFG_PRES_EN s 3 = true ∧ trKind s 7 = 2 ∧ trTerm s 7 = 3 ∧
       s.cp.trains[(7 : Train)].state = .prebias ∧ BP_CFG_PRES_EN (withRegs (mk .run) [(addr 0x37 0x10, 0)]) 3 = false) ∧
    (let s := port3 0 { insCnt := 257 }
     BP_PHASE_PHASE s 3 = 0 ∧ BP_INS_DB s 3 * 256 < s.cp.bat[(3 : BPort)].insCnt) := by decide

theorem meets_PortControls :
    (let s := port3 9 { v := 1000, trips := { td := true }, ntcA := { valid := true, temp := 400 } }
     BP_PHASE_PHASE s 3 = 9 ∧ s.cp.bat[(3 : BPort)].v ≤ (GDp_VMAX s 3 : Int) ∧ bpTemp s 3 = some 400 ∧ 400 ≤ GDp_TDMAX_I s 3 - 50 ∧
       s.cp.bat[(3 : BPort)].force = none) ∧
    (let s := port3 9 { v := 1001 }
     BP_PHASE_PHASE s 3 = 9 ∧ ¬ s.cp.bat[(3 : BPort)].v ≤ (GDp_VMAX s 3 : Int)) ∧
    BP_PHASE_PHASE (port3 8 {}) 3 ≠ 9 ∧
    ((mk .hold).x.dev = .hold ∧ GUARD_LOCK_LOCK (mk .hold) = false) ∧ (mk .run).x.dev ≠ .hold := by decide

/-- A probe window of one period of four samples at its end, with its amplitude. -/
def probe3 (r : ProbeSt) : State := withRegs (port3 3 { amp := 1000, probe := { r with run := true, wraps := 1, n := 4 } })
  [(addr 0x37 0x3C, 0x0A01), (addr 0x37 0x24, 1000), (addr 0x38 0x52, 6553)]

/-- The current sums of a window with its means removed. -/
def probeCurrent (r : ProbeSt) : Rat × Rat :=
  (r.sic - ratDiv (r.si * r.sc) r.n, r.sis - ratDiv (r.si * r.ss) r.n)

theorem meets_ProbeEnds :
    (probe3 {}).cp.bat[(3 : BPort)].probe.run = true ∧
    BP_PROBE_NPER (probe3 {}) 3 ≤ (probe3 {}).cp.bat[(3 : BPort)].probe.wraps ∧ (probe3 {}).cp.bat[(3 : BPort)].amp = 1000 ∧ probeAmp (probe3 {}) 3 = 1000 := by decide

theorem meets_ProbeEnds_weak_and_not :
    (let r := (probe3 {}).cp.bat[(3 : BPort)].probe
     let c := probeCurrent r
     64 * (c.1 * c.1 + c.2 * c.2) < ((1000 : Int) : Rat) * ((1000 : Int) : Rat) * r.n * r.n) ∧
    (let r := (probe3 { sic := 500 }).cp.bat[(3 : BPort)].probe
     let c := probeCurrent r
     ¬ 64 * (c.1 * c.1 + c.2 * c.2) < ((1000 : Int) : Rat) * ((1000 : Int) : Rat) * r.n * r.n) := by decide +kernel

/-! ### Conversion -/

/-- Slice 15 enabled, its fine path in a mode, as a value says. -/
def slice15 (mode : Word) (v : SliceSt) : State := withRegs (mk .hold fun x => { x with slices := upd x.slices 15 v })
  [(addr 0x50 0x10, 0x8000 + mode * 4096), (addr 0x50 0x11, 0x1F80), (addr 0x50 0x18, 0x0F00)]

theorem meets_FineConversions :
    (let s := slice15 1 { results := 2 }
     s.x.dev ≠ .sleep ∧ SL_CFG_EN s 15 = true ∧ s.x.conv[delivBy s 15].fault = false ∧ SL_CFG_FMODE s 15 = 1 ∧ s.x.slices[(15 : Slice)].results < 3) ∧
    (3 ≤ (slice15 1 { results := 3 }).x.slices[(15 : Slice)].results) ∧
    (let s := slice15 2 { busy := true, held := true }
     SL_CFG_FMODE s 15 = 2 ∧ SL_CFG_EN s 15 = true ∧ s.x.slices[(15 : Slice)].busy = true ∧ s.x.slices[(15 : Slice)].held = true ∧
       cycleNow s 0 ∉ s.x.slices[(15 : Slice)].trigs ∧ (∀ c ∈ s.x.slices[(15 : Slice)].trigs, cycleNow s 0 ≤ c)) ∧
    (∀ held : Bool, let s := slice15 2 { busy := true, held := held, trigs := [cycleNow (slice15 2 {}) 0] }
     cycleNow s 0 ∈ s.x.slices[(15 : Slice)].trigs ∧ cycleNow s 0 < cycleNow s 1 ∧ s.x.slices[(15 : Slice)].trigs = [cycleNow s 0] ∧
       s.x.slices[(15 : Slice)].busy = true ∧ s.x.slices[(15 : Slice)].held = held ∧ s.x.conv[delivBy s 15].fault = false) ∧
    SL_CFG_FMODE (slice15 0 {}) 15 ≠ 2 ∧ SL_CFG_EN (withRegs (mk .hold) [(addr 0x50 0x10, 0)]) 15 = false := by decide

theorem meets_ConverterEvents :
    (let s := slice15 1 { owHit := 31 }
     SL_OW_TEN s 15 = true ∧ SL_OW_N s 15 ≤ s.x.slices[(15 : Slice)].owHit ∧ s.x.slices[(15 : Slice)].ow = false) ∧
    (let s := slice15 1 { owMiss := 31, ow := true }
     SL_OW_TEN s 15 = true ∧ SL_OW_N s 15 ≤ s.x.slices[(15 : Slice)].owMiss ∧ s.x.slices[(15 : Slice)].ow = true ∧
       s.x.conv[delivBy s 15].fault = false) ∧
    (let s := mk .run fun x => { x with settle := upd x.settle 7 (some 0), tick := { x.tick with count := 2 } }
     s.x.settle[(7 : Fin 8)] = some 0 ∧ 0 + 2 ≤ s.x.tick.count) ∧
    (let s := withRegs (mk .run) [(addr 0x40 0x11, 0x0080)]
     ticking s = true ∧ (15 : Slice).val = 2 * (7 : Fin 8).val + 1 ∧ inPair s 15 = true ∧ s.x.conv[convOf 15].fault = false) := by decide

theorem meets_AxEvents :
    (let s := withRegs (mk .run) [(addr 0x52 0x10, 0x8000), (addr 0x52 0x2C, 0x8000)]
     AX_CFG_EN s = true ∧ AXWw_CFG_EN s 3 = true) ∧
    (let s := withRegs (mk .sleep) [(addr 0x52 0x2C, 0xC000)]
     AXWw_CFG_EN s 3 = true ∧ s.x.dev = .sleep ∧ AXWw_CFG_WAKE s 3 = true ∧ s.x.pwr.waking = false) := by decide

/-- A system calibration of slice 15, and of the AX converter. -/
def calOf (c a : SysCal) (count : Nat) : State := withRegs (mk .hold fun x => { x with
  sysCal := upd x.sysCal 15 c, ax := { x.ax with cal := a }, tick := { x.tick with count := count } })
  [(addr 0x50 0x10, 0x8000), (addr 0x52 0x10, 0x8000)]

theorem meets_CalibrationCommands :
    (let s := calOf {} {} 9
     s.x.sysCal[(15 : Slice)].kind = 0 ∧ s.x.dev = .hold ∧ SL_CFG_EN s 15 = true ∧ SL_CFG_LP s 15 = false ∧
       privileged s 15 = false ∧ inPair s 15 = false ∧ s.x.ax.cal.kind = 0 ∧ AX_CFG_EN s = true) ∧
    (mk .run).x.dev ≠ .hold ∧
    (let s := calOf { kind := 1, since := 4, len := 5 } { kind := 2, n := 7, len := 8 } 9
     s.x.sysCal[(15 : Slice)].kind ≠ 0 ∧ s.x.tick.count ≤ s.x.sysCal[(15 : Slice)].since + s.x.sysCal[(15 : Slice)].len ∧
       s.x.ax.cal.kind ≠ 0 ∧ s.x.ax.next[ix16 s.x.ax.cal.input] = none ∧
       s.x.ax.cal.n + 0 < s.x.ax.cal.len) ∧
    (let s := calOf {} { kind := 2, n := 8, len := 8 } 9
     s.x.ax.cal.kind ≠ 0 ∧ s.x.ax.cal.len ≤ s.x.ax.cal.n + 0) ∧
    (let s := calOf { kind := 1, since := 3, len := 5 } {} 9
     s.x.sysCal[(15 : Slice)].since + s.x.sysCal[(15 : Slice)].len < s.x.tick.count) := by decide

/-- The value that a ZERO run ends with. -/
def zeroValue (c : SysCal) : Int := rnd (ratDiv (c.sum : Rat) (c.len : Rat) / 16)

theorem meets_CalibrationEnds :
    (let s := calOf { kind := 1, since := 4, len := 4, sum := 64 * 32767 } { kind := 1, n := 4, len := 4, sum := -64 * 32769 } 9
     s.x.sysCal[(15 : Slice)].kind = 1 ∧ s.x.sysCal[(15 : Slice)].since + s.x.sysCal[(15 : Slice)].len + 1 ≤ s.x.tick.count ∧
       zeroValue s.x.sysCal[(15 : Slice)] = 32767 ∧ s.x.ax.cal.kind = 1 ∧ s.x.ax.cal.len ≤ s.x.ax.cal.n ∧
       zeroValue s.x.ax.cal = -32769) := by decide +kernel

/-! ### Background calibration, reference traces -/

/-- Slice 15 alone is privileged. -/
def priv15 (f : Ext → Ext) (g : Cp → Cp := id) : State :=
  withRegs (mk .run f g) [(addr 0x40 0x10, 0x8000), (addr 0x40 0x12, 0x8000), (addr 0x40 0x13, 1), (addr 0x40 0x15, 0x0101)]

theorem meets_BackgroundCycle :
    (let s := priv15 fun x => { x with tick := { x.tick with count := 2049 } }
     ADC_BG_CFG_EN s = true ∧ working s = true ∧ spareIdle s = true ∧ s.x.trace.waiting = false ∧
       s.x.bg.lastStart + bgPeriod s ≤ s.x.tick.count ∧ nextPriv s = some 15 ∧ privileged s 15 = true ∧
       s.x.bg.lastCal[(15 : Slice)] + 2 * ADC_BG_PER s * 1024 < s.x.tick.count) ∧
    (∀ k : Fin 6, let step := [1, 2, 3, 4, 5, 7].getD k 0
      let age := [7, 14, 17, 18, 25, 35].getD k 0
      let s := priv15 (fun x => { x with bg := { x.bg with step := step, z := 4, v := 1 }, tick := { x.tick with count := age } })
        fun c => { c with spare := { state := .ret } }
      s.x.bg.endAt = none ∧ s.x.bg.step = step ∧ s.x.tick.count - s.x.bg.since = age ∧ s.cp.spare.state = .ret) := by decide

/-- The slice of a background cycle has given its sums. -/
def measured (cz cr : Int) (made : Bool) : State := priv15 fun x => { x with
  bg := { x.bg with step := 6, slice := 15, z := 4, v := 1, cz := cz, cr := cr, made := upd x.bg.made 15 made, rejects := upd x.bg.rejects 15 1 }
  tick := { x.tick with count := 32 } }

theorem meets_BackgroundUpdate :
    (let s := measured (64 * 16) (4 * 6710886 + 64 * 16) true
     s.x.bg.step = 6 ∧ s.x.bg.endAt = none ∧ 15 + 4 * s.x.bg.z + s.x.bg.v ≤ s.x.tick.count - s.x.bg.since ∧
       calFits (bgOffs s.x.bg.cz s.x.bg.z) = true ∧ calFits (bgGain s.x.bg.cz s.x.bg.cr s.x.bg.z) = true ∧
       (bgOffs s.x.bg.cz s.x.bg.z - SL_OFFS_I s 15).natAbs ≤ 16 * ADC_BG_DLIM_DOFF s ∧
       (bgGain s.x.bg.cz s.x.bg.cr s.x.bg.z - SL_GAIN_I s 15).natAbs ≤ 8 * ADC_BG_DLIM_DGAIN s) ∧
    (let s := measured (64 * 17) (4 * 6710886 + 64 * 17) true
     calFits (bgOffs s.x.bg.cz s.x.bg.z) = true ∧ s.x.bg.made[(15 : Slice)] = true ∧ 1 ≤ s.x.bg.rejects[(15 : Slice)] ∧
       ¬ (bgOffs s.x.bg.cz s.x.bg.z - SL_OFFS_I s 15).natAbs ≤ 16 * ADC_BG_DLIM_DOFF s) := by decide +kernel

/-- A reference voltage, and a trace as given. -/
def traced (vl vh : Word) (tr : TraceSt) (count : Nat) : State :=
  withRegs (mk .run fun x => { x with trace := tr, tick := { x.tick with count := count } }) [(addr 0x58 0x11, vl), (addr 0x58 0x12, vh)]

/-- The error that a trace ends with. -/
def traceError (s : State) : Int :=
  rnd ((ratDiv ((calVref s : Rat) * 8388608 / 1250000) (ratDiv ((s.x.trace.sc - s.x.trace.sz : Int) : Rat) 65536) - 1) * 131072)

theorem meets_ReferenceTrace :
    (calVref (traced 0xA120 7 {} 0) = 500000 ∧ calVref (traced 0x4F80 18 {} 0) = 1200000 ∧ calVref (traced 0x4F81 18 {} 0) = 1200001 ∧
      (traced 0 0 {} 0).x.trace.waiting = false ∧ (traced 0 0 {} 0).x.trace.running = false) ∧
    ((traced 0 0 { waiting := true } 0).x.trace.waiting = true ∧ spareIdle (traced 0 0 { waiting := true } 0) = true) ∧
    (let s := traced 0x12D0 19 { running := true, calv := true, sc := 65536 * 8388608 } 131078
     s.x.trace.running = true ∧ s.x.trace.since + 131078 ≤ s.x.tick.count ∧ (traceError s).natAbs ≤ 1311) ∧
    (let s := traced 0x12D0 19 { running := true, calv := true, sc := 65536 * 8000000 } 131078
     1311 < (traceError s).natAbs) ∧
    (let s := traced 0 0 { running := true } 131077
     s.x.trace.running = true ∧ s.x.trace.since + 65539 ≤ s.x.tick.count ∧ s.x.tick.count < s.x.trace.since + 131078) := by decide +kernel

/-! ### Tally timers -/

/-- Tally 14 with a configuration, TOP and value. -/
def tally14 (cfg : Word) (v : TallySt) : State := withRegs (mk .hold fun x => { x with tally := upd x.tally 14 v })
  [(addr 0xAF 0x10, cfg), (addr 0xAF 0x16, 9), (addr 0xAF 0x17, 0)]

theorem meets_TallyCounts :
    (let s := tally14 0x8020 { run := true, cnt := 9 }
     tlAlive s = true ∧ TLn_CFG_EN s 14 = true ∧ s.x.tally[(14 : TallyIx)].run = true ∧ TLn_CFG_MODE s 14 ≠ 2 ∧ tlUpper s 14 = false ∧
       tlPaired s 14 = false ∧ TLn_CFG_MODE s 14 ≠ 1 ∧ s.x.tally[(14 : TallyIx)].cnt = tlTop s 14 ∧
       s.x.tally[(14 : TallyIx)].actAt ≠ some (cycleNow s 956) ∧ clkHas (TLn_CFG_CLK s 14) 956 = true ∧
       clkHas (TLn_CFG_CLK s 14) 957 = false) ∧
    -- the edge's own cycle has a reload of 8, a stop, a load
    (let s (l : Bool) := tally14 0x8020 { run := false, cnt := 0, pre := 8, ran := true, reloaded := true, loaded := l, actAt := some (cycleNow (tally14 0x8020 {}) 956) }
     ((s false).x.tally[(14 : TallyIx)].actAt == some (cycleNow (s false) 956)) = true ∧ (s false).x.tally[(14 : TallyIx)].ran = true ∧
       (s false).x.tally[(14 : TallyIx)].loaded = false ∧ (s true).x.tally[(14 : TallyIx)].loaded = true) ∧
    (let s := tally14 0xC040 { run := true }
     TLn_CFG_MODE s 14 = 2 ∧ gateAt s 14 0 = TLn_CFG_GPOL s 14 ∧ tlUpper s 14 = false) ∧
    (let s := tally14 0xC020 { run := true }
     TLn_CFG_MODE s 14 = 2 ∧ gateAt s 14 0 ≠ TLn_CFG_GPOL s 14) ∧
    (let s := tally14 0xA020 { run := true, cnt := 8 }
     TLn_CFG_MODE s 14 = 1 ∧ s.x.tally[(14 : TallyIx)].down = false ∧ s.x.tally[(14 : TallyIx)].cnt < tlTop s 14) ∧
    (let s := tally14 0xA020 { run := true, cnt := 1, down := true }
     TLn_CFG_MODE s 14 = 1 ∧ s.x.tally[(14 : TallyIx)].down = true ∧ 0 < s.x.tally[(14 : TallyIx)].cnt) ∧
    (let s := tally14 0x8220 { run := true, cnt := 2 ^ 32 - 1 }
     TLn_CFG_EN s 14 = true ∧ tlPaired s 14 = true ∧ tlUpper s 14 = false ∧ tlUpper s 15 = true ∧ oddOf 14 ≠ 14 ∧
       s.x.tally[oddOf 14].actAt ≠ some (cycleNow s 0)) := by decide

theorem meets_TallyActs :
    (∀ m : Bool, let s := withRegs (tally14 0x8020 { matchDue := m, wrapDue := true }) [(addr 0xAF 0x20, 0x6E00)]
     s.x.tally[(14 : TallyIx)].matchDue = m ∧ s.x.tally[(14 : TallyIx)].wrapDue = true ∧
       TLn_CFG_EN s (ix16 (TLn_ACT_TGT s 14)) = true ∧ s.x.dev = .hold) ∧
    (let s := tally14 0x8020 { halted := true, loaded := true, actAt := some (cycleNow (tally14 0x8020 {}) 7) }
     s.x.tally[(14 : TallyIx)].actAt = some (cycleNow s 7) ∧ s.x.tally[(14 : TallyIx)].halted = true ∧
       s.x.tally[(14 : TallyIx)].loaded = true) := by decide

theorem meets_TallyInputs :
    (let s := tally14 0xE020 {}
     tlAlive s = true ∧ TLn_CFG_EN s 14 = true ∧ TLn_CFG_MODE s 14 = 3 ∧ tlPaired s 14 = false ∧ TLn_CFG_IN s 14 < 4 ∧
       TLn_CFG_FILT s 14 < 16) ∧
    bit (0x8000 : Word) (15 : TallyIx) = true ∧ bit (0x8000 : Word) (14 : TallyIx) = false := by decide

theorem meets_TallyLoads : tlPaired (tally14 0x8020 {}) 15 = false ∧ tlPaired (tally14 0x8220 {}) 14 = true ∧
    tlPaired (tally14 0x8220 {}) 15 = true := by decide

/-! ### Tap calibration -/

/-- The calibration unit as a value says, with a reference voltage of 1.2 V. -/
def calUnit (v : CalSt) (count : Nat) (cal : List (Nat × Word)) : State :=
  withAdopted (withRegs (mk .hold fun x => { x with cal := v, tick := { x.tick with count := count } })
    ([(addr 0x58 0x11, 0x4F80), (addr 0x58 0x12, 18)] ++ cal)) [(a_PL_MAP 5, 0x7FFF)]

theorem meets_TapRuns :
    (let s := calUnit {} 5 []
     s.x.cal.kind = 0 ∧ working s = true ∧ 500000 ≤ calVref s ∧ calVref s ≤ 1200000 ∧ s.cp.trains[(7 : Train)].state = .off ∧
       calLegs s 7 ≠ [] ∧ calLegs s 6 = [] ∧ nbit (SRC_CTRL_EN s) 3 = false) ∧
    (let s := withRegs (mk .hold id fun c => { c with trains := upd c.trains 7 { state := .run } }) [(addr 0x30 0x10, 8)]
     s.x.cal.kind = 0 ∧ working s = true ∧ s.cp.trains[(7 : Train)].state ≠ .off ∧ nbit (SRC_CTRL_EN s) 3 = true) ∧
    (let s := calUnit {} 5 [(addr 0x58 0x11, 0x4F81)]
     s.x.cal.kind = 0 ∧ working s = true ∧ ¬ (500000 ≤ calVref s ∧ calVref s ≤ 1200000)) ∧
    working (mk .safe) = false ∧
    (let s := calUnit { kind := 3, since := 5, len := 10 } 14 []
     s.x.cal.kind ≠ 0 ∧ s.x.tick.count < s.x.cal.since + s.x.cal.len) ∧
    (let s := calUnit { kind := 3, since := 5, len := 10 } 15 []
     s.x.cal.since + s.x.cal.len ≤ s.x.tick.count) := by decide

theorem meets_TapVerdict :
    (let s := calUnit { kind := 3, two := true, since := 5, len := 10, lastKind := 3, failed := Vector.replicate 13 true } 15
       [(addr 0x58 0x13, 2), (addr 0x58 0x15, 0x7F40), (addr 0x58 0x17, 0)]
     s.x.cal.kind = 3 ∧ s.x.cal.two = true ∧ s.x.cal.since + s.x.cal.len ≤ s.x.tick.count ∧
       s.x.cal.lastKind = 3 ∧ CAL_TOL_TOL s = 2 ∧ CAL_CELL_LIM_MIN s = 64 ∧ CAL_CELL_LIM_MAX s = 127 ∧ s.x.cal.failed[(12 : Fin 13)] = true) ∧
    (127 - 125 : Int).natAbs ≤ 2 ∧ 2 < (127 - 124 : Int).natAbs ∧
    ((mk .hold).isFenced .store = false ∧ (mk .hold fun x => { x with fenced := [.store] }).isFenced .store = true) ∧
    CAL_CTRL_AUTOSAVE (withRegs (mk .hold) [(addr 0x58 0x17, 1)]) = true ∧
    (mk .hold).x.cal.saveBusy = false ∧ (calUnit { saveBusy := true } 0 []).x.cal.saveBusy = true ∧
    (let s (n : Nat) := mk .hold fun x => { x with store := { x.store with op := some .calSave }, cal := { x.cal with saveBusy := true, saveAgain := n } }
     (s 0).x.store.op = some .calSave ∧ (s 0).x.cal.saveBusy = true ∧ (s 0).x.cal.saveAgain = 0 ∧ (s 2).x.cal.saveAgain ≠ 0) := by decide

/-! ### The storeroom, the ledger, the larder -/

/-- A live device with its storeroom and larder as values say. -/
def store (v : StoreSt) (l : LarderSt := {}) : State := mk .hold fun x => { x with store := v, larder := l }
/-- A program buffer for the last page of the last host sector. -/
def buf : ProgBuf := { page := 1022 * 256 + 255, words := [(127, 0x1234), (0, 0xFFFF)] }

theorem meets_StoreWindow : hostLive (store {}) = true ∧ (store {}).isFenced .store = false ∧
    (hostSector ((store { addr := 2 ^ 25 - 1 }).x.store.addr / 32768) = false) ∧
    (hostSector ((store { addr := 1022 * 32768 + 32767 }).x.store.addr / 32768) = true ∧
      (store { waitB := [buf] }).x.store.waitB.length < 2) ∧ 2 ≤ (store { waitB := [buf, buf] }).x.store.waitB.length := by decide

theorem meets_StoreCommands : hostLive (store {}) = true ∧ (store {}).isFenced .store = false ∧ (store {}).x.store.busy = false ∧
    (hostSector 0 = true ∧ hostSector 5 = true ∧ hostSector 6 = false ∧ hostSector 965 = false ∧ hostSector 966 = true ∧
      hostSector 1022 = true ∧ hostSector 1023 = false) ∧
    (store { busy := true }).x.store.busy = true ∧ ((store {}).x.store.fill = none ∧ (store {}).x.store.waitB = []) ∧
    (store { fill := some buf }).x.store.fill ≠ none ∧ (store { erase := some 1022 }).x.store.erase = some 1022 ∧
    (store { erase := some 5, op := some (.hostErase 5) }).x.store.op = some (.hostErase 5) ∧
    (let v : StoreSt := { erase := some 5, eraseAfter := 1, waitB := [buf] }
     v.eraseAfter ≠ 0 ∧ v.eraseEnd = false ∧ v.waitB ≠ []) ∧
    ((store {}).x.pwr.sleeping = false ∧ (store {}).x.store.op = none ∧ (store {}).x.cal.saveBusy = false ∧ imageWanted (store {}) = false) ∧
    (let s := mk .hold fun x => { x with ring := { x.ring with state := .master, heard := [({ pos := 1, mprio := 3, state := 4, ready := false }, 5)] }
                                         tick := { x.tick with count := 68 } }
     imageWanted s = true ∧ hostLive s = true ∧ s.x.store.op = none) ∧
    (mk .hold fun x => { x with cal := { x.cal with saveBusy := true } }).x.cal.saveBusy = true ∧
    ((store { queue := [{ kind := 1, sub := 0, pay := [], tick := 0 }], head := 2048, fresh := true }).x.store.queue ≠ []) := by decide

theorem meets_StoreArray :
    (let s := store { mem := [(0, 0x12), (1, 0x34)], op := some .hostProg, waitB := [buf], prog := true, busy := true }
     Memory.wf s.x.store.mem = true ∧ s.x.store.op = some .hostProg ∧ s.x.store.waitB = buf :: [] ∧ (buf.words.map Prod.fst).Nodup ∧
       s.x.store.prog = true) ∧
    (let s := store { mem := [(65535, 0), (65536, 0)], op := some (.hostErase 0), erase := some 0, busy := true }
     Memory.wf s.x.store.mem = true ∧ s.x.store.op = some (.hostErase 0)) := by decide

theorem meets_LedgerAndLarder :
    (hostLive (store {}) = true ∧ LG_KIND_KIND (withRegs (store {}) [(addr 0xC0 0x20, 0x6000)]) = 6 ∧
      (store { queue := List.replicate 15 { kind := 6, sub := 0, pay := [], tick := 0 } }).x.store.queue.length < 16 ∧
      16 ≤ (store { queue := List.replicate 16 { kind := 6, sub := 0, pay := [], tick := 0 } }).x.store.queue.length) ∧
    ((store {} { state := .off }).x.larder.state = .off ∧ LAR_CFG_EN (withRegs (store {} { state := .off }) [(addr 0xC1 0x10, 0x8000)]) = true) ∧
    ((store {} { state := .frozen }).x.larder.state = .frozen ∧ (store {} { state := .frozen }).isFenced .store = false) ∧
    (mk .hold fun x => { x with fenced := [.store], larder := { x.larder with state := .frozen } }).isFenced .store = true ∧
    (store {}).x.larder.state = .armed ∧
    ((store {} { state := .post, recorded := true }).x.larder.state = .post ∧ (store {} { state := .post, recorded := true }).x.larder.left = 0) ∧
    ((store { op := some (.flush 4095) } { state := .flush }).x.store.op = some (.flush 4095) ∧
      (store { op := some (.flush 4095) } { state := .flush }).x.store.cut = none ∧
      (store { op := some (.flush 4095) } { state := .flush }).x.larder.state = .flush) := by
  decide

/-! ### Faults -/

theorem meets_FaultWord :
    (let s := withRegs (mk .run) [(addr 0xB8 0x23, 0x0400)]
     bit (PG_ERRMASK_W s 0x52) 1 = false ∧ bit (testHeld s 0x52) 1 = false ∧ s.x.col.word.getLsbD 14 = false ∧ s.x.col.word = 0 ∧
       react s 14 = 4) ∧
    react (withRegs (mk .run) [(addr 0xB8 0x23, 0x0200)]) 14 ≤ 2 ∧
    (mk .run fun x => { x with col := { x.col with word := 0x4000 } }).x.col.word.getLsbD 14 = true := by decide

/-- Clerk 7 fenced, with a self-check that began at tick 3. -/
def checking (count : Nat) (d : DevState) (checks : List SelfCheck) : State :=
  mk d fun x => { x with fenced := [.clerk 7], checks := checks, tick := { x.tick with count := count } }

theorem meets_Readmissions :
    (pageUnits (unitPage (.clerk 7)) = [.clerk 7] ∧ (checking 5 .run []).isFenced (.clerk 7) = true ∧
      (∀ k ∈ (checking 5 .run []).x.checks, k.unit ≠ .clerk 7) ∧ (checking 5 .run []).x.dev ≠ .safe ∧
      unitErr (checking 5 .run []) (.clerk 7) = false) ∧
    ((checking 5 .safe []).x.dev = .safe ∧ (checking 5 .run []).isFenced (.clerk 6) = false) ∧
    (let s := checking 5 .run [{ unit := .clerk 7, since := 3, bad := false }]
     s.x.checks.find? (fun k => k.unit == .clerk 7) = some { unit := .clerk 7, since := 3, bad := false } ∧
       3 + checkTicks (.clerk 7) ≤ s.x.tick.count ∧ unitErr s (.clerk 7) = false ∧ selfTestGood .pass = true ∧ selfTestGood .fail = false ∧
       FenceUnit.clerk 7 ∉ s.x.col.fencePend) ∧
    (let s := mk .hold fun x => { x with fenced := [.ringW], checks := [{ unit := .ringW, since := 3, bad := false }], tick := { x.tick with count := 1027 } }
     s.x.ring.w.state = .down ∧ 3 + 1024 ≤ s.x.tick.count) ∧
    (let s := mk .hold fun x => { x with fenced := [.conv 15], checks := [{ unit := .conv 15, since := 0, bad := false }], tick := { x.tick with count := 64 } }
     0 + checkTicks (.conv 15) ≤ s.x.tick.count ∧ convOf 15 = 15 ∧ SL_OW_TEN s 15 = false) ∧
    (let s := mk .hold fun x => { x with fenced := [.store], checks := [{ unit := .store, since := 0, bad := false }], tick := { x.tick with count := 1 } }
     0 + checkTicks .store ≤ s.x.tick.count ∧ unitErr s .store = false ∧
       selfTestGood (.store {} { bad := [(5, 0xFFFF)] }) = true ∧ selfTestGood (.store {} { bad := [(5, 0xFFFE)] }) = false) ∧
    (let s := mk .hold fun x => { x with fenced := [.twm], idle := ⟨0, 4096⟩ }
     s.isFenced .twm = true ∧ 4096 ≤ s.x.idle.get .twm) := by decide

theorem meets_ReactionResumes :
    (let s := withRegs (mk .hold fun x => { x with col := { x.col with heldByReaction := true, quiet := 257, resumeCnt := 2 } })
       [(addr 0xB8 0x1C, 0x0301)]
     s.x.dev = .hold ∧ s.x.col.heldByReaction = true ∧ s.x.col.heldByConfig = false ∧ FLT_RESUME_DELAY s ≠ 0 ∧
       FLT_RESUME_DELAY s * 256 < s.x.col.quiet ∧ s.x.col.resumeCnt < FLT_RESUME_MAXN s) ∧ (mk .run).x.dev ≠ .hold := by decide

/-! ### Transactions, snapshots, host writes -/

/-- An open transaction of the two-wire port for a target, in tick 65535. -/
def opened (b : TxnBank) : State := mk .hold fun x => { x with
  txn := ⟨{}, { b with opened := true }⟩, tick := { x.tick with num := 65535, count := 65535 } }
/-- How far ahead its target is. -/
def ahead (s : State) : Nat := if (s.x.txn.get .twm).tgt.toNat = s.x.tick.num % 65536 then 65536
  else ((s.x.txn.get .twm).tgt.toNat + 65536 - s.x.tick.num % 65536) % 65536

theorem meets_Transactions :
    (portLive (opened {}) .twm = true ∧ ((opened {}).x.txn.get .twm).opened = true ∧ ((opened { since := 65535 }).x.txn.get .twm).since < 65536 ∧
      ((opened {}).x.txn.get .twm).full = false ∧ ((opened { full := true }).x.txn.get .twm).full = true) ∧
    (ahead (opened { tgt := 0 }) = 1 ∧ dueOf (opened { tgt := 0 }) 899 ≤ (opened { tgt := 0 }).x.tick.count + 1 ∧
      (opened { tgt := 0 }).x.tick.count + 1 < dueOf (opened { tgt := 0 }) 900) ∧
    ahead (opened { tgt := 0x7FFE }) = 32767 ∧ ahead (opened { tgt := 0x7FFF }) = 32768 ∧ ahead (opened { tgt := 0xFFFF }) = 65536 := by decide

/-- A transaction of the SPI port that waits for a boundary, in tick 9. -/
def sent (due : Nat) (tgt : Option Nat) (dec : Bool := false) : State :=
  waiting [{ src := .txn .spi, due := due, writes := [], tick := 8, cyc := 1, tgt := tgt, decided := dec }]

theorem meets_TransactionPhases :
    (portLive (mk .hold) .spi = true ∧ ((mk .hold).x.txn.get .spi).opened = false ∧ txnPhase (mk .hold) .spi = .idle ∧
      ((mk .hold).x.txn.get .spi).doneAt ≠ some (mk .hold).x.tick.count ∧ txnUnits (mk .hold) .spi = []) ∧
    (txnPhase (sent 11 none) .spi = .waiting ∧ txnPhase (sent 99 (some 99)) .spi = .pending) ∧
    (let s := mk .hold fun x => { x with txn := ⟨{ doneAt := some 0 }, {}⟩ }
     (s.x.txn.get .spi).doneAt = some s.x.tick.count) ∧
    (let s := sent 11 none
     ∃ u, (txnUnits s .spi).getLast? = some u ∧ u.decided = false ∧ u.due ≠ s.x.tick.count + 1) ∧
    (let s := sent 10 none
     ∃ u, (txnUnits s .spi).getLast? = some u ∧ u.decided = false ∧ u.due = s.x.tick.count + 1) ∧
    (∃ u, (txnUnits (sent 11 none true) .spi).getLast? = some u ∧ u.decided = true) ∧
    (((opened { since := 65536 }).x.txn.get .twm).opened = true ∧ 65536 ≤ ((opened { since := 65536 }).x.txn.get .twm).since) := by
  refine ⟨by decide, by decide, by decide, ⟨_, rfl, by decide⟩, ⟨_, rfl, by decide⟩, ⟨_, rfl, by decide⟩, by decide⟩

theorem meets_HeldSnapshots : ((mk .hold).x.snap.get .spi).held = false ∧ portLive (mk .hold) .spi = true ∧
    (let s := mk .hold fun x => { x with snap := ⟨{ hold := true, held := true, left := 0 }, {}⟩ }
     (s.x.snap.get .spi).hold = true ∧ (s.x.snap.get .spi).held = true ∧ (s.x.snap.get .spi).left = 0) := by decide

theorem meets_HostWrites :
    (hostLive (mk .hold) = true ∧ portConfig 0xD0 0x10 = true ∧ valueOk 0xD0 0x10 0x1000 = true ∧ valueOk 0xD0 0x10 0x1800 = false) ∧
    (portLive (mk .hold) .spi = true ∧ ((mk .hold).x.txn.get .spi).opened = false ∧ assigned 0x04 = false ∧ portConfig 0x04 0x10 = false) ∧
    (assigned 0x08 = true ∧ portConfig 0x08 0x10 = false ∧ stageable 0x08 0x10 = true ∧ 0x08 ∉ [2, 3, 0xC0, 0xF0]) ∧
    (portLive (opened {}) .twm = true ∧ ((opened {}).x.txn.get .twm).opened = true ∧ ((opened {}).x.txn.get .twm).since < 65536 ∧
      ((opened { writes := List.replicate 255 ⟨8, 16, 0, 0, 0⟩ }).x.txn.get .twm).writes.length < 256) ∧
    (assigned 0x08 = true ∧ portConfig 0x08 0xFF = false ∧ stageable 0x08 0xFF = false) := by decide +kernel

/-! ### The ring -/

/-- A ring configured as given, with both ports UP. -/
def ringOf (cfg : Word) (r : RingSt) (count : Nat) : State := withRegs (mk .hold fun x => { x with
  ring := { r with e := { r.e with state := .up }, w := { r.w with state := .up } }, tick := { x.tick with count := count } }) [(addr 0xC8 0x10, cfg)]

theorem meets_RingPorts :
    (let s := withRegs (mk .hold fun x => { x with ring := { x.ring with state := .search } }) [(addr 0xC8 0x10, 0x8000)]
     RG_CFG_EN s = true ∧ ticking s = true ∧ portUp s true = false ∧ s.isFenced (portUnit true) = false ∧ s.x.ring.state = .search) ∧
    (let s := ringOf 0x8000 { state := .member } 0
     portUp s false = true ∧ ringFormed s = true ∧ portIn s true = true) ∧
    ringFormed (ringOf 0x8000 { state := .listen } 0) = false := by decide

theorem meets_RingMembership :
    (let s := ringOf 0x8000 { state := .listen, quiet := 64, mprio := 14, pos := 7, heard := [({ pos := 7, mprio := 14, state := 2, ready := true }, 64)] } 100
     s.x.ring.state = .listen ∧ 64 ≤ s.x.ring.quiet ∧ s.x.ring.mprio < 15 ∧ s.x.ring.dup = false ∧ ticking s = true ∧
       ∀ c ∈ s.x.ring.heard, s.x.tick.count < c.2 + 64 →
         s.x.ring.mprio < c.1.mprio.val ∨ (s.x.ring.mprio = c.1.mprio.val ∧ s.x.ring.pos ≤ c.1.pos.val)) ∧
    (ringMember none).x.ring.state = .member ∧
    (let s := ringOf 0x8000 { state := .holdover, mprio := 14, pos := 1, memb := 3, lastMarker := 5 } 8
     s.x.ring.state = .holdover ∧ s.x.ring.mprio < 15 ∧ s.x.ring.dup = false ∧ s.x.ring.lastMarker + 3 + 2 * successorIx s ≤ s.x.tick.count) ∧
    (let s := ringOf 0x8000 { state := .master, downTicks := 2 } 8
     ringMaster s = true ∧ 2 ≤ s.x.ring.downTicks) ∧
    (let s := ringOf 0x8000 { state := .align, quiet := 64, marker := some 2 } 8
     s.x.ring.state = .align ∧ s.x.dev = .hold ∧ s.x.ring.marker = some 2) ∧
    ((ringOf 0x8000 { state := .ready, entry := some 0 } 8).x.ring.entry = some ((ringOf 0x8000 {} 8).x.tick.num % 65536)) ∧
    (let s := ringOf 0x8040 { state := .dropped, rejoin := 257 } 260
     s.x.ring.state = .dropped ∧ RG_CFG_REJOIN s = true ∧ 256 < s.x.ring.rejoin ∧ s.x.dev ≠ .safe ∧
       bit (PG_ERR_W s 0xC8) 7 = false ∧ portUp s true = true) := by decide

/-- A tick frame of the master at position 7. -/
def marker (ok : Bool) (dig : Nat) : TickFrame :=
  { east := true, markerOk := ok, hop := 1, mpos := 7, line := false, num := 9, memb := 129, ready := 128, batchOk := true
    entries := [{ page := 8, off := 16, val := 0 }], join := none, drop := 0, heal := none, digest := dig, slots := Vector.replicate 8 none, pherr := 0 }

theorem meets_RingFrames :
    (let s := ringOf 0x8000 { state := .member, mpos := 7 } 8
     ticking s = true ∧ RG_CFG_EN s = true ∧ portIn s true = true ∧ s.x.ring.state = .member ∧ inLoop s = true ∧ (marker true 0).markerOk = true ∧
       (marker true 0).mpos.val = s.x.ring.mpos ∧ (marker true 0).batchOk = true ∧ (∀ q : Pos, (marker true 0).slots[q] = none) ∧
       s.x.ring.e.crcWin.length < 15 ∧ s.x.ring.lastMarker ≠ s.x.tick.count + (marker true 0).num - s.x.tick.num ∧
       (ringOf 0x8000 { state := .member, mpos := 7, lastMarker := 17 } 8).x.ring.lastMarker = 8 + (marker true 0).num - 0) ∧
    ((marker false 0).markerOk = false ∧ frame7.ok = true) ∧
    (let s := ringOf 0x8000 { state := .load } 8
     ticking s = true ∧ RG_CFG_EN s = true ∧ portIn s true = true ∧ s.x.ring.state = .load ∧ s.x.ring.gotScope = false ∧
       s.x.ring.imgBad = false) := by
  decide

/-! ### Power, device state, sleep, test mode -/

theorem meets_Resets : (mk .off).x.dev = .off ∧ (mk .boot).x.checks = [] ∧ (mk .boot).x.dev ≠ .off ∧
    (mk .boot).x.store.op = none ∧ hostLive (mk .safe) = true := by decide

/-- Supplies as a value says, the tick running. -/
def power (d : DevState) (p : PwrSt) (f : Ext → Ext := id) : State := mk d fun x => f { x with pwr := { p with stopped := false } }

theorem meets_SupplyAndBoot :
    (let s := power .hold { supply := true }
     s.x.dev ≠ .off ∧ s.x.pwr.supply = true ∧ s.x.dev ≠ .sleep ∧ (power .hold {}).x.pwr.supply = false ∧ s.x.store.op = none ∧ s.x.checks = []) ∧
    (bankImage (power .boot { vbias := true }).x.store.mem false = none ∧ bankImage (power .boot { vbias := true }).x.store.mem true = none) ∧
    ((power .off {}).x.dev = .off ∧ (power .boot {}).x.dev = .boot ∧ (power .boot {}).x.pwr.vbias = false ∧ (power .boot { vbias := true }).x.pwr.vbias = true) ∧
    (let s := withRegs (power .hold { autoPend := true } fun x => { x with tick := { x.tick with count := 834 } }) [(addr 0xC8 0x10, 0)]
     s.x.dev = .hold ∧ s.x.pwr.autoPend = true ∧ 834 ≤ s.x.tick.count - s.x.pwr.holdAt ∧ RG_CFG_WAIT s = false ∧ graveLine s = false) ∧
    (let s := withRegs (power .hold { autoPend := true }) [(a_PG_ERR 0x58, 2), (addr 0xB8 0x23, 0x3000)]
     graveLine s = true) := by decide

theorem meets_DeviceCommands :
    (let s := power .hold { conf := true }
     hostLive s = true ∧ s.x.dev = .hold ∧ s.x.pwr.conf = true ∧ graveLine s = false ∧ s.x.col.word.getLsbD 30 = false ∧ working s = true ∧
       (∀ k : Train, s.cp.trains[k].state = .off ∨ s.cp.trains[k].state = .fenced) ∧ s.x.ring.state = .off) ∧
    ((power .run {}).x.dev ≠ .hold ∧ (power .hold {}).x.pwr.conf = false) ∧
    (power .hold { conf := true } fun x => { x with col := { x.col with word := 0x40000000 } }).x.col.word.getLsbD 30 = true ∧
    ((train7 { state := .run }).x.dev = .run ∧ (train7 { state := .run }).cp.trains[(7 : Train)].state.switching = true ∧
      legTrain (train7 { state := .run }) 23 = some 7) ∧
    (hostLive (mk .safe) = true ∧ working (mk .safe) = false) ∧
    ((power .hold {} fun x => { x with ring := { x.ring with state := .listen } }).x.ring.state = .listen) := by decide

theorem meets_Monitors : (mk .sleep).x.dev ≠ .off ∧ (mk .hold).x.ring.state ≠ .holdover ∧
    (mk .hold fun x => { x with ring := { x.ring with state := .holdover } }).x.ring.state = .holdover := by decide

theorem meets_SleepAndWake :
    (let s := power .run { sleeping := true }
     s.x.pwr.sleeping = true ∧ working s = true ∧ s.x.store.op = none) ∧
    (let s := withRegs (power .sleep {}) [(addr 0xE0 0x11, 0x8000)]
     s.x.dev = .sleep ∧ s.x.pwr.waking = false ∧ wakeOn s (.pin (PWR_WAKE_CFG_WPOL s)) = true ∧ wakeOn s .twm = false) ∧
    (let s := power .sleep { waking := true, vbias := true, rem := 30719 }
     s.x.dev = .sleep ∧ s.x.pwr.waking = true ∧ s.x.pwr.vbias = true) ∧
    (power .sleep { waking := true }).x.pwr.vbias = false := by decide

/-- Test mode as a value says, in HOLD since tick 0. -/
def testing (v : TestSt) (count : Nat) (lb : Word := 0) : State :=
  withRegs (mk .hold fun x => { x with test := v, tick := { x.tick with count := count } }) [(addr 0xF0 0x12, lb)]

theorem meets_TestMode :
    (hostLive (testing {} 0) = true ∧ (testing {} 0).x.dev = .hold ∧ (testing {} 0).x.test.isOpen = false ∧ (mk .run).x.dev ≠ .hold) ∧
    (let s := testing { armed := some (.twm, 4) } 4100
     s.x.test.armed = some (.twm, 4) ∧ s.x.tick.count ≤ 4 + 4096) ∧
    ((0x0B18 : Word) ≠ 0x4D4C ∧ (0x0B18 : Word) ≠ 0x0B17) ∧
    (let s := testing { isOpen := true } 9 0x7151
     let sel : LoopBack := { iface := TEST_LB_IF s, depth := TEST_LB_DEPTH s, inst := TEST_LB_INST s, since := 9 }
     s.x.test.isOpen = true ∧ s.x.test.run = none ∧ loopKnown sel = true ∧ loopPrereq s sel true = true) ∧
    (let s := testing { isOpen := true } 9 0x9000
     loopKnown { iface := TEST_LB_IF s, depth := TEST_LB_DEPTH s, inst := TEST_LB_INST s, since := 9 } = false) ∧
    (let s := testing { isOpen := true } 9 0x4400
     let sel : LoopBack := { iface := TEST_LB_IF s, depth := TEST_LB_DEPTH s, inst := TEST_LB_INST s, since := 9 }
     loopKnown sel = true ∧ loopPrereq s sel false = false) ∧
    (let b : LoopBack := { iface := 7, depth := 1, inst := 17, since := 3 }
     let s := testing { isOpen := true, run := some b } 131
     s.x.test.run ≠ none ∧ s.x.test.run = some b ∧ b.since + loopTicks b ≤ s.x.tick.count) ∧
    (∀ k : Fin 4,
     let b : LoopBack := { iface := [1, 4, 6, 7].getD k 0, depth := [0, 0, 0, 1].getD k 0, inst := 0, since := 3 }
     let s := testing { isOpen := true, run := some b } 131
     s.x.test.run = some b ∧ b.since + loopTicks b ≤ s.x.tick.count) ∧
    (let s := testing { isOpen := true } 4194304
     s.x.dev = .hold ∧ s.x.test.lastWrite + 4194304 ≤ s.x.tick.count ∧ s.x.pwr.holdAt + 4194304 ≤ s.x.tick.count) := by decide

theorem meets_ClosedTestMode : portLive (mk .hold) .twm = true ∧ (mk .hold).x.test.isOpen = false ∧ 0x12 ≤ 0x1F ∧
    ((mk .hold).x.txn.get .twm).opened = false := by decide

/-! ### Host ports and the pack bus -/

theorem meets_SpiFrames :
    (let s := withRegs (mk .hold) [(addr 0xD0 0x10, 0)]
     portLive s .spi = true ∧ s.x.dev ≠ .boot ∧ SPI_CFG_CRC s = false ∧ (s.x.txn.get .spi).opened = false) ∧
    (bits (0x0001 : Word) 12 0 ≠ 0) ∧
    (∀ k : Fin 2, let cmd : Word := [0xC000, 0x4000].getD k 0
     bits cmd 12 0 = 0 ∧ bit cmd 13 = false ∧ bit cmd 15 = (k == 0)) ∧
    (assigned 0x08 = true ∧ stageable 0x08 0x10 = true ∧ portConfig 0x08 0x10 = false) := by decide +kernel

theorem meets_plainRegister : plainRegister 0x08 0x10 := by unfold plainRegister; decide +kernel

theorem meets_SpiCrc :
    (let s := withRegs (mk .hold) [(addr 0xD0 0x10, 0x8000)]
     portLive s .spi = true ∧ s.x.dev ≠ .boot ∧ SPI_CFG_CRC s = true) ∧
    (spiHdrCrc 0 0x0810 + 1 ≠ spiHdrCrc 0 0x0810) ∧ (bits (0 : Word) 12 0 = 0 ∧ bit (0 : Word) 15 = false ∧ spiWordCrc 8 16 0 + 1 ≠ spiWordCrc 8 16 0) := by decide +kernel

theorem meets_SpiCuts :
    (∀ r : Bool, let fr : SpiFrame := { mode := .live, read := r, page := 8, off := 0xFF, ai := true, view := false, k := 17 }
     let s := withRegs (mk .hold fun x => { x with spi := { x.spi with frame := some fr } }) [(addr 0xD0 0x10, 0)]
     portLive s .spi = true ∧ SPI_CFG_CRC s = false ∧ s.x.spi.frame = some fr ∧ fr.mode = .live ∧ fr.view = false ∧
       burstOff fr.ai fr.off fr.k = 0x10 ∧ fr.bad = false ∧ assigned fr.page = true ∧ stageable fr.page 0x10 = true ∧
       (s.x.txn.get .spi).opened = false) ∧ plainRegister 8 0x10 := ⟨by decide +kernel, meets_plainRegister⟩

theorem meets_TwmTransactions :
    (let s := withRegs (mk .hold) [(addr 0xD1 0x10, 0x0800)]
     portLive s .twm = true ∧ TWM_CFG_PEC s = false ∧ s.x.twm.before = none ∧ (s.x.txn.get .twm).opened = false ∧
       TWM_CFG_TMO s = true ∧ s.x.twm.cmd < 64) ∧
    (let s := mk .hold fun x => { x with twm := { x.twm with reading := true, sent := [5] } }
     s.x.twm.reading = true ∧ s.x.twm.sent.length = 1) ∧
    portLive (mk .boot) .twm = false ∧ (assigned 0x08 = true ∧ stageable 0x08 0x10 = true) := by decide

theorem meets_AlertResponse :
    (let s := mk .hold fun x => { x with alert := { x.alert with alert := true } }
     s.x.alert.alert = true ∧ portLive s .twm = true) ∧ (mk .hold).x.alert.alert = false := by decide

/-- A request of the host. -/
def ask (w : Bool) : PbReq := { who := none, write := w, word := true, addr := 0x0B, cmd := 1, data := 0 }
/-- The pack bus as a value says, with PB_RETRY 15. -/
def packBus (cfg : Word) (v : TwpSt) (count : Nat := 0) : State :=
  withRegs (mk .run fun x => { x with twp := v, tick := { x.tick with count := count } }) [(addr 0xD2 0x10, cfg), (addr 0xD2 0x12, 15)]

theorem meets_PackBus :
    (let s := packBus 0xA000 { queue := [ask false], onBus := true, tries := 14 }
     s.x.twp.queue = [ask false] ∧ s.x.twp.onBus = true ∧ TWP_CFG_NACKRT s = false ∧ (ask false).write = false ∧ TWP_CFG_PEC s = true ∧
       s.x.twp.tries < PB_RETRY_RETRY s ∧ twpOn s = true ∧ crc8 0 (s.x.twp.wire ++ [1, 2]) ≠ crc8 0 (s.x.twp.wire ++ [1, 2]) + 1) ∧
    (let s := packBus 0x0000 { queue := [ask true], onBus := true }
     s.x.twp.onBus = true ∧ TWP_CFG_EN s = false) ∧
    (let s := packBus 0x8200 { queue := [ask true], onBus := true, tries := 15 }
     (ask true).write = true ∧ twpOn s = true ∧ TWP_CFG_NACKRT s = true ∧ PB_RETRY_RETRY s ≤ s.x.twp.tries) ∧
    (let s := packBus 0x9000 { queue := [ask true] }
     s.x.twp.onBus = false ∧ twpOn s = true ∧ TWP_CFG_TEN s = true ∧ (ask true).addr ≠ TWP_TADDR_ADDR s) ∧
    (let s := packBus 0x8000 { queue := [ask true], since := 1 } 41668
     s.x.twp.onBus = false ∧ s.x.twp.since + 41667 ≤ s.x.tick.count) := by decide +kernel

theorem meets_PackBusPeers :
    ((packBus 0x9000 { onBus := true }).x.twp.busy = false ∧ (packBus 0x9000 { onBus := true, busy := true }).x.twp.busy = true ∧
      (packBus 0x9000 { onBus := true }).x.twp.onBus = true) ∧
    (peerOn (packBus 0x9000 {}) = true ∧ (23 : Byte).toNat = 16 + (7 : Fin 8).val ∧ 24 ≤ (24 : Byte).toNat ∧ (15 : Byte).toNat < 16) ∧
    peerOn (packBus 0x8000 {}) = false := by decide

/-! ### The whole machine -/

theorem meets_StepKeepsSound_QueueKept : Sound State.reset ∧ State.reset.pending = [] ∧
    step { State.reset with pending := [.eqLostClr] } = .next State.reset ∧ exec .eqLostClr State.reset = .next State.reset := by
  have h : Sound State.reset := ⟨by decide, by unfold legsApart; decide⟩
  exact ⟨h, rfl, rfl, rfl⟩

end Sys2Proof.Tests
end

