-- ==== Sys2Proof/WellFormed.lean ====
section
/-! DEFINITION. Which operands a command can have: numbers within the ranges of what they number. A step runs any command; the checks
say which ones the outside world can send (log entry 2). -/

namespace Sys2Proof

/-- The cycle of a checker's report lies in a tick of 960 cycles (R6). -/
def CheckFault.wf : CheckFault → Bool
  | .none => true
  | .parity cyc => decide (cyc < 960)
  | .ecc1 => true
  | .ecc2 cyc => decide (cyc < 960)
  | .selfCheck cyc => decide (cyc < 960)
  | .overrun cyc => decide (cyc < 960)

/-- CS# rises inside a word only where the frame ends (R455); a frame cut before its header is whole has no parts. -/
def SpiCut.wf (c : SpiCut) : Bool := (c.piece.ends || !c.inWord) && (!c.short || c.piece == .whole)

/-- What a read-back finds stands at offsets of the n words read. -/
def ArrayRead.fits (r : ArrayRead) (n : Nat) : Bool := r.bad.all fun c => decide (c.1 < n)

/-- A register has an 8-bit page and an 8-bit offset (R1). -/
def BatchEntry.wf (e : BatchEntry) : Bool := decide (e.page < 256) && decide (e.off < 256)

/-- The numbers of a tick frame fit its fields (R416). -/
def TickFrame.wf (f : TickFrame) : Bool :=
  decide (f.hop < 8) && decide (f.num < 281474976710656) && decide (f.memb < 256) && decide (f.ready < 256) &&
    decide (f.drop < 256) && decide (f.digest < 4294967296) && decide (f.entries.length ≤ 62) && f.entries.all BatchEntry.wf

/-- The train mask of a demand frame has 8 bits (R418). -/
def DemandFrame.wf (f : DemandFrame) : Bool := decide (f.span < 256)

/-- Are the operands of a command in range? -/
def Instr.wellFormed : Instr → Bool
  | .tickBoundary _ => true
  | .ceSectionSlot _ f => f.wf
  | .supervisorModelRun f => f.wf
  | .trainProcessing f => f.fault.wf
  | .demandShadowWrite => true
  | .clerkSlot _ _ f => f.wf
  | .nop _ => true
  | .ld _ _ _ _ _ _ => true
  | .ldi _ _ _ _ => true
  | .st _ _ _ _ _ => true
  | .add _ _ _ => true
  | .sub _ _ _ => true
  | .and _ _ _ => true
  | .or _ _ _ => true
  | .sh _ _ _ _ => true
  | .cmp _ _ _ => true
  | .br _ _ target => decide (target < 256)
  | .wait _ _ => true
  | .waitc _ _ _ _ _ _ _ => true
  | .waitcRetest _ => true
  | .waitEnd _ => true
  | .evt _ _ _ _ => true
  | .tstart _ _ _ _ => true
  | .tchk _ _ => true
  | .pbr _ _ _ _ => true
  | .pbw _ _ _ _ _ => true
  | .halt _ => true
  | .illegalInstruction _ _ => true
  | .faultDecision f => f.wf
  | .commitDecision f => f.wf
  | .commitValidation f => f.wf
  | .larderRecord f => f.wf
  | .spanningDemandApply => true
  | .legValley _ _ => true
  | .bootstrapRelease _ => true
  | .deadTimeEnd _ => true
  | .blankingEnd _ _ => true
  | .peakComparatorTrip _ ton => decide (ton.cyc < 65536)
  | .zeroCrossTrip _ tzc => decide (tzc.cyc < 65536)
  | .tonmaxEnd _ => true
  | .dutyOnTimeEnd _ => true
  | .senseTestEnd => true
  | .driverFault _ => true
  | .trainStopEnd _ => true
  | .trainReverseComplete _ => true
  | .trainShed _ => true
  | .shedOffStep _ => true
  | .shareDeviation _ => true
  | .pendingConfigAdopt => true
  | .oscillatorStop _ => true
  | .pulseSetpointTimeout _ => true
  | .substitutionTimeout _ => true
  | .spareConnect => true
  | .alternativeAccept _ => true
  | .sourceUvFire _ => true
  | .sourceOvFire _ => true
  | .sourceComparatorClear _ _ => true
  | .nodeRampStart _ => true
  | .nodeLive _ => true
  | .sourceListStall => true
  | .rideThroughTakeover => true
  | .guardTrip _ => true
  | .chargeTimeout _ => true
  | .prechargeTimeout _ => true
  | .removalOvc _ => true
  | .presenceLost _ => true
  | .reinsertion _ => true
  | .bpRestart _ => true
  | .bpZlearn _ => true
  | .probeResult _ => true
  | .guardLockSet => true
  | .fineConversionDone _ _ => true
  | .slStart _ => true
  | .slOvrClr _ => true
  | .openWireDetect _ => true
  | .converterFault _ _ => true
  | .pairSettleEnd _ => true
  | .axSlotResult _ => true
  | .axWindowFire _ _ => true
  | .syscalZero _ => true
  | .syscalFull _ => true
  | .syscalAbort _ => true
  | .syscalDone _ => true
  | .axSyscalZero => true
  | .axSyscalFull => true
  | .axSyscalAbort => true
  | .axSyscalDone => true
  | .bgCalStart => true
  | .bgCalStep => true
  | .bgCalUpdate => true
  | .bgCalLate _ => true
  | .refTraceRequest => true
  | .refTraceBegin => true
  | .refTraceToCalv => true
  | .refTraceDone => true
  | .refTraceAbort => true
  | .clerkRun _ => true
  | .clerkStop _ => true
  | .clerkListSelect _ _ => true
  | .eventPop => true
  | .eqLostClr => true
  | .packBusDone _ => true
  | .tallyMatch e => decide (e.cyc < 960)
  | .tallyWrap e => decide (e.cyc < 960)
  | .tallyCaptureRise e => decide (e.cyc < 960)
  | .tallyCaptureFall e => decide (e.cyc < 960)
  | .tallyGateChange e _ => decide (e.cyc < 960)
  | .tallySyncStart _ => true
  | .tallyCntLWrite _ _ => true
  | .tallyCntHWrite _ w => decide (w.cyc < 960)
  | .tallyCmpLWrite _ _ => true
  | .tallyCmpHWrite _ w => decide (w.cyc < 960)
  | .tallyParityError _ => true
  | .calTrain _ => true
  | .calSrc _ => true
  | .calRing => true
  | .calAbort => true
  | .calVerdict _ => true
  | .calSave => true
  | .calSaveDone r => r.erase.fits 32768 && r.prog.fits 128
  | .unfenceRequest page => decide (page < 256)
  | .readmission u r => (match r with
    | .store p e => u == .store && p.fits 32768 && e.fits 32768
    | _ => u != .store)
  | .hostPortAutoReadmit _ => true
  | .deviceResume => true
  | .faultWordClear _ _ => true
  | .faultWordLRead _ => true
  | .tkNumLRead _ => true
  | .tkCntClr => true
  | .ceCntClr => true
  | .txnClear _ => true
  | .txnOpen _ => true
  | .txnCommit _ cyc => decide (cyc < 960)
  | .txnCommitAt _ cyc => decide (cyc < 960)
  | .txnAbort _ cyc => decide (cyc < 960)
  | .txnUndefinedCmd _ => true
  | .txnTgtWrite _ _ => true
  | .txnTimeout _ => true
  | .snapHold _ => true
  | .snapRelease _ => true
  | .snapHoldExpiry _ => true
  | .registerWrite _ page off _ cyc => decide (page < 256) && decide (off < 256) && decide (cyc < 960)
  | .hostPortConfigWrite page off _ => decide (page < 256) && decide (off < 256)
  | .ringTrainingDone _ _ => true
  | .ringPortDown _ => true
  | .masterElection => true
  | .tickFrameReceive f => f.wf
  | .demandFrameReceive _ f => f.wf
  | .imageFrameReceive _ f => f.entries.all BatchEntry.wf
  | .announceBlock _ _ _ => true
  | .markerMissed => true
  | .masterSuccession => true
  | .masterDrop => true
  | .tickAlign num => decide (num < 281474976710656)
  | .alignTimeout => true
  | .ringEntry => true
  | .ringRejoin => true
  | .ringLeave => true
  | .rgCntClr => true
  | .spiRead cmd _ _ n part _ f => (cmd.getLsbD 15 || part.short || !part.piece.begins) && (decide (0 < n) || part.short || part.piece != .whole) && part.wf && f.wf
  | .spiWrite cmd _ _ l part f => (!(cmd.getLsbD 15) || part.short || !part.piece.begins) && part.wf && (l.all fun (d : SpiWord) => decide (d.cyc < 960)) && f.wf
  | .spiCntClr => true
  | .twmPointerWrite _ _ _ f => f.wf
  | .twmDataWrite _ _ _ _ cyc f => decide (cyc < 960) && f.wf
  | .twmRead n e _ f => (decide (0 < n) || e.piece != .whole) && f.wf
  | .twmSclTimeout => true
  | .twmCntClr => true
  | .alertResponse _ => true
  | .packBusGo => true
  | .twpTransactionStart f => f.wf
  | .twpArbLoss _ _ => true
  | .twpSclTimeout => true
  | .twpBusBusyTimeout => true
  | .twpPeerWrite _ _ _ => true
  | .twpPeerRead _ n => decide (0 < n.n) || n.piece != .whole
  | .storeAddrWrite _ _ => true
  | .storeDataRead _ => true
  | .storeDataWrite _ => true
  | .storeErase _ => true
  | .storeProg => true
  | .storeAbort => true
  | .storeOpStart => true
  | .storeProgramDone r => r.fits 128
  | .storeEraseDone r => r.fits 32768
  | .ledgerAppend => true
  | .larderArm => true
  | .larderForce => true
  | .larderFlush => true
  | .larderFreeze => true
  | .larderFlushDone => true
  | .powerUp _ => true
  | .powerDown => true
  | .vbiasGood => true
  | .bootComplete => true
  | .autorunEntry => true
  | .resetPin => true
  | .brownOut _ => true
  | .supplyMonitorTrip _ => true
  | .clockMonitorTrip _ => true
  | .slowClockFail => true
  | .deviceRun => true
  | .deviceHold => true
  | .deviceSleep => true
  | .deviceReset _ => true
  | .sleepEntry => true
  | .wake _ => true
  | .wakeComplete _ => true
  | .wakeVbiasTimeout => true
  | .testKeyWrite _ _ => true
  | .testGo _ => true
  | .testStop cyc => decide (cyc < 960)
  | .testExit => true
  | .loopbackDone r cyc => decide (r.errors < 65536) && decide (cyc < 960)
  | .testModeTimeout => true
  | .tallyCountEdge e => decide (e.cyc < 960)
  | .dutyOnTimeStart _ => true
  | .buckBoostTonEnd _ => true
  | .axWindowClear _ _ => true
  | .pairOddWordProduced _ _ => true

end Sys2Proof
end

