-- ==== Sys2Proof/Tests/Slice0.lean ====
section
/-! SUPPORT. Small tests: an operand out of range for each check, the instruction words of the clerks written out from R305, and
single commands with results worked out by hand from the rules named. -/

namespace Sys2Proof.Tests

open Sys2Proof Sys2Proof.Machine

/-- What a command leaves has a property. -/
def after (c : Instr) (s : State) (p : State → Bool) : Bool :=
  match exec c s with | .next t => p t | _ => false

/-- What a step on one waiting command leaves. -/
def afterStep (c : Instr) (s : State) (p : State → Bool) : Bool :=
  match step { s with pending := [c] } with | .next t => p t | _ => false

/-! ### Operands out of range are refused by the check -/

theorem test_wf_checker_cycle : (Instr.faultDecision (.parity 960)).wellFormed = false ∧ (Instr.faultDecision (.parity 959)).wellFormed = true ∧
    (Instr.clerkSlot 0 false (.ecc2 960)).wellFormed = false ∧ (Instr.ceSectionSlot 0 (.selfCheck 960)).wellFormed = false ∧
    (Instr.trainProcessing ⟨0, 0, .overrun 960⟩).wellFormed = false ∧ (Instr.supervisorModelRun (.parity 960)).wellFormed = false ∧
    (Instr.commitDecision (.parity 960)).wellFormed = false ∧ (Instr.commitValidation (.parity 960)).wellFormed = false ∧
    (Instr.larderRecord (.parity 960)).wellFormed = false ∧ (Instr.twpTransactionStart (.parity 960)).wellFormed = false := by decide
theorem test_wf_branch : (Instr.br 0 0 256).wellFormed = false ∧ (Instr.br 0 0 255).wellFormed = true := by decide
theorem test_wf_comparators : (Instr.peakComparatorTrip 0 ⟨65536, 0⟩).wellFormed = false ∧ (Instr.zeroCrossTrip 0 ⟨65536, 0⟩).wellFormed = false := by decide
theorem test_wf_tally_cycle : (Instr.tallyCountEdge ⟨0, 960⟩).wellFormed = false ∧ (Instr.tallyMatch ⟨0, 960⟩).wellFormed = false ∧
    (Instr.tallyWrap ⟨0, 960⟩).wellFormed = false ∧ (Instr.tallyCaptureRise ⟨0, 0, 960⟩).wellFormed = false ∧
    (Instr.tallyCaptureFall ⟨0, 0, 960⟩).wellFormed = false ∧ (Instr.tallyGateChange ⟨0, 0, 960⟩ true).wellFormed = false ∧
    (Instr.tallyCntHWrite 0 ⟨0, 960⟩).wellFormed = false ∧ (Instr.tallyCmpHWrite 0 ⟨0, 960⟩).wellFormed = false := by decide
theorem test_wf_pages : (Instr.unfenceRequest 256).wellFormed = false ∧ (Instr.registerWrite .spi 256 0 0 0).wellFormed = false ∧
    (Instr.registerWrite .spi 0 256 0 0).wellFormed = false ∧ (Instr.registerWrite .spi 0 0 0 960).wellFormed = false ∧
    (Instr.hostPortConfigWrite 256 0 0).wellFormed = false ∧ (Instr.hostPortConfigWrite 0 256 0).wellFormed = false := by decide
theorem test_wf_transaction_cycle : (Instr.txnCommit .spi 960).wellFormed = false ∧ (Instr.txnCommitAt .twm 960).wellFormed = false ∧
    (Instr.txnAbort .spi 960).wellFormed = false ∧ (Instr.txnCommit .spi 959).wellFormed = true := by decide
theorem test_wf_frames : (Instr.tickFrameReceive { marker true 0 with hop := 8 }).wellFormed = false ∧
    (Instr.tickFrameReceive { marker true 0 with num := 2 ^ 48 }).wellFormed = false ∧
    (Instr.tickFrameReceive { marker true 0 with memb := 256 }).wellFormed = false ∧
    (Instr.tickFrameReceive { marker true 0 with ready := 256 }).wellFormed = false ∧
    (Instr.tickFrameReceive { marker true 0 with drop := 256 }).wellFormed = false ∧
    (Instr.tickFrameReceive { marker true 0 with digest := 2 ^ 32 }).wellFormed = false ∧
    (Instr.tickFrameReceive { marker true 0 with entries := List.replicate 63 ⟨8, 16, 0⟩ }).wellFormed = false ∧
    (Instr.tickFrameReceive { marker true 0 with entries := [⟨256, 16, 0⟩] }).wellFormed = false ∧
    (Instr.demandFrameReceive true { frame7 with span := 256 }).wellFormed = false ∧
    (Instr.imageFrameReceive true { ok := true, scope := false, entries := [⟨8, 256, 0⟩], last := false, auto := false }).wellFormed = false ∧
    (Instr.tickAlign (2 ^ 48)).wellFormed = false ∧ (Instr.tickFrameReceive (marker true 0)).wellFormed = true := by decide
theorem test_wf_host_ports : (Instr.spiRead 0x8000 0 0 0 ⟨false, .whole, false⟩ [] .none).wellFormed = false ∧ (Instr.spiRead 0 0 0 1 ⟨false, .whole, false⟩ [] .none).wellFormed = false ∧
    (Instr.spiWrite 0x8000 0 0 [] ⟨false, .whole, false⟩ .none).wellFormed = false ∧ (Instr.spiRead 0 0 0 0 ⟨true, .last, true⟩ [] .none).wellFormed = false ∧
    (Instr.spiWrite 0 0 0 [⟨0, 0, 960⟩] ⟨false, .whole, false⟩ .none).wellFormed = false ∧ (Instr.spiRead 0x8000 0 0 1 ⟨false, .whole, false⟩ [] (.parity 960)).wellFormed = false ∧
    (Instr.twmDataWrite ⟨0, 0, 0⟩ [] none .stop 960 .none).wellFormed = false ∧ (Instr.twmRead 0 ⟨.stop, .whole⟩ [] .none).wellFormed = false ∧
    (Instr.twmPointerWrite ⟨0, 0, 0⟩ none .stop (.parity 960)).wellFormed = false ∧ (Instr.twpPeerRead 0 ⟨0, .whole⟩).wellFormed = false ∧
    (Instr.spiRead 0x8000 0 0 1 ⟨true, .first, false⟩ [] .none).wellFormed = false ∧ (Instr.twpPeerRead 0 ⟨0, .last⟩).wellFormed = true := by decide
theorem test_wf_store_and_test : (Instr.storeProgramDone { bad := [(128, 0)] }).wellFormed = false ∧ (Instr.storeEraseDone { bad := [(32768, 0)] }).wellFormed = false ∧
    (Instr.calSaveDone { prog := { bad := [(128, 0)] } }).wellFormed = false ∧ (Instr.readmission .store .pass).wellFormed = false ∧
    (Instr.readmission .spi (.store {} {})).wellFormed = false ∧
    (Instr.testStop 960).wellFormed = false ∧ (Instr.loopbackDone ⟨true, 65536, 0⟩ 0).wellFormed = false ∧
    (Instr.loopbackDone ⟨true, 0, 0⟩ 960).wellFormed = false := by decide

/-- The worked example of R532: TWM L2 with 70 ns, S5 L2, LEG3 L1 and L3. -/
theorem test_loop_pass :
    let s := withRegs (mk .hold) [(addr 0xD1 0x10, 0x2000), (addr 0xF0 0x14, 480)]
    let t := withRegs (mk .hold) [(addr 0xF0 0x14, 440), (addr 0x58 0x1E, 0x4240), (addr 0x58 0x1F, 0x000F)]
    loopPass s { iface := 4, depth := 1, inst := 0, since := 0 } ⟨true, 0, 7⟩ = true ∧
    loopPass s { iface := 7, depth := 1, inst := 5, since := 0 } ⟨true, 0, 26190⟩ = true ∧
    loopPass s { iface := 6, depth := 0, inst := 3, since := 0 } ⟨true, 0, 480⟩ = true ∧
    calVref t = 1000000 ∧ loopPass t { iface := 6, depth := 2, inst := 3, since := 0 } ⟨true, 64, 64⟩ = false := by decide

/-! ### Words of clerk instructions (R304, R305, R323) -/

theorem test_decode_memory : ckDecode 0x0D0A8011 = .ld true 1 0x0A true 0x11 ∧ ckDecode 0x12801234 = .ldi 2 true 0x1234 ∧
    ckDecode 0x1B340013 = .st 3 0x34 false 0x13 ∧ ckDecode 0x00000000 = .nop := by decide
theorem test_decode_arithmetic : ckDecode 0x2080FFFF = .add 0 (.imm 0xFFFF) ∧ ckDecode 0x29020000 = .sub 1 (.reg 2) ∧
    ckDecode 0x328000F0 = .and 2 (.imm 0x00F0) ∧ ckDecode 0x3B010000 = .or 3 (.reg 1) ∧ ckDecode 0x4780FFFC = .sh true 3 (.imm 0xFFFC) ∧
    ckDecode 0x48030000 = .cmp 0 (.reg 3) := by decide
theorem test_decode_control : ckDecode 0x570000EF = .br 7 239 ∧ ckDecode 0x58030000 = .wait (.reg 3) ∧
    ckDecode 0x6678F410 = .waitc { p := true, t := 2, page := 0x78, off := 0x10, bit := 15, mode := 1 } ∧ ckDecode 0x90000000 = .halt := by decide
theorem test_decode_requests : ckDecode 0x6980ABCD = .evt 1 true 0xABCD ∧ ckDecode 0x73880005 = .tstart 3 2 (.imm 5) ∧
    ckDecode 0x79000000 = .tchk 1 ∧ ckDecode 0x840B0020 = .pbr true 0x0B 0x20 ∧ ckDecode 0x887F0001 = .pbw false 0 0x7F 0x01 := by decide
theorem test_decode_illegal : ckDecode 0x98000000 = .illegal 1 ∧ ckDecode 0x90000001 = .illegal 2 ∧ ckDecode 0x500000F0 = .illegal 3 ∧
    ckDecode 0x2081FFFF = .illegal 2 ∧ ckDecode 0x700C0000 = .illegal 2 ∧ ckDecode 0x60000C00 = .illegal 2 := by decide

/-! ### Clerks (R305 to R324) -/

/-- Clerk 1 after a command. -/
def one (t : State) : ClerkSt := t.cp.clerks[(1 : ClerkIx)]

theorem test_add_wraps : after (.add 1 0 (.imm 1)) (clerkOne busy) fun t =>
    (one t).regs[0] == 0 && (one t).z && !(one t).n && (one t).c && (one t).pc == 6 && (one t).count == 4 := by decide
theorem test_sub_borrows : after (.sub 1 3 (.imm 0xFFFF)) (clerkOne busy) fun t => (one t).regs[3] == 0x11 && (one t).c && !(one t).z := by decide
theorem test_and_zero_extends : after (.and 1 0 (.imm 0xFFFF)) (clerkOne busy) fun t => (one t).regs[0] == 0xFFFF && !(one t).n := by decide
theorem test_or_register : after (.or 1 3 (.reg 1)) (clerkOne busy) fun t => (one t).regs[3] == 0x80000011 && (one t).n := by decide
theorem test_sh_arithmetic : after (.sh 1 true 1 (.imm 0xFFFF)) (clerkOne busy) fun t => (one t).regs[1] == 0xC0000000 && (one t).c && (one t).n := by
  decide
theorem test_sh_by_register : after (.sh 1 false 0 (.reg 2)) (clerkOne busy) fun t => (one t).regs[0] == 0 && (one t).z := by decide
theorem test_cmp_signed : after (.cmp 1 1 (.imm 1)) (clerkOne busy) fun t => (one t).n && !(one t).c && !(one t).z && (one t).regs == busy.regs := by
  decide
theorem test_ldi_high : after (.ldi 1 1 true 0x1234) (clerkOne busy) fun t => (one t).regs[1] == 0x12340001 := by decide
theorem test_ldi_sign_extends : after (.ldi 1 1 false 0x8000) (clerkOne busy) fun t => (one t).regs[1] == 0xFFFF8000 && (one t).n := by decide
theorem test_ld_of_txn_is_zero : after (.ld 1 true 0 0x02 false 0x10) (clerkOne busy) fun t => (one t).regs[0] == 0 && (one t).z := by decide
theorem test_st_granted : after (.st 1 3 0x08 false 0x1E) granted fun t => t.cp.clerkUnits.map (fun u => (u.src, u.due, u.writes.map fun w =>
    (w.page, w.off, w.val))) == [(.clerk 1, 1, [(8, 0x1E, 0x10)])] := by decide
theorem test_st_denied : after (.st 1 3 0x10 false 0x10) granted fun t => t.cp.clerkUnits == [] && (one t).denyPage == 0x10 &&
    bit (t.reg (a_PG_ERR 0x82)) 2 := by decide
theorem test_br_not_taken : after (.br 1 1 9) (clerkOne busy) fun t => (one t).pc == 6 := by decide
theorem test_br_taken : after (.br 1 2 239) (clerkOne busy) fun t => (one t).pc == 239 := by decide
theorem test_nop : after (.nop 1) (clerkOne busy) fun t => (one t).pc == 6 := by decide
theorem test_wait_zero_is_one : after (.wait 1 (.imm 0)) (clerkOne busy) fun t => (one t).wait == 1 && (one t).run == .wait := by decide
theorem test_waitc_timer : after (.waitc 1 true 0 0x08 0 2 0x10) (clerkOne busy) fun t => (one t).run == .running && !(one t).z && (one t).pc == 6 := by
  decide
theorem test_waitc_waits : after (.waitc 1 true 0 0x02 0 0 0x10) (clerkOne busy) fun t => (one t).run == .waitc && (one t).pc == 5 := by decide
theorem test_halt : after (.halt 1) (clerkOne busy) fun t => (one t).run == .halted && bit (t.reg (addr 0x82 6)) 3 := by decide
theorem test_evt : after (.evt 1 2 true 0xABCD) (clerkOne busy) fun t =>
    (one t).events == [{ clerk := 1, ledger := true, code := 0xABCD, data := 0x00E0 }] := by decide
theorem test_tstart_unit : after (.tstart 1 3 2 (.imm 5)) (clerkOne busy) fun t => (one t).timers[3] == 327680 := by decide
theorem test_tchk : after (.tchk 1 3) (clerkOne busy) fun t => (one t).z && !(one t).n := by decide
theorem test_pbr : after (.pbr 1 true 0x0B 0x20) (clerkOne busy) fun t => (one t).req && (one t).z := by decide
theorem test_pbw_second : after (.pbw 1 false 0 0x0B 0x20) (clerkOne { busy with req := true }) fun t => !(one t).z && (one t).reqNew.isNone := by decide
theorem test_illegal : after (.illegalInstruction 1 0x98000000) (clerkOne busy) fun t => (one t).fltCause == 1 && (one t).fltPc == 5 &&
    bit (t.reg (a_PG_ERR 0x82)) 0 := by decide
theorem test_clerk_run : after (.clerkRun 1) (mk .run) fun t => (one t).run == .running && (one t).pc == 0 := by decide
theorem test_clerk_stop : after (.clerkStop 1) (clerkOne busy) fun t => (one t).run == .stopped := by decide
theorem test_list_select_locked : after (.clerkListSelect 1 true) (clerkOne busy) fun t => !(CK_CTRL_LISTSEL t 1) && bit (t.reg (addr 0x82 6)) 5 := by
  decide
theorem test_wait_end : after (.waitEnd 1) (clerkOne { busy with run := .wait }) fun t => (one t).run == .running := by decide

/-! ### Legs (R56 to R71, R96) -/

/-- The hardware of leg 0 after a command. -/
def hw0 (t : State) : LegHw := t.x.hw[(0 : Leg)]

theorem test_valley : after (.legValley 0 0) (leg0 full {}) fun t => (hw0 t).active == full := by decide
theorem test_valley_held : after (.legValley 5 0) (mk .hold) fun t => !(t.x.hw[(5 : Leg)].pwmH) && !(t.x.hw[(5 : Leg)].pwmL) := by decide
theorem test_dead_time : after (.deadTimeEnd 0) (leg0 full { phase := .preCtl }) fun t => (hw0 t).pwmH && !(hw0 t).pwmL && (hw0 t).phase == .ctl := by decide
theorem test_peak_trip : after (.peakComparatorTrip 0 ⟨77, 1171880⟩) (leg0 full { phase := .ctl, pwmH := true, active := full, armed := true }) fun t =>
    !(hw0 t).pwmH && (hw0 t).ton == 77 && (hw0 t).tripped := by decide
theorem test_peak_trip_blanked : after (.peakComparatorTrip 0 ⟨77, 1171880⟩) (leg0 full { phase := .ctl, pwmH := true }) fun t => (hw0 t).pwmH := by decide
theorem test_tonmax : after (.tonmaxEnd 0) (leg0 full { phase := .ctl, pwmH := true, armed := true }) fun t => !(hw0 t).pwmH && (hw0 t).tonmax := by decide
theorem test_duty_end : after (.dutyOnTimeEnd 0) (leg0 full { phase := .ctl, pwmH := true, active := { full with duty := true, ton := 6400 } }) fun t =>
    (hw0 t).ton == 100 && !(hw0 t).tripped := by decide
theorem test_blanking_end : after (.blankingEnd 0 (-1)) (leg0 full { phase := .ctl }) fun t => (hw0 t).armed := by decide
theorem test_zero_cross : after (.zeroCrossTrip 0 ⟨9, 0⟩) (leg0 full { phase := .rect, armed := true, pwmL := true, active := { full with de := true } }) fun t =>
    !(hw0 t).pwmL && (hw0 t).zc := by decide
theorem test_driver_fault : after (.driverFault 0) (withRegs (leg0 full { pwmH := true, active := full }) [(a_L_CFG 0, 0x2000)]) fun t =>
    t.isFenced (.leg 0) && !(hw0 t).pwmH && bit (t.reg (a_PG_ERR 0x10)) 2 := by decide
theorem test_sense_end : after .senseTestEnd (mk .run fun x => { x with senseTest := true }) fun t => !t.x.senseTest := by decide
theorem test_bootstrap : after (.bootstrapRelease 1) (let s := leg0 full {} 1
    { s with x := { s.x with hw := upd s.x.hw 1 { pwmH := true } } }) fun t => !(t.x.hw[(1 : Leg)].pwmH) := by decide

/-! ### The tick, trains, the engine (R8, R38, R57, R84 to R92, R141) -/

theorem test_demand_shadow : after .demandShadowWrite (mk .hold) fun t => t.x.tick.written := by decide
theorem test_no_tick_in_boot : after .demandShadowWrite (mk .boot) fun t => !t.x.tick.written := by decide
theorem test_fault_decision : after (.faultDecision .none) (newBit 4) fun t => t.x.col.safePend.isSome && t.x.col.newly == 0 := by decide
theorem test_larder_off : after (.larderRecord .none) (mk .hold fun x => { x with larder := { x.larder with state := .off } }) fun t =>
    t.x.larder.recs == [] := by decide
theorem test_stop_end : after (.trainStopEnd 7) (withRegs (train7 { state := .stop, stopN := 255 }) [(addr 0x0F 0x21, 255)]) fun t =>
    t.cp.trains[(7 : Train)].state == .off && !(t.cp.legs[(23 : Leg)].on) := by decide +kernel
theorem test_reverse_complete : after (.trainReverseComplete 7) (train7 { state := .reverse, rev := 3 }) fun t => t.cp.trains[(7 : Train)].state == .run &&
    bit (t.reg (addr 0x0F 6)) 3 := by decide
theorem test_shed_off : after (.shedOffStep 7) (train7 { state := .run, leaving := some 23, shedding := true, rampWritten := true }) fun t =>
    !(t.cp.legs[(23 : Leg)].on) && !(t.cp.trains[(7 : Train)].shedding) := by decide
theorem test_share_deviation_short : after (.shareDeviation 23) (train7 {}) fun t => !(bit (t.reg (addr 0x27 6)) 0) := by decide
theorem test_oscillator_stop : after (.oscillatorStop 3) (mk .run id fun c => { c with
    oscs := upd c.oscs 3 { run := true, stopping := true, phase := 2 ^ 32 - 1, nextPh := 0 } }) fun t => t.cp.oscs[(3 : OscIx)].done := by decide
theorem test_ce_cnt_clr : after .ceCntClr (mk .run id fun c => { c with ce := { c.ce with eccCnt := 9 } }) fun t => t.cp.ce.eccCnt == 0 := by decide
theorem test_substitution_timeout : after (.substitutionTimeout 7) (withRegs (mk .run id fun c => { c with
    models := upd c.models 7 { c.models[(7 : Train)] with inSubst := true, subTk := 5 }
    trains := upd c.trains 7 { state := .run } }) [(addr 0x78 0x8A, 5)]) fun t => t.cp.trains[(7 : Train)].state == .hold := by decide +kernel
theorem test_spare_connect : after .spareConnect (mk .run id fun c => { c with sup := upd (upd c.sup 15 { alt := .waiting }) 4 { alt := .waiting } }) fun t =>
    t.cp.spare.slice == 4 && t.cp.spare.state == .settle := by decide

/-! ### Sources and batteries (R179 to R244) -/

theorem test_source_uv : after (.sourceUvFire 3) (nodeB { state := .live }) fun t => t.x.nodes[(1 : Fin 2)].state == .lost && t.x.src[(3 : Src)].uv := by decide +kernel
theorem test_source_ov : after (.sourceOvFire 3) (nodeB { state := .live }) fun t => t.x.src[(3 : Src)].ovOff && !(t.x.srcEn[(3 : Src)]) := by decide +kernel
theorem test_comparator_clear : after (.sourceComparatorClear 3 false) (mk .run fun x => { x with src := upd x.src 3 { uv := true } }) fun t =>
    !(t.x.src[(3 : Src)].uv) := by decide
theorem test_node_live : after (.nodeLive 1) (nodeB { state := .ramp, ramp := 32767 }) fun t => t.x.nodes[(1 : Fin 2)].state == .live := by decide
theorem test_node_ramp_early : after (.nodeRampStart 1) (withRegs (nodeB { state := .lost }) [(addr 0x30 0x16, 65535)]) fun t =>
    t.x.nodes[(1 : Fin 2)] == { state := .ramp, ramp := 0 } := by decide
theorem test_list_stall : after .sourceListStall (withRegs (mk .run fun x => { x with listStill := 64 }) [(addr 0x30 0x10, 0x8000)]) fun t =>
    bit (t.reg (a_PG_ERR 0x30)) 1 := by decide
theorem test_guard_v : after (.guardTrip 3) (port3 3 { vCnt := 1 }) fun t => (t.cp.bat[(3 : BPort)].trips).v && t.cp.bat[(3 : BPort)].force.isSome := by decide
theorem test_guard_not_valid : after (.guardTrip 3) (mk .run id fun c => { c with bat := upd c.bat 3 { vCnt := 9 } }) fun t =>
    (t.cp.bat[(3 : BPort)].trips).v := by decide
theorem test_charge_timeout : after (.chargeTimeout 3) (port3 3 { tmrCc := 102400000000, tmrRun := true }) fun t => t.cp.bat[(3 : BPort)].force == some 4 := by decide
theorem test_precharge_timeout : after (.prechargeTimeout 3) (port3 2 { tmrPre := 25000000, ptmrRun := true }) fun t => t.cp.bat[(3 : BPort)].force == some 5 := by decide
theorem test_reinsertion : after (.reinsertion 3) (port3 0 { insCnt := 257 }) fun t => BP_PHASE_PHASE t 3 == 1 := by decide
theorem test_restart_refused : after (.bpRestart 3) (port3 9 { v := 1001 }) fun t => BP_PHASE_PHASE t 3 == 9 && bit (t.reg (addr 0x37 6)) 8 := by decide
theorem test_guard_lock : after .guardLockSet (mk .hold) GUARD_LOCK_LOCK := by decide
theorem test_guard_lock_run : after .guardLockSet (mk .run) fun t => !(GUARD_LOCK_LOCK t) && bit (t.reg (addr 0x38 6)) 0 := by decide

/-! ### Conversion, Tallies, calibration (R260 to R375) -/

theorem test_fine_trigger_overrun : after (.fineConversionDone 15 ⟨5, 9⟩)
    (slice15 2 { busy := true, held := true, trigs := [cycleNow (slice15 2 {}) 7, cycleNow (slice15 2 {}) 9] }) fun t =>
    t.x.slices[(15 : Slice)].ovr == 1 && t.x.slices[(15 : Slice)].busy && !(t.x.slices[(15 : Slice)].held) &&
      t.x.slices[(15 : Slice)].trigs == [cycleNow t 9] := by decide
theorem test_open_wire : after (.openWireDetect 15) (slice15 1 { owHit := 31 }) fun t => t.x.slices[(15 : Slice)].ow := by decide
theorem test_ax_scan_wraps : after (.axSlotResult 5) (withRegs (mk .run fun x => { x with ax := { x.ax with input := 15 } }) [(addr 0x52 0x10, 0x8000)]) fun t =>
    t.x.ax.input == 0 && t.x.ax.next[(15 : Fin 16)] == some 5 := by decide
theorem test_ax_window : after (.axWindowFire 3 true) (withRegs (mk .run) [(addr 0x52 0x2C, 0x8000)]) fun t => bit t.x.ax.axw 7 := by decide
theorem test_syscal_refused : after (.syscalZero 15) (slice15 1 {}) (fun t => t.x.sysCal[(15 : Slice)].kind == 1) ∧
    after (.syscalZero 15) (mk .run) (fun t => t.x.sysCal[(15 : Slice)].refused) := by decide
theorem test_syscal_zero_value : after (.syscalDone 15) (calOf { kind := 1, since := 4, len := 4, sum := 64 * 25 } {} 9) (fun t =>
    t.reg (a_SL_OFFS 15) == 25 && t.x.sysCal[(15 : Slice)].done) = true := by decide +kernel
theorem test_trace_refused : after .refTraceRequest (traced 0xA11F 7 {} 0) fun t => t.x.trace.refused && !t.x.trace.waiting := by decide
theorem test_count_wraps_at_top : after (.tallyCountEdge ⟨14, 4⟩) (tally14 0x8020 { run := true, cnt := 9 }) fun t =>
    t.x.tally[(14 : TallyIx)].cnt == 0 && t.x.tally[(14 : TallyIx)].wrapDue := by decide
theorem test_count_turns_at_top : after (.tallyCountEdge ⟨14, 4⟩) (tally14 0xA020 { run := true, cnt := 8 }) fun t =>
    t.x.tally[(14 : TallyIx)].cnt == 9 && t.x.tally[(14 : TallyIx)].down := by decide
theorem test_count_pair_carries : after (.tallyCountEdge ⟨14, 4⟩) (tally14 0x8220 { run := true, cnt := 4294967295 }) fun t =>
    t.x.tally[(14 : TallyIx)].cnt == 0 && t.x.tally[(15 : TallyIx)].cnt == 1 := by decide
theorem test_capture : after (.tallyCaptureRise ⟨0, 0, 5⟩) (tally14 0xE020 { cnt := 9, capR := 4 }) (fun t =>
    t.x.tally[(14 : TallyIx)].capP == 4 && t.x.tally[(14 : TallyIx)].capR == 9) = true := by decide +kernel
theorem test_count_load : after (.tallyCntHWrite 14 ⟨2, 5⟩) (tally14 0x8020 { heldL := 7 }) fun t => t.x.tally[(14 : TallyIx)].cnt == 131079 := by decide
theorem test_tally_parity : after (.tallyParityError 14) (mk .hold) fun t => t.x.tally[(14 : TallyIx)].suspect && bit (t.reg (a_PG_ERR 0xAF)) 0 := by decide
theorem test_cal_no_leg : after (.calTrain 6) (calUnit {} 5 []) fun t => t.x.cal.refused && t.x.cal.refCause == 5 := by decide
theorem test_cal_no_source : after (.calSrc 4) (calUnit {} 5 []) fun t => t.x.cal.refCause == 6 := by decide
theorem test_cal_abort : after .calAbort (calUnit { kind := 3, since := 5, len := 10 } 14 []) fun t => t.x.cal.aborted && t.x.cal.kind == 0 := by decide

/-! ### The storeroom (R488 to R505) -/

theorem test_store_steps : after (.storeDataRead .good) (store { addr := 2 ^ 25 - 1 }) fun t => t.x.store.addr == 0 && t.x.store.out == 0xFFFF := by decide
theorem test_store_denied : after (.storeDataWrite 7) (store { addr := 6 * 32768 }) fun t => bit (t.reg a_STORE_ERR) 14 && t.x.store.fill.isNone := by decide
/-- A buffer of two words waits to be programmed over two words of the array. -/
def programming : State := store
  { mem := [(0, 0x12), (1, 0x34)], op := some .hostProg, waitB := [⟨0, [(0, 0x00FF), (1, 0x1234)]⟩], prog := true, busy := true }

theorem test_program_clears_bits : after (.storeProgramDone {}) programming fun t =>
    stGet t.x.store.mem 0 == 0x0012 && stGet t.x.store.mem 1 == 0x1234 && Memory.wf t.x.store.mem && t.x.store.done := by decide
theorem test_erase_one_sector : after (.storeEraseDone {}) (store { mem := [(65535, 0), (65536, 0)], op := some (.hostErase 0), erase := some 0, busy := true })
    fun t => t.x.store.mem == [(65536, 0)] := by decide
theorem test_larder_force : after .larderForce (store {}) fun t => t.x.larder.state == .post && t.x.larder.trigSrc == 4 := by decide
theorem test_larder_freeze : after .larderFreeze (store {} { state := .post, recorded := true }) fun t => t.x.larder.state == .frozen := by decide

/-! ### Faults (R378 to R397) -/

theorem test_converter_fault : after (.converterFault 17 true) (mk .run) fun t => t.x.col.word == 0x4000 && t.x.col.first == some 14 := by decide
theorem test_fault_clear_keeps_live : after (.faultWordClear false 0x4000) (withRegs (mk .run fun x => { x with col := { x.col with word := 0x4001 } })
    [(a_PG_ERR 0x52, 2)]) fun t => t.x.col.word == 0x4001 := by decide
theorem test_unfence : after (.unfenceRequest 0x88) (checking 5 .run []) fun t => t.x.checks == [{ unit := .clerk 7, since := 5, bad := false }] := by decide
theorem test_readmission : after (.readmission (.clerk 7) .pass) (checking 5 .run [{ unit := .clerk 7, since := 3, bad := false }]) fun t => !(t.isFenced (.clerk 7)) := by decide
theorem test_auto_readmit_late : after (.hostPortAutoReadmit .twm) (mk .hold fun x => { x with fenced := [.twm], idle := ⟨0, 4095⟩ }) fun t =>
    t.isFenced .twm := by decide

/-! ### Transactions and writes (R13 to R33) -/

theorem test_txn_open_twice : after (.txnOpen .twm) (opened {}) fun t => (t.x.txn.get .twm).badcmd && (t.x.txn.get .twm).opened := by decide
theorem test_txn_commit_late_cycle : after (.txnCommit .twm 900) (opened {}) fun t => t.x.hostUnits.map (·.due) == [65537] := by decide
theorem test_txn_commit_at_missed : after (.txnCommitAt .twm 0) (opened { tgt := 0xFFFF }) fun t => (t.x.txn.get .twm).rejCause == 6 && (t.x.txn.get .twm).late := by decide
theorem test_txn_abort : after (.txnAbort .twm 0) (opened { writes := [⟨8, 16, 0, 0, 0⟩] }) fun t => (t.x.txn.get .twm).writes == [] && (t.x.txn.get .twm).aborted := by decide
theorem test_snap_hold : after (.snapHold .spi) (mk .hold) fun t => (t.x.snap.get .spi).left == 4096 && (t.views.get .spi).isSome && (t.views.get .twm).isNone := by decide
theorem test_write_staged : after (.registerWrite .spi 0x08 0x1E 0x0123 5) (mk .hold) (fun t =>
    t.x.hostUnits.map (·.writes) == [[⟨8, 0x1E, 0x0123, 0, 5⟩]] && t.reg (addr 8 0x1E) == (mk .hold).reg (addr 8 0x1E)) = true := by decide +kernel
theorem test_write_unassigned : after (.registerWrite .spi 0x04 0x10 0x0123 5) (mk .hold) (fun t => t.x.hostUnits == []) = true := by decide +kernel
theorem test_config_value : after (.hostPortConfigWrite 0xD0 0x10 0x1800) (mk .hold) (fun t => bit (t.reg (a_PG_ERR 0)) 0) = true := by decide +kernel

/-! ### The ring, power, test mode (R408 to R532) -/

theorem test_marker_missed : after .markerMissed (ringMember none) fun t => t.x.ring.state == .holdover && t.x.ring.missed == 1 := by decide
theorem test_ring_training : after (.ringTrainingDone true 896) (withRegs (mk .hold fun x => { x with ring := { x.ring with state := .search } })
    [(addr 0xC8 0x10, 0x8000)]) fun t => t.x.ring.state == .listen && t.x.ring.e.flight == 896 := by decide
theorem test_spanning_demand : after .spanningDemandApply (let s := ringMember (some { frame7 with trains := upd frame7.trains 7 { d := -5 } })
    { s with x := { s.x with tick := { s.x.tick with count := 3 } } }) fun t => t.cp.trains[(7 : Train)].dem == -5 && t.x.ring.frame.isNone := by decide +kernel
theorem test_ring_entry : after .ringEntry (ringOf 0x8000 { state := .ready, entry := some 0 } 8) fun t => t.x.ring.state == .member := by decide
theorem test_tick_align : after (.tickAlign 77) (ringOf 0x8000 { state := .align, marker := some 77 } 8) fun t => t.x.tick.num == 77 && t.x.ring.state == .load := by decide
theorem test_device_run_unconfigured : after .deviceRun (power .hold {}) fun t => t.x.dev == .hold && t.x.pwr.refCause == 2 := by decide
theorem test_device_run : after .deviceRun (power .hold { conf := true }) fun t => t.x.dev == .run := by decide +kernel
theorem test_reset_key : after (.deviceReset 0) (power .hold {}) fun t => t.x.dev == .hold && t.x.pwr.refCause == 6 := by decide
theorem test_vbias : after .vbiasGood (mk .boot) fun t => t.x.pwr.core && t.x.pwr.io && t.x.pwr.vbias := by decide
theorem test_supply_trip : after (.supplyMonitorTrip 4) (mk .hold) fun t => bit (t.reg (a_PG_ERR 0xE0)) 6 := by decide
theorem test_wake_level : ∀ high : Bool, after (.wake (.pin high)) (withRegs (power .sleep {}) [(addr 0xE0 0x11, 0x8000), (addr 0xE0 0x12, 0x8000)]) fun t =>
    t.x.pwr.waking == high := by decide
theorem test_wake_ticks : after (.wakeComplete 30720) (power .sleep { waking := true, vbias := true, rem := 30719 }) fun t =>
    t.x.tick.num == 390625 && t.x.pwr.rem == 30719 := by decide +kernel
theorem test_two_keys : after (.testKeyWrite .twm 0x0B17) (testing { armed := some (.twm, 4) } 4100) fun t => t.x.test.isOpen := by decide
theorem test_key_too_late : after (.testKeyWrite .twm 0x0B17) (testing { armed := some (.twm, 4) } 4101) fun t => !t.x.test.isOpen := by decide
theorem test_go_unknown : after (.testGo true) (testing { isOpen := true } 9 0x9000) fun t => t.x.test.refCause == 3 := by decide

/-! ### Host ports and the pack bus (R453 to R482) -/

/-- The check value of CRC-8 with polynomial 0x07 and initial value 0: 0xF4 over the digits 1 to 9. -/
theorem test_crc8_check : crc8 0 [0x31, 0x32, 0x33, 0x34, 0x35, 0x36, 0x37, 0x38, 0x39] = 0xF4 := by decide +kernel
theorem test_spi_reserved_bit : after (.spiRead 0x8001 0x0810 0 1 ⟨false, .whole, false⟩ [] .none) (withRegs (mk .hold) [(addr 0xD0 0x10, 0)]) (fun t =>
    t.x.spi.hdr == 1 && t.x.spi.prevErr) = true := by decide +kernel
theorem test_spi_write : after (.spiWrite 0 0x081E 0 [⟨0x0123, 0, 5⟩] ⟨false, .whole, false⟩ .none) (withRegs (mk .hold) [(addr 0xD0 0x10, 0)]) (fun t =>
    t.x.hostUnits.map (·.writes) == [[⟨8, 0x1E, 0x0123, 0, 5⟩]]) = true := by decide +kernel
theorem test_twm_pointer : after (.twmPointerWrite ⟨0x40, 0x08, 0x1E⟩ none .stop .none) (withRegs (mk .hold) [(addr 0xD1 0x10, 0)]) fun t =>
    t.x.twm.ptr == (0x40, 8, 0x1E) && t.x.twm.acked := by decide
theorem test_twm_wrong_pec : after (.twmPointerWrite ⟨0x40, 0x08, 0x1E⟩ (some 0) .stop .none) (withRegs (mk .hold) [(addr 0xD1 0x10, 0x8000)]) fun t =>
    t.x.twm.errPec == 1 && t.x.twm.ptr == (0, 0, 0) := by decide +kernel
theorem test_twm_nack_in_boot : after (.twmPointerWrite ⟨0x40, 0x08, 0x1E⟩ none .stop .none) (mk .boot) fun t => !t.x.twm.acked := by decide
theorem test_pack_bus_retry : after (.packBusDone .nackAddr) (packBus 0x8200 { queue := [ask true], onBus := true, tries := 14 }) fun t =>
    t.x.twp.tries == 15 && !t.x.twp.onBus && t.x.twp.results.length == 0 := by decide
theorem test_pack_bus_done : after (.packBusDone (.whole [7, 0])) (packBus 0x8000 { queue := [ask false], onBus := true }) fun t =>
    t.x.twp.results == [(ask false, 0, 7)] && t.x.twp.queue == [] := by decide
theorem test_peer_write : after (.twpPeerWrite 23 [0x34, 0x12] true) (packBus 0x9000 {}) fun t => t.x.twp.tin[7] == 0x1234 && bit (t.reg (addr 0xD2 6)) 1 := by decide

/-! ### The queue -/

theorem test_step_takes_front : afterStep .eqLostClr (mk .hold id fun c => { c with eqLost := 3 }) fun t => t.cp.eqLost == 0 && t.pending == [] := by decide
theorem test_step_idles : step (mk .hold) = .next (mk .hold) := rfl
theorem test_no_word_spells_a_command : decodeTableWord 32 0x90000000 = none ∧ (mk .hold).withFetchWord 32 0x90000000 = mk .hold := ⟨rfl, rfl⟩

/-! ### Frames of the ring (R417, R418: the tables of the words) -/

/-- VALID, LEAVE, RUN, position 5, CALHOLD of train 7; then the tick. -/
theorem test_slotWords_head :
    (slotWords 5 { leave := true, dev := 1, calHold := 0x80, tick := 0x1234 }).take 2 = [0xAD80, 0x1234] := by decide

/-- Top alert with reaction 3 of bit 31 at word 4, and the counts of train 0 at word 5. -/
theorem test_slotWords_alert :
    ((slotWords 0 { alert := some (3, 31), trains := upd (Vector.replicate 8 {}) 0 { mapped := 2, avail := 1, on := 1, iest := -1 } }).drop 4).take 2 =
      [0xBF80, 0x0821] := by decide

/-- D = -1, share, code, RUN with DIR and CEIL, N_AVAIL 4 and N_ON 3 of train 0 at words 4 to 8. -/
theorem test_demandWords_train :
    demandTrainWords { d := -1, share := 0x4000, code := 512, state := 3, dir := true, ceil := true, navail := 4, non := 3 } =
      [0xFFFF, 0x4000, 512, 0x7100, 0x0403] := by decide

end Sys2Proof.Tests
end

/-! PROOFS. A host write: what the immediate domain, the staging of a port and its open transaction take of it, each said once, and
the obligation on where a host write goes (O49). -/

namespace Sys2Proof.Machine

/-! ### The configuration of the ports (R34) -/

/-- A value without a reserved field replaces the immediate bits of its register. -/
theorem portConfigWrite_valueOk (s : State) {page off : Nat} {v : Word} (hc : portConfig page off = true)
    (hv : valueOk page off v = true) :
    portConfigWrite s page off v = s.setReg (addr page off)
      ((s.reg (addr page off) &&& ~~~(immMask (addr page off))) ||| (v &&& immMask (addr page off))) := by
  simp [portConfigWrite, hc, hv]

/-- A reserved value raises CFG_VALUE in place of the write (log entry 36). -/
theorem portConfigWrite_reserved (s : State) {page off : Nat} {v : Word} (hc : portConfig page off = true)
    (hv : valueOk page off v = false) : portConfigWrite s page off v = raise s 0x00 0 := by
  simp [portConfigWrite, hc, hv]

/-- While the host ports serve, the command is the write. -/
theorem exec_hostPortConfigWrite (s : State) (page off : Nat) (v : Word) (hl : hostLive s = true) :
    exec (.hostPortConfigWrite page off v) s = .next (portConfigWrite s page off v) :=
  if_pos hl

/-! ### The staging of a port (R13, R14, R16) -/

/-- Staging a write touches the commit units of the ports alone. -/
theorem stageHost_frame (s : State) (p : Port) (w : StagedWrite) :
    stageHost s p w = { s with x := { s.x with hostUnits := (stageHost s p w).x.hostUnits } } := rfl

/-- A staged write is in the unit of its port for the boundary of its cycle, whether that unit stood already or not. -/
theorem stageHost_mem_unit (s : State) (p : Port) (w : StagedWrite) :
    ∃ u ∈ (stageHost s p w).x.hostUnits, u.src = .host p ∧ u.due = dueOf s w.cyc ∧ w ∈ u.writes := by
  unfold stageHost
  dsimp only
  split
  next hany =>
    obtain ⟨u, hu, hmine⟩ := List.any_eq_true.mp hany
    obtain ⟨hsrc, hdue⟩ : u.src = .host p ∧ u.due = dueOf s w.cyc := by simpa using hmine
    exact ⟨_, List.mem_map_of_mem hu, by simp [hsrc, hdue]⟩
  next => exact ⟨_, List.mem_append_right _ (List.mem_singleton_self _), by simp⟩

/-! ### The transaction of a port (R23, R24, R29) -/

/-- Holding a write touches the transaction banks alone. -/
theorem txnHold_frame (s : State) (p : Port) (w : StagedWrite) :
    txnHold s p w = { s with x := { s.x with txn := (txnHold s p w).x.txn } } := rfl

/-- A transaction with room holds the write: in the place of an earlier one to the same register, or as one more. -/
theorem txnHold_mem_writes (s : State) (p : Port) (w : StagedWrite) (hroom : (s.x.txn.get p).writes.length < 256) :
    w ∈ ((txnHold s p w).x.txn.get p).writes := by
  simp only [txnHold, State.modTxn_x, perPort_get_put]
  split
  next hany =>
    obtain ⟨x, hx, hsame⟩ := List.any_eq_true.mp hany
    exact List.mem_map.mpr ⟨x, hx, if_pos hsame⟩
  next =>
    rw [if_neg (by omega)]
    exact List.mem_append_right _ (List.mem_singleton_self w)

/-- A bank without an open transaction, or with one younger than 65,536 ticks, does not time out. -/
theorem txnExpire_eq_self (s : State) (p : Port)
    (h : (s.x.txn.get p).opened = false ∨ (s.x.txn.get p).since < 65536) : txnExpire s p = s := by
  have hyoung : ¬ ((s.x.txn.get p).opened && decide (65536 ≤ (s.x.txn.get p).since)) = true := by
    rcases h with h | h
    · simp [h]
    · simp [show ¬ 65536 ≤ (s.x.txn.get p).since by omega]
  exact if_neg hyoung

/-! ### A word written through a port (R4, R23, R565) -/

/-- On a live port, a write outside the port configuration is the host write of a touched port. -/
theorem exec_registerWrite (s : State) (p : Port) (page off : Nat) (v : Word) (cyc : Nat) (hl : portLive s p = true)
    (hc : portConfig page off = false) :
    exec (.registerWrite p page off v cyc) s = .next (hostWrite (touch s p) p page off v cyc) := by
  change execRegisterWrite p page off v cyc s = _
  simp [execRegisterWrite, hl, hc]

/-- A write to an unassigned page does nothing (R565). -/
theorem hostWrite_unassigned (s : State) (p : Port) {page : Nat} (off : Nat) (v : Word) (cyc : Nat)
    (hx : txnExpire s p = s) (ha : assigned page = false) : hostWrite s p page off v cyc = s := by
  simp [hostWrite, hx, ha]

/-- Outside the pages with rules of their own (TXN, SNAP, STORE, TEST) and the counters and compares of the Tallies, a write to a register
without RW or W1C bits is ignored (R4), and every other goes to the open transaction or, with none open, to the port's staging. -/
theorem hostWrite_coherent (s : State) (p : Port) {page off : Nat} (v : Word) (cyc : Nat) (hx : txnExpire s p = s)
    (ha : assigned page = true) (hpage : page ∉ [2, 3, 0xC0, 0xF0])
    (htally : ¬ (0xA1 ≤ page ∧ page ≤ 0xB0 ∧ 0x12 ≤ off ∧ off ≤ 0x15)) :
    hostWrite s p page off v cyc =
      (let w : StagedWrite := { page := page, off := off, val := v, tick := s.x.tick.count, cyc := cyc }
       if stageable page off then if (s.x.txn.get p).opened then txnHold s p w else stageHost s p w else s) := by
  obtain ⟨htxn, hsnap, hstore, htest⟩ : page ≠ 0x02 ∧ page ≠ 0x03 ∧ page ≠ 0xC0 ∧ page ≠ 0xF0 := by simpa using hpage
  cases hs : stageable page off <;> simp [hostWrite, hx, ha, htxn, hsnap, hstore, htest, htally, hs]

/-! ### Where a host write goes -/

/-- Settles O49, by the branch that each kind of register takes: the configuration of the ports, then for a port whose transaction is not at its
end the unassigned page, the staged register with and without an open transaction, and the reserved offset. -/
theorem hostWrites : Obligations.HostWrites := by
  intro p page off w cyc s _
  refine ⟨fun hlive hconf => ⟨fun hok => ?_, fun hbad => ?_⟩, fun hlive hage => ?_⟩
  · exact ⟨_, (exec_hostPortConfigWrite s page off w hlive).trans (congrArg _ (portConfigWrite_valueOk s hconf hok)),
      State.reg_setReg_same s _ _, fun c hc => State.reg_setReg_other s _ c _ hc⟩
  · exact ⟨_, (exec_hostPortConfigWrite s page off w hlive).trans (congrArg _ (portConfigWrite_reserved s hconf hbad)),
      raise_only s 0x00 0 (by decide)⟩
  · have hx : txnExpire (touch s p) p = touch s p := txnExpire_eq_self (touch s p) p hage
    refine ⟨fun hun hconf => ?_, fun has hconf hstage hpage htally => ⟨fun hopen => ?_, fun hopen hroom => ?_⟩,
      fun has hconf hstage hpage htally => ?_⟩
    · rw [exec_registerWrite s p page off w cyc hlive hconf, hostWrite_unassigned _ p off w cyc hx hun]
      rfl
    all_goals
      rw [exec_registerWrite s p page off w cyc hlive hconf, hostWrite_coherent _ p w cyc hx has hpage htally]
      dsimp only
    · have hclosed : ((touch s p).x.txn.get p).opened = false := hopen
      rw [if_pos hstage, hclosed]
      exact ⟨_, rfl, stageHost_mem_unit (touch s p) p _, stageHost_frame (touch s p) p _⟩
    · rw [if_pos hstage, if_pos (show ((touch s p).x.txn.get p).opened = true from hopen)]
      exact ⟨_, rfl, txnHold_mem_writes (touch s p) p _ hroom, txnHold_frame (touch s p) p _⟩
    · rw [hstage]
      rfl

end Sys2Proof.Machine

/-! PROOFS. A section of the control engine: its arithmetic in plain integers (R103, R105, R106), what an inner section of a loop changes,
and the obligation on it (O22). -/

namespace Sys2Proof.Machine

/-! ### Rounding and saturation in plain integers (R105, R106) -/

theorem clampI_eq_max_min {lo hi : Int} (h : lo ≤ hi) (x : Int) : clampI lo hi x = max lo (min hi x) := by
  unfold clampI
  split
  · omega
  · split <;> omega

theorem rnd15_eq_ediv (x : Int) : rnd15 x = (x + 2 ^ 14) / 2 ^ 15 :=
  Int.fdiv_eq_ediv_of_nonneg _ (by decide)

theorem sat32_eq_max_min (x : Int) : sat32 x = max (-2 ^ 31) (min (2 ^ 31 - 1) x) :=
  clampI_eq_max_min (by decide) x

theorem sectY_eq_max_min (v : Int) : sectY v = max (-32768) (min 32767 ((v + 2 ^ 14) / 2 ^ 15)) := by
  rw [← rnd15_eq_ediv]
  exact clampI_eq_max_min (by decide) _

theorem sectYw_eq_max_min (v : Int) : sectYw v = max (-2 ^ 30) (min (2 ^ 30 - 2 ^ 15) v) :=
  clampI_eq_max_min (by decide) v

theorem sectNext_w1 (c : Coefs) (w : SectSt) (x yq : Int) : (sectNext c w x yq).w1 =
    max (-2 ^ 31) (min (2 ^ 31 - 1) ((c.b1 * x * 2 ^ 15 - c.a1 * yq + w.w2 * 2 ^ 15 + 2 ^ 14) / 2 ^ 15)) := by
  rw [← rnd15_eq_ediv, ← sat32_eq_max_min]
  rfl

theorem sectNext_w2 (c : Coefs) (w : SectSt) (x yq : Int) : (sectNext c w x yq).w2 =
    max (-2 ^ 31) (min (2 ^ 31 - 1) ((c.b2 * x * 2 ^ 15 - c.a2 * yq + 2 ^ 14) / 2 ^ 15)) := by
  rw [← rnd15_eq_ediv, ← sat32_eq_max_min]
  rfl

/-! ### The slot of an inner section (R108) -/

/-- v of a section from the input of its loop and its own state words (R103). -/
def sectionV (s : State) (l : LoopIx) (i : Slot) : Int :=
  sectV (coefs s i) s.cp.sects[i].w1 s.cp.loops[l].chain

theorem sectionV_eq_mul_pow (s : State) (l : LoopIx) (i : Slot) :
    sectionV s l i = ((coefs s i).b0 * s.cp.loops[l].chain + s.cp.sects[i].w1) * 2 ^ (coefs s i).k := by
  simp [sectionV, sectV]

/-- A section saturates when the limit acts on the rounded v (R105). -/
def sectionSats (s : State) (l : LoopIx) (i : Slot) : Bool :=
  rnd15 (sectionV s l i) != sectY (sectionV s l i)

/-- In a working device a slot of a loop without a checker's finding is that loop's work (R108). -/
theorem exec_ceSectionSlot_loop {s : State} {i : Slot} {l : LoopIx} (hw : working s = true) (hl : slotLoop s i.val = some l) :
    exec (.ceSectionSlot i .none) s = .next (loopSlot s l i) := by
  change execCeSectionSlot i .none s = _
  simp [execCeSectionSlot, hw, hl]

/-- A closed loop that is updated with an estimate at hand evaluates a section other than its first, which is where the set-point path
runs. -/
theorem loopSlot_updating {s : State} {l : LoopIx} {i : Slot} (hact : s.cp.loops[l].active = true) (hfence : s.isFenced (.loop l) = false)
    (hfirst : i.val ≠ LP_FIRST_FIRST s l) (hclosed : LP_CFG_CLOSED s l = true) (hest : fbNoEst s l = false)
    (hupd : s.cp.loops[l].updating = true) : loopSlot s l i = evalSection s l i := by
  simp only [loopSlot, hact, hfence, beq_false_of_ne hfirst, hclosed, hest, hupd, Bool.not_true, Bool.or_false, Bool.false_eq_true,
    if_false, if_true]

/-- A section that is not its loop's last hands its output on and updates its state words; besides, the event of a saturation writes
registers. -/
theorem evalSection_inner (s : State) {l : LoopIx} {i : Slot} (hlast : i.val ≠ lastSlot s l) :
    ∃ g r, evalSection s l i =
      (({ s with cp := { s.cp with regs := g }, x := { s.x with regs := r } } : State).modSect i fun w =>
        { sectNext (coefs s i) w s.cp.loops[l].chain (sectYw (sectionV s l i)) with satd := sectionSats s l i }).modLoop l fun r =>
          { r with chain := sectY (sectionV s l i), sat := r.sat || sectionSats s l i } := by
  obtain ⟨g, r, hevt⟩ := evt_frame s (0x61 + l.val) 4
  unfold evalSection
  simp only [beq_false_of_ne hlast, Bool.false_eq_true, if_false]
  split
  next => exact ⟨g, r, by rw [hevt]; rfl⟩
  next => exact ⟨s.cp.regs, s.x.regs, rfl⟩

/-- Settles O22: the slot is the evaluation of an inner section, whose arithmetic is that of the plain integers. -/
theorem sectionUpdates : Obligations.SectionUpdates := by
  intro i l s hw hl hact hfence hfirst hlast hclosed hest hupd
  obtain ⟨g, r, heval⟩ := evalSection_inner s hlast
  have hexec : exec (.ceSectionSlot i .none) s = .next (evalSection s l i) := by
    rw [exec_ceSectionSlot_loop hw hl, loopSlot_updating hact hfence hfirst hclosed hest hupd]
  refine ⟨_, hexec, ?_⟩
  rw [heval]
  refine ⟨⟨?_, ?_, ?_⟩, fun j hj => upd_other _ i j _ hj, fun m hm => upd_other _ l m _ hm, rfl, rfl⟩
  · rw [State.modLoop_cp, upd_same, sectY_eq_max_min, sectionV_eq_mul_pow]
  · rw [State.modLoop_cp, State.modSect_cp, upd_same, sectNext_w1, sectYw_eq_max_min, sectionV_eq_mul_pow]
  · rw [State.modLoop_cp, State.modSect_cp, upd_same, sectNext_w2, sectYw_eq_max_min, sectionV_eq_mul_pow]

end Sys2Proof.Machine

/-! PROOFS. Blame and substitution of a slice: what a pass over a family of units reaches, what stops the legs of a train, how a word at a
rail becomes a verdict that the rest of the tick leaves standing, and the obligation on both (O31). -/

namespace Sys2Proof.Machine

/-! ### A pass over a family -/

/-- What every visit of a pass keeps holds after it. -/
theorem forAll_keeps {n : Nat} {P : State → Prop} {f : State → Fin n → State} {s : State} (hs : P s)
    (hP : ∀ t i, P t → P (f t i)) : P (forAll s f) :=
  List.foldlRecOn (motive := P) _ f hs fun t ht i _ => hP t i ht

/-- What the visit of one member brings about, and every visit keeps, holds after the pass. -/
theorem forAll_reaches {n : Nat} {P Q : State → Prop} {f : State → Fin n → State} {s : State} (i : Fin n) (hs : P s)
    (hP : ∀ t j, P t → P (f t j)) (hi : ∀ t, P t → Q (f t i)) (hQ : ∀ t j, Q t → Q (f t j)) : Q (forAll s f) := by
  obtain ⟨before, after, hsplit⟩ := List.append_of_mem (List.mem_finRange i)
  have hreach : P (before.foldl f s) := List.foldlRecOn (motive := P) _ f hs fun t ht j _ => hP t j ht
  rw [forAll, hsplit, List.foldl_append, List.foldl_cons]
  exact List.foldlRecOn (motive := Q) _ f (hi _ hreach) fun t ht j _ => hQ t j ht

/-! ### Legs that have stopped (R54, R84) -/

/-- The train has the leg off, and both its outputs are low. -/
def LegStopped (s : State) (n : Leg) : Prop := s.cp.legs[n].on = false ∧ OutputsLow s n

/-- The map of the legs is what the adopted configuration says. -/
theorem legTrain_congr {s t : State} (h : t.cp.adopted = s.cp.adopted) (n : Leg) : legTrain t n = legTrain s n := by
  simp only [legTrain, mapCode, paired, State.ad, h]
  rfl

theorem OutputsLow.modHw_low {s : State} {n : Leg} (h : OutputsLow s n) (m : Leg) : OutputsLow (s.modHw m LegHw.low) n := by
  simp only [OutputsLow, State.modHw_x]
  by_cases hm : n = m
  · subst hm
    rw [upd_same]
    exact ⟨rfl, rfl⟩
  · rw [upd_other _ m n _ hm]
    exact h

theorem OutputsLow.of_hw {s t : State} {n : Leg} (h : OutputsLow s n) (hhw : t.x.hw = s.x.hw) : OutputsLow t n := by
  rw [OutputsLow, hhw]
  exact h

theorem OutputsLow.allLegsLow (s : State) (n : Leg) : OutputsLow s.allLegsLow n := by
  simp [OutputsLow, State.allLegsLow]

/-- The pin reactions drive outputs low and none high. -/
theorem OutputsLow.pinShutdown {s : State} {n : Leg} (h : OutputsLow s n) (code : Nat) : OutputsLow (pinShutdown s code) n := by
  have hlegs : OutputsLow (if code == 3 || code == 4 then (s.allLegsLow).modCol fun c => { c with pinsOff := true } else s) n := by
    split
    · exact (OutputsLow.allLegsLow s n).of_hw rfl
    · exact h
  unfold Machine.pinShutdown
  generalize (if code == 3 || code == 4 then (s.allLegsLow).modCol fun c => { c with pinsOff := true } else s) = s' at hlegs ⊢
  dsimp only
  split
  · exact hlegs.of_hw rfl
  · exact hlegs

theorem OutputsLow.larderTrigger {s : State} {n : Leg} (h : OutputsLow s n) (src ix : Nat) : OutputsLow (larderTrigger s src ix) n := by
  obtain ⟨l, hl⟩ := larderTrigger_frame s src ix
  exact h.of_hw (by rw [hl])

theorem OutputsLow.latch {s : State} {n : Leg} (h : OutputsLow s n) (b : Nat) : OutputsLow (latch s b) n := by
  unfold Machine.latch
  split
  · exact h
  · split
    · exact h.of_hw rfl
    · dsimp only
      generalize hs : State.modCol s _ = s'
      have hs' : OutputsLow s' n := h.of_hw (by rw [← hs]; rfl)
      have hpins := (hs'.of_hw (t := noteLine s' b) rfl).pinShutdown (react s' b)
      split
      · exact (hpins.larderTrigger 2 b).of_hw rfl
      · exact hpins.of_hw rfl

/-- An error leaves low outputs low. -/
theorem OutputsLow.raise {s : State} {n : Leg} (h : OutputsLow s n) (page b : Nat) : OutputsLow (raise s page b) n := by
  have hset : OutputsLow ((noteCheck s page (oneHot b)).orReg (a_PG_ERR page) (oneHot b)) n := h.of_hw (by rw [State.orReg_x]; rfl)
  exact List.foldlRecOn (motive := fun t => OutputsLow t n) _ Machine.latch hset fun t ht k _ => ht.latch k

theorem LegStopped.raise {s : State} {n : Leg} (h : LegStopped s n) (page b : Nat) : LegStopped (raise s page b) n := by
  obtain ⟨hoff, hlow⟩ := h
  refine ⟨?_, hlow.raise page b⟩
  rw [raise_cp]
  exact hoff

/-- One leg stops: its train has it off with an idle shadow, and its outputs are low. -/
def stopLeg (s : State) (n : Leg) : State := (s.modLeg n fun l => { l with shadow := {}, on := false }).modHw n LegHw.low

theorem legStopped_stopLeg (s : State) (n : Leg) : LegStopped (stopLeg s n) n := by
  simp [LegStopped, OutputsLow, stopLeg]

theorem LegStopped.stopLeg {s : State} {n : Leg} (h : LegStopped s n) (m : Leg) : LegStopped (stopLeg s m) n := by
  by_cases hm : n = m
  · subst hm
    exact legStopped_stopLeg s n
  · obtain ⟨hoff, hlow⟩ := h
    refine ⟨?_, OutputsLow.modHw_low (s := s.modLeg m _) hlow m⟩
    rw [Machine.stopLeg, State.modHw_cp, State.modLeg_cp, upd_other _ m n _ hm]
    exact hoff

/-- Stopping a train's legs visits every leg and stops those that the map gives to the train. -/
theorem legsOff_eq (s : State) (k : Train) :
    legsOff s k = forAll (n := 24) s fun s n => if legTrain s n == some k then stopLeg s n else s := rfl

theorem legsOff_trains (s : State) (k : Train) : (legsOff s k).cp.trains = s.cp.trains := by
  rw [legsOff_eq]
  refine forAll_keeps (P := fun t => t.cp.trains = s.cp.trains) rfl fun t n ht => ?_
  split
  · exact ht
  · exact ht

/-- Every leg of the train stops. -/
theorem legsOff_stopped {s : State} {k : Train} {n : Leg} (h : legTrain s n = some k) : LegStopped (legsOff s k) n := by
  rw [legsOff_eq]
  refine forAll_reaches (P := fun t => legTrain t n = some k) (Q := fun t => LegStopped t n) n h
    (fun t m ht => ?_) (fun t ht => ?_) (fun t m ht => ?_)
  · split
    · exact ht
    · exact ht
  · rw [ht, if_pos (beq_self_eq_true _)]
    exact legStopped_stopLeg t n
  · split
    · exact ht.stopLeg m
    · exact ht

/-! ### A train enters HOLD (R84) -/

theorem setTrain_state (s : State) (k : Train) (st : TrState) : (setTrain s k st).cp.trains[k].state = st := by
  unfold setTrain
  split
  next h => exact h
  next => simp

theorem setTrain_adopted (s : State) (k : Train) (st : TrState) : (setTrain s k st).cp.adopted = s.cp.adopted := by
  unfold setTrain
  split
  next => rfl
  next =>
    dsimp only
    rw [State.evt_cp, State.modTrain_cp]
    split <;> rfl

theorem cancelShed_adopted (s : State) (k : Train) : (cancelShed s k).cp.adopted = s.cp.adopted := by
  unfold cancelShed
  split
  · rw [State.evt_cp, State.modTrain_cp]
  · rfl

/-- A train that switches takes the state HOLD and then stops its legs, on a map of the legs that is still the adopted one. -/
theorem trainHold_of_switching {s : State} {k : Train} (h : s.cp.trains[k].state.switching = true) :
    ∃ r, trainHold s k = legsOff (setTrain r k .hold) k ∧ r.cp.adopted = s.cp.adopted := by
  refine ⟨(cancelShed s k).modTrain k fun r => { r with leaving := none, rampWritten := false, rev := 0 }, ?_, cancelShed_adopted s k⟩
  unfold trainHold
  split
  next hst => exact absurd (hst ▸ h) (by decide)
  next hst => exact absurd (hst ▸ h) (by decide)
  next hst => exact absurd (hst ▸ h) (by decide)
  next => rfl

theorem trainHold_state {s : State} {k : Train} (h : s.cp.trains[k].state.switching = true) :
    (trainHold s k).cp.trains[k].state = .hold := by
  obtain ⟨r, hr, -⟩ := trainHold_of_switching h
  rw [hr, legsOff_trains, setTrain_state]

theorem trainHold_stopped {s : State} {k : Train} {n : Leg} (h : s.cp.trains[k].state.switching = true) (hn : legTrain s n = some k) :
    LegStopped (trainHold s k) n := by
  obtain ⟨r, hr, hadopted⟩ := trainHold_of_switching h
  rw [hr]
  refine legsOff_stopped ?_
  rw [legTrain_congr ((setTrain_adopted r k .hold).trans hadopted), hn]

/-! ### The words of the tick (R147, R267) -/

theorem rail_of_bound {w : Int} (h : w = 32767 ∨ w = -32768) : rail w = true := by
  simpa [rail] using h

/-- Slice i is tested and not blamed, its word is at a rail, not settling, and n words at a rail are counted. -/
structure RailWord (s : State) (i : Slice) (n : Nat) : Prop where
  tested : tested s i = true
  unblamed : s.cp.sup[i].cause = .none
  rail : rail s.x.deliv[i].fast = true
  settled : settling s i = false
  count : n ≤ s.cp.sup[i].lostCnt

theorem tested_congr {s t : State} {i : Slice} (hregs : t.cp.regs = s.cp.regs) (hx : t.x = s.x)
    (halt : t.cp.sup[i].alt = s.cp.sup[i].alt) : tested t i = tested s i := by
  simp only [tested, sliceOff, SV_SLEN_SLICES, SL_CFG_EN, SL_CFG_LP, State.isFenced, State.reg, hregs, hx, halt]

theorem settling_congr {s t : State} (hx : t.x = s.x) (i : Slice) : settling t i = settling s i := by
  simp only [settling, hx]

/-- A state that agrees on what is read of a slice at a rail has it at a rail too. -/
theorem RailWord.congr {s t : State} {i : Slice} {n m : Nat} (h : RailWord s i n) (hregs : t.cp.regs = s.cp.regs) (hx : t.x = s.x)
    (halt : t.cp.sup[i].alt = s.cp.sup[i].alt) (hcause : t.cp.sup[i].cause = s.cp.sup[i].cause) (hcount : m ≤ t.cp.sup[i].lostCnt) :
    RailWord t i m where
  tested := (tested_congr hregs hx halt).trans h.tested
  unblamed := hcause.trans h.unblamed
  rail := by rw [hx]; exact h.rail
  settled := (settling_congr hx i).trans h.settled
  count := hcount

/-- The models are no part of it. -/
theorem RailWord.predictCurrent {s : State} {i : Slice} {n : Nat} (h : RailWord s i n) (k : Train) :
    RailWord (predictCurrent s k) i n := by
  unfold Machine.predictCurrent
  split
  · exact h.congr rfl rfl rfl rfl h.count
  · exact h.congr rfl rfl rfl rfl h.count

theorem RailWord.runModel {s : State} {i : Slice} {n : Nat} (h : RailWord s i n) (k : Train) : RailWord (runModel s k) i n := by
  unfold Machine.runModel
  split
  · exact h
  · exact h.congr rfl rfl rfl rfl h.count

/-- Counting one slice's words leaves the other slices alone. -/
theorem countWords_other {s : State} {i j : Slice} (h : i ≠ j) : (countWords s j).cp.sup[i] = s.cp.sup[i] := by
  unfold countWords
  dsimp only
  split
  · rfl
  · exact upd_other _ j i _ h

/-- A word at a rail that is not settling counts once more; of what else is kept of the slice only the FROZEN test's part moves. -/
theorem countWords_self {s : State} {i : Slice} (hset : settling s i = false) (hrail : rail s.x.deliv[i].fast = true) :
    ∃ f w, (countWords s i).cp.sup[i] = { s.cp.sup[i] with lostCnt := s.cp.sup[i].lostCnt + 1, frzCnt := f, lastWord := w } := by
  unfold countWords
  dsimp only
  rw [if_neg (by rw [hset]; exact Bool.false_ne_true), State.modSup_cp, upd_same, if_pos hrail]
  exact ⟨_, _, rfl⟩

theorem countWords_regs (s : State) (j : Slice) : (countWords s j).cp.regs = s.cp.regs := by
  unfold countWords
  dsimp only
  split <;> rfl

theorem countWords_x (s : State) (j : Slice) : (countWords s j).x = s.x := by
  unfold countWords
  dsimp only
  split <;> rfl

theorem RailWord.countWords_self {s : State} {i : Slice} {n : Nat} (h : RailWord s i n) : RailWord (countWords s i) i (n + 1) := by
  obtain ⟨f, w, hsup⟩ := Machine.countWords_self h.settled h.rail
  exact h.congr (countWords_regs s i) (countWords_x s i) (by rw [hsup]) (by rw [hsup]) (by rw [hsup]; exact Nat.succ_le_succ h.count)

theorem RailWord.countWords {s : State} {i : Slice} {n : Nat} (h : RailWord s i n) (j : Slice) : RailWord (countWords s j) i n := by
  by_cases hj : i = j
  · subst hj
    have hnext := h.countWords_self
    exact { hnext with count := Nat.le_of_succ_le hnext.count }
  · have hsup := countWords_other (s := s) hj
    exact h.congr (countWords_regs s j) (countWords_x s j) (by rw [hsup]) (by rw [hsup]) (by rw [hsup]; exact h.count)

/-- Two words at a rail make the verdict LOST. -/
theorem RailWord.newVerdict {s : State} {i : Slice} (h : RailWord s i 2) : newVerdict s i = .lost := by
  simp only [Machine.newVerdict, verdict, h.tested, h.unblamed, decide_eq_true h.count, decide_true, Bool.or_true, Bool.true_or, Bool.and_self,
    if_true]

/-! ### The verdict stands (R147, R151) -/

/-- Slice i is blamed as LOST, its fence is due, and SUPV.PG_ERR.LOST is set. -/
structure LostBlamed (s : State) (i : Slice) : Prop where
  cause : s.cp.sup[i].cause = .lost
  fenceDue : s.cp.sup[i].fenceDue = true
  err : ErrSet s 0x78 0

theorem LostBlamed.raise {s : State} {i : Slice} (h : LostBlamed s i) (b : Nat) : LostBlamed (raise s 0x78 b) i := by
  obtain ⟨hcause, hdue, herr⟩ := h
  refine ⟨?_, ?_, raise_keeps s 0x78 b 0 herr⟩
  · rw [raise_cp]
    exact hcause
  · rw [raise_cp]
    exact hdue

theorem LostBlamed.evt {s : State} {i : Slice} (h : LostBlamed s i) (page b : Nat) (hpage : a_PG_ERR 0x78 ≠ addr page 6) :
    LostBlamed (s.evt page b) i := by
  obtain ⟨hcause, hdue, herr⟩ := h
  refine ⟨?_, ?_, ?_⟩
  · rw [State.evt_cp]
    exact hcause
  · rw [State.evt_cp]
    exact hdue
  · rw [ErrSet, State.evt_other s page b _ hpage]
    exact herr

theorem LostBlamed.modSup {s : State} {i j : Slice} (h : LostBlamed s i) (hj : i ≠ j) (f : SliceSup → SliceSup) :
    LostBlamed (s.modSup j f) i := by
  obtain ⟨hcause, hdue, herr⟩ := h
  refine ⟨?_, ?_, herr⟩
  · rw [State.modSup_cp, upd_other _ j i _ hj]
    exact hcause
  · rw [State.modSup_cp, upd_other _ j i _ hj]
    exact hdue

theorem LostBlamed.releaseSpare {s : State} {i : Slice} (h : LostBlamed s i) (st : SpareState) : LostBlamed (releaseSpare s st) i :=
  ⟨h.cause, h.fenceDue, h.err⟩

/-- A LOST verdict blames its slice. -/
theorem lostBlamed_blame (s : State) (i : Slice) (mate : Bool) : LostBlamed (blame s i .lost mate) i := by
  unfold blame
  refine ⟨?_, ?_, raise_same _ 0x78 0 (by decide)⟩
  · rw [raise_cp, State.modSup_cp, upd_same]
  · rw [raise_cp, State.modSup_cp, upd_same]

theorem LostBlamed.blame {s : State} {i j : Slice} (h : LostBlamed s i) (hj : i ≠ j) (b : Blame) (mate : Bool) :
    LostBlamed (blame s j b mate) i :=
  (h.modSup hj _).raise _

theorem LostBlamed.windowTick {s : State} {i j : Slice} (h : LostBlamed s i) (hj : i ≠ j) : LostBlamed (windowTick s j) i := by
  have hrej := (h.modSup hj fun v => { v with alt := .rejected }).evt 0x78 2 (by decide)
  unfold Machine.windowTick
  split
  · exact h.modSup hj _
  · dsimp only
    split
    · exact hrej.releaseSpare _
    · exact hrej

/-- The alternatives' tests leave a verdict standing: in its tick its own slice is not tested (R159). -/
theorem LostBlamed.altTick {s : State} {i : Slice} (h : LostBlamed s i) (j : Slice) : LostBlamed (altTick s j) i := by
  by_cases hj : i = j
  · subst hj
    rw [Machine.altTick, if_pos h.fenceDue]
    exact h
  · unfold Machine.altTick
    dsimp only
    split
    · exact h
    · split
      · split
        · have hagree := h.modSup hj fun v => { v with alt := .agree }
          split
          · exact (hagree.releaseSpare _).windowTick hj
          · exact hagree.windowTick hj
        · exact h.modSup hj _
      · split
        · exact h
        · exact h.windowTick hj
      · exact h

/-- The verdicts of a tick blame a slice with a second word at a rail. -/
theorem RailWord.verdicts {s : State} {i : Slice} (h : RailWord s i 1) : LostBlamed (verdicts s) i := by
  have hcount : RailWord (forAll (n := 16) s Machine.countWords) i 2 :=
    forAll_reaches (P := fun t => RailWord t i 1) (Q := fun t => RailWord t i 2) i h (fun _ j ht => ht.countWords j)
      (fun _ ht => ht.countWords_self) fun _ j ht => ht.countWords j
  have hi : (tab (n := 16) fun j => Machine.newVerdict (forAll (n := 16) s Machine.countWords) j)[i] = .lost :=
    (tab_at _ i).trans hcount.newVerdict
  unfold Machine.verdicts
  dsimp only
  generalize forAll (n := 16) s Machine.countWords = c at hi ⊢
  generalize (tab (n := 16) fun j => Machine.newVerdict c j) = vs at hi ⊢
  have hvisit (t : State) (mate : Bool) : LostBlamed (if vs[i] = .none then t else Machine.blame t i vs[i] mate) i := by
    rw [hi]
    exact lostBlamed_blame t i mate
  refine forAll_reaches (P := fun _ => True) (Q := fun t => LostBlamed t i) i trivial (fun _ _ _ => trivial)
    (fun t _ => hvisit t _) fun t j ht => ?_
  by_cases hj : i = j
  · subst hj
    exact hvisit t _
  · split
    · exact ht
    · exact ht.blame hj _ _

/-! ### The commands -/

/-- A supervisor that is not fenced and meets no checker runs the models, the verdicts and the alternatives' tests, in this order. -/
theorem exec_supervisorModelRun {s : State} (hw : working s = true) (hf : s.isFenced .supv = false) :
    exec (.supervisorModelRun .none) s =
      .next (forAll (n := 16) (verdicts (forAll (n := 8) (forAll (n := 8) s predictCurrent) runModel)) altTick) := by
  change execSupervisorModelRun .none s = _
  simp [execSupervisorModelRun, hw, hf]

/-- A tested slice whose second word is at a rail is blamed as LOST. -/
theorem lostWordBlamed : Claims.LostWordBlamed := by
  intro i s hw hf htested hcause hfast hcnt hsettled
  have hword : RailWord s i 1 := ⟨htested, hcause, rail_of_bound hfast, hsettled, hcnt⟩
  have hmodels : RailWord (forAll (n := 8) (forAll (n := 8) s predictCurrent) runModel) i 1 :=
    forAll_keeps (P := fun t => RailWord t i 1)
      (forAll_keeps (P := fun t => RailWord t i 1) hword fun t k ht => ht.predictCurrent k) fun t k ht => ht.runModel k
  obtain ⟨hlost, hdue, herr⟩ := forAll_keeps (P := fun t => LostBlamed t i) hmodels.verdicts fun t j ht => ht.altTick j
  exact ⟨_, exec_supervisorModelRun hw hf, hlost, hdue, herr⟩

/-- At SUB_MAX a switching train enters HOLD with SUPV.PG_ERR.HELD and its own HELD (R165). -/
theorem exec_substitutionTimeout {s : State} {k : Train} (hin : s.cp.models[k].inSubst = true)
    (hmax : SVt_SUB_MAX s k ≤ s.cp.models[k].subTk) (hsw : s.cp.trains[k].state.switching = true) :
    exec (.substitutionTimeout k) s = .next ((raise (trainHold s k) 0x78 3).modModel k fun m => { m with held := true }) := by
  change execSubstitutionTimeout k s = _
  simp only [execSubstitutionTimeout, hin, hsw, decide_eq_true hmax, Bool.and_true, if_true]

/-- The first slice that waits for the spare and has no fence to come. -/
theorem find_waiting {s : State} {i : Slice} (hi : s.cp.sup[i].alt = .waiting) (hdue : s.cp.sup[i].fenceDue = false)
    (hlow : ∀ j : Slice, j < i → s.cp.sup[j].alt = .waiting → s.cp.sup[j].fenceDue = true) :
    (List.finRange 16).find? (fun i : Slice => s.cp.sup[i].alt = .waiting && !s.cp.sup[i].fenceDue) = some i := by
  refine List.find?_eq_some_iff_getElem.mpr ⟨by simp only [hi, hdue, decide_true, Bool.not_false, Bool.and_self], i.val,
    by rw [List.length_finRange]; exact i.isLt, List.getElem_finRange _, fun m hm => ?_⟩
  rw [List.getElem_finRange]
  generalize hj : Fin.cast _ _ = j
  have hji : j < i := by subst hj; exact hm
  by_cases hwait : s.cp.sup[j].alt = .waiting
  · simp only [hlow j hji hwait, Bool.not_true, Bool.and_false, Bool.not_false]
  · simp only [hwait, decide_false, Bool.false_and, Bool.not_false]

/-- The spare is connected to slice i, whose test begins (R157, R159). -/
def connectSpare (s : State) (i : Slice) : State :=
  (s.modSup i fun v => { v with alt := .settle, altSettle := 3, altCnt := 0, altLast := none }).modSpare fun _ =>
    { state := .settle, slice := i, retLeft := 0 }

/-- A free spare goes to the slice that is found. -/
theorem exec_spareConnect {s : State} {i : Slice} (hfree : s.cp.spare.state = .idle ∨ s.cp.spare.state = .rejected)
    (hi : (List.finRange 16).find? (fun i : Slice => s.cp.sup[i].alt = .waiting && !s.cp.sup[i].fenceDue) = some i) :
    exec .spareConnect s = .next (connectSpare s i) := by
  change execSpareConnect s = _
  rw [execSpareConnect, if_pos (by simpa using hfree), hi]
  rfl

/-- An alternative that has agreed through its window waits for its acceptance at the next cycle 0 (R161). -/
theorem exec_alternativeAccept {s : State} {i : Slice} (hagree : s.cp.sup[i].alt = .agree)
    (hcnt : SV_AGREE_N_N s ≤ s.cp.sup[i].altCnt) (hdue : s.cp.sup[i].acceptDue = false) :
    exec (.alternativeAccept i) s = .next ((s.modSup i fun v => { v with acceptDue := true }).evt 0x78 1) := by
  change execAlternativeAccept i s = _
  simp only [execAlternativeAccept, hagree, hdue, decide_eq_true hcnt, decide_true, Bool.not_false, Bool.and_true, if_true]

/-- The end of a substitution that lasts too long, the spare's next slice, and the accepted alternative. -/
theorem substitutionEvents : Claims.SubstitutionEvents := by
  intro k i s
  refine ⟨fun hin hmax hsw => ?_, fun hfree hwait hdue hlow => ?_, exec_alternativeAccept⟩
  · refine ⟨_, exec_substitutionTimeout hin hmax hsw, ?_, ?_, raise_same (trainHold s k) 0x78 3 (by decide),
      fun n hn => (trainHold_stopped hsw hn).raise 0x78 3⟩
    · rw [State.modModel_cp, raise_cp]
      exact trainHold_state hsw
    · rw [State.modModel_cp, upd_same]
  · exact ⟨connectSpare s i, exec_spareConnect hfree (find_waiting hwait hdue hlow), rfl, rfl,
      congrArg SliceSup.alt (upd_same _ i _), fun j hj => upd_other _ i j _ hj, rfl⟩

/-- Settles O31: the second word at a rail is blamed by the verdicts and no later part of the tick takes that back; the three events of
substitution are each the one branch that their command takes. -/
theorem supervision : Obligations.Supervision := ⟨lostWordBlamed, substitutionEvents⟩

end Sys2Proof.Machine

/-! PROOFS. The power path: what turning legs off leaves, what the loss of an intake node and the ride-through preset leave, the legs of a
dead node, the preset of one train, a comparator that fires, and the obligations on them (O32, O33). -/

namespace Sys2Proof.Machine

/-! ### Families and whole trains -/

/-- A member put back as it is leaves its family as it is. -/
theorem upd_getElem {α : Type} {n : Nat} (v : Vector α n) (i : Fin n) : upd v i v[i] = v := Vector.set_getElem_self i.isLt

/-- Of the trains, a change of state touches the one, and in it the state alone. -/
theorem setTrain_trains (s : State) (k : Train) (st : TrState) :
    (setTrain s k st).cp.trains = upd s.cp.trains k { s.cp.trains[k] with state := st } := by
  unfold setTrain
  split
  next h =>
    subst h
    exact (upd_getElem s.cp.trains k).symm
  next =>
    dsimp only
    rw [State.evt_cp]
    split <;> rfl

/-- Outside the checkpoint a change of state writes registers alone. -/
theorem setTrain_x (s : State) (k : Train) (st : TrState) : ∃ r, (setTrain s k st).x = { s.x with regs := r } := by
  unfold setTrain
  split
  · exact ⟨_, rfl⟩
  · dsimp only
    rw [State.evt_x]
    split <;> exact ⟨_, rfl⟩

/-! ### Legs that are only turned off (R54, R198) -/

/-- Only legs change, and no output that is low goes high. -/
structure LegsLower (s t : State) : Prop where
  frame : ∃ l h, t = { s with cp := { s.cp with legs := l }, x := { s.x with hw := h } }
  low : ∀ n, OutputsLow s n → OutputsLow t n

namespace LegsLower

theorem refl (s : State) : LegsLower s s := ⟨⟨_, _, rfl⟩, fun _ h => h⟩

theorem trans {s t u : State} (h : LegsLower s t) (h' : LegsLower t u) : LegsLower s u := by
  obtain ⟨⟨l, w, rfl⟩, hlow⟩ := h
  obtain ⟨⟨l', w', rfl⟩, hlow'⟩ := h'
  exact ⟨⟨l', w', rfl⟩, fun n hn => hlow' n (hlow n hn)⟩

theorem cp {s t : State} (h : LegsLower s t) : ∃ l, t.cp = { s.cp with legs := l } := by
  obtain ⟨l, w, rfl⟩ := h.frame
  exact ⟨l, rfl⟩

theorem x {s t : State} (h : LegsLower s t) : ∃ w, t.x = { s.x with hw := w } := by
  obtain ⟨l, w, rfl⟩ := h.frame
  exact ⟨w, rfl⟩

theorem of_modLeg (s : State) (n : Leg) (f : LegCp → LegCp) : LegsLower s (s.modLeg n f) := ⟨⟨_, _, rfl⟩, fun _ h => h⟩

theorem of_modHw (s : State) (n : Leg) (f : LegHw → LegHw)
    (hf : ∀ h : LegHw, h.pwmH = false → h.pwmL = false → (f h).pwmH = false ∧ (f h).pwmL = false) : LegsLower s (s.modHw n f) := by
  refine ⟨⟨_, _, rfl⟩, fun m hm => ?_⟩
  by_cases hmn : m = n
  · subst hmn
    obtain ⟨hhigh, hlow⟩ := hm
    rw [OutputsLow, State.modHw_x, upd_same]
    exact hf _ hhigh hlow
  · rw [OutputsLow, State.modHw_x, upd_other _ n m _ hmn]
    exact hm

theorem of_drive_off (s : State) (n : Leg) (high : Bool) : LegsLower s (drive s n high false) := by
  refine of_modHw s n _ fun h hhigh hlow => ?_
  cases high
  · exact ⟨hhigh, rfl⟩
  · exact ⟨rfl, hlow⟩

/-- The control switch of a phase goes off, in whatever region. -/
theorem of_setCtl_off (s : State) (n : Leg) : LegsLower s (setCtl s n false) := by
  unfold setCtl
  split
  · split <;> exact of_drive_off s _ _
  · exact of_drive_off s n _

/-- The rectifier of a phase goes off, in whatever region. -/
theorem of_setRect_off (s : State) (n : Leg) : LegsLower s (setRect s n false) := by
  unfold setRect
  split
  · split
    · exact of_drive_off s _ _
    · exact of_drive_off s _ _
    · exact (of_drive_off s n _).trans (of_drive_off _ _ _)
  · exact of_drive_off s n _

/-- The preset of a train's legs turns switches off; what it turns on comes after the dead time. -/
theorem of_presetLegs (s : State) (k : Train) (share : Nat) : LegsLower s (presetLegs s k share) := by
  refine forAll_keeps (P := LegsLower s) (refl s) fun t n ht => ?_
  split
  · dsimp only
    refine ht.trans (.trans ?_ (of_modHw _ n _ fun _ hhigh _ => ⟨hhigh, rfl⟩))
    split
    · exact ((of_modLeg t n _).trans (of_setCtl_off _ n)).trans (of_setRect_off _ n)
    · exact of_modLeg t n _
  · exact ht

end LegsLower

/-! ### The preset of one train, step by step (R198, R199) -/

/-- The demand that the preset gives a train of the sum of the lost nodes. -/
def presetDemand (s : State) (m : Train) (total : Nat) : Nat :=
  min total (TR_ILIM_N_ILIM_N s m * nAvailHere s m / nRatedHere s m)

/-- The event of a shed that the preset cancels (R95). -/
def shedEvent (s : State) (k : Train) : State := if s.cp.trains[k].shedding then s.evt (0x08 + k.val) 2 else s

theorem shedEvent_frame (s : State) (k : Train) :
    ∃ g r, shedEvent s k = { s with cp := { s.cp with regs := g }, x := { s.x with regs := r } } := by
  unfold shedEvent
  split
  · exact evt_frame s _ _
  · exact ⟨_, _, rfl⟩

/-- The train as the preset has it run: a shed in progress cancelled, the demand d toward the rail. -/
def presetRun (s : State) (k : Train) (d : Nat) : State :=
  setTrain ((shedEvent s k).modTrain k fun r => { r with
    dir := true, dem := -(d : Int), shedding := false, leaving := none, rampWritten := false, shedCnt := 0, rev := 0
    released := true }) k .run

/-- The preset's record of a train that it holds with the demand d. -/
def holdRide (s : State) (k : Train) (d : Nat) : State :=
  { s with x := { s.x with ride := { s.x.ride with held := upd s.x.ride.held k true, dem := upd s.x.ride.dem k d } } }

theorem presetTrain_of_none {s : State} {k : Train} (h : nAvailHere s k = 0) (total : Nat) : presetTrain s k total = s := by
  unfold presetTrain
  exact if_pos (beq_iff_eq.mpr h)

/-- A train with a leg available runs, its legs take their share, and the preset holds it. -/
theorem presetTrain_of_avail {s : State} {k : Train} (h : nAvailHere s k ≠ 0) (total : Nat) :
    ∃ share, presetTrain s k total =
      holdRide (presetLegs (presetRun s k (presetDemand s k total)) k share) k (presetDemand s k total) := by
  unfold presetTrain
  exact ⟨_, if_neg (by simpa using h)⟩

theorem presetLegs_trains (s : State) (k : Train) (share : Nat) : (presetLegs s k share).cp.trains = s.cp.trains := by
  obtain ⟨l, hcp⟩ := (LegsLower.of_presetLegs s k share).cp
  rw [hcp]

theorem presetLegs_ride (s : State) (k : Train) (share : Nat) : (presetLegs s k share).x.ride = s.x.ride := by
  obtain ⟨w, hx⟩ := (LegsLower.of_presetLegs s k share).x
  rw [hx]

/-! ### What the loss of a node leaves (R183, R197) -/

/-- What a node's loss and the preset may touch: nothing adopted, outside the checkpoint only the registers, the legs' outputs and the
preset's record; of the registers only PG_EVT of a page, where no event clears; and no output that is low goes high. -/
structure LossKeeps (s t : State) : Prop where
  adopted : t.cp.adopted = s.cp.adopted
  ext : ∃ r h d, t.x = { s.x with regs := r, hw := h, ride := d }
  reg : ∀ a, a % 256 ≠ 6 → t.reg a = s.reg a
  evt : ∀ page b, EvtSet s page b → EvtSet t page b
  low : ∀ n, OutputsLow s n → OutputsLow t n

namespace LossKeeps

theorem refl (s : State) : LossKeeps s s :=
  ⟨rfl, ⟨_, _, _, rfl⟩, fun _ _ => rfl, fun _ _ h => h, fun _ h => h⟩

theorem trans {s t u : State} (h : LossKeeps s t) (h' : LossKeeps t u) : LossKeeps s u where
  adopted := h'.adopted.trans h.adopted
  ext := by
    obtain ⟨r, w, d, hx⟩ := h.ext
    obtain ⟨r', w', d', hx'⟩ := h'.ext
    exact ⟨r', w', d', by rw [hx', hx]⟩
  reg a ha := (h'.reg a ha).trans (h.reg a ha)
  evt page b he := h'.evt page b (h.evt page b he)
  low n hn := h'.low n (h.low n hn)

theorem src {s t : State} (h : LossKeeps s t) : t.x.src = s.x.src := by
  obtain ⟨r, w, d, hx⟩ := h.ext
  rw [hx]

theorem srcEn {s t : State} (h : LossKeeps s t) : t.x.srcEn = s.x.srcEn := by
  obtain ⟨r, w, d, hx⟩ := h.ext
  rw [hx]

theorem nodes {s t : State} (h : LossKeeps s t) : t.x.nodes = s.x.nodes := by
  obtain ⟨r, w, d, hx⟩ := h.ext
  rw [hx]

theorem tick {s t : State} (h : LossKeeps s t) : t.x.tick = s.x.tick := by
  obtain ⟨r, w, d, hx⟩ := h.ext
  rw [hx]

theorem fenced {s t : State} (h : LossKeeps s t) : t.x.fenced = s.x.fenced := by
  obtain ⟨r, w, d, hx⟩ := h.ext
  rw [hx]

theorem of_modTrain (s : State) (k : Train) (f : TrainSt → TrainSt) : LossKeeps s (s.modTrain k f) :=
  ⟨rfl, ⟨_, _, _, rfl⟩, fun _ _ => rfl, fun _ _ h => h, fun _ h => h⟩

theorem of_modModel (s : State) (k : Train) (f : ModelSt → ModelSt) : LossKeeps s (s.modModel k f) :=
  ⟨rfl, ⟨_, _, _, rfl⟩, fun _ _ => rfl, fun _ _ h => h, fun _ h => h⟩

/-- The preset's record alone changes. -/
theorem of_ride (s : State) (d : RideSt) : LossKeeps s { s with x := { s.x with ride := d } } :=
  ⟨rfl, ⟨_, _, _, rfl⟩, fun _ _ => rfl, fun _ _ h => h, fun _ h => h⟩

theorem of_legs {s t : State} (h : LegsLower s t) : LossKeeps s t := by
  obtain ⟨⟨l, w, rfl⟩, hlow⟩ := h
  exact ⟨rfl, ⟨_, _, _, rfl⟩, fun _ _ => rfl, fun _ _ h => h, hlow⟩

theorem of_evt (s : State) (page b : Nat) : LossKeeps s (s.evt page b) where
  adopted := by rw [State.evt_cp]
  ext := ⟨_, _, _, State.evt_x s page b⟩
  reg a ha := State.evt_other s page b a (by unfold addr; omega)
  evt p c he := by
    by_cases hp : p = page
    · subst hp
      exact State.evt_keeps s p b c he
    · rw [EvtSet, State.evt_other s page b _ (by unfold addr; omega)]
      exact he
  low _ hn := hn.of_hw (by rw [State.evt_x])

theorem of_setTrain (s : State) (k : Train) (st : TrState) : LossKeeps s (setTrain s k st) := by
  unfold setTrain
  split
  · exact refl s
  · refine trans (trans ?_ (of_modTrain _ k _)) (of_evt _ _ _)
    split
    · exact of_modModel s k _
    · exact refl s

theorem of_shedEvent (s : State) (k : Train) : LossKeeps s (shedEvent s k) := by
  unfold shedEvent
  split
  · exact of_evt s _ _
  · exact refl s

theorem of_presetTrain (s : State) (k : Train) (total : Nat) : LossKeeps s (presetTrain s k total) := by
  by_cases h : nAvailHere s k = 0
  · rw [presetTrain_of_none h]
    exact refl s
  · obtain ⟨share, hpreset⟩ := presetTrain_of_avail h total
    have hrun : LossKeeps s (presetRun s k (presetDemand s k total)) :=
      ((of_shedEvent s k).trans (of_modTrain _ k _)).trans (of_setTrain _ k .run)
    rw [hpreset]
    exact (hrun.trans (of_legs (.of_presetLegs _ k share))).trans (of_ride _ _)

end LossKeeps

/-! ### The preset of a node loss, step by step (R197, R202, R204) -/

/-- The sum of the demands of the lost nodes, saturated. -/
def rideTotal (s : State) : Nat :=
  let part (k : Fin 2) (d : Nat) := if s.x.nodes[k].state = .lost then d else 0
  min 32767 (part 0 (RIDE_DEM_A_DEM s) + part 1 (RIDE_DEM_B_DEM s))

/-- The trains that a node loss presets. -/
def presetTrains (s : State) : List Train := (List.finRange 8).filter fun k => rideEligible s k && nAvailHere s k != 0

/-- Every eligible train with a leg available is preset, the others are left. -/
def presetAll (s : State) : State :=
  forAll (n := 8) s fun t k => if rideEligible s k && nAvailHere s k != 0 then presetTrain t k (rideTotal s) else t

theorem LossKeeps.of_presetAll (s : State) : LossKeeps s (presetAll s) := by
  refine forAll_keeps (P := LossKeeps s) (.refl s) fun t k ht => ?_
  split
  · exact ht.trans (.of_presetTrain t k _)
  · exact ht

/-- The pass over the trains, its tick where it preset any, and the trains named. -/
def presetNoted (s : State) : State :=
  { presetAll s with x := { (presetAll s).x with ride := { (presetAll s).x.ride with
    fired := if (presetTrains s).isEmpty then (presetAll s).x.ride.fired else (presetAll s).x.tick.count
    last := maskOf fun k : Train => (presetTrains s).contains k } } }

theorem ridePreset_of_disabled {s : State} (h : SRC_RIDE_EN s = false) :
    ridePreset s = { s with x := { s.x with ride := { s.x.ride with last := 0 } } } := by
  unfold ridePreset
  exact if_pos (by rw [h]; rfl)

/-- With SRC_RIDE.EN = 1 the trains are preset, with the event where there is one. -/
theorem ridePreset_of_enabled {s : State} (h : SRC_RIDE_EN s = true) :
    ridePreset s = if (presetTrains s).isEmpty then presetNoted s else (presetNoted s).evt 0x30 2 := by
  unfold ridePreset
  rw [if_neg (by rw [h]; decide)]
  dsimp only
  rw [List.foldl_filter]
  rfl

theorem LossKeeps.of_ridePreset (s : State) : LossKeeps s (ridePreset s) := by
  cases hen : SRC_RIDE_EN s
  · rw [ridePreset_of_disabled hen]
    exact .of_ride s _
  · have hnoted : LossKeeps s (presetNoted s) := (LossKeeps.of_presetAll s).trans (.of_ride _ _)
    rw [ridePreset_of_enabled hen]
    split
    · exact hnoted
    · exact hnoted.trans (.of_evt _ 0x30 2)

/-! ### A node is lost (R183, R184) -/

/-- The node's state, its ramp and its event as it is lost. -/
def nodeLost (s : State) (k : Fin 2) : State := (s.modNode k fun n => { n with state := .lost, ramp := 0 }).evt 0x30 0

/-- A leg of an intake train at a dead node goes low. -/
def lowDeadLeg (s : State) (n : Leg) : State :=
  match legTrain s n with
  | some t => if nodeDead s t then s.modHw n LegHw.low else s
  | none => s

/-- Every leg at a dead node goes low. -/
def deadLegsLow (s : State) : State := forAll (n := 24) s lowDeadLeg

theorem nodeCheck_of_fed {s : State} {k : Fin 2} (h : ¬ ((s.x.nodes[k].state = .live ∨ s.x.nodes[k].state = .ramp) ∧ nodeFed s k = false)) :
    nodeCheck s k = s := by
  unfold nodeCheck
  exact if_neg (by simpa using h)

/-- A node that ran and has no enabled source in its window is lost: its legs go low, then the preset acts. -/
theorem nodeCheck_of_unfed {s : State} {k : Fin 2} (hst : s.x.nodes[k].state = .live ∨ s.x.nodes[k].state = .ramp)
    (hfed : nodeFed s k = false) : nodeCheck s k = ridePreset (deadLegsLow (nodeLost s k)) := by
  unfold nodeCheck
  exact if_pos (by simpa [hfed] using hst)

theorem LegsLower.of_lowDeadLeg (s : State) (n : Leg) : LegsLower s (lowDeadLeg s n) := by
  unfold lowDeadLeg
  split
  · split
    · exact .of_modHw s n _ fun _ _ _ => ⟨rfl, rfl⟩
    · exact .refl s
  · exact .refl s

theorem LegsLower.of_deadLegsLow (s : State) : LegsLower s (deadLegsLow s) :=
  forAll_keeps (P := LegsLower s) (.refl s) fun t n ht => ht.trans (.of_lowDeadLeg t n)

/-- The legs of an intake train at a dead node are low after the pass. -/
theorem deadLegsLow_low {s : State} {n : Leg} {m : Train} (hn : legTrain s n = some m) (hdead : nodeDead s m = true) :
    OutputsLow (deadLegsLow s) n := by
  refine forAll_reaches (P := LegsLower s) (Q := fun t => OutputsLow t n) n (.refl s) (fun t j ht => ht.trans (.of_lowDeadLeg t j))
    (fun t ht => ?_) (fun t j ht => (LegsLower.of_lowDeadLeg t j).low n ht)
  obtain ⟨⟨l, w, rfl⟩, -⟩ := ht
  have hn' : legTrain { s with cp := { s.cp with legs := l }, x := { s.x with hw := w } } n = some m := hn
  have hdead' : nodeDead { s with cp := { s.cp with legs := l }, x := { s.x with hw := w } } m = true := hdead
  simp [lowDeadLeg, hn', hdead', OutputsLow, LegHw.low]

/-- From the entry into LOST on, the legs' pass and the preset keep what they keep. -/
theorem nodeCheck_keeps_nodeLost {s : State} {k : Fin 2} (hst : s.x.nodes[k].state = .live ∨ s.x.nodes[k].state = .ramp)
    (hfed : nodeFed s k = false) : LossKeeps (nodeLost s k) (nodeCheck s k) := by
  rw [nodeCheck_of_unfed hst hfed]
  exact (LossKeeps.of_legs (.of_deadLegsLow _)).trans (.of_ridePreset _)

/-- Whether the node is lost or not, of the nodes only it may change. -/
theorem nodeCheck_keeps (s : State) (k : Fin 2) : ∃ v, LossKeeps { s with x := { s.x with nodes := upd s.x.nodes k v } } (nodeCheck s k) := by
  by_cases h : (s.x.nodes[k].state = .live ∨ s.x.nodes[k].state = .ramp) ∧ nodeFed s k = false
  · obtain ⟨hst, hfed⟩ := h
    exact ⟨_, (LossKeeps.of_evt _ 0x30 0).trans (nodeCheck_keeps_nodeLost hst hfed)⟩
  · refine ⟨s.x.nodes[k], ?_⟩
    rw [nodeCheck_of_fed h, upd_getElem]
    exact .refl s

theorem nodeLost_nodes (s : State) (k : Fin 2) :
    (nodeLost s k).x.nodes = upd s.x.nodes k { s.x.nodes[k] with state := .lost, ramp := 0 } := by
  rw [nodeLost, State.evt_x]
  rfl

theorem nodeLost_adopted (s : State) (k : Fin 2) : (nodeLost s k).cp.adopted = s.cp.adopted := by
  rw [nodeLost, State.evt_cp]
  rfl

/-- An intake train of the lost node has it dead. -/
theorem nodeDead_nodeLost {s : State} {k : Fin 2} {m : Train} (hkind : trKind s m = 1) (hnode : trNode s m = k) :
    nodeDead (nodeLost s k) m = true := by
  have hkind' : trKind (nodeLost s k) m = 1 := by rw [trKind, State.ad, nodeLost_adopted]; exact hkind
  have hnode' : trNode (nodeLost s k) m = k := by rw [trNode, trTerm, State.ad, nodeLost_adopted]; exact hnode
  have hlost : (nodeLost s k).x.nodes[k].state = .lost := by rw [nodeLost_nodes, upd_same]
  simpa [nodeDead, hkind', hnode'] using Or.inr hlost

/-! ### What the preset of a train reads (R197, R198) -/

/-- The same map and fences, and the same registers but for errors and events. -/
structure SameSetup (s t : State) : Prop where
  adopted : t.cp.adopted = s.cp.adopted
  fenced : t.x.fenced = s.x.fenced
  reg : ∀ a, a % 256 ≠ 4 → a % 256 ≠ 6 → t.reg a = s.reg a

theorem LossKeeps.setup {s t : State} (h : LossKeeps s t) : SameSetup s t := ⟨h.adopted, h.fenced, fun a _ ha => h.reg a ha⟩

namespace SameSetup

theorem trans {s t u : State} (h : SameSetup s t) (h' : SameSetup t u) : SameSetup s u :=
  ⟨h'.adopted.trans h.adopted, h'.fenced.trans h.fenced, fun a he hv => (h'.reg a he hv).trans (h.reg a he hv)⟩

theorem legsOf {s t : State} (h : SameSetup s t) (m : Train) : legsOf t m = legsOf s m := by
  simp only [Machine.legsOf, legTrain_congr h.adopted, pairOut, paired, State.ad, h.adopted]

theorem nAvailHere {s t : State} (h : SameSetup s t) (m : Train) : nAvailHere t m = nAvailHere s m := by
  have havail : legAvail t = legAvail s := by
    funext n
    simp only [legAvail, State.isFenced, h.fenced, paired, State.ad, h.adopted]
  rw [Machine.nAvailHere, Machine.nAvailHere, h.legsOf, havail]

theorem presetDemand {s t : State} (h : SameSetup s t) (m : Train) (total : Nat) : presetDemand t m total = presetDemand s m total := by
  have hlim : TR_ILIM_N_ILIM_N t m = TR_ILIM_N_ILIM_N s m := by
    rw [TR_ILIM_N_ILIM_N, h.reg _ (by unfold addr; omega) (by unfold addr; omega)]
    rfl
  rw [Machine.presetDemand, Machine.presetDemand, hlim, h.nAvailHere, nRatedHere, nRatedHere, h.legsOf]

theorem rideEnabled {s t : State} (h : SameSetup s t) : SRC_RIDE_EN t = SRC_RIDE_EN s := by
  rw [SRC_RIDE_EN, h.reg _ (by decide) (by decide)]
  rfl

theorem rideEligible {s t : State} (h : SameSetup s t) (htrains : t.cp.trains = s.cp.trains) (m : Train) :
    rideEligible t m = rideEligible s m := by
  have hport : portOf t m = portOf s m := by simp only [portOf, trTerm, State.ad, h.adopted]
  have hphase (p : BPort) : BP_PHASE_PHASE t p = BP_PHASE_PHASE s p := by
    rw [BP_PHASE_PHASE, h.reg _ (by unfold addr; omega) (by unfold addr; omega)]
    rfl
  have hmask : SRC_RIDE_TRAINS t = SRC_RIDE_TRAINS s := by
    rw [SRC_RIDE_TRAINS, h.reg _ (by decide) (by decide)]
    rfl
  have hspan : spanning t m = spanning s m := by
    rw [spanning, RG_SPAN_SPAN, h.reg _ (by decide) (by decide)]
    rfl
  simp only [Machine.rideEligible, hport, hphase, hmask, hspan, trKind, State.ad, h.adopted, htrains]

theorem rideDemands {s t : State} (h : SameSetup s t) :
    RIDE_DEM_A_DEM t = RIDE_DEM_A_DEM s ∧ RIDE_DEM_B_DEM t = RIDE_DEM_B_DEM s := by
  rw [RIDE_DEM_A_DEM, RIDE_DEM_B_DEM, h.reg _ (by decide) (by decide), h.reg _ (by decide) (by decide)]
  exact ⟨rfl, rfl⟩

theorem srcConfig {s t : State} (h : SameSetup s t) (j : Src) :
    srcNode t j = srcNode s j ∧ SRCs_CFG_POL t j = SRCs_CFG_POL s j := by
  have hreg := h.reg (addr 0x30 (0x30 + 8 * j)) (by unfold addr; omega) (by unfold addr; omega)
  rw [srcNode, srcNode, SRCs_CFG_NODE, SRCs_CFG_NODE, SRCs_CFG_POL, SRCs_CFG_POL, hreg]
  exact ⟨rfl, rfl⟩

end SameSetup

/-! ### The preset of one train (R198, R199) -/

/-- The train runs toward the rail with the demand d, held for the CE. -/
structure RideRun (s : State) (m : Train) (d : Nat) : Prop where
  state : s.cp.trains[m].state = .run
  dir : s.cp.trains[m].dir = true
  dem : s.cp.trains[m].dem = -(d : Int)
  held : s.x.ride.held[m] = true

theorem RideRun.congr {s t : State} {m : Train} {d : Nat} (h : RideRun s m d) (htrain : t.cp.trains[m] = s.cp.trains[m])
    (hheld : t.x.ride.held[m] = s.x.ride.held[m]) : RideRun t m d :=
  ⟨htrain ▸ h.state, htrain ▸ h.dir, htrain ▸ h.dem, hheld.trans h.held⟩

theorem presetRun_ride (s : State) (k : Train) (d : Nat) : (presetRun s k d).x.ride = s.x.ride := by
  obtain ⟨g, r, hshed⟩ := shedEvent_frame s k
  unfold presetRun
  generalize hp : State.modTrain _ k _ = p
  obtain ⟨r', hx⟩ := setTrain_x p k .run
  rw [hx, ← hp, hshed]
  rfl

theorem presetRun_same (s : State) (k : Train) (d : Nat) : ∃ v : TrainSt, (presetRun s k d).cp.trains[k] =
    { v with state := .run, dir := true, dem := -(d : Int) } := by
  rw [presetRun, setTrain_trains, upd_same, State.modTrain_cp, upd_same]
  exact ⟨_, rfl⟩

theorem presetRun_other (s : State) {k m : Train} (h : m ≠ k) (d : Nat) : (presetRun s k d).cp.trains[m] = s.cp.trains[m] := by
  obtain ⟨g, r, hshed⟩ := shedEvent_frame s k
  rw [presetRun, setTrain_trains, upd_other _ k m _ h, State.modTrain_cp, upd_other _ k m _ h, hshed]

theorem rideRun_presetTrain {s : State} {m : Train} (h : nAvailHere s m ≠ 0) (total : Nat) :
    RideRun (presetTrain s m total) m (presetDemand s m total) := by
  obtain ⟨share, hpreset⟩ := presetTrain_of_avail h total
  obtain ⟨v, hv⟩ := presetRun_same s m (presetDemand s m total)
  have htrain : (presetTrain s m total).cp.trains[m] = (presetRun s m (presetDemand s m total)).cp.trains[m] := by
    rw [hpreset, holdRide, presetLegs_trains]
  rw [hv] at htrain
  refine ⟨by rw [htrain], by rw [htrain], by rw [htrain], ?_⟩
  rw [hpreset]
  exact upd_same _ m true

/-- The preset of another train leaves it to run. -/
theorem RideRun.presetTrain_other {s : State} {k m : Train} {d : Nat} (h : RideRun s m d) (hk : m ≠ k) (total : Nat) :
    RideRun (presetTrain s k total) m d := by
  by_cases hav : nAvailHere s k = 0
  · rw [presetTrain_of_none hav]
    exact h
  · obtain ⟨share, hpreset⟩ := presetTrain_of_avail hav total
    rw [hpreset]
    refine h.congr ?_ ?_
    · rw [holdRide, presetLegs_trains, presetRun_other s hk]
    · rw [holdRide, presetLegs_ride, presetRun_ride]
      exact upd_other _ k m true hk

/-! ### The preset of a node loss (R197, R198, R202) -/

/-- An eligible train with a leg available runs after the pass, with its demand as the pass found it. -/
theorem rideRun_presetAll {s : State} {m : Train} (hel : rideEligible s m = true) (hav : nAvailHere s m ≠ 0) :
    RideRun (presetAll s) m (presetDemand s m (rideTotal s)) := by
  have hpick : (rideEligible s m && nAvailHere s m != 0) = true := by simpa [hel] using hav
  have hvisit (t : State) (ht : LossKeeps s t) : RideRun (presetTrain t m (rideTotal s)) m (presetDemand s m (rideTotal s)) := by
    rw [← ht.setup.presetDemand]
    exact rideRun_presetTrain (by rw [ht.setup.nAvailHere]; exact hav) _
  refine (forAll_reaches (P := LossKeeps s) (Q := fun t => LossKeeps s t ∧ RideRun t m (presetDemand s m (rideTotal s))) m (.refl s)
    (fun t k ht => ?_) (fun t ht => ?_) (fun t k ⟨ht, hrun⟩ => ?_)).2
  · split
    · exact ht.trans (.of_presetTrain t k _)
    · exact ht
  · rw [if_pos hpick]
    exact ⟨ht.trans (.of_presetTrain t m _), hvisit t ht⟩
  · split
    · refine ⟨ht.trans (.of_presetTrain t k _), ?_⟩
      by_cases hk : m = k
      · subst hk
        exact hvisit t ht
      · exact hrun.presetTrain_other hk _
    · exact ⟨ht, hrun⟩

/-- The preset of a node loss: the train runs, the tick is noted, the event is set. -/
theorem ridePreset_runs {s : State} {m : Train} (hen : SRC_RIDE_EN s = true) (hel : rideEligible s m = true) (hav : nAvailHere s m ≠ 0) :
    RideRun (ridePreset s) m (presetDemand s m (rideTotal s)) ∧ (ridePreset s).x.ride.fired = s.x.tick.count ∧ EvtSet (ridePreset s) 0x30 2 := by
  have hsome : ¬ (presetTrains s).isEmpty = true := by
    rw [List.isEmpty_iff]
    exact List.ne_nil_of_mem (List.mem_filter.mpr ⟨List.mem_finRange m, by simpa [hel] using hav⟩)
  rw [ridePreset_of_enabled hen, if_neg hsome]
  refine ⟨(rideRun_presetAll hel hav).congr ?_ ?_, ?_, State.evt_same _ 0x30 2 (by decide)⟩
  · rw [State.evt_cp]
    rfl
  · rw [State.evt_x]
    rfl
  · rw [State.evt_x, presetNoted]
    dsimp only
    rw [if_neg hsome, (LossKeeps.of_presetAll s).tick]

/-! ### The lines of an error whose reaction leaves the pins (R385) -/

theorem pinShutdown_of_mild {code : Nat} (h : code ≤ 2) (s : State) : pinShutdown s code = s := by
  have h3 : code ≠ 3 := by omega
  have h4 : code ≠ 4 := by omega
  simp [pinShutdown, h3, h4]

/-- A latched line that is reported or fences at most (codes 0 to 2) moves no enable. -/
theorem latch_srcEn {s : State} {b : Nat} (h : react s b ≤ 2) : (latch s b).x.srcEn = s.x.srcEn := by
  unfold latch
  split
  · rfl
  · split
    · rfl
    · dsimp only
      generalize hs : State.modCol s _ = s'
      have hen : (noteLine s' b).x.srcEn = s.x.srcEn := by rw [← hs]; rfl
      rw [pinShutdown_of_mild (show react s' b ≤ 2 by rw [← hs]; exact h)]
      split
      · obtain ⟨l, hl⟩ := larderTrigger_frame (noteLine s' b) 2 b
        rw [fltPin, State.modCol_x, hl]
        exact hen
      · exact hen

/-- An error of the SRC page whose reaction leaves the pins moves no enable. -/
theorem raise_src_srcEn {s : State} (b : Nat) (h : react s 9 ≤ 2) : (raise s 0x30 b).x.srcEn = s.x.srcEn := by
  have hset : ((noteCheck s 0x30 (oneHot b)).orReg (a_PG_ERR 0x30) (oneHot b)).x.srcEn = s.x.srcEn := by rw [State.orReg_x]; rfl
  have hreact : react ((noteCheck s 0x30 (oneHot b)).orReg (a_PG_ERR 0x30) (oneHot b)) 9 = react s 9 := by
    rw [react, FLT_REACT_W, State.reg_orReg_other _ _ _ _ (by decide)]
    rfl
  exact (latch_srcEn (hreact ▸ h)).trans hset

/-! ### A comparator fires (R179, R181, R183) -/

/-- What the firing of source i's comparator leaves before its node is looked at: the setup, the nodes and the other sources, and the
source is not an enabled one in its window. -/
structure Firing (s u : State) (i : Src) : Prop where
  setup : SameSetup s u
  nodes : u.x.nodes = s.x.nodes
  cal : u.x.cal = s.x.cal
  others : ∀ j : Src, j ≠ i → u.x.src[j] = s.x.src[j] ∧ u.x.srcEn[j] = s.x.srcEn[j]
  out : inWindow u i = false

/-- No source of node k but source i is enabled and in its window. -/
def OnlyFeed (s : State) (i : Src) (k : Fin 2) : Prop :=
  ∀ j : Src, j ≠ i → srcNode s j = k → ¬ (srcActive s j = true ∧ inWindow s j = true)

/-- Node k is lost if it ran on source i alone, with its event and its legs low; the other node stays. -/
def LosesNode (s t : State) (i : Src) (k : Fin 2) : Prop :=
  (s.x.nodes[k].state = .live ∨ s.x.nodes[k].state = .ramp → OnlyFeed s i k →
    t.x.nodes[k].state = .lost ∧ t.x.nodes[k].ramp = 0 ∧ EvtSet t 0x30 0 ∧
    ∀ (n : Leg) (m : Train), legTrain s n = some m → trKind s m = 1 → trNode s m = k → OutputsLow t n) ∧
  t.x.nodes[1 - k] = s.x.nodes[1 - k]

/-- Without another source the node is not fed once the comparator has fired. -/
theorem Firing.unfed {s u : State} {i : Src} (h : Firing s u i) {k : Fin 2} (hlast : OnlyFeed s i k) : nodeFed u k = false := by
  rw [nodeFed, List.any_eq_false]
  intro j _ hj
  simp only [Bool.and_eq_true, beq_iff_eq] at hj
  obtain ⟨⟨hnode, hact⟩, hwin⟩ := hj
  by_cases hji : j = i
  · subst hji
    rw [h.out] at hwin
    exact Bool.false_ne_true hwin
  · obtain ⟨hsrc, hen⟩ := h.others j hji
    obtain ⟨hn, hpol⟩ := h.setup.srcConfig j
    refine hlast j hji (hn ▸ hnode) ⟨?_, ?_⟩
    · rw [← hact, srcActive, srcActive, hen, hpol]
    · rw [← hwin, inWindow, inWindow, calSrc, calSrc, h.cal, hsrc]

/-- The check of the node after a firing. -/
theorem Firing.losesNode {s u : State} {i : Src} (h : Firing s u i) (k : Fin 2) : LosesNode s (nodeCheck u k) i k := by
  refine ⟨fun hst hlast => ?_, ?_⟩
  · have hst' : u.x.nodes[k].state = .live ∨ u.x.nodes[k].state = .ramp := by rw [h.nodes]; exact hst
    have hfed := h.unfed hlast
    have hkeeps := nodeCheck_keeps_nodeLost hst' hfed
    have hnode : (nodeCheck u k).x.nodes[k] = { u.x.nodes[k] with state := .lost, ramp := 0 } := by
      rw [hkeeps.nodes, nodeLost_nodes, upd_same]
    refine ⟨by rw [hnode], by rw [hnode], hkeeps.evt 0x30 0 (State.evt_same _ 0x30 0 (by decide)), fun n m hn hkind hm => ?_⟩
    rw [nodeCheck_of_unfed hst' hfed]
    refine (LossKeeps.of_ridePreset _).low n (deadLegsLow_low (m := m) ?_ (nodeDead_nodeLost ?_ ?_))
    · rw [legTrain_congr ((nodeLost_adopted u k).trans h.setup.adopted), hn]
    · rw [trKind, State.ad, h.setup.adopted]
      exact hkind
    · rw [trNode, trTerm, State.ad, h.setup.adopted]
      exact hm
  · obtain ⟨v, hkeeps⟩ := nodeCheck_keeps u k
    rw [hkeeps.nodes, upd_other _ k (1 - k) v (by omega), h.nodes]

/-- The state once the UV comparator of source i shows its level. -/
def uvShown (s : State) (i : Src) : State := s.modSrc i fun v => { v with uv := true, winTicks := 0 }

theorem firing_uvShown (s : State) (i : Src) : Firing s (uvShown s i) i where
  setup := ⟨rfl, rfl, fun _ _ _ => rfl⟩
  nodes := rfl
  cal := rfl
  others j hj := ⟨upd_other _ i j _ hj, rfl⟩
  out := by
    rw [inWindow, uvShown, State.modSrc_x, upd_same]
    simp

/-- The state once the OV comparator of source i shows its level and OVOFF, with the enable inactive where hardware may move it. -/
def ovDriven (s : State) (i : Src) : State :=
  let s := s.modSrc i fun v => { v with ov := true, ovOff := true, winTicks := 0 }
  if enablesLive s then { s with x := { s.x with srcEn := upd s.x.srcEn i (SRCs_CFG_POL s i) } } else s

theorem ovDriven_frame (s : State) (i : Src) : ∃ e, ovDriven s i =
    { s with x := { s.x with src := upd s.x.src i { s.x.src[i] with ov := true, ovOff := true, winTicks := 0 }, srcEn := e } } := by
  unfold ovDriven
  dsimp only
  split <;> exact ⟨_, rfl⟩

theorem ovDriven_srcEn {s : State} (i : Src) (hlive : enablesLive s = true) :
    (ovDriven s i).x.srcEn = upd s.x.srcEn i (SRCs_CFG_POL s i) := by
  unfold ovDriven
  dsimp only
  rw [if_pos (show enablesLive (s.modSrc i _) = true from hlive)]
  rfl

/-- The state once SRC.PG_ERR.OV is set too. -/
def ovShown (s : State) (i : Src) : State := raise (ovDriven s i) 0x30 0

theorem ovShown_src (s : State) (i : Src) :
    (ovShown s i).x.src = upd s.x.src i { s.x.src[i] with ov := true, ovOff := true, winTicks := 0 } := by
  obtain ⟨e, he⟩ := ovDriven_frame s i
  rw [ovShown, raise_x, he]

theorem ovShown_srcEn {s : State} (i : Src) (hreact : react s 9 ≤ 2) (hlive : enablesLive s = true) :
    (ovShown s i).x.srcEn = upd s.x.srcEn i (SRCs_CFG_POL s i) := by
  obtain ⟨e, he⟩ := ovDriven_frame s i
  have hreact' : react (ovDriven s i) 9 ≤ 2 := by rw [he]; exact hreact
  rw [ovShown, raise_src_srcEn 0 hreact', ovDriven_srcEn i hlive]

theorem firing_ovShown {s : State} {i : Src} (hreact : react s 9 ≤ 2) (hlive : enablesLive s = true) : Firing s (ovShown s i) i := by
  have hen := ovShown_srcEn i hreact hlive
  have hsrc := ovShown_src s i
  obtain ⟨e, he⟩ := ovDriven_frame s i
  refine ⟨⟨?_, ?_, fun a ha _ => ?_⟩, ?_, ?_, fun j hj => ?_, ?_⟩
  · rw [ovShown, raise_cp, he]
  · rw [ovShown, raise_x, he]
  · rw [ovShown, raise_other _ 0x30 0 a (by unfold a_PG_ERR addr; omega), he]
    rfl
  · rw [ovShown, raise_x, he]
  · rw [ovShown, raise_x, he]
  · rw [hsrc, hen]
    exact ⟨upd_other _ i j _ hj, upd_other _ i j _ hj⟩
  · rw [inWindow, hsrc, upd_same]
    simp

/-! ### The commands of the sources -/

theorem exec_sourceUvFire (i : Src) (s : State) : exec (.sourceUvFire i) s = .next (nodeCheck (uvShown s i) (srcNode s i)) := rfl

theorem exec_sourceOvFire (i : Src) (s : State) : exec (.sourceOvFire i) s = .next (nodeCheck (ovShown s i) (srcNode s i)) := by
  have hnode : srcNode (ovDriven s i) i = srcNode s i := by
    obtain ⟨e, he⟩ := ovDriven_frame s i
    rw [he]
    rfl
  rw [← hnode]
  rfl

/-- The UV comparator fires. -/
theorem sourceUvFire_shows (i : Src) (s : State) :
    ∃ t, exec (.sourceUvFire i) s = .next t ∧ t.x.src[i] = { s.x.src[i] with uv := true, winTicks := 0 } ∧
      (∀ j : Src, j ≠ i → t.x.src[j] = s.x.src[j] ∧ t.x.srcEn[j] = s.x.srcEn[j]) ∧ t.x.srcEn[i] = s.x.srcEn[i] ∧
      LosesNode s t i (srcNode s i) := by
  obtain ⟨v, hkeeps⟩ := nodeCheck_keeps (uvShown s i) (srcNode s i)
  refine ⟨_, exec_sourceUvFire i s, ?_, fun j hj => ?_, ?_, (firing_uvShown s i).losesNode _⟩
  · rw [hkeeps.src]
    exact upd_same _ i _
  · rw [hkeeps.src, hkeeps.srcEn]
    exact (firing_uvShown s i).others j hj
  · rw [hkeeps.srcEn]
    rfl

/-- The OV comparator fires. -/
theorem sourceOvFire_shows (i : Src) (s : State) :
    ∃ t, exec (.sourceOvFire i) s = .next t ∧ t.x.src = upd s.x.src i { s.x.src[i] with ov := true, ovOff := true, winTicks := 0 } ∧
      ErrSet t 0x30 0 ∧ (react s 9 ≤ 2 → enablesLive s = true →
        t.x.srcEn = upd s.x.srcEn i (SRCs_CFG_POL s i) ∧ LosesNode s t i (srcNode s i)) := by
  obtain ⟨v, hkeeps⟩ := nodeCheck_keeps (ovShown s i) (srcNode s i)
  refine ⟨_, exec_sourceOvFire i s, ?_, ?_, fun hreact hlive => ⟨?_, (firing_ovShown hreact hlive).losesNode _⟩⟩
  · rw [hkeeps.src]
    exact ovShown_src s i
  · rw [ErrSet, hkeeps.reg _ (by decide)]
    exact raise_same _ 0x30 0 (by decide)
  · rw [hkeeps.srcEn]
    exact ovShown_srcEn i hreact hlive

/-- A device that neither sleeps nor enters SLEEP has nothing to wake. -/
theorem wakeBy_of_awake {s : State} (hdev : s.x.dev ≠ .sleep) (hsleeping : s.x.pwr.sleeping = false) (w : WakeSource) : wakeBy s w = s := by
  simp [wakeBy, hdev, hsleeping]

/-- A wake touches the power state and registers outside the checkpoint. -/
theorem wakeBy_frame (s : State) (w : WakeSource) : ∃ r p, wakeBy s w = { s with x := { s.x with regs := r, pwr := p } } := by
  unfold wakeBy
  split
  · have hext : isExt (addr 0xE0 6) = true := by decide
    rw [State.evt_eq, State.setReg, if_pos hext]
    exact ⟨_, _, rfl⟩
  · exact ⟨_, _, rfl⟩

/-- An enabled wake source ends SLEEP, with its event (R521). -/
theorem wakeBy_of_asleep {s : State} {w : WakeSource} (hdev : s.x.dev = .sleep) (hwaking : s.x.pwr.waking = false)
    (hon : wakeOn s w = true) : (wakeBy s w).x.pwr.waking = true ∧ EvtSet (wakeBy s w) 0xE0 2 := by
  unfold wakeBy
  rw [if_pos (by simp [hdev, hwaking, hon])]
  refine ⟨?_, State.evt_same _ 0xE0 2 (by decide)⟩
  rw [State.evt_x]

/-- The state once a comparator of source i shows that it has cleared. -/
def cleared (s : State) (i : Src) (ov : Bool) : State :=
  s.modSrc i fun v => if ov then { v with ov := false } else { v with uv := false }

/-- The clearing comparator ended a firing: the source may wake the device. -/
theorem exec_sourceComparatorClear_fired {s : State} {i : Src} (h : s.x.src[i].uv = true ∨ s.x.src[i].ov = true) (ov : Bool) :
    exec (.sourceComparatorClear i ov) s = .next (wakeBy (cleared s i ov) (.src i)) :=
  congrArg Host.Outcome.next (if_pos (Bool.or_eq_true_iff.mpr h))

theorem exec_sourceComparatorClear_quiet {s : State} {i : Src} (huv : s.x.src[i].uv = false) (hov : s.x.src[i].ov = false) (ov : Bool) :
    exec (.sourceComparatorClear i ov) s = .next (cleared s i ov) :=
  congrArg Host.Outcome.next (if_neg (by rw [huv, hov]; decide))

/-- The level is shown, and besides at most the device wakes. -/
theorem sourceComparatorClear_wakes (i : Src) (ov : Bool) (s : State) :
    ∃ t, exec (.sourceComparatorClear i ov) s = .next t ∧ t.cp = s.cp ∧ t.x.src = (cleared s i ov).x.src ∧ t.x.srcEn = s.x.srcEn ∧
      t.x.nodes = s.x.nodes ∧
      (s.x.dev = .sleep → s.x.pwr.waking = false → s.x.src[i].uv = true ∨ s.x.src[i].ov = true →
        wakeOn (cleared s i ov) (.src i) = true → t.x.pwr.waking = true ∧ EvtSet t 0xE0 2) := by
  by_cases hfired : s.x.src[i].uv = true ∨ s.x.src[i].ov = true
  · obtain ⟨r, p, hwake⟩ := wakeBy_frame (cleared s i ov) (.src i)
    exact ⟨_, exec_sourceComparatorClear_fired hfired ov, congrArg (·.cp) hwake, congrArg (·.x.src) hwake, congrArg (·.x.srcEn) hwake,
      congrArg (·.x.nodes) hwake, fun hdev hwaking _ hon => wakeBy_of_asleep hdev hwaking hon⟩
  · obtain ⟨huv, hov⟩ := not_or.mp hfired
    exact ⟨_, exec_sourceComparatorClear_quiet (by simpa using huv) (by simpa using hov) ov, rfl, rfl, rfl, rfl,
      fun _ _ hf => absurd hf hfired⟩

/-- The comparators of a source: firing, and clearing. -/
theorem sourceComparators : Claims.SourceComparators := by
  intro i ov s
  refine ⟨sourceUvFire_shows i s, sourceOvFire_shows i s, fun hdev hsleeping => ?_,
    fun huv hov => exec_sourceComparatorClear_quiet huv hov ov, sourceComparatorClear_wakes i ov s⟩
  by_cases hfired : s.x.src[i].uv = true ∨ s.x.src[i].ov = true
  · exact (exec_sourceComparatorClear_fired hfired ov).trans (congrArg _ (wakeBy_of_awake (s := cleared s i ov) hdev hsleeping _))
  · obtain ⟨huv, hov⟩ := not_or.mp hfired
    exact exec_sourceComparatorClear_quiet (by simpa using huv) (by simpa using hov) ov

/-! ### The return of a node, the factory list, the takeover (R183, R187, R200) -/

theorem nodeReady_of_source {s : State} {k : Fin 2} {i : Src} (hnode : srcNode s i = k) (hact : srcActive s i = true)
    (hwin : inWindow s i = true) (hret : SRC_NODE_RET s < s.x.src[i].winTicks) : nodeReady s k = true :=
  List.any_eq_true.mpr ⟨i, List.mem_finRange i, by simpa [hnode, hact, hwin] using hret⟩

theorem exec_nodeRampStart {s : State} {k : Fin 2} (hst : s.x.nodes[k].state = .none ∨ s.x.nodes[k].state = .lost)
    (hready : nodeReady s k = true) : exec (.nodeRampStart k) s = .next (s.modNode k fun _ => { state := .ramp, ramp := 0 }) :=
  if_pos (by simpa [hready] using hst)

theorem exec_nodeLive {s : State} {k : Fin 2} (hst : s.x.nodes[k].state = .ramp) (hfull : 32767 ≤ s.x.nodes[k].ramp) :
    exec (.nodeLive k) s = .next ((s.modNode k fun n => { n with state := .live }).evt 0x30 1) :=
  if_pos (Bool.and_eq_true_iff.mpr ⟨decide_eq_true hst, decide_eq_true hfull⟩)

theorem exec_sourceListStall {s : State} (hauto : SRC_CTRL_AUTO s = true) (hrun : s.x.dev = .run) (hstill : 64 ≤ s.x.listStill) :
    exec .sourceListStall s = .next (raise s 0x30 1) :=
  if_pos (by simpa [hauto, hrun] using hstill)

/-- The trains that the preset held are with the CE. -/
def ridesTaken (s : State) : State :=
  { s with x := { s.x with ride := { s.x.ride with held := Vector.replicate 8 false, taken := s.x.ride.held } } }

theorem exec_rideThroughTakeover {s : State} (h : s.x.ride.fired < s.x.tick.count) : exec .rideThroughTakeover s = .next (ridesTaken s) :=
  if_pos h

theorem nodesReturn : Claims.NodesReturn := by
  intro k i s
  refine ⟨fun hst hnode hact hwin hret => exec_nodeRampStart hst (nodeReady_of_source hnode hact hwin hret), fun hst hfull => ?_,
    fun hauto hrun hstill => ⟨_, exec_sourceListStall hauto hrun hstill, raise_only s 0x30 1 (by decide)⟩,
    fun hlate => ⟨_, exec_rideThroughTakeover hlate, fun m => Vector.getElem_replicate m.isLt, rfl⟩⟩
  refine ⟨_, exec_nodeLive hst hfull, ?_, State.evt_same _ 0x30 1 (by decide), fun a ha => State.evt_other _ 0x30 1 a ha⟩
  rw [State.evt_x]
  rfl

/-- Settles O33: the check of its node after a firing keeps all but the node, its legs and the preset; the other commands each take the one
branch that the statement names. -/
theorem sourcesAndNodes : Obligations.SourcesAndNodes := ⟨sourceComparators, nodesReturn⟩

/-! ### The ride-through preset of a firing (R197, R198) -/

/-- The nodes that the preset finds lost are the one just lost and those lost before. -/
theorem nodeLost_lost_iff (s : State) (k n : Fin 2) :
    (nodeLost s k).x.nodes[n].state = .lost ↔ n = k ∨ s.x.nodes[n].state = .lost := by
  rw [nodeLost_nodes]
  by_cases hn : n = k
  · subst hn
    rw [upd_same]
    simp
  · rw [upd_other _ k n _ hn]
    simp [hn]

/-- The loss of a node leaves the setup. -/
theorem sameSetup_nodeLost (s : State) (k : Fin 2) : SameSetup s (nodeLost s k) :=
  (⟨rfl, rfl, fun _ _ _ => rfl⟩ : SameSetup s (s.modNode k _)).trans (LossKeeps.of_evt _ 0x30 0).setup

/-- The demands of the nodes lost with node k, saturated. -/
def lossTotal (s : State) (k : Fin 2) : Nat :=
  let dem (n : Fin 2) (d : Nat) : Nat := if n = k ∨ s.x.nodes[n].state = .lost then d else 0
  min 32767 (dem 0 (RIDE_DEM_A_DEM s) + dem 1 (RIDE_DEM_B_DEM s))

/-- The preset of a lost node, in the terms of the state before the loss. -/
theorem nodeCheck_rides {u : State} {k : Fin 2} {m : Train} (hst : u.x.nodes[k].state = .live ∨ u.x.nodes[k].state = .ramp)
    (hfed : nodeFed u k = false) (hen : SRC_RIDE_EN u = true) (hel : rideEligible u m = true) (hav : nAvailHere u m ≠ 0) :
    RideRun (nodeCheck u k) m (presetDemand u m (lossTotal u k)) ∧ (nodeCheck u k).x.ride.fired = u.x.tick.count ∧
      EvtSet (nodeCheck u k) 0x30 2 := by
  have hlow := LegsLower.of_deadLegsLow (nodeLost u k)
  have hsetup := (sameSetup_nodeLost u k).trans (LossKeeps.of_legs hlow).setup
  have htrains : (deadLegsLow (nodeLost u k)).cp.trains = u.cp.trains := by
    obtain ⟨l, hcp⟩ := hlow.cp
    rw [hcp, nodeLost, State.evt_cp]
    rfl
  have htick : (deadLegsLow (nodeLost u k)).x.tick = u.x.tick := by
    rw [(LossKeeps.of_legs hlow).tick, nodeLost, State.evt_x]
    rfl
  have htotal : rideTotal (deadLegsLow (nodeLost u k)) = lossTotal u k := by
    obtain ⟨ha, hb⟩ := hsetup.rideDemands
    simp only [rideTotal, lossTotal, ha, hb, (LossKeeps.of_legs hlow).nodes, nodeLost_lost_iff]
  have hruns := ridePreset_runs (hsetup.rideEnabled.trans hen) ((hsetup.rideEligible htrains m).trans hel)
    (by rw [hsetup.nAvailHere]; exact hav)
  rw [htotal, hsetup.presetDemand, htick] at hruns
  rw [nodeCheck_of_unfed hst hfed]
  exact hruns

/-- The demand as an integer. -/
theorem presetDemand_cast (s : State) (m : Train) (total : Nat) : (presetDemand s m total : Int) =
    min (total : Int) ((TR_ILIM_N_ILIM_N s m : Int) * (nAvailHere s m : Int) / (nRatedHere s m : Int)) := by
  rw [presetDemand, ← Int.natCast_mul, ← Int.natCast_ediv]
  omega

/-- Settles O32: the UV comparator takes the node's last source out of its window, and the check of the node presets the train. -/
theorem rideThroughPreset : Obligations.RideThroughPreset := by
  intro i m s _ _ _ hst hlast hen hel hav
  obtain ⟨⟨hrun, hdir, hdem, hheld⟩, hfired, hevt⟩ := nodeCheck_rides (u := uvShown s i) hst ((firing_uvShown s i).unfed hlast) hen hel hav
  refine ⟨_, exec_sourceUvFire i s, hrun, hdir, ?_, hheld, hfired, hevt⟩
  rw [hdem]
  exact congrArg Neg.neg (presetDemand_cast s m _)

end Sys2Proof.Machine

/-! PROOFS. The guard and the safety timers of a battery port: the bits of an error mask, what the guard of one tick does to its port, the two
timers, and the obligation on them (O34). -/

namespace Sys2Proof.Machine

/-! ### A mask of errors -/

/-- A unit that raises a mask of errors sets its bits, and no other, in its PG_ERR. -/
theorem raiseMask_reg_same (s : State) (page : Nat) (m : Word) :
    (raiseMask s page m).reg (a_PG_ERR page) = s.reg (a_PG_ERR page) ||| m := by
  unfold raiseMask
  obtain ⟨c, h, e, b, y, hl⟩ := latches_frame (pageLines page) ((noteCheck s page m).orReg (a_PG_ERR page) m)
  rw [hl]
  exact State.reg_orReg_same (noteCheck s page m) (a_PG_ERR page) m

theorem errSet_raiseMask (s : State) (page : Nat) {m : Word} {b : Nat} (h : bit m b = true) : ErrSet (raiseMask s page m) page b := by
  rw [ErrSet, raiseMask_reg_same, bit_or, h, Bool.or_true]

/-- A mask of three flags holds each at its place. -/
theorem bit_flags (x y z : Bool) :
    bit (bitAt x 0 ||| bitAt y 1 ||| bitAt z 2) 0 = x ∧ bit (bitAt x 0 ||| bitAt y 1 ||| bitAt z 2) 1 = y ∧
      bit (bitAt x 0 ||| bitAt y 1 ||| bitAt z 2) 2 = z := by
  revert x y z
  decide

/-! ### The least cause (R232) -/

/-- A FAULT is forced, with the cause c or one of a lower code. -/
def ForcedBy (force : Option Nat) (c : Nat) : Prop := ∃ f, force = some f ∧ f ≤ c

theorem firstCause_none (o : Option Nat) : firstCause o none = o := by cases o <;> rfl

theorem firstCause_some (o : Option Nat) (c : Nat) : firstCause o (some c) = some (match o with | some f => min f c | none => c) := by
  cases o <;> rfl

/-- Another cause does not put back one that is forced. -/
theorem ForcedBy.firstCause_left {a : Option Nat} {c : Nat} (h : ForcedBy a c) (b : Option Nat) : ForcedBy (firstCause a b) c := by
  obtain ⟨f, rfl, hf⟩ := h
  cases b with
  | none => exact ⟨f, rfl, hf⟩
  | some g => exact ⟨min f g, rfl, Nat.le_trans (Nat.min_le_left f g) hf⟩

theorem ForcedBy.firstCause_right {b : Option Nat} {c : Nat} (h : ForcedBy b c) (a : Option Nat) : ForcedBy (firstCause a b) c := by
  obtain ⟨g, rfl, hg⟩ := h
  cases a with
  | none => exact ⟨g, rfl, hg⟩
  | some f => exact ⟨min f g, rfl, Nat.le_trans (Nat.min_le_right f g) hg⟩

/-! ### One unit put back as it is -/

/-- An update of a port is what it gives for the port as it is. -/
theorem State.modBat_congr {s : State} {p : BPort} {f g : BatSt → BatSt} (h : f s.cp.bat[p] = g s.cp.bat[p]) :
    s.modBat p f = s.modBat p g := by
  rw [State.modBat, State.modBat, h]

theorem State.modBat_self {s : State} {p : BPort} {f : BatSt → BatSt} (h : f s.cp.bat[p] = s.cp.bat[p]) : s.modBat p f = s := by
  rw [State.modBat, h, upd_getElem]

/-! ### What the guard finds in one tick (R231, R232) -/

/-- The port's temperature is above TDMAX. -/
def tooHot (s : State) (p : BPort) : Bool := (bpTemp s p).any fun d => decide (GDp_TDMAX_I s p < d)

theorem tooHot_iff (s : State) (p : BPort) : tooHot s p = true ↔ ∃ d, bpTemp s p = some d ∧ GDp_TDMAX_I s p < d := by
  simp [tooHot, Option.any_eq_true]

/-- A trip of V comes in this tick. -/
def freshV (s : State) (p : BPort) : Bool := GDp_CFG_N s p ≤ s.cp.bat[p].vCnt && !s.cp.bat[p].trips.v
/-- A trip of I comes in this tick. -/
def freshI (s : State) (p : BPort) : Bool := GDp_CFG_N s p ≤ s.cp.bat[p].iCnt && !s.cp.bat[p].trips.i
/-- A trip of TD comes in this tick. -/
def freshTd (s : State) (p : BPort) : Bool := tooHot s p && !s.cp.bat[p].trips.td

/-- The bits of BAT.PG_ERR of the trips that come (R233). -/
def freshMask (s : State) (p : BPort) : Word := bitAt (freshV s p) 0 ||| bitAt (freshI s p) 1 ||| bitAt (freshTd s p) 2

/-- The cause of the first trip that comes. -/
def freshCause (s : State) (p : BPort) : Option Nat :=
  ([(1, freshV s p), (2, freshI s p), (3, freshTd s p)].find? (·.2)).map (·.1)

/-- The trips that stand after the tick. -/
def tripsAfter (s : State) (p : BPort) : Trips :=
  let t := s.cp.bat[p].trips
  { t with
    v := t.v || freshV s p, i := t.i || freshI s p, td := t.td || freshTd s p, vd := t.vd || GDp_CFG_N s p ≤ s.cp.bat[p].vdCnt }

/-- The cause that standing trips force on a port in another phase than ABSENT and FAULT (R220). -/
def standingCause (s : State) (p : BPort) (t : Trips) : Option Nat :=
  if BP_PHASE_PHASE s p == 0 || BP_PHASE_PHASE s p == 9 then none else t.latched

theorem standingCause_none {s : State} {p : BPort} {t : Trips}
    (h : t.latched = none ∨ BP_PHASE_PHASE s p = 0 ∨ BP_PHASE_PHASE s p = 9) : standingCause s p t = none := by
  rcases h with h | h | h
  · rw [standingCause, h, ite_self]
  · rw [standingCause, h]
    rfl
  · rw [standingCause, h]
    rfl

theorem standingCause_latched {s : State} {p : BPort} {t : Trips} {c : Nat} (h : t.latched = some c)
    (habsent : BP_PHASE_PHASE s p ≠ 0) (hfault : BP_PHASE_PHASE s p ≠ 9) : standingCause s p t = some c := by
  simp [standingCause, habsent, hfault, h]

/-- The port after its guard. -/
def guarded (s : State) (p : BPort) (b : BatSt) : BatSt :=
  { b with
    trips := tripsAfter s p
    releaseDue := b.releaseDue || freshTd s p
    force := firstCause (firstCause b.force (freshCause s p)) (standingCause s p (tripsAfter s p)) }

/-- The guard of a port updates it, and raises the trips that come. -/
theorem guardTrip_eq (s : State) (p : BPort) : guardTrip s p =
    if freshMask s p == 0 then s.modBat p (guarded s p) else raiseMask (s.modBat p (guarded s p)) (batPage p) (freshMask s p) := by
  unfold guardTrip guarded tripsAfter freshMask freshCause freshTd tooHot
  cases bpTemp s p <;> rfl

theorem guardTrip_bat (s : State) (p : BPort) : (guardTrip s p).cp.bat = upd s.cp.bat p (guarded s p s.cp.bat[p]) := by
  rw [guardTrip_eq]
  split
  · rfl
  · rw [raiseMask_cp]
    rfl

/-- A bit of the mask is set in BAT.PG_ERR. -/
theorem errSet_guardTrip {s : State} {p : BPort} {b : Nat} (h : bit (freshMask s p) b = true) : ErrSet (guardTrip s p) (batPage p) b := by
  have hsome : ¬ (freshMask s p == 0) = true := fun hz => by
    rw [beq_iff_eq.mp hz] at h
    simp [bit] at h
  rw [guardTrip_eq, if_neg hsome]
  exact errSet_raiseMask _ _ h

/-- Of the trips that come, the first forces its cause, and so no later one a higher code. -/
theorem freshCause_forcedBy (s : State) (p : BPort) :
    (freshV s p = true → ForcedBy (freshCause s p) 1) ∧ (freshI s p = true → ForcedBy (freshCause s p) 2) ∧
      (freshTd s p = true → ForcedBy (freshCause s p) 3) := by
  unfold freshCause
  cases freshV s p with
  | true => exact ⟨fun _ => ⟨1, rfl, by decide⟩, fun _ => ⟨1, rfl, by decide⟩, fun _ => ⟨1, rfl, by decide⟩⟩
  | false =>
    cases freshI s p with
    | true => exact ⟨fun h => absurd h (by decide), fun _ => ⟨2, rfl, by decide⟩, fun _ => ⟨2, rfl, by decide⟩⟩
    | false => exact ⟨fun h => absurd h (by decide), fun h => absurd h (by decide), fun h => by rw [h]; exact ⟨3, rfl, by decide⟩⟩

/-- What comes in the tick is forced whatever else is. -/
theorem guarded_forcedBy {s : State} {p : BPort} {c : Nat} (h : ForcedBy (freshCause s p) c) (b : BatSt) :
    ForcedBy (guarded s p b).force c :=
  (h.firstCause_right b.force).firstCause_left _

/-- With no test met the guard forces only what the standing trips do. -/
theorem guardTrip_unmet {s : State} {p : BPort} (hv : s.cp.bat[p].vCnt < GDp_CFG_N s p) (hi : s.cp.bat[p].iCnt < GDp_CFG_N s p)
    (hvd : s.cp.bat[p].vdCnt < GDp_CFG_N s p) (hcool : tooHot s p = false) : guardTrip s p =
      s.modBat p fun b => { b with force := firstCause b.force (standingCause s p s.cp.bat[p].trips) } := by
  have hfv : freshV s p = false := by rw [freshV, decide_eq_false (Nat.not_le.mpr hv), Bool.false_and]
  have hfi : freshI s p = false := by rw [freshI, decide_eq_false (Nat.not_le.mpr hi), Bool.false_and]
  have hft : freshTd s p = false := by rw [freshTd, hcool, Bool.false_and]
  have htrips : tripsAfter s p = s.cp.bat[p].trips := by
    simp only [tripsAfter, hfv, hfi, hft, decide_eq_false (Nat.not_le.mpr hvd), Bool.or_false]
  have hmask : (freshMask s p == 0) = true := by rw [freshMask, hfv, hfi, hft]; decide
  have hcause : freshCause s p = none := by rw [freshCause, hfv, hfi, hft]; rfl
  rw [guardTrip_eq, if_pos hmask]
  refine State.modBat_congr ?_
  rw [guarded, htrips, hcause, hft, firstCause_none, Bool.or_false]

theorem exec_guardTrip (p : BPort) (s : State) : exec (.guardTrip p) s = .next (guardTrip s p) := rfl

/-- A test that is met trips, now or before. -/
theorem trip_or_fresh {met trip : Bool} (h : met = true) : (trip || (met && !trip)) = true := by
  rw [h]
  cases trip <;> rfl

/-- The guard of a port. -/
theorem guardTrips : Claims.GuardTrips := by
  intro p s
  have hport : (guardTrip s p).cp.bat[p] = guarded s p s.cp.bat[p] := by rw [guardTrip_bat, upd_same]
  obtain ⟨hcv, hci, hct⟩ := freshCause_forcedBy s p
  obtain ⟨hmv, hmi, hmt⟩ := bit_flags (freshV s p) (freshI s p) (freshTd s p)
  refine ⟨_, exec_guardTrip p s, fun q hq => by rw [guardTrip_bat, upd_other _ p q _ hq], ?_⟩
  dsimp only
  rw [hport, ← tooHot_iff]
  refine ⟨fun hmet => ⟨?_, fun hnew => ?_⟩, fun hmet => ⟨?_, fun hnew => ?_⟩, fun hmet => ⟨?_, fun hnew => ?_⟩, fun hmet => ?_,
    fun hv hi hvd hcool => ?_⟩
  · exact trip_or_fresh (decide_eq_true hmet)
  · have hfresh : freshV s p = true := by rw [freshV, decide_eq_true hmet, hnew]; rfl
    exact ⟨guarded_forcedBy (hcv hfresh) _, errSet_guardTrip (hmv.trans hfresh)⟩
  · exact trip_or_fresh (decide_eq_true hmet)
  · have hfresh : freshI s p = true := by rw [freshI, decide_eq_true hmet, hnew]; rfl
    exact ⟨guarded_forcedBy (hci hfresh) _, errSet_guardTrip (hmi.trans hfresh)⟩
  · exact trip_or_fresh hmet
  · have hfresh : freshTd s p = true := by rw [freshTd, hmet, hnew]; rfl
    exact ⟨by rw [guarded, hfresh, Bool.or_true], guarded_forcedBy (hct hfresh) _, errSet_guardTrip (hmt.trans hfresh)⟩
  · rw [guarded, tripsAfter, decide_eq_true hmet, Bool.or_true]
  · rw [guardTrip_unmet hv hi hvd (Bool.eq_false_iff.mpr hcool)]
    refine ⟨fun hnone => State.modBat_self ?_, fun c hc habsent hfault => State.modBat_congr ?_⟩
    · rw [standingCause_none hnone, firstCause_none]
    · rw [standingCause_latched hc habsent hfault]
      exact congrArg (fun f => { s.cp.bat[p] with force := f }) (firstCause_some _ c)

/-! ### The safety timers (R237) -/

theorem exec_chargeTimeout {p : BPort} {s : State} (hrun : s.cp.bat[p].tmrRun = true)
    (hlimit : GDp_TMR_CC s p * 25000000 * 4096 ≤ s.cp.bat[p].tmrCc) (hnew : s.cp.bat[p].trips.timeout = false) :
    exec (.chargeTimeout p) s = .next (raise (s.modBat p fun b => { b with
      trips := { b.trips with timeout := true }, force := firstCause b.force (some 4)
      causeRed := decide (b.tmrElap < 2 * b.tmrRed) }) (batPage p) 3) :=
  if_pos (by rw [hrun, hnew, timerLimit, decide_eq_true hlimit]; rfl)

theorem exec_prechargeTimeout {p : BPort} {s : State} (hrun : s.cp.bat[p].ptmrRun = true)
    (hlimit : GDp_TMR_PRE s p * 25000000 ≤ s.cp.bat[p].tmrPre) (hnew : s.cp.bat[p].trips.preTimeout = false) :
    exec (.prechargeTimeout p) s = .next (raise (s.modBat p fun b => { b with
      trips := { b.trips with preTimeout := true }, force := firstCause b.force (some 5) }) (batPage p) 4) :=
  if_pos (by rw [hrun, hnew, timerLimit, decide_eq_true hlimit]; rfl)

/-- A port that is updated before an error is raised has the update. -/
theorem raise_modBat_same (s : State) (p : BPort) (f : BatSt → BatSt) (page b : Nat) :
    (raise (s.modBat p f) page b).cp.bat[p] = f s.cp.bat[p] := by
  rw [raise_cp, State.modBat_cp, upd_same]

theorem safetyTimers : Claims.SafetyTimers := by
  intro p s
  refine ⟨fun hrun hlimit hnew => ?_, fun hrun hlimit hnew => ?_⟩
  · refine ⟨_, exec_chargeTimeout hrun hlimit hnew, ?_⟩
    rw [raise_modBat_same]
    exact ⟨rfl, firstCause_some _ 4, rfl, raise_same _ _ 3 (by decide)⟩
  · refine ⟨_, exec_prechargeTimeout hrun hlimit hnew, ?_⟩
    rw [raise_modBat_same]
    exact ⟨rfl, firstCause_some _ 5, raise_same _ _ 4 (by decide)⟩

/-- Settles O34: the guard of a tick is one update of its port with the least of the causes that come and that stand; each timer takes the one
branch in which it is at its limit. -/
theorem batteryGuard : Obligations.BatteryGuard := ⟨guardTrips, safetyTimers⟩

end Sys2Proof.Machine

/-! PROOFS. Removal and return of a string: what a train's entry into HOLD leaves, the stop of a port's trains, the two detectors, the entry
into QUAL, and the obligation on them (O35). -/

namespace Sys2Proof.Machine

/-! ### What a train's entry into HOLD leaves (R84) -/

/-- What the entry of train k into HOLD keeps: the adopted configuration, the battery ports and their hardware, the other trains, and legs
that have stopped. -/
structure HoldKeeps (k : Train) (s t : State) : Prop where
  adopted : t.cp.adopted = s.cp.adopted
  bat : t.cp.bat = s.cp.bat
  batHw : t.x.batHw = s.x.batHw
  others : ∀ j : Train, j ≠ k → t.cp.trains[j] = s.cp.trains[j]
  stopped : ∀ n, LegStopped s n → LegStopped t n

namespace HoldKeeps

theorem refl (k : Train) (s : State) : HoldKeeps k s s := ⟨rfl, rfl, rfl, fun _ _ => rfl, fun _ h => h⟩

theorem trans {k : Train} {s t u : State} (h : HoldKeeps k s t) (h' : HoldKeeps k t u) : HoldKeeps k s u where
  adopted := h'.adopted.trans h.adopted
  bat := h'.bat.trans h.bat
  batHw := h'.batHw.trans h.batHw
  others j hj := (h'.others j hj).trans (h.others j hj)
  stopped n hn := h'.stopped n (h.stopped n hn)

theorem of_modTrain (k : Train) (s : State) (f : TrainSt → TrainSt) : HoldKeeps k s (s.modTrain k f) :=
  ⟨rfl, rfl, rfl, fun j hj => upd_other _ k j _ hj, fun _ h => h⟩

theorem of_modModel (k : Train) (s : State) (f : ModelSt → ModelSt) : HoldKeeps k s (s.modModel k f) :=
  ⟨rfl, rfl, rfl, fun _ _ => rfl, fun _ h => h⟩

theorem of_evt (k : Train) (s : State) (page b : Nat) : HoldKeeps k s (s.evt page b) := by
  obtain ⟨g, r, hevt⟩ := evt_frame s page b
  rw [hevt]
  exact ⟨rfl, rfl, rfl, fun _ _ => rfl, fun _ h => h⟩

theorem of_stopLeg (k : Train) (s : State) (n : Leg) : HoldKeeps k s (stopLeg s n) :=
  ⟨rfl, rfl, rfl, fun _ _ => rfl, fun _ h => h.stopLeg n⟩

theorem of_cancelShed (k : Train) (s : State) : HoldKeeps k s (cancelShed s k) := by
  unfold cancelShed
  split
  · exact (of_modTrain k s _).trans (of_evt k _ _ _)
  · exact refl k s

theorem of_setTrain (k : Train) (s : State) (st : TrState) : HoldKeeps k s (setTrain s k st) := by
  unfold setTrain
  split
  · exact refl k s
  · refine trans (trans ?_ (of_modTrain k _ _)) (of_evt k _ _ _)
    split
    · exact of_modModel k s _
    · exact refl k s

theorem of_legsOff (k : Train) (s : State) : HoldKeeps k s (legsOff s k) := by
  rw [legsOff_eq]
  refine forAll_keeps (P := HoldKeeps k s) (refl k s) fun t n ht => ?_
  split
  · exact ht.trans (of_stopLeg k t n)
  · exact ht

/-- Train k with its shed cancelled, and updated besides. -/
theorem of_settled (k : Train) (s : State) (f : TrainSt → TrainSt) : HoldKeeps k s ((cancelShed s k).modTrain k f) :=
  (of_cancelShed k s).trans (of_modTrain k _ f)

theorem of_trainHold (k : Train) (s : State) : HoldKeeps k s (trainHold s k) := by
  unfold trainHold
  split
  · exact refl k s
  · exact refl k s
  · exact refl k s
  · exact ((of_settled k s _).trans (of_setTrain k _ .hold)).trans (of_legsOff k _)

end HoldKeeps

/-! ### A train that is held (R84, R240) -/

/-- Train k is in HOLD, and the legs that the map of s gives to it have stopped. -/
def TrainHeld (s t : State) (k : Train) : Prop :=
  t.cp.trains[k].state = .hold ∧ ∀ n : Leg, legTrain s n = some k → LegStopped t n

/-- A train in PREBIAS or one that switches stops for HOLD. -/
theorem trainHold_of_active {s : State} {k : Train} (h : s.cp.trains[k].state.switching = true ∨ s.cp.trains[k].state = .prebias) :
    ∃ r, trainHold s k = legsOff (setTrain r k .hold) k ∧ HoldKeeps k s r := by
  refine ⟨_, ?_, HoldKeeps.of_settled k s fun r => { r with leaving := none, rampWritten := false, rev := 0 }⟩
  unfold trainHold
  split
  next hst => rw [hst] at h; exact absurd h (by decide)
  next hst => rw [hst] at h; exact absurd h (by decide)
  next hst => rw [hst] at h; exact absurd h (by decide)
  next => rfl

theorem trainHold_held {s t : State} {k : Train} (h : t.cp.trains[k].state.switching = true ∨ t.cp.trains[k].state = .prebias)
    (hadopted : t.cp.adopted = s.cp.adopted) : TrainHeld s (trainHold t k) k := by
  obtain ⟨r, hr, hkeeps⟩ := trainHold_of_active h
  rw [hr]
  refine ⟨by rw [legsOff_trains, setTrain_state], fun n hn => legsOff_stopped ?_⟩
  rw [legTrain_congr (((HoldKeeps.of_setTrain k r .hold).adopted.trans hkeeps.adopted).trans hadopted), hn]

/-- A train that is held stays so as any train enters HOLD. -/
theorem TrainHeld.trainHold {s t : State} {k : Train} (h : TrainHeld s t k) (j : Train) : TrainHeld s (trainHold t j) k := by
  obtain ⟨hstate, hstopped⟩ := h
  have hkeeps := HoldKeeps.of_trainHold j t
  refine ⟨?_, fun n hn => hkeeps.stopped n (hstopped n hn)⟩
  by_cases hj : k = j
  · subst hj
    have hsame : Machine.trainHold t k = t := by rw [Machine.trainHold, hstate]
    rw [hsame, hstate]
  · rw [hkeeps.others k hj, hstate]

/-! ### The trains of a port stop (R239, R240) -/

/-- Is train k a store train of the port? -/
def storesAt (s : State) (p : BPort) (k : Train) : Bool := trKind s k == 2 && trTerm s k == p.val

/-- The stop visits every train and holds those of the port. -/
theorem removalStop_eq (s : State) (p : BPort) :
    removalStop s p = forAll (n := 8) s fun t k => if storesAt s p k then trainHold t k else t :=
  List.foldl_filter

/-- A stop leaves the battery ports and their hardware. -/
theorem removalStop_keeps (s : State) (p : BPort) :
    (removalStop s p).cp.bat = s.cp.bat ∧ (removalStop s p).x.batHw = s.x.batHw := by
  rw [removalStop_eq]
  refine forAll_keeps (P := fun t => t.cp.bat = s.cp.bat ∧ t.x.batHw = s.x.batHw) ⟨rfl, rfl⟩ fun t k ht => ?_
  split
  · have hkeeps := HoldKeeps.of_trainHold k t
    rw [hkeeps.bat, hkeeps.batHw]
    exact ht
  · exact ht

/-- Every train of the port that switched, or was in PREBIAS, is held. -/
theorem removalStop_held {s : State} {p : BPort} {k : Train} (hkind : trKind s k = 2) (hterm : trTerm s k = p.val)
    (hactive : s.cp.trains[k].state.switching = true ∨ s.cp.trains[k].state = .prebias) : TrainHeld s (removalStop s p) k := by
  have hport : storesAt s p k = true := by simp [storesAt, hkind, hterm]
  rw [removalStop_eq]
  refine forAll_reaches (P := fun t => t.cp.adopted = s.cp.adopted ∧ (t.cp.trains[k] = s.cp.trains[k] ∨ TrainHeld s t k))
    (Q := fun t => TrainHeld s t k) k ⟨rfl, .inl rfl⟩ (fun t j ht => ?_) (fun t ht => ?_) (fun t j ht => ?_)
  · obtain ⟨hadopted, hk⟩ := ht
    split
    · have hkeeps := HoldKeeps.of_trainHold j t
      refine ⟨hkeeps.adopted.trans hadopted, ?_⟩
      rcases hk with hsame | hheld
      · by_cases hj : k = j
        · subst hj
          exact .inr (trainHold_held (by rw [hsame]; exact hactive) hadopted)
        · exact .inl ((hkeeps.others k hj).trans hsame)
      · exact .inr (hheld.trainHold j)
    · exact ⟨hadopted, hk⟩
  · obtain ⟨hadopted, hsame | hheld⟩ := ht
    · rw [if_pos hport]
      exact trainHold_held (by rw [hsame]; exact hactive) hadopted
    · rw [if_pos hport]
      exact hheld.trainHold k
  · split
    · exact ht.trainHold j
    · exact ht

/-! ### The detectors (R239, R240) -/

theorem upd_upd {α : Type} {n : Nat} (v : Vector α n) (i : Fin n) (x y : α) : upd (upd v i x) i y = upd v i y :=
  Vector.set_set x i.isLt

theorem exec_removalOvc {p : BPort} {s : State} (hth : BP_OVC_TH s p ≠ 0) (hphase : BP_PHASE_PHASE s p ≠ 0) :
    exec (.removalOvc p) s = .next (removalStop (s.modBatHw p fun h => { h with ovc := true }) p) :=
  if_pos (by simp [hth, hphase])

/-- OVC has no string to lose in ABSENT, and with a threshold of 0 it is off. -/
theorem exec_removalOvc_idle {p : BPort} {s : State} (h : BP_PHASE_PHASE s p = 0 ∨ BP_OVC_TH s p = 0) :
    exec (.removalOvc p) s = .next s :=
  if_neg (by rcases h with h | h <;> simp [h])

/-- The presence pin shows its absent level, which restarts the count of R242 where the pin is used. -/
def pinAbsent (s : State) (p : BPort) : State :=
  (s.modBatHw p fun h => { h with pin := !(BP_CFG_PRES_POL s p) }).modBat p fun b =>
    { b with insCnt := if BP_CFG_PRES_EN s p then 0 else b.insCnt }

theorem exec_presenceLost {p : BPort} {s : State} (hen : BP_CFG_PRES_EN s p = true) (hphase : BP_PHASE_PHASE s p ≠ 0) :
    exec (.presenceLost p) s = .next (removalStop ((pinAbsent s p).modBatHw p fun h => { h with removed := true }) p) :=
  if_pos (show (BP_CFG_PRES_EN s p && BP_PHASE_PHASE s p != 0) = true by simp [hen, hphase])

/-- A pin that is not used shows its level and does nothing else. -/
theorem exec_presenceLost_unused {p : BPort} {s : State} (hen : BP_CFG_PRES_EN s p = false) :
    exec (.presenceLost p) s = .next (s.modBatHw p fun h => { h with pin := !(BP_CFG_PRES_POL s p) }) := by
  have hstay : exec (.presenceLost p) s = .next (pinAbsent s p) :=
    if_neg (show ¬ (BP_CFG_PRES_EN s p && BP_PHASE_PHASE s p != 0) = true by simp [hen])
  rw [hstay, pinAbsent, State.modBat_self]
  rw [hen]
  rfl

theorem pinAbsent_removed_batHw (s : State) (p : BPort) :
    ((pinAbsent s p).modBatHw p fun h => { h with removed := true }).x.batHw =
      upd s.x.batHw p { s.x.batHw[p] with pin := !(BP_CFG_PRES_POL s p), removed := true } := by
  simp only [pinAbsent, State.modBatHw_x, State.modBat_x, upd_same, upd_upd]

/-! ### The window moves (R215) -/

/-- What a new temperature may touch: the port's window, and of the registers only PG_EVT of a page, where no event clears. -/
structure WindowMoves (p : BPort) (s t : State) : Prop where
  bat : ∃ w n, t.cp.bat = upd s.cp.bat p { s.cp.bat[p] with window := w, snap := n }
  trains : t.cp.trains = s.cp.trains
  reg : ∀ a, a % 256 ≠ 6 → t.reg a = s.reg a
  evt : ∀ page b, EvtSet s page b → EvtSet t page b

namespace WindowMoves

theorem refl (p : BPort) (s : State) : WindowMoves p s s :=
  ⟨⟨_, _, (upd_getElem s.cp.bat p).symm⟩, rfl, fun _ _ => rfl, fun _ _ h => h⟩

theorem of_modBat (p : BPort) (s : State) (w : Window) (n : Bool) :
    WindowMoves p s (s.modBat p fun b => { b with window := w, snap := n }) :=
  ⟨⟨w, n, rfl⟩, rfl, fun _ _ => rfl, fun _ _ h => h⟩

theorem evt_after {p : BPort} {s t : State} (h : WindowMoves p s t) (page b : Nat) : WindowMoves p s (t.evt page b) where
  bat := by rw [State.evt_cp]; exact h.bat
  trains := by rw [State.evt_cp]; exact h.trains
  reg a ha := ((LossKeeps.of_evt t page b).reg a ha).trans (h.reg a ha)
  evt q c he := (LossKeeps.of_evt t page b).evt q c (h.evt q c he)

theorem of_batNewTemp (p : BPort) (s : State) : WindowMoves p s (batNewTemp s p) := by
  unfold batNewTemp
  split
  · exact refl p s
  · dsimp only
    split
    · exact (of_modBat p s _ false).evt_after _ _
    · exact of_modBat p s _ false

theorem of_qualWindow (p : BPort) (s : State) : WindowMoves p s (qualWindow s p) := by
  unfold qualWindow
  split
  · exact of_batNewTemp p s
  · exact refl p s

end WindowMoves

/-! ### A port enters QUAL (R238, R253) -/

/-- A bit of a word after its field hi..lo is written. -/
theorem getLsbD_setBits (w : Word) {hi lo j : Nat} (v : Nat) (hlo : lo ≤ hi) (hj : j < 16) :
    (setBits w hi lo v).getLsbD j = if lo ≤ j ∧ j ≤ hi then v.testBit (j - lo) else w.getLsbD j := by
  have hin : j - lo < hi - lo + 1 ↔ j ≤ hi := by omega
  simp only [setBits, maskBits, word, BitVec.getLsbD_or, BitVec.getLsbD_and, BitVec.getLsbD_not, BitVec.getLsbD_ofNat, hj, decide_true,
    Bool.true_and, Nat.testBit_shiftLeft, Nat.testBit_two_pow_sub_one, Nat.testBit_mod_two_pow, hin]
  by_cases hl : lo ≤ j
  · by_cases hh : j ≤ hi
    · simp [hl, hh]
    · simp [hl, hh]
  · simp [hl]

/-- A field that is written reads the value, modulo its width. -/
theorem bits_setBits_same (w : Word) {hi lo : Nat} (v : Nat) (hlo : lo ≤ hi) (hhi : hi < 16) :
    bits (setBits w hi lo v) hi lo = v % 2 ^ (hi - lo + 1) := by
  refine Nat.eq_of_testBit_eq fun i => ?_
  rw [bits, Nat.testBit_mod_two_pow, Nat.testBit_mod_two_pow, Nat.testBit_shiftRight, BitVec.testBit_toNat]
  by_cases hi' : i < hi - lo + 1
  · rw [getLsbD_setBits w v hlo (by omega), if_pos (by omega), Nat.add_sub_cancel_left]
  · simp [hi']

theorem bit_setBit_same (w : Word) {i : Nat} (b : Bool) (hi : i < 16) : bit (setBit w i b) i = b := by
  rw [bit, setBit, getLsbD_setBits w _ (Nat.le_refl i) hi, if_pos ⟨Nat.le_refl i, Nat.le_refl i⟩, Nat.sub_self]
  cases b <;> rfl

/-- An update of a port touches no register. -/
theorem State.modBat_reg (s : State) (p : BPort) (f : BatSt → BatSt) (a : Nat) : (s.modBat p f).reg a = s.reg a := rfl

/-- A register write touches no port. -/
theorem setReg_bat (s : State) (a : Nat) (w : Word) : (s.setReg a w).cp.bat = s.cp.bat := by rw [State.setReg_cp]

/-- The port's timers begin anew, and its next window is without hysteresis (R215, R238). -/
def qualStart (b : BatSt) : BatSt := { b with tmrCc := 0, tmrElap := 0, tmrRed := 0, tmrPre := 0, snap := true }

/-- The port in QUAL with its timers begun anew and the event, before its window is looked at. -/
def qualEntered (s : State) (p : BPort) : State := ((set_BP_PHASE_PHASE s p 1).modBat p qualStart).evt (batPage p) 0

theorem set_BP_PHASE_PHASE_same (s : State) (p : BPort) {ph : Nat} (h : ph < 16) :
    BP_PHASE_PHASE (set_BP_PHASE_PHASE s p ph) p = ph := by
  rw [BP_PHASE_PHASE, set_BP_PHASE_PHASE, State.reg_setReg_same, bits_setBits_same _ _ (by decide) (by decide)]
  exact Nat.mod_eq_of_lt h

/-- The entry into QUAL from another phase. -/
theorem phaseEntered_qual {s : State} {p : BPort} {old : Nat} (hphase : BP_PHASE_PHASE s p = 1) (hold : old ≠ 1) :
    phaseEntered s p old = (s.modBat p qualStart).evt (batPage p) 0 := by
  have hcycles : ¬ (old == 5 && (1 : Nat) == 6) = true := by simp
  unfold phaseEntered
  rw [hphase]
  refine (if_neg (by simpa using hold.symm)).trans (congrArg (State.evt · (batPage p) 0) (State.modBat_congr ?_))
  extract_lets started recharged
  have hrecharged : recharged = started := if_neg Bool.false_ne_true
  rw [if_neg hcycles, hrecharged]
  exact if_pos rfl

/-- A port of another phase that the hardware or RESTART moves to QUAL enters it, and then its window may move. -/
theorem forcePhase_qual {s : State} {p : BPort} (h : BP_PHASE_PHASE s p ≠ 1) :
    forcePhase s p 1 = qualWindow (qualEntered s p) p := by
  rw [forcePhase, phaseEntered_qual (set_BP_PHASE_PHASE_same s p (by decide)) h, qualEntered]

/-- What the entry of port p into QUAL shows: its phase, its event, its timers at 0, and of the rest of the port only the window moved. -/
structure EntersQual (p : BPort) (s t : State) : Prop where
  phase : BP_PHASE_PHASE t p = 1
  event : EvtSet t (batPage p) 0
  bat : ∃ w n, t.cp.bat = upd s.cp.bat p { qualStart s.cp.bat[p] with window := w, snap := n }
  trains : t.cp.trains = s.cp.trains

theorem EntersQual.of_forcePhase {s : State} {p : BPort} (h : BP_PHASE_PHASE s p ≠ 1) : EntersQual p s (forcePhase s p 1) := by
  have hmoves := WindowMoves.of_qualWindow p (qualEntered s p)
  have hbat : (qualEntered s p).cp.bat = upd s.cp.bat p (qualStart s.cp.bat[p]) := by
    rw [qualEntered, State.evt_cp, State.modBat_cp, set_BP_PHASE_PHASE, setReg_bat]
  rw [forcePhase_qual h]
  refine ⟨?_, hmoves.evt _ 0 (State.evt_same _ (batPage p) 0 (by decide)), ?_, ?_⟩
  · rw [BP_PHASE_PHASE, hmoves.reg _ (by unfold addr; omega), qualEntered, State.evt_other _ _ _ _ (by unfold addr batPage; omega),
      State.modBat_reg]
    exact set_BP_PHASE_PHASE_same s p (by decide)
  · obtain ⟨w, n, hmoved⟩ := hmoves.bat
    exact ⟨w, n, by rw [hmoved, hbat, upd_same, upd_upd]⟩
  · rw [hmoves.trains, qualEntered, State.evt_cp, State.modBat_cp, set_BP_PHASE_PHASE, State.setReg_cp]

/-! ### The return (R242) -/

theorem exec_reinsertion {p : BPort} {s : State} (hphase : BP_PHASE_PHASE s p = 0) (hlong : BP_INS_DB s p * 256 < s.cp.bat[p].insCnt) :
    exec (.reinsertion p) s = .next ((forcePhase (s.modBat p fun b => { b with insCnt := 0 }) p 1).evt (batPage p) 2) :=
  if_pos (by rw [hphase, decide_eq_true hlong]; rfl)

/-- Settles O35: the stop of a port visits all trains and holds its own, with the legs of each low; each detector takes the one branch that its
threshold, its enable and the phase leave it; the return is an entry into QUAL. -/
theorem removalAndReturn : Obligations.RemovalAndReturn := by
  intro p s
  refine ⟨fun hphase => ⟨fun hth => ?_, fun hen => ?_⟩, exec_presenceLost_unused, exec_removalOvc_idle, fun hphase hlong => ?_⟩
  · obtain ⟨hbat, hhw⟩ := removalStop_keeps (s.modBatHw p fun h => { h with ovc := true }) p
    exact ⟨_, exec_removalOvc hth hphase, hhw, hbat, fun k hkind hterm hactive => removalStop_held hkind hterm hactive⟩
  · obtain ⟨hbat, hhw⟩ := removalStop_keeps ((pinAbsent s p).modBatHw p fun h => { h with removed := true }) p
    refine ⟨_, exec_presenceLost hen hphase, hhw.trans (pinAbsent_removed_batHw s p), ?_,
      fun k hkind hterm hactive => removalStop_held hkind hterm hactive⟩
    rw [hbat, State.modBatHw_cp, pinAbsent, State.modBat_cp, upd_same]
    exact if_pos hen
  · have habsent : BP_PHASE_PHASE (s.modBat p fun b => { b with insCnt := 0 }) p ≠ 1 := fun h => absurd (hphase.symm.trans h) (by decide)
    obtain ⟨hqual, hevent, ⟨w, n, hbat⟩, -⟩ := EntersQual.of_forcePhase habsent
    refine ⟨_, exec_reinsertion hphase hlong, ?_, ?_, ?_, State.evt_same _ (batPage p) 2 (by decide), State.evt_keeps _ _ _ 0 hevent⟩
    · rw [BP_PHASE_PHASE, State.evt_other _ _ _ _ (by unfold addr; omega)]
      exact hqual
    · rw [State.evt_cp, hbat, upd_same]
      rfl
    · rw [State.evt_cp, hbat, upd_same]
      rfl

end Sys2Proof.Machine

/-! PROOFS. The controls of a battery port and the end of its probe: RESTART, ZLEARN, the guard lock, what follows a valid result, and the
obligation on them (O36). -/

namespace Sys2Proof.Machine

/-! ### RESTART (R226) -/

/-- No latched condition persists: the voltage is back at VMAX, and with a trip of TD a temperature is 5 C below TDMAX. -/
def faultOver (s : State) (p : BPort) : Prop :=
  s.cp.bat[p].v ≤ (GDp_VMAX s p : Int) ∧ (s.cp.bat[p].trips.td = true → ∃ d, bpTemp s p = some d ∧ d ≤ GDp_TDMAX_I s p - 50)

/-- The port once RESTART is accepted: the trips that stand are those of T and VD and that of a cause which the hardware is forcing. -/
def restarted (b : BatSt) : BatSt :=
  { b with
    trips := {
      t := b.trips.t, vd := b.trips.vd, v := b.force == some 1, i := b.force == some 2, td := b.force == some 3
      timeout := b.force == some 4, preTimeout := b.force == some 5 }
    cause := 0, causeRed := b.force == some 4 && b.causeRed, vCnt := 0, iCnt := 0 }

/-- What RESTART asks of a port in FAULT. -/
def restartTest (s : State) (p : BPort) : Bool :=
  decide (s.cp.bat[p].v ≤ (GDp_VMAX s p : Int)) &&
    (!s.cp.bat[p].trips.td || (bpTemp s p).any fun d => decide (d ≤ GDp_TDMAX_I s p - 50))

theorem restartTest_iff (s : State) (p : BPort) : restartTest s p = true ↔ faultOver s p := by
  rw [restartTest, faultOver, Bool.and_eq_true, decide_eq_true_iff]
  cases s.cp.bat[p].trips.td <;> simp [Option.any_eq_true]

theorem bpRestart_eq (s : State) (p : BPort) : bpRestart s p =
    if BP_PHASE_PHASE s p != 9 then s
    else if restartTest s p then forcePhase (s.modBat p restarted) p 1 else s.evt (batPage p) 8 := by
  unfold bpRestart restartTest
  cases bpTemp s p <;> rfl

theorem exec_bpRestart_other {p : BPort} {s : State} (h : BP_PHASE_PHASE s p ≠ 9) : exec (.bpRestart p) s = .next s :=
  congrArg Host.Outcome.next ((bpRestart_eq s p).trans (if_pos (by simpa using h)))

theorem exec_bpRestart_accepted {p : BPort} {s : State} (h : BP_PHASE_PHASE s p = 9) (hover : faultOver s p) :
    exec (.bpRestart p) s = .next (forcePhase (s.modBat p restarted) p 1) :=
  congrArg Host.Outcome.next ((bpRestart_eq s p).trans
    ((if_neg (by simp [h])).trans (if_pos ((restartTest_iff s p).mpr hover))))

theorem exec_bpRestart_refused {p : BPort} {s : State} (h : BP_PHASE_PHASE s p = 9) (hover : ¬ faultOver s p) :
    exec (.bpRestart p) s = .next (s.evt (batPage p) 8) :=
  congrArg Host.Outcome.next ((bpRestart_eq s p).trans
    ((if_neg (by simp [h])).trans (if_neg (mt (restartTest_iff s p).mp hover))))

/-- A restart that no forced cause meets leaves the trips of T and VD. -/
theorem restarted_trips {b : BatSt} (h : b.force = none) : (restarted b).trips = { t := b.trips.t, vd := b.trips.vd } := by
  rw [restarted, h]
  rfl

/-- An accepted RESTART is an entry into QUAL of the port with its trips and its cause ended. -/
theorem bpRestart_accepted {p : BPort} {s : State} (h : BP_PHASE_PHASE s p = 9) (hover : faultOver s p) :
    ∃ t, exec (.bpRestart p) s = .next t ∧ BP_PHASE_PHASE t p = 1 ∧ t.cp.bat[p].cause = 0 ∧
      (s.cp.bat[p].force = none → t.cp.bat[p].trips = { t := s.cp.bat[p].trips.t, vd := s.cp.bat[p].trips.vd }) ∧
      t.cp.bat[p].force = s.cp.bat[p].force ∧ (∀ q : BPort, q ≠ p → t.cp.bat[q] = s.cp.bat[q]) ∧ t.cp.trains = s.cp.trains := by
  have hfault : BP_PHASE_PHASE (s.modBat p restarted) p ≠ 1 := fun hq => absurd (h.symm.trans hq) (by decide)
  obtain ⟨hphase, -, ⟨w, n, hbat⟩, htrains⟩ := EntersQual.of_forcePhase hfault
  rw [State.modBat_cp, upd_same, upd_upd] at hbat
  refine ⟨_, exec_bpRestart_accepted h hover, hphase, ?_, fun hnone => ?_, ?_, fun q hq => ?_, htrains⟩
  · rw [hbat, upd_same]
    rfl
  · rw [hbat, upd_same]
    exact restarted_trips hnone
  · rw [hbat, upd_same]
    rfl
  · rw [hbat, upd_other _ p q _ hq]

/-! ### ZLEARN and the guard lock (R228, R229, R251) -/

theorem exec_bpZlearn (p : BPort) (s : State) : exec (.bpZlearn p) s = .next (set_BP_CTRL_ZLEARN s p true) := rfl

theorem set_BP_CTRL_ZLEARN_same (s : State) (p : BPort) (v : Bool) : BP_CTRL_ZLEARN (set_BP_CTRL_ZLEARN s p v) p = v := by
  rw [BP_CTRL_ZLEARN, set_BP_CTRL_ZLEARN, State.reg_setReg_same, bit_setBit_same _ v (by decide)]

theorem set_GUARD_LOCK_LOCK_same (s : State) (v : Bool) : GUARD_LOCK_LOCK (set_GUARD_LOCK_LOCK s v) = v := by
  rw [GUARD_LOCK_LOCK, set_GUARD_LOCK_LOCK, State.reg_setReg_same, bit_setBit_same _ v (by decide)]

theorem exec_guardLockSet {s : State} (hdev : s.x.dev = .hold) (hopen : GUARD_LOCK_LOCK s = false) :
    exec .guardLockSet s = .next (set_GUARD_LOCK_LOCK s true) :=
  if_pos (by rw [hdev, hopen]; rfl)

theorem exec_guardLockSet_rejected {s : State} (h : s.x.dev ≠ .hold ∨ GUARD_LOCK_LOCK s = true) :
    exec .guardLockSet s = .next (s.evt 0x38 0) :=
  if_neg (by rcases h with h | h <;> simp [h])

theorem portControls : Claims.PortControls := by
  intro p s
  exact ⟨bpRestart_accepted, exec_bpRestart_refused, exec_bpRestart_other,
    ⟨_, exec_bpZlearn p s, set_BP_CTRL_ZLEARN_same s p true, fun a ha => State.reg_setReg_other s _ a _ ha⟩,
    fun hdev hopen => ⟨_, exec_guardLockSet hdev hopen, set_GUARD_LOCK_LOCK_same s true, fun a ha => State.reg_setReg_other s _ a _ ha⟩,
    exec_guardLockSet_rejected⟩

/-! ### What follows a valid result leaves it (R250, R251) -/

/-- The port's probe stays, and no event clears. -/
structure ProbeKept (p : BPort) (s t : State) : Prop where
  probe : t.cp.bat[p].probe = s.cp.bat[p].probe
  evt : ∀ page b, EvtSet s page b → EvtSet t page b

namespace ProbeKept

theorem refl (p : BPort) (s : State) : ProbeKept p s s := ⟨rfl, fun _ _ h => h⟩

theorem trans {p : BPort} {s t u : State} (h : ProbeKept p s t) (h' : ProbeKept p t u) : ProbeKept p s u :=
  ⟨h'.probe.trans h.probe, fun page b he => h'.evt page b (h.evt page b he)⟩

theorem of_modBat {p : BPort} {f : BatSt → BatSt} (hf : ∀ b, (f b).probe = b.probe) (s : State) : ProbeKept p s (s.modBat p f) :=
  ⟨by rw [State.modBat_cp, upd_same, hf], fun _ _ h => h⟩

/-- A write to a register that is no PG_EVT. -/
theorem of_setReg (p : BPort) (s : State) {a : Nat} (ha : a % 256 ≠ 6) (w : Word) : ProbeKept p s (s.setReg a w) where
  probe := by rw [setReg_bat]
  evt page b he := by
    rw [EvtSet, State.reg_setReg_other s a _ w (by unfold addr; omega)]
    exact he

theorem of_batNewTemp (p : BPort) (s : State) : ProbeKept p s (batNewTemp s p) := by
  have hmoves := WindowMoves.of_batNewTemp p s
  obtain ⟨w, n, hbat⟩ := hmoves.bat
  exact ⟨by rw [hbat, upd_same], hmoves.evt⟩

theorem of_zlearn (p : BPort) (s : State) : ProbeKept p s (zlearn s p) := by
  unfold zlearn
  dsimp only
  split
  · exact ((of_setReg p s (by unfold a_BP_TIMP_ZREF addr; omega) _).trans
      (of_setReg p _ (by unfold a_BP_TIMP_T0 addr; omega) _)).trans (of_setReg p _ (by unfold addr; omega) _)
  · exact refl p s

end ProbeKept

/-! ### The end of a window (R246 to R248) -/

/-- A sum of products with the mean of the words removed. -/
def meanFree (prod : Rat) (sum : Int) (ref : Rat) (n : Nat) : Rat := prod - ratDiv (sum * ref) n

/-- The four sums of a window with the means removed. -/
def ProbeSt.vc (r : ProbeSt) : Rat := meanFree r.svc r.sv r.sc r.n
def ProbeSt.vs (r : ProbeSt) : Rat := meanFree r.svs r.sv r.ss r.n
def ProbeSt.ic (r : ProbeSt) : Rat := meanFree r.sic r.si r.sc r.n
def ProbeSt.is (r : ProbeSt) : Rat := meanFree r.sis r.si r.ss r.n

/-- The response is below a quarter of the amplitude. -/
def weakResponse (s : State) (p : BPort) : Prop :=
  let r := s.cp.bat[p].probe
  64 * (r.ic * r.ic + r.is * r.is) < (s.cp.bat[p].amp : Rat) * s.cp.bat[p].amp * r.n * r.n

/-- The unit of the magnitude. -/
def probeScale (s : State) (p : BPort) : Rat :=
  ratDiv (GDp_VSCALE s p) (GDp_ISCALE s p) * (if BP_PROBE_ZR s p then 100000 else 1000000)

/-- The window has ended with a valid result. -/
def probeValid (s : State) (p : BPort) : State :=
  let r := s.cp.bat[p].probe
  (s.modBat p fun b => { b with probe := { b.probe with
    run := false, ended := true, valid := true, cause := 0, freq := r.freq0
    mag := min 65535 (impMagnitude r.vc r.vs r.ic r.is (probeScale s p)), ph := impAngle r.vc r.vs r.ic r.is } }).evt (batPage p) 4

/-- What follows a valid result: a temperature from the impedance, and the learning, at the frequency of BP_TIMP. -/
def probeFollow (f : Nat) (s : State) (p : BPort) : State :=
  if f == BP_TIMP_CFG_FREQ s p then
    zlearn (if BP_TIMP_ZREF s p != 0 then
      batNewTemp (s.modBat p fun b => { b with
        tempImp := some (impTemperature (BP_TIMP_T0_I s p) (BP_TIMP_S_I s p) (BP_TIMP_ZREF s p) s.cp.bat[p].probe.mag)
        impAge := 0 }) p
    else s) p
  else s

theorem ProbeKept.of_probeFollow (f : Nat) (p : BPort) (s : State) : ProbeKept p s (probeFollow f s p) := by
  unfold probeFollow
  split
  · refine trans ?_ (of_zlearn p _)
    split
    · refine trans (of_modBat ?_ s) (of_batNewTemp p _)
      exact fun _ => rfl
    · exact refl p s
  · exact refl p s

/-- The window is complete (R247). -/
def windowOver (s : State) (p : BPort) : Prop := s.cp.bat[p].probe.run = true ∧ BP_PROBE_NPER s p ≤ s.cp.bat[p].probe.wraps

theorem windowOver_judged {p : BPort} {s : State} (h : windowOver s p) :
    ¬ (!(s.cp.bat[p].probe.run && decide (BP_PROBE_NPER s p ≤ s.cp.bat[p].probe.wraps))) = true := by
  obtain ⟨hrun, hend⟩ := h
  rw [hrun, decide_eq_true hend]
  decide

theorem exec_probeResult_weak {p : BPort} {s : State} (h : windowOver s p) (hweak : weakResponse s p) :
    exec (.probeResult p) s = .next (probeDiscard s p 2) :=
  (if_neg (windowOver_judged h)).trans (if_pos hweak)

theorem exec_probeResult_valid {p : BPort} {s : State} (h : windowOver s p) (hstrong : ¬ weakResponse s p) :
    exec (.probeResult p) s = .next (probeFollow s.cp.bat[p].probe.freq0 (probeValid s p) p) :=
  ((if_neg (windowOver_judged h)).trans (if_neg hstrong)).trans (apply_ite Host.Outcome.next _ _ _).symm

theorem probeDiscard_probe (s : State) (p : BPort) (cause : Nat) : (probeDiscard s p cause).cp.bat[p].probe =
    { s.cp.bat[p].probe with run := false, ended := true, valid := false, cause := cause } := by
  rw [probeDiscard, State.evt_cp, State.modBat_cp, upd_same]

theorem probeValid_probe (s : State) (p : BPort) : (probeValid s p).cp.bat[p].probe =
    (let r := s.cp.bat[p].probe
     { r with
       run := false, ended := true, valid := true, cause := 0, freq := r.freq0
       mag := min 65535 (impMagnitude r.vc r.vs r.ic r.is (probeScale s p)), ph := impAngle r.vc r.vs r.ic r.is }) := by
  rw [probeValid, State.evt_cp, State.modBat_cp, upd_same]

theorem probeEnds : Claims.ProbeEnds := by
  intro p s hrun hend
  by_cases hweak : weakResponse s p
  · refine ⟨_, exec_probeResult_weak ⟨hrun, hend⟩ hweak, ?_, fun _ => ?_, fun hstrong => absurd hweak hstrong⟩
    · rw [probeDiscard_probe]
    · rw [probeDiscard_probe]
      exact ⟨rfl, rfl, rfl, rfl, State.evt_same _ (batPage p) 5 (by decide)⟩
  · have hkept := ProbeKept.of_probeFollow s.cp.bat[p].probe.freq0 p (probeValid s p)
    have hprobe := hkept.probe.trans (probeValid_probe s p)
    refine ⟨_, exec_probeResult_valid ⟨hrun, hend⟩ hweak, by rw [hprobe], fun h => absurd h hweak, fun _ => ?_⟩
    rw [hprobe]
    exact ⟨rfl, rfl, rfl, rfl, rfl, hkept.evt _ 4 (State.evt_same _ (batPage p) 4 (by decide))⟩

/-- Settles O36: each control takes the one branch that the phase, the trips and the lock leave it, an accepted RESTART being an entry into
QUAL; a window that has ended is discarded or gives a result, which what follows it keeps. -/
theorem batteryPorts : Obligations.BatteryPorts := ⟨portControls, probeEnds⟩

end Sys2Proof.Machine

/-! PROOFS. System calibration: what a command, an abort and the end of a run make of the run of a slice and of the AX, each said once, and the
obligation on both (O38). -/

namespace Sys2Proof.Machine

/-! ### A command (R281, R282) -/

theorem sysOk_iff (s : State) (i : Slice) : sysOk s i = true ↔
    s.x.dev = .hold ∧ SL_CFG_EN s i = true ∧ SL_CFG_LP s i = false ∧ privileged s i = false ∧ inPair s i = false := by
  simp [sysOk, and_assoc]

theorem sysStart_accepted {s : State} {i : Slice} (hidle : s.x.sysCal[i].kind = 0) (hok : sysOk s i = true) (kind : Nat) :
    sysStart s i kind = s.modSys i fun _ => calBegin kind (2 ^ SL_SYSCAL_NAVG s i) s.x.tick.count 0 :=
  if_neg (by rw [hidle, hok]; decide)

theorem sysStart_refused {s : State} {i : Slice} (h : s.x.sysCal[i].kind ≠ 0 ∨ ¬ sysOk s i = true) (kind : Nat) :
    sysStart s i kind = s.modSys i fun c => { c with refused := true } :=
  if_pos (by simpa using h)

theorem axCalStart_accepted {s : State} (hidle : s.x.ax.cal.kind = 0) (hdev : s.x.dev = .hold) (hen : AX_CFG_EN s = true) (kind : Nat) :
    axCalStart s kind =
      s.modAx fun a => { a with cal := calBegin kind (2 ^ AX_SYSCAL_NAVG s) s.x.tick.count (AX_SYSCAL_INPUT s) } :=
  if_neg (by rw [hidle, hdev, hen]; decide)

theorem axCalStart_refused {s : State} (h : s.x.ax.cal.kind ≠ 0 ∨ s.x.dev ≠ .hold ∨ AX_CFG_EN s = false) (kind : Nat) :
    axCalStart s kind = s.modAx fun a => { a with cal := { a.cal with refused := true } } :=
  if_pos (by simpa [or_assoc] using h)

/-! ### An abort (R282, R283) -/

theorem sysAbort_running {s : State} {i : Slice} (hrun : s.x.sysCal[i].kind ≠ 0)
    (hearly : s.x.tick.count ≤ s.x.sysCal[i].since + s.x.sysCal[i].len) :
    sysAbort s i = s.modSys i fun c => { c with kind := 0, aborted := true } :=
  (if_neg (by simpa using hrun)).trans (if_neg (by omega))

theorem sysAbort_over {s : State} {i : Slice} (hrun : s.x.sysCal[i].kind ≠ 0)
    (hlate : s.x.sysCal[i].since + s.x.sysCal[i].len < s.x.tick.count) :
    sysAbort s i = s.modSys i fun c => { c with ignored := true } :=
  (if_neg (by simpa using hrun)).trans (if_pos (by omega))

/-- The results of an AX run once the one that this cycle 0 latches is in. -/
def axResults (s : State) : Nat := s.x.ax.cal.n + (if s.x.ax.next[ix16 s.x.ax.cal.input].isSome then 1 else 0)

theorem axCalAbort_running {s : State} (hrun : s.x.ax.cal.kind ≠ 0) (hearly : axResults s < s.x.ax.cal.len) :
    axCalAbort s = s.modAx fun a => { a with cal := { a.cal with kind := 0, aborted := true } } :=
  (if_neg (by simpa using hrun)).trans (if_neg (Nat.not_le.mpr hearly))

theorem axCalAbort_over {s : State} (hrun : s.x.ax.cal.kind ≠ 0) (hlast : s.x.ax.cal.len ≤ axResults s) :
    axCalAbort s = s.modAx fun a => { a with cal := { a.cal with ignored := true } } :=
  (if_neg (by simpa using hrun)).trans (if_pos hlast)

theorem calibrationCommands : Claims.CalibrationCommands := by
  intro i s
  refine ⟨fun hidle hok => ?_, fun hno => ?_, fun hrun hearly => ?_, fun hrun hlate => ?_, fun hidle hdev hen => ?_, fun hno => ?_,
    fun hrun hearly => ?_, fun hrun hlast => ?_⟩
  · have hstart := sysStart_accepted hidle ((sysOk_iff s i).mpr hok)
    exact ⟨⟨_, congrArg Host.Outcome.next (hstart 1), rfl⟩, ⟨_, congrArg Host.Outcome.next (hstart 2), rfl⟩⟩
  · have hstart := sysStart_refused (i := i) (hno.imp_right (mt (sysOk_iff s i).mp))
    exact ⟨⟨_, congrArg Host.Outcome.next (hstart 1), rfl⟩, ⟨_, congrArg Host.Outcome.next (hstart 2), rfl⟩⟩
  · exact ⟨_, congrArg Host.Outcome.next (sysAbort_running hrun hearly), rfl⟩
  · exact ⟨_, congrArg Host.Outcome.next (sysAbort_over hrun hlate), rfl⟩
  · have hstart := axCalStart_accepted hidle hdev hen
    exact ⟨⟨_, congrArg Host.Outcome.next (hstart 1), rfl⟩, ⟨_, congrArg Host.Outcome.next (hstart 2), rfl⟩⟩
  · have hstart := axCalStart_refused hno
    exact ⟨⟨_, congrArg Host.Outcome.next (hstart 1), rfl⟩, ⟨_, congrArg Host.Outcome.next (hstart 2), rfl⟩⟩
  · exact ⟨_, congrArg Host.Outcome.next (axCalAbort_running hrun hearly), rfl⟩
  · exact ⟨_, congrArg Host.Outcome.next (axCalAbort_over hrun hlast), rfl⟩

/-! ### The value of a run (R281, R283) -/

theorem calValue_eq (c : SysCal) (ref offs : Int) : calValue c ref offs =
    (let m : Rat := ratDiv (c.sum : Rat) (c.len : Rat)
     if c.kind = 1 then rnd (m / 16)
     else rnd ((ratDiv ((256 * ref : Int) : Rat) (m - ((16 * offs : Int) : Rat)) - 1) * 131072)) := by
  simp only [calValue, beq_iff_eq]

theorem calFits_iff (v : Int) : calFits v = true ↔ -32768 ≤ v ∧ v ≤ 32767 := by
  simp [calFits]

/-- A value that fits is what its word reads. -/
theorem toInt_wordI {v : Int} (h : calFits v = true) : (wordI v).toInt = v := by
  obtain ⟨hlo, hhi⟩ := (calFits_iff v).mp h
  exact BitVec.toInt_ofInt_eq_self (by decide) hlo (Int.lt_add_one_of_le hhi)

/-- Where a run of the given kind writes its value: ZERO at the first address, FULL at the second. -/
def calAddr (kind offs gain : Nat) : Nat := if kind = 1 then offs else gain

theorem setReg_calAddr (s : State) (kind offs gain : Nat) (w : Word) :
    (if kind == 1 then s.setReg offs w else s.setReg gain w) = s.setReg (calAddr kind offs gain) w := by
  rw [calAddr, apply_ite (s.setReg · w)]
  simp only [beq_iff_eq]

theorem State.modSys_reg (s : State) (i : Slice) (f : SysCal → SysCal) (a : Nat) : (s.modSys i f).reg a = s.reg a := rfl

theorem State.modAx_reg (s : State) (f : AxSt → AxSt) (a : Nat) : (s.modAx f).reg a = s.reg a := rfl

/-! ### The end of a run of a slice (R281) -/

/-- The value that the run of a slice ends with, and its register. -/
def sysValue (s : State) (i : Slice) : Int := calValue s.x.sysCal[i] (SL_CAL_REF_I s i) (SL_OFFS_I s i)
def sysAddr (s : State) (i : Slice) : Nat := calAddr s.x.sysCal[i].kind (a_SL_OFFS i) (a_SL_GAIN i)

/-- The run of a slice has written its value. -/
def sysWritten (s : State) (i : Slice) : State :=
  ((s.setReg (sysAddr s i) (wordI (sysValue s i))).modSys i fun c => { c with kind := 0, done := true }).evt (slPage i) 4

/-- The run of a slice is over. -/
def sysOver (s : State) (i : Slice) : Prop :=
  s.x.sysCal[i].kind ≠ 0 ∧ s.x.sysCal[i].since + s.x.sysCal[i].len + 1 ≤ s.x.tick.count

theorem sysOver_judged {s : State} {i : Slice} (h : sysOver s i) :
    ¬ (s.x.sysCal[i].kind == 0 || decide (s.x.tick.count < s.x.sysCal[i].since + s.x.sysCal[i].len + 1)) = true := by
  simpa [sysOver] using h

theorem exec_syscalDone_fits {s : State} {i : Slice} (hover : sysOver s i) (hfits : calFits (sysValue s i) = true) :
    exec (.syscalDone i) s = .next (sysWritten s i) := by
  refine ((if_neg (sysOver_judged hover)).trans (if_pos hfits)).trans ?_
  rw [setReg_calAddr]
  rfl

theorem exec_syscalDone_range {s : State} {i : Slice} (hover : sysOver s i) (hout : ¬ calFits (sysValue s i) = true) :
    exec (.syscalDone i) s = .next (s.modSys i fun c => { c with kind := 0, range := true }) :=
  (if_neg (sysOver_judged hover)).trans (if_neg hout)

theorem sysWritten_reg_other (s : State) (i : Slice) {b : Nat} (hb : b ≠ sysAddr s i) (hevt : b ≠ addr (slPage i) 6) :
    (sysWritten s i).reg b = s.reg b := by
  rw [sysWritten, State.evt_other _ _ _ _ hevt, State.modSys_reg, State.reg_setReg_other _ _ _ _ hb]

theorem sysAddr_ne_evt (s : State) (i : Slice) : sysAddr s i ≠ addr (slPage i) 6 := by
  unfold sysAddr calAddr a_SL_OFFS a_SL_GAIN slPage addr
  split <;> omega

theorem sysWritten_reg_same {s : State} {i : Slice} (hfits : calFits (sysValue s i) = true) :
    ((sysWritten s i).reg (sysAddr s i)).toInt = sysValue s i := by
  rw [sysWritten, State.evt_other _ _ _ _ (sysAddr_ne_evt s i), State.modSys_reg, State.reg_setReg_same, toInt_wordI hfits]

theorem State.modSys_same (s : State) (i : Slice) (f : SysCal → SysCal) : (s.modSys i f).x.sysCal[i] = f s.x.sysCal[i] :=
  upd_same s.x.sysCal i _

theorem sysWritten_sysCal (s : State) (i : Slice) :
    (sysWritten s i).x.sysCal[i] = { s.x.sysCal[i] with kind := 0, done := true } := by
  rw [sysWritten, State.evt_x, State.modSys_x, upd_same, State.setReg_x]

/-! ### The end of a run of the AX (R283) -/

/-- The value that the run of the AX ends with, and its register. -/
def axSysValue (s : State) : Int := calValue s.x.ax.cal (AX_CAL_REF_I s) (AX_OFFSn_I s s.x.ax.cal.input)
def axSysAddr (s : State) : Nat := calAddr s.x.ax.cal.kind (a_AX_OFFSn s.x.ax.cal.input) (a_AX_GAINn s.x.ax.cal.input)

/-- The run of the AX has written its value. -/
def axSysWritten (s : State) : State :=
  let t := s.setReg (axSysAddr s) (wordI (axSysValue s))
  (t.modAx fun a => { a with cal := { a.cal with kind := 0, since := t.x.tick.count, done := true } }).evt 0x52 2

/-- The run of the AX is over. -/
def axSysOver (s : State) : Prop := s.x.ax.cal.kind ≠ 0 ∧ s.x.ax.cal.len ≤ s.x.ax.cal.n

theorem axSysOver_judged {s : State} (h : axSysOver s) :
    ¬ (s.x.ax.cal.kind == 0 || decide (s.x.ax.cal.n < s.x.ax.cal.len)) = true := by
  simpa [axSysOver] using h

theorem exec_axSyscalDone_fits {s : State} (hover : axSysOver s) (hfits : calFits (axSysValue s) = true) :
    exec .axSyscalDone s = .next (axSysWritten s) := by
  refine ((if_neg (axSysOver_judged hover)).trans (if_pos hfits)).trans ?_
  rw [setReg_calAddr]
  rfl

theorem exec_axSyscalDone_range {s : State} (hover : axSysOver s) (hout : ¬ calFits (axSysValue s) = true) :
    exec .axSyscalDone s =
      .next (s.modAx fun a => { a with cal := { a.cal with kind := 0, since := s.x.tick.count, range := true } }) :=
  (if_neg (axSysOver_judged hover)).trans (if_neg hout)

theorem axSysWritten_reg_same {s : State} (hfits : calFits (axSysValue s) = true) (haddr : axSysAddr s ≠ addr 0x52 6) :
    ((axSysWritten s).reg (axSysAddr s)).toInt = axSysValue s := by
  rw [axSysWritten, State.evt_other _ _ _ _ haddr, State.modAx_reg, State.reg_setReg_same, toInt_wordI hfits]

theorem axSysWritten_cal (s : State) :
    (axSysWritten s).x.ax.cal = { s.x.ax.cal with kind := 0, since := s.x.tick.count, done := true } := by
  rw [axSysWritten, State.evt_x, State.modAx_x, State.setReg_x]

theorem calibrationEnds : Claims.CalibrationEnds := by
  intro i s
  dsimp only
  rw [← calValue_eq, ← calValue_eq, ← calFits_iff, ← calFits_iff]
  refine ⟨fun hkind hend => ?_, fun hkind hend => ?_⟩
  · have hover : sysOver s i := ⟨by omega, hend⟩
    refine ⟨fun hfits => ?_, fun hout => ?_⟩
    · have hcal := sysWritten_sysCal s i
      exact ⟨_, exec_syscalDone_fits hover hfits, sysWritten_reg_same hfits, congrArg SysCal.done hcal, congrArg SysCal.kind hcal,
        State.evt_same _ (slPage i) 4 (by decide), fun b => sysWritten_reg_other s i⟩
    · have hcal := State.modSys_same s i fun c => { c with kind := 0, range := true }
      exact ⟨_, exec_syscalDone_range hover hout, congrArg SysCal.range hcal, congrArg SysCal.kind hcal,
        (congrArg SysCal.done hcal :), fun _ => rfl⟩
  · have hover : axSysOver s := ⟨by omega, hend⟩
    refine ⟨fun hfits => ?_, fun hout => ?_⟩
    · have hcal := axSysWritten_cal s
      exact ⟨_, exec_axSyscalDone_fits hover hfits, axSysWritten_reg_same hfits, congrArg SysCal.done hcal, congrArg SysCal.kind hcal,
        State.evt_same _ 0x52 2 (by decide)⟩
    · exact ⟨_, exec_axSyscalDone_range hover hout, rfl, rfl, fun _ => rfl⟩

/-- Settles O38: a command and an abort each take the branch that the run leaves them; at its end a run writes its value where it fits, and
elsewhere sets RANGE. -/
theorem systemCalibration : Obligations.SystemCalibration := ⟨calibrationCommands, calibrationEnds⟩

end Sys2Proof.Machine

/-! PROOFS. Background calibration and reference tracing: the start and the switches of a cycle, the verdict on its values, and a trace from
its request to its end, each said once, and the obligation on them (O39). -/

namespace Sys2Proof.Machine

/-! ### What an event and a register leave -/

theorem State.evt_bg (s : State) (page b : Nat) : (s.evt page b).x.bg = s.x.bg := by rw [State.evt_x]

theorem State.evt_trace (s : State) (page b : Nat) : (s.evt page b).x.trace = s.x.trace := by rw [State.evt_x]

theorem State.evt_spare (s : State) (page b : Nat) : (s.evt page b).cp.spare = s.cp.spare := by rw [State.evt_cp]

theorem State.setReg_trace (s : State) (a : Nat) (w : Word) : (s.setReg a w).x.trace = s.x.trace := by rw [State.setReg_x]

theorem State.modBg_reg (s : State) (f : BgSt → BgSt) (a : Nat) : (s.modBg f).reg a = s.reg a := rfl

/-! ### A cycle begins, or a slice is late (R284, R285) -/

/-- A cycle has begun with slice i. -/
def bgBegun (s : State) (i : Slice) : State :=
  (s.modBg fun b => { b with
    step := 1, slice := i, since := s.x.tick.count, endAt := none, z := 2 ^ ADC_BG_CFG_NAVG s, v := ADC_BG_CFG_VER s
    sz := 0, sr := 0, cz := 0, cr := 0, standIn := false, lastStart := s.x.tick.count, lastSlice := some i }).modSpare
  fun p => { p with state := .calib, slice := i }

theorem exec_bgCalStart_due {s : State} {i : Slice} (hen : ADC_BG_CFG_EN s = true) (hworks : working s = true)
    (hidle : spareIdle s = true) (hwaiting : s.x.trace.waiting = false) (hdue : s.x.bg.lastStart + bgPeriod s ≤ s.x.tick.count)
    (hnext : nextPriv s = some i) : exec .bgCalStart s = .next (bgBegun s i) := by
  refine (if_pos (by simp [hen, hworks, hidle, hwaiting, hdue])).trans ?_
  rw [hnext]
  rfl

theorem exec_bgCalLate_late {s : State} {i : Slice} (hpriv : privileged s i = true)
    (hlate : s.x.bg.lastCal[i] + 2 * ADC_BG_PER s * 1024 < s.x.tick.count) : exec (.bgCalLate i) s = .next (s.evt 0x40 3) :=
  if_pos (by rw [hpriv, decide_eq_true hlate]; rfl)

/-! ### The switches of a cycle (R286) -/

/-- The switch that ends a step. -/
def bgSwitched (s : State) : Nat → Host.Outcome State Fault Refusal
  | 1 => .next (s.modBg fun b => { b with step := 2 })
  | 2 => .next ((s.modBg fun b => { b with
      step := 3, spOffs := wordI (bgOffs b.sz b.z), spGain := wordI (bgGain b.sz b.sr b.z) }).evt 0x51 0)
  | 3 => .next (s.modBg fun b => { b with step := 4 })
  | 4 => .next (s.modBg fun b => { b with step := 5, standIn := true })
  | 5 => .next (s.modBg fun b => { b with step := 6 })
  | 7 => .next (((bgRelease s).modBg fun b => { b with
      count := (b.count + 1) % 65536, lastCal := upd b.lastCal s.x.bg.slice (bgRelease s).x.tick.count }).evt 0x40 0)
  | _ => .next s

/-- With no early return under way, the step that has run its length ends. -/
theorem exec_bgCalStep_due {s : State} {step : Nat} (hend : s.x.bg.endAt = none) (hstep : s.x.bg.step = step) (hruns : step ≠ 0)
    (hdue : bgEnd s.x.bg ≤ bgAge s) : exec .bgCalStep s = bgSwitched s step := by
  have hjudged : ¬ (s.x.bg.step == 0 || decide (bgAge s < bgEnd s.x.bg)) = true := by simp [hstep, hruns, hdue]
  change execBgCalStep s = _
  unfold execBgCalStep
  dsimp only
  rw [hend]
  dsimp only
  rw [if_neg hjudged, hstep]
  rfl

/-- The spare is released: the cycle is over, and the spare that calibrated or returned is idle. -/
theorem bgRelease_of_ret {s : State} (h : s.cp.spare.state = .ret) :
    bgRelease s = (s.modBg fun b => { b with step := 0, standIn := false, endAt := none }).modSpare fun p => { p with state := .idle } :=
  if_pos (by simp [h])

theorem backgroundCycle : Claims.BackgroundCycle := by
  intro i s
  refine ⟨fun hen hworks hidle hwaiting hdue hnext =>
      ⟨_, exec_bgCalStart_due hen hworks hidle hwaiting hdue hnext, rfl, rfl, rfl, rfl, rfl, rfl⟩,
    fun hend => ⟨fun hstep hage => ?_, fun hstep hage => ?_, fun hstep hage => ?_, fun hstep hage => ?_, fun hstep hage => ?_,
      fun hstep hage hret => ?_⟩, exec_bgCalLate_late⟩
  all_goals
    have hdue : bgEnd s.x.bg ≤ bgAge s := by rw [bgEnd, hstep]; exact hage
    have hexec := exec_bgCalStep_due hend hstep (by decide) hdue
  · exact hexec
  · refine ⟨_, hexec, ?_⟩
    rw [State.evt_bg]
    exact ⟨rfl, rfl, rfl, State.evt_same _ 0x51 0 (by decide)⟩
  · exact hexec
  · exact ⟨_, hexec, rfl, rfl⟩
  · exact hexec
  · refine ⟨_, hexec, ?_⟩
    rw [State.evt_bg, State.evt_spare, bgRelease_of_ret hret]
    exact ⟨rfl, rfl, rfl, upd_same _ _ _, rfl, State.evt_same _ 0x40 0 (by decide)⟩

/-! ### The verdict on a slice's values (R286, R287) -/

/-- The offset and the gain that the slice's measurement gives. -/
def newOffs (s : State) : Int := bgOffs s.x.bg.cz s.x.bg.z
def newGain (s : State) : Int := bgGain s.x.bg.cz s.x.bg.cr s.x.bg.z

/-- Both values fit, and but for the slice's first cycle have changed within the limits. -/
def bgGood (s : State) : Prop :=
  calFits (newOffs s) = true ∧ calFits (newGain s) = true ∧ (s.x.bg.made[s.x.bg.slice] = false ∨
    ((newOffs s - SL_OFFS_I s s.x.bg.slice).natAbs ≤ 16 * ADC_BG_DLIM_DOFF s ∧
      (newGain s - SL_GAIN_I s s.x.bg.slice).natAbs ≤ 8 * ADC_BG_DLIM_DGAIN s))

/-- The measurement of the slice has ended. -/
def bgMeasured (s : State) : Prop := s.x.bg.step = 6 ∧ s.x.bg.endAt = none ∧ bgEnd s.x.bg ≤ bgAge s

/-- The slice returns to its converter. -/
def bgReturns (s : State) : State :=
  (s.modBg fun b => { b with step := 7, made := upd b.made s.x.bg.slice true }).modSpare fun p => { p with state := .ret }

/-- The new values have taken effect. -/
def bgTaken (s : State) : State :=
  (((bgReturns s).setReg (a_SL_OFFS s.x.bg.slice) (wordI (newOffs s))).setReg (a_SL_GAIN s.x.bg.slice) (wordI (newGain s))).modBg
    fun b => { b with rejects := upd b.rejects s.x.bg.slice 0 }

/-- The new values are rejected, with the event alone. -/
def bgRejected (s : State) : State :=
  ((bgReturns s).modBg fun b => { b with rejects := upd b.rejects s.x.bg.slice (s.x.bg.rejects[s.x.bg.slice] + 1) }).evt 0x40 2

theorem bgMeasured_judged {s : State} (h : bgMeasured s) :
    ¬ (s.x.bg.step != 6 || s.x.bg.endAt.isSome || decide (bgAge s < bgEnd s.x.bg)) = true := by
  obtain ⟨hstep, hend, hdue⟩ := h
  simp [hstep, hend, hdue]

theorem bgGood_iff (s : State) : bgGood s ↔
    (calFits (newOffs s) && calFits (newGain s) && (!s.x.bg.made[s.x.bg.slice] ||
      decide ((newOffs s - SL_OFFS_I s s.x.bg.slice).natAbs ≤ 16 * ADC_BG_DLIM_DOFF s) &&
        decide ((newGain s - SL_GAIN_I s s.x.bg.slice).natAbs ≤ 8 * ADC_BG_DLIM_DGAIN s))) = true := by
  simp [bgGood, and_assoc]

theorem exec_bgCalUpdate_taken {s : State} (h : bgMeasured s) (hgood : bgGood s) : exec .bgCalUpdate s = .next (bgTaken s) :=
  (if_neg (bgMeasured_judged h)).trans (if_pos ((bgGood_iff s).mp hgood))

theorem exec_bgCalUpdate_rejected {s : State} (h : bgMeasured s) (hbad : ¬ bgGood s) : exec .bgCalUpdate s =
    .next (if 2 ≤ s.x.bg.rejects[s.x.bg.slice] + 1 then raise (bgRejected s) 0x40 1 else bgRejected s) :=
  (if_neg (bgMeasured_judged h)).trans (if_neg (mt (bgGood_iff s).mpr hbad))

theorem bgTaken_bg (s : State) : (bgTaken s).x.bg = { s.x.bg with
    step := 7, made := upd s.x.bg.made s.x.bg.slice true, rejects := upd s.x.bg.rejects s.x.bg.slice 0 } := by
  rw [bgTaken, State.modBg_x, State.setReg_x, State.setReg_x]
  rfl

theorem bgTaken_offs (s : State) : (bgTaken s).reg (a_SL_OFFS s.x.bg.slice) = wordI (newOffs s) := by
  have hother : a_SL_OFFS s.x.bg.slice ≠ a_SL_GAIN s.x.bg.slice := by unfold a_SL_OFFS a_SL_GAIN addr; omega
  rw [bgTaken, State.modBg_reg, State.reg_setReg_other _ _ _ _ hother, State.reg_setReg_same]

theorem bgTaken_gain (s : State) : (bgTaken s).reg (a_SL_GAIN s.x.bg.slice) = wordI (newGain s) := by
  rw [bgTaken, State.modBg_reg, State.reg_setReg_same]

theorem bgRejected_bg (s : State) : (bgRejected s).x.bg = { s.x.bg with
    step := 7, made := upd s.x.bg.made s.x.bg.slice true
    rejects := upd s.x.bg.rejects s.x.bg.slice (s.x.bg.rejects[s.x.bg.slice] + 1) } := by
  rw [bgRejected, State.evt_bg]
  rfl

/-- The values are rejected with the event, and nothing of another page is written. -/
structure BgRejects (s t : State) : Prop where
  bg : t.x.bg = (bgRejected s).x.bg
  reg : ∀ a, a / 256 ≠ 0x40 → t.reg a = s.reg a
  evt : EvtSet t 0x40 2

theorem BgRejects.of_bgRejected (s : State) : BgRejects s (bgRejected s) where
  bg := rfl
  reg a ha := State.evt_other _ _ _ _ (by rintro rfl; exact ha rfl)
  evt := State.evt_same _ 0x40 2 (by decide)

/-- The error of a second rejection leaves that. -/
theorem BgRejects.of_raise (s : State) : BgRejects s (raise (bgRejected s) 0x40 1) where
  bg := by rw [raise_x]
  reg a ha := (raise_other _ _ _ _ (by rintro rfl; exact ha rfl)).trans ((BgRejects.of_bgRejected s).reg a ha)
  evt := by
    rw [EvtSet, raise_other _ _ _ _ (by decide)]
    exact (BgRejects.of_bgRejected s).evt

theorem exec_bgCalUpdate_rejects {s : State} (h : bgMeasured s) (hbad : ¬ bgGood s) :
    ∃ t, exec .bgCalUpdate s = .next t ∧ BgRejects s t ∧ (1 ≤ s.x.bg.rejects[s.x.bg.slice] → ErrSet t 0x40 1) := by
  refine ⟨_, exec_bgCalUpdate_rejected h hbad, ?_⟩
  split
  next => exact ⟨.of_raise s, fun _ => raise_same _ 0x40 1 (by decide)⟩
  next hfirst => exact ⟨.of_bgRejected s, fun hagain => absurd (Nat.succ_le_succ hagain) hfirst⟩

theorem backgroundUpdate : Claims.BackgroundUpdate := by
  intro s hstep hend hage
  have hmeasured : bgMeasured s := ⟨hstep, hend, by rw [bgEnd, hstep]; exact hage⟩
  refine ⟨fun hgood => ?_, fun hbad => ?_⟩
  · have hbg := bgTaken_bg s
    refine ⟨_, exec_bgCalUpdate_taken hmeasured hgood, bgTaken_offs s, bgTaken_gain s, ?_, ?_, congrArg BgSt.step hbg⟩
    · rw [hbg, upd_same]
    · rw [hbg, upd_same]
  · obtain ⟨t, hexec, hrejects, hfail⟩ := exec_bgCalUpdate_rejects hmeasured hbad
    have hbg := hrejects.bg.trans (bgRejected_bg s)
    refine ⟨t, hexec, hrejects.reg _ ?_, hrejects.reg _ ?_, ?_, hrejects.evt, congrArg BgSt.step hbg, hfail⟩
    · unfold a_SL_OFFS addr; omega
    · unfold a_SL_GAIN addr; omega
    · rw [hbg, upd_same]

/-! ### A reference trace: its request, its start and its switch (R291, R292) -/

theorem set_ADC_REF_CTRL_TRACE_trace (s : State) (v : Bool) : (set_ADC_REF_CTRL_TRACE s v).x.trace = s.x.trace := by
  rw [set_ADC_REF_CTRL_TRACE, State.setReg_trace]

theorem traceRequest_inRange {s : State} (hwaiting : s.x.trace.waiting = false) (hrunning : s.x.trace.running = false)
    (hlo : 500000 ≤ calVref s) (hhi : calVref s ≤ 1200000) :
    traceRequest s = set_ADC_REF_CTRL_TRACE (s.modTrace fun _ => { waiting := true }) true :=
  (if_neg (by rw [hwaiting, hrunning]; decide)).trans (if_neg (by simp [hlo, hhi]))

theorem traceRequest_outside {s : State} (hwaiting : s.x.trace.waiting = false) (hrunning : s.x.trace.running = false)
    (hout : calVref s < 500000 ∨ 1200000 < calVref s) :
    traceRequest s = set_ADC_REF_CTRL_TRACE (s.modTrace fun _ => { refused := true }) false :=
  (if_neg (by rw [hwaiting, hrunning]; decide)).trans (if_pos (by simpa using hout))

/-- A trace has begun. -/
def traceBegun (s : State) : State :=
  (s.modTrace fun t => { t with
    waiting := false, running := true, calv := false, since := s.x.tick.count, sz := 0, sc := 0 }).modSpare
  fun p => { p with state := .calib }

theorem exec_refTraceBegin_idle {s : State} (hwaiting : s.x.trace.waiting = true) (hidle : spareIdle s = true) :
    exec .refTraceBegin s = .next (traceBegun s) :=
  if_pos (by rw [hwaiting, hidle]; rfl)

theorem exec_refTraceToCalv_due {s : State} (hrunning : s.x.trace.running = true)
    (hdue : s.x.trace.since + 65539 ≤ s.x.tick.count) :
    exec .refTraceToCalv s = .next (s.modTrace fun t => { t with calv := true }) :=
  if_pos (by rw [hrunning, decide_eq_true hdue]; rfl)

/-! ### The end of a trace (R291, R292) -/

theorem traceOver_iff (s : State) : traceOver s = true ↔ s.x.trace.running = true ∧ s.x.trace.since + 131078 ≤ s.x.tick.count := by
  rw [traceOver, Bool.and_eq_true, decide_eq_true_iff]
  rfl

theorem traceEnd_trace (s : State) (f : TraceSt → TraceSt) :
    (traceEnd s f).x.trace = f { s.x.trace with waiting := false, running := false, calv := false } := by
  rw [traceEnd, set_ADC_REF_CTRL_TRACE_trace]
  rfl

theorem traceEnd_refErr (s : State) (f : TraceSt → TraceSt) : (traceEnd s f).reg a_ADC_REF_ERR = s.reg a_ADC_REF_ERR :=
  State.reg_setReg_other _ _ _ _ (by decide)

/-- The error that a trace finds. -/
def traceFound (s : State) : Int :=
  rnd ((ratDiv ((calVref s : Rat) * 8388608 / 1250000) (ratDiv ((s.x.trace.sc - s.x.trace.sz : Int) : Rat) 65536) - 1) * 131072)

theorem traceValue_within {s : State} (h : (traceFound s).natAbs ≤ 1311) : traceValue s = some (traceFound s) :=
  if_neg (Nat.not_lt.mpr h)

theorem traceValue_beyond {s : State} (h : 1311 < (traceFound s).natAbs) : traceValue s = none :=
  if_pos h

/-- The spare has traced. -/
def traceFreed (s : State) : State :=
  if s.cp.spare.state = .calib then s.modSpare fun p => { p with state := .idle } else s

theorem traceFreed_reg (s : State) (a : Nat) : (traceFreed s).reg a = s.reg a := by
  unfold traceFreed
  split <;> rfl

/-- The value of a trace is written. -/
def traceWritten (s : State) : State :=
  (traceEnd ((traceFreed s).setReg a_ADC_REF_ERR (wordI (traceFound s))) fun t => { t with done := true }).evt 0x40 4

theorem exec_refTraceDone_within {s : State} (hover : traceOver s = true) (h : (traceFound s).natAbs ≤ 1311) :
    exec .refTraceDone s = .next (traceWritten s) := by
  refine (if_neg (by rw [hover]; decide)).trans ?_
  rw [traceValue_within h]
  rfl

theorem exec_refTraceDone_beyond {s : State} (hover : traceOver s = true) (h : 1311 < (traceFound s).natAbs) :
    exec .refTraceDone s = .next (traceEnd (traceFreed s) fun t => { t with range := true }) := by
  refine (if_neg (by rw [hover]; decide)).trans ?_
  rw [traceValue_beyond h]
  rfl

theorem traceWritten_refErr (s : State) : (traceWritten s).reg a_ADC_REF_ERR = wordI (traceFound s) := by
  rw [traceWritten, State.evt_other _ _ _ _ (by decide), traceEnd_refErr, State.reg_setReg_same]

theorem traceFreed_trace (s : State) : (traceFreed s).x.trace = s.x.trace := by
  unfold traceFreed
  split <;> rfl

theorem traceWritten_trace (s : State) : (traceWritten s).x.trace =
    { s.x.trace with waiting := false, running := false, calv := false, done := true } := by
  rw [traceWritten, State.evt_trace, traceEnd_trace, State.setReg_trace, traceFreed_trace]

theorem traceAbort_early {s : State} (hrun : s.x.trace.waiting = true ∨ s.x.trace.running = true)
    (hearly : s.x.tick.count < s.x.trace.since + 131078) : traceAbort s = traceStop s :=
  (if_neg (by rw [traceOver_iff]; omega)).trans (if_pos (by simpa using hrun))

theorem traceAbort_over {s : State} (hover : traceOver s = true) : traceAbort s = s.modTrace fun t => { t with ignored := true } :=
  if_pos hover

theorem referenceTrace : Claims.ReferenceTrace := by
  intro s
  refine ⟨fun hwaiting hrunning => ⟨fun hlo hhi => ?_, fun hout => ?_⟩,
    fun hwaiting hidle => ⟨_, exec_refTraceBegin_idle hwaiting hidle, rfl, rfl, rfl, rfl⟩,
    exec_refTraceToCalv_due, fun hrunning hend => ?_, fun hrun hearly => ?_, fun hrunning hend => ?_⟩
  · exact ⟨_, congrArg Host.Outcome.next (traceRequest_inRange hwaiting hrunning hlo hhi),
      congrArg TraceSt.waiting (set_ADC_REF_CTRL_TRACE_trace _ _)⟩
  · have htrace := set_ADC_REF_CTRL_TRACE_trace (s.modTrace fun _ => { refused := true }) false
    exact ⟨_, congrArg Host.Outcome.next (traceRequest_outside hwaiting hrunning hout), congrArg TraceSt.waiting htrace,
      congrArg TraceSt.running htrace, congrArg TraceSt.refused htrace⟩
  · have hover := (traceOver_iff s).mpr ⟨hrunning, hend⟩
    refine ⟨fun hwithin => ?_, fun hbeyond => ?_⟩
    · have htrace := traceWritten_trace s
      exact ⟨_, exec_refTraceDone_within hover hwithin, traceWritten_refErr s, congrArg TraceSt.done htrace,
        congrArg TraceSt.running htrace, State.evt_same _ 0x40 4 (by decide)⟩
    · have htrace := traceEnd_trace (traceFreed s) fun t => { t with range := true }
      exact ⟨_, exec_refTraceDone_beyond hover hbeyond, (traceEnd_refErr _ _).trans (traceFreed_reg s _),
        congrArg TraceSt.range htrace, congrArg TraceSt.running htrace⟩
  · have htrace := traceEnd_trace s fun t => { t with aborted := true }
    exact ⟨_, congrArg Host.Outcome.next (traceAbort_early hrun hearly), congrArg TraceSt.running htrace,
      congrArg TraceSt.waiting htrace, congrArg TraceSt.aborted htrace, traceEnd_refErr s _⟩
  · exact congrArg Host.Outcome.next (traceAbort_over ((traceOver_iff s).mpr ⟨hrunning, hend⟩))

/-- Settles O39: each switch of a cycle falls to the step that has run its length, the verdict keeps or replaces both values of the slice,
and a trace ends with its value, with RANGE or by its abort. -/
theorem backgroundCalibration : Obligations.BackgroundCalibration := ⟨backgroundCycle, backgroundUpdate, referenceTrace⟩

end Sys2Proof.Machine

/-! PROOFS. Conversions: the triggers and the end of a fine conversion, the open-wire flag, the faults and the pairs of the converters, the
results and the comparators of the AX, each said once, and the obligation on them (O37). -/

namespace Sys2Proof.Machine

/-! ### One slice put back as it is -/

theorem State.modSl_self {s : State} {i : Slice} {f : SliceSt → SliceSt} (h : f s.x.slices[i] = s.x.slices[i]) : s.modSl i f = s := by
  rw [State.modSl, h, upd_getElem]

theorem State.modSl_same (s : State) (i : Slice) (f : SliceSt → SliceSt) : (s.modSl i f).x.slices[i] = f s.x.slices[i] :=
  upd_same s.x.slices i _

theorem State.modSl_other {i j : Slice} (h : j ≠ i) (s : State) (f : SliceSt → SliceSt) :
    (s.modSl i f).x.slices[j] = s.x.slices[j] :=
  upd_other s.x.slices i j _ h

theorem State.modSl_reg (s : State) (i : Slice) (f : SliceSt → SliceSt) (a : Nat) : (s.modSl i f).reg a = s.reg a := rfl

theorem State.modSl_modSl (s : State) (i : Slice) (f g : SliceSt → SliceSt) : (s.modSl i f).modSl i g = s.modSl i (g ∘ f) := by
  simp only [State.modSl, upd_same, upd_upd]
  rfl

theorem State.evt_slices (s : State) (page b : Nat) : (s.evt page b).x.slices = s.x.slices := by rw [State.evt_x]

/-! ### What the words of a slice rest on (R260, R286, R289) -/

/-- The states correct a word alike and take it from the same converter. -/
structure SameWords (s t : State) : Prop where
  reg : ∀ a, a % 256 ≠ 6 → t.reg a = s.reg a
  sup : t.cp.sup = s.cp.sup
  ext : ∃ r v, t.x = { s.x with regs := r, slices := v }

namespace SameWords

theorem refl (s : State) : SameWords s s := ⟨fun _ _ => rfl, rfl, _, _, rfl⟩

theorem trans {s t u : State} (h : SameWords s t) (h' : SameWords t u) : SameWords s u where
  reg a ha := (h'.reg a ha).trans (h.reg a ha)
  sup := h'.sup.trans h.sup
  ext := by
    obtain ⟨r, v, hx⟩ := h.ext
    obtain ⟨r', v', hx'⟩ := h'.ext
    exact ⟨r', v', by rw [hx', hx]⟩

theorem of_modSl (s : State) (i : Slice) (f : SliceSt → SliceSt) : SameWords s (s.modSl i f) :=
  ⟨fun _ _ => rfl, rfl, _, _, rfl⟩

theorem of_evt (s : State) (page b : Nat) : SameWords s (s.evt page b) where
  reg a ha := State.evt_other s page b a (by unfold addr; omega)
  sup := by rw [State.evt_cp]
  ext := ⟨_, _, State.evt_x s page b⟩

theorem delivBy {s t : State} (h : SameWords s t) (i : Slice) : delivBy t i = delivBy s i := by
  obtain ⟨r, v, hx⟩ := h.ext
  simp only [Machine.delivBy, altConv, standsIn, bgToSpare, bgToOwn, State.isFenced, h.sup, hx]
  rfl

theorem traceValue {s t : State} (h : SameWords s t) : traceValue t = traceValue s := by
  obtain ⟨r, v, hx⟩ := h.ext
  have hvref : calVref t = calVref s := by
    rw [calVref, CAL_VREF_H_VREF, CAL_VREF_L, h.reg _ (by decide), h.reg _ (by decide)]
    rfl
  simp only [Machine.traceValue, hvref, hx]

theorem refErr {s t : State} (h : SameWords s t) : refErr t = refErr s := by
  obtain ⟨r, v, hx⟩ := h.ext
  have hstored : ADC_REF_ERR_I t = ADC_REF_ERR_I s := by
    rw [ADC_REF_ERR_I, h.reg _ (by decide)]
    rfl
  simp only [Machine.refErr, traceOver, h.traceValue, hstored, hx]
  rfl

theorem correct {s t : State} (h : SameWords s t) (c : Conv) (r : Int) : correct t c r = correct s c r := by
  obtain ⟨g, v, hx⟩ := h.ext
  have hpriv (i : Slice) : privileged t i = privileged s i := by
    rw [privileged, ADC_PRIV, h.reg _ (by decide)]
    rfl
  have hoffs (i : Nat) : SL_OFFS_I t i = SL_OFFS_I s i := by
    rw [SL_OFFS_I, h.reg _ (by unfold addr; omega)]
    rfl
  have hgain (i : Nat) : SL_GAIN_I t i = SL_GAIN_I s i := by
    rw [SL_GAIN_I, h.reg _ (by unfold addr; omega)]
    rfl
  unfold Machine.correct
  split
  · simp only [hpriv, hoffs, hgain, h.refErr]
  · rw [h.refErr, hx]

theorem enabled {s t : State} (h : SameWords s t) (i : Slice) : SL_CFG_EN t i = SL_CFG_EN s i := by
  rw [SL_CFG_EN, h.reg _ (by unfold addr; omega)]
  rfl

theorem mode {s t : State} (h : SameWords s t) (i : Slice) : SL_CFG_FMODE t i = SL_CFG_FMODE s i := by
  rw [SL_CFG_FMODE, h.reg _ (by unfold addr; omega)]
  rfl

end SameWords

/-! ### The triggers of a fine path (R264) -/

theorem fineTrigger_new {s : State} {i : Slice} {cyc : Nat} (hmode : SL_CFG_FMODE s i = 2) (hen : SL_CFG_EN s i = true)
    (hnew : cycleNow s cyc ∉ s.x.slices[i].trigs) :
    fineTrigger s i cyc = s.modSl i fun v => { v with
      trigs := v.trigs.filter (· < cycleNow s cyc) ++ cycleNow s cyc :: v.trigs.filter (cycleNow s cyc < ·) } :=
  if_neg (by simpa [hmode, hen] using hnew)

theorem fineTrigger_none {s : State} {i : Slice} {cyc : Nat}
    (h : SL_CFG_FMODE s i ≠ 2 ∨ SL_CFG_EN s i = false ∨ cycleNow s cyc ∈ s.x.slices[i].trigs) : fineTrigger s i cyc = s :=
  if_pos (by simpa [or_assoc] using h)

theorem fineTake_held {s : State} {i : Slice} (hbusy : s.x.slices[i].busy = true) (hheld : s.x.slices[i].held = false) :
    fineTake s i = s.modSl i fun v => { v with held := true } :=
  (if_neg (by rw [hbusy]; decide)).trans (if_pos (by rw [hheld]; rfl))

theorem satInc_eq_min (limit n : Nat) : satInc limit n = min limit (n + 1) := by
  unfold satInc
  split <;> omega

theorem fineTake_overrun {s : State} {i : Slice} (hbusy : s.x.slices[i].busy = true) (hheld : s.x.slices[i].held = true) :
    fineTake s i = (s.modSl i fun v => { v with ovr := satInc 0xFFFF v.ovr }).evt (slPage i) 3 :=
  (if_neg (by rw [hbusy]; decide)).trans (if_neg (by rw [hheld]; decide))

/-- With no trigger before the cycle, none is taken. -/
theorem fineTakeBefore_none {s : State} {i : Slice} {cyc : Nat} (h : ∀ c ∈ s.x.slices[i].trigs, cyc ≤ c) :
    fineTakeBefore s i cyc = s := by
  have hbefore : s.x.slices[i].trigs.filter (· < cyc) = [] := List.filter_eq_nil_iff.mpr fun c hc => by simpa using h c hc
  have hrest : s.x.slices[i].trigs.filter (cyc ≤ ·) = s.x.slices[i].trigs := List.filter_eq_self.mpr fun c hc => by simpa using h c hc
  rw [fineTakeBefore, hbefore, hrest]
  exact State.modSl_self rfl

/-- One trigger that waits, before the cycle, is taken. -/
theorem fineTakeBefore_one {s : State} {i : Slice} {c cyc : Nat} (htrigs : s.x.slices[i].trigs = [c]) (h : c < cyc) :
    fineTakeBefore s i cyc = fineTake (s.modSl i fun v => { v with trigs := [] }) i := by
  simp only [fineTakeBefore, htrigs, List.filter_cons, List.filter_nil, decide_eq_true h, decide_eq_false (Nat.not_le.mpr h)]
  rfl

theorem fineTakeBefore_held {s : State} {i : Slice} {c cyc : Nat} (htrigs : s.x.slices[i].trigs = [c]) (h : c < cyc)
    (hbusy : s.x.slices[i].busy = true) (hheld : s.x.slices[i].held = false) :
    fineTakeBefore s i cyc = s.modSl i fun v => { v with trigs := [], held := true } := by
  have hsame := State.modSl_same s i fun v => { v with trigs := [] }
  rw [fineTakeBefore_one htrigs h, fineTake_held ((congrArg SliceSt.busy hsame).trans hbusy) ((congrArg SliceSt.held hsame).trans hheld),
    State.modSl_modSl]
  rfl

/-- A trigger that waited has found a held one: it counts, with its event. -/
def fineOverrun (s : State) (i : Slice) : State :=
  (s.modSl i fun v => { v with trigs := [], ovr := min 65535 (v.ovr + 1) }).evt (slPage i) 3

theorem fineTakeBefore_overrun {s : State} {i : Slice} {c cyc : Nat} (htrigs : s.x.slices[i].trigs = [c]) (h : c < cyc)
    (hbusy : s.x.slices[i].busy = true) (hheld : s.x.slices[i].held = true) : fineTakeBefore s i cyc = fineOverrun s i := by
  have hsame := State.modSl_same s i fun v => { v with trigs := [] }
  rw [fineTakeBefore_one htrigs h, fineTake_overrun ((congrArg SliceSt.busy hsame).trans hbusy) ((congrArg SliceSt.held hsame).trans hheld),
    State.modSl_modSl]
  simp only [satInc_eq_min]
  rfl

theorem SameWords.of_fineOverrun (s : State) (i : Slice) : SameWords s (fineOverrun s i) :=
  (of_modSl s i _).trans (of_evt _ _ _)

theorem fineOverrun_same (s : State) (i : Slice) :
    (fineOverrun s i).x.slices[i] = { s.x.slices[i] with trigs := [], ovr := min 65535 (s.x.slices[i].ovr + 1) } := by
  rw [fineOverrun, State.evt_slices, State.modSl_same]

theorem fineOverrun_other (s : State) {i j : Slice} (h : j ≠ i) : (fineOverrun s i).x.slices[j] = s.x.slices[j] := by
  rw [fineOverrun, State.evt_slices, State.modSl_other h]

/-! ### The end of a fine conversion (R263, R264) -/

/-- The path of a slice is on, and what delivers it works. -/
def FineRuns (s : State) (i : Slice) : Prop :=
  SL_CFG_EN s i = true ∧ s.x.conv[delivBy s i].fault = false ∧ s.x.dev ≠ .sleep

theorem FineRuns.of_same {s t : State} {i : Slice} (h : SameWords s t) (hruns : FineRuns s i) : FineRuns t i := by
  obtain ⟨hen, hfault, hdev⟩ := hruns
  obtain ⟨r, v, hx⟩ := h.ext
  have hfault' : t.x.conv[delivBy t i].fault = false := by
    simp only [h.delivBy, hx]
    exact hfault
  have hdev' : t.x.dev ≠ .sleep := by
    rw [hx]
    exact hdev
  exact ⟨(h.enabled i).trans hen, hfault', hdev'⟩

/-- The corrected result of the conversion. -/
def fineResult (s : State) (i : Slice) (f : FineDone) : Int := correct s (delivBy s i) f.raw.toInt

theorem SameWords.fineResult {s t : State} (h : SameWords s t) (i : Slice) (f : FineDone) : fineResult t i f = fineResult s i f := by
  rw [Machine.fineResult, h.delivBy, h.correct]
  rfl

theorem exec_fineConversionDone_continuous {s : State} {i : Slice} {f : FineDone}
    (hlater : ∀ c ∈ s.x.slices[i].trigs, cycleNow s f.cyc.val ≤ c) (hruns : FineRuns s i) (hmode : SL_CFG_FMODE s i = 1) :
    exec (.fineConversionDone i f) s = .next (s.modSl i fun v =>
      if v.results < 3 then { v with results := v.results + 1 } else { v with next := some (fineResult s i f) }) := by
  obtain ⟨hen, hfault, hdev⟩ := hruns
  change execFineConversionDone i f s = _
  simp only [execFineConversionDone, fineTakeBefore_none hlater, hen, hfault, hdev, hmode]
  rfl

/-- The conversion of a one-shot has given its result, and a held trigger starts the next. -/
def fineGiven (r : Int) (v : SliceSt) : SliceSt := { v with next := some r, busy := v.held, held := false }

/-- Once the triggers of earlier cycles are taken, the one-shot gives its result. -/
theorem exec_fineConversionDone_oneShot {s u : State} {i : Slice} {f : FineDone}
    (hu : fineTakeBefore s i (cycleNow s f.cyc.val) = u) (hsame : SameWords s u) (hruns : FineRuns s i)
    (hmode : SL_CFG_FMODE s i = 2) (hbusy : u.x.slices[i].busy = true) :
    exec (.fineConversionDone i f) s = .next (u.modSl i (fineGiven (fineResult s i f))) := by
  obtain ⟨hen, hfault, hdev⟩ := hruns.of_same hsame
  have hmode' : SL_CFG_FMODE u i = 2 := (hsame.mode i).trans hmode
  rw [← hsame.fineResult i f]
  change execFineConversionDone i f s = _
  simp only [execFineConversionDone, hu, hen, hfault, hdev, hmode', hbusy]
  rfl

theorem fineConversions : Claims.FineConversions := by
  intro i f s
  refine ⟨fun hen hfault hdev => ?_, fun hmode hen hnew => congrArg Host.Outcome.next (fineTrigger_new hmode hen hnew),
    fun hno => congrArg Host.Outcome.next (fineTrigger_none hno), rfl⟩
  have hruns : FineRuns s i := ⟨hen, hfault, hdev⟩
  refine ⟨fun hlater => ?_, fun c htrigs hc hmode hbusy => ⟨fun hheld => ?_, fun hheld => ?_⟩⟩
  · refine ⟨fun hmode hfew => ?_, fun hmode hmany => ?_, fun hmode hbusy => ?_⟩
    · exact ⟨_, exec_fineConversionDone_continuous hlater hruns hmode, ⟨rfl, fun j hj => State.modSl_other hj s _⟩,
        (State.modSl_same s i _).trans (if_pos hfew)⟩
    · exact ⟨_, exec_fineConversionDone_continuous hlater hruns hmode, ⟨rfl, fun j hj => State.modSl_other hj s _⟩,
        (State.modSl_same s i _).trans (if_neg (Nat.not_lt.mpr hmany))⟩
    · exact ⟨_, exec_fineConversionDone_oneShot (fineTakeBefore_none hlater) (.refl s) hruns hmode hbusy,
        ⟨rfl, fun j hj => State.modSl_other hj s _⟩, State.modSl_same s i _⟩
  · have hslice := State.modSl_same s i fun v => { v with trigs := [], held := true }
    refine ⟨_, exec_fineConversionDone_oneShot (fineTakeBefore_held htrigs hc hbusy hheld) (.of_modSl s i _) hruns hmode
      ((congrArg SliceSt.busy hslice).trans hbusy), ⟨rfl, fun j hj => ?_⟩, ?_⟩
    · exact (State.modSl_other hj _ _).trans (State.modSl_other hj s _)
    · exact (State.modSl_same _ i _).trans (congrArg (fineGiven _) hslice)
  · have hslice := fineOverrun_same s i
    refine ⟨_, exec_fineConversionDone_oneShot (fineTakeBefore_overrun htrigs hc hbusy hheld) (.of_fineOverrun s i) hruns hmode
      ((congrArg SliceSt.busy hslice).trans hbusy), fun j hj => ?_, ?_, ?_⟩
    · exact (State.modSl_other hj _ _).trans (fineOverrun_other s hj)
    · rw [EvtSet, State.modSl_reg]
      exact State.evt_same _ (slPage i) 3 (by decide)
    · rw [State.modSl_same, hslice, fineGiven, hheld]
      rfl

/-! ### The converters (R266, R267, R270, R271) -/

theorem exec_openWireDetect_hit {s : State} {i : Slice} (hten : SL_OW_TEN s i = true) (hhit : SL_OW_N s i ≤ s.x.slices[i].owHit)
    (hclear : s.x.slices[i].ow = false) :
    exec (.openWireDetect i) s = .next ((s.modSl i fun v => { v with ow := true }).evt (slPage i) 0) :=
  if_pos (by rw [hten, hclear, decide_eq_true hhit]; rfl)

theorem exec_openWireDetect_miss {s : State} {i : Slice} (hten : SL_OW_TEN s i = true) (hmiss : SL_OW_N s i ≤ s.x.slices[i].owMiss)
    (hset : s.x.slices[i].ow = true) (hfault : s.x.conv[delivBy s i].fault = false) :
    exec (.openWireDetect i) s = .next (s.modSl i fun v => { v with ow := false }) := by
  have hforced : owForced s i = false := hfault
  refine (if_neg ?_).trans (if_pos ?_)
  · simp only [hset, Bool.not_true, Bool.and_false, Bool.false_eq_true, not_false_iff]
  · rw [hten, hset, hforced, decide_eq_true hmiss]
    rfl

/-- A converter fault sets the fault of its converter and raises its error. -/
def convFaulted (s : State) (c : Conv) (b : Nat) : State := raise (s.modConv c fun v => { v with fault := true }) (convPage c) b

theorem exec_converterFault (s : State) (c : Conv) (parity : Bool) :
    exec (.converterFault c parity) s = .next (convFaulted s c (if parity then 1 else 0)) := by
  cases parity <;> rfl

theorem convFaulted_ext (s : State) (c : Conv) (b : Nat) :
    (convFaulted s c b).x.conv = upd s.x.conv c { s.x.conv[c] with fault := true } ∧ (convFaulted s c b).x.slices = s.x.slices := by
  rw [convFaulted, raise_x]
  exact ⟨rfl, rfl⟩

theorem exec_pairSettleEnd_due {s : State} {k : Fin 8} {a : Nat} (hset : s.x.settle[k] = some a) (hdue : a + 2 ≤ s.x.tick.count) :
    exec (.pairSettleEnd k) s = .next { s with x := { s.x with settle := upd s.x.settle k none } } := by
  change execPairSettleEnd k s = _
  rw [execPairSettleEnd, hset]
  exact if_pos hdue

/-! ### A word that a comparator judges (R268) -/

/-- The converters stay, and of the slices only i moves. -/
structure OnlySlice (i : Slice) (s t : State) : Prop where
  conv : t.x.conv = s.x.conv
  slices : ∀ j, j ≠ i → t.x.slices[j] = s.x.slices[j]

namespace OnlySlice

theorem refl (i : Slice) (s : State) : OnlySlice i s s := ⟨rfl, fun _ _ => rfl⟩

theorem trans {i : Slice} {s t u : State} (h : OnlySlice i s t) (h' : OnlySlice i t u) : OnlySlice i s u :=
  ⟨h'.conv.trans h.conv, fun j hj => (h'.slices j hj).trans (h.slices j hj)⟩

theorem of_modSl (i : Slice) (s : State) (f : SliceSt → SliceSt) : OnlySlice i s (s.modSl i f) :=
  ⟨rfl, fun _ hj => State.modSl_other hj s f⟩

theorem of_evt (i : Slice) (s : State) (page b : Nat) : OnlySlice i s (s.evt page b) := by
  constructor <;> rw [State.evt_x]
  exact fun _ _ => rfl

theorem of_fineTrigger (i : Slice) (s : State) (cyc : Nat) : OnlySlice i s (fineTrigger s i cyc) := by
  unfold fineTrigger
  dsimp only
  split
  · exact refl i s
  · exact of_modSl i s _

theorem of_judgeWindow (i : Slice) (s : State) (w : Int) (cyc : Nat) : OnlySlice i s (judgeWindow s i w cyc) := by
  unfold judgeWindow
  dsimp only
  split
  · split
    · exact refl i s
    · exact of_modSl i s _
  · split
    · split
      · exact ((of_modSl i s _).trans (of_evt i _ _ _)).trans (of_fineTrigger i _ _)
      · exact (of_modSl i s _).trans (of_evt i _ _ _)
    · exact of_modSl i s _

end OnlySlice

/-- The odd converter of a pair has its word. -/
def oddProduced (s : State) (i : Slice) (raw : Raw) : State :=
  s.modConv (convOf i) fun c => { c with odd := some (correct s (convOf i) raw.toInt, raw.toInt) }

theorem exec_pairOddWordProduced_sound {s : State} {k : Fin 8} {o : Slice} (raw : Raw) (hticks : ticking s = true)
    (hodd : o.val = 2 * k.val + 1) (hpair : inPair s o = true) (hfault : s.x.conv[convOf o].fault = false) :
    exec (.pairOddWordProduced k raw) s =
      .next (if delivBy (oddProduced s o raw) o == convOf o then
        judgeWindow (oddProduced s o raw) o ((correct s (convOf o) raw.toInt).fdiv 256) 480 else oddProduced s o raw) := by
  obtain rfl : o = ix16 (2 * k.val + 1) := Fin.ext (by rw [hodd, ix16]; dsimp only; omega)
  exact if_neg (by rw [hticks, hpair, hfault]; simp)

theorem converterEvents : Claims.ConverterEvents := by
  intro i c parity k raw s
  refine ⟨fun hten hhit hclear => ?_, exec_openWireDetect_miss, ?_, fun a => exec_pairSettleEnd_due,
    fun o hticks hodd hpair hfault => ?_⟩
  · exact ⟨_, exec_openWireDetect_hit hten hhit hclear, State.evt_slices _ _ _, State.evt_same _ (slPage i) 0 (by decide)⟩
  · obtain ⟨hconv, hslices⟩ := convFaulted_ext s c (if parity then 1 else 0)
    exact ⟨_, exec_converterFault s c parity, hconv, raise_same _ (convPage c) _ (by split <;> decide), hslices⟩
  · refine ⟨_, exec_pairOddWordProduced_sound raw hticks hodd hpair hfault, ?_⟩
    split
    · have hjudged := OnlySlice.of_judgeWindow o (oddProduced s o raw) ((correct s (convOf o) raw.toInt).fdiv 256) 480
      exact ⟨hjudged.conv, hjudged.slices⟩
    · exact ⟨rfl, fun _ _ => rfl⟩

/-! ### The AX converter (R276, R278) -/

theorem exec_axSlotResult_enabled {s : State} (hen : AX_CFG_EN s = true) (raw : Raw) : exec (.axSlotResult raw) s =
    .next (s.modAx fun a => { a with next := upd a.next a.input (some raw.toInt), input := ix16 (a.input.val + 1) }) :=
  if_pos hen

theorem bit_oneHot_other {m n : Nat} (h : m ≠ n) : bit (oneHot n) m = false := by
  rw [bit, oneHot, word, BitVec.getLsbD_ofNat, Nat.testBit_two_pow_of_ne h.symm, Bool.and_false]

/-- The number of a comparator's bit in AXW_STAT. -/
def axwBit (w : Fin 4) (hi : Bool) : Nat := 2 * w.val + (if hi then 1 else 0)

theorem axwBit_lt (w : Fin 4) (hi : Bool) : axwBit w hi < 16 := by
  unfold axwBit
  split <;> omega

/-- The comparator shows that it has fired. -/
def axwShown (s : State) (w : Fin 4) (hi : Bool) : State :=
  (s.modAx fun a => { a with axw := a.axw ||| oneHot (axwBit w hi) }).evt 0x52 0

theorem axwShown_axw (s : State) (w : Fin 4) (hi : Bool) : (axwShown s w hi).x.ax.axw = s.x.ax.axw ||| oneHot (axwBit w hi) := by
  rw [axwShown, State.evt_x]
  rfl

theorem exec_axWindowFire_enabled {s : State} {w : Fin 4} (hen : AXWw_CFG_EN s w = true) (hi : Bool) :
    exec (.axWindowFire w hi) s = .next (wakeBy (axwShown s w hi) (.axw w)) := by
  refine (if_pos hen).trans ?_
  cases hi <;> rfl

theorem exec_axWindowClear (s : State) (w : Fin 4) (hi : Bool) :
    exec (.axWindowClear w hi) s = .next (s.modAx fun a => { a with axw := a.axw &&& ~~~(oneHot (axwBit w hi)) }) := by
  cases hi <;> rfl

theorem bit_or_oneHot_other (v : Word) {m n : Nat} (h : m ≠ n) : bit (v ||| oneHot n) m = bit v m := by
  rw [bit_or, bit_oneHot_other h, Bool.or_false]

theorem bit_clear_oneHot (v : Word) {n : Nat} (h : n < 16) : bit (v &&& ~~~(oneHot n)) n = false := by
  have hset : (oneHot n).getLsbD n = true := bit_oneHot n h
  rw [bit, BitVec.getLsbD_and, BitVec.getLsbD_not, hset, Bool.not_true, Bool.and_false, Bool.and_false]

theorem bit_clear_oneHot_other (v : Word) {m n : Nat} (h : m ≠ n) : bit (v &&& ~~~(oneHot n)) m = bit v m := by
  have hunset : (oneHot n).getLsbD m = false := bit_oneHot_other h
  rw [bit, BitVec.getLsbD_and, BitVec.getLsbD_not, hunset, Bool.not_false, Bool.and_true]
  by_cases hm : m < 16
  · rw [decide_eq_true hm, Bool.and_true]
    rfl
  · rw [decide_eq_false hm, Bool.and_false, bit, BitVec.getLsbD_of_ge v m (Nat.not_lt.mp hm)]

/-- A wake leaves what the AX shows. -/
theorem wakeBy_ax (s : State) (w : WakeSource) : (wakeBy s w).x.ax = s.x.ax := by
  obtain ⟨r, p, hwake⟩ := wakeBy_frame s w
  rw [hwake]

theorem wakeBy_reg (s : State) (w : WakeSource) {a : Nat} (h : a ≠ addr 0xE0 6) : (wakeBy s w).reg a = s.reg a := by
  unfold wakeBy
  split
  · exact State.evt_other _ 0xE0 2 a h
  · rfl

/-- The source of a wake is noted. -/
theorem wakeBy_noted {s : State} {w : WakeSource} (hdev : s.x.dev = .sleep) (hwaking : s.x.pwr.waking = false)
    (hon : wakeOn s w = true) : ((wakeBy s w).x.pwr.wakeSrc, (wakeBy s w).x.pwr.wakeIx) = wakeCode w := by
  unfold wakeBy
  rw [if_pos (by simp [hdev, hwaking, hon]), State.evt_x]

/-- An armed comparator that shows its firing is a wake source. -/
theorem wakeOn_axwShown {s : State} {w : Fin 4} (hen : AXWw_CFG_EN s w = true) (hwake : AXWw_CFG_WAKE s w = true) (hi : Bool) :
    wakeOn (axwShown s w hi) (.axw w) = true := by
  have hreg := State.evt_other (s.modAx fun a => { a with axw := a.axw ||| oneHot (axwBit w hi) }) 0x52 0
    (addr 0x52 (0x20 + 4 * w)) (by unfold addr; omega)
  have hboth : (AXWw_CFG_EN s w && AXWw_CFG_WAKE s w) = true := by rw [hen, hwake]; rfl
  rw [wakeOn, axwShown, AXWw_CFG_EN, AXWw_CFG_WAKE, hreg]
  exact hboth

theorem axEvents : Claims.AxEvents := by
  intro raw w hi s
  refine ⟨fun hen => ⟨_, exec_axSlotResult_enabled hen raw, rfl, rfl, rfl⟩, fun hen => ?_,
    _, exec_axWindowClear s w hi, bit_clear_oneHot _ (axwBit_lt w hi), fun m hm => bit_clear_oneHot_other _ hm, rfl⟩
  refine ⟨_, exec_axWindowFire_enabled hen hi, ?_⟩
  rw [wakeBy_ax, axwShown_axw, EvtSet, wakeBy_reg _ _ (by decide)]
  refine ⟨bit_or_oneHot _ _ (axwBit_lt w hi), fun m hm => bit_or_oneHot_other _ hm, State.evt_same _ 0x52 0 (by decide),
    fun hdev hwake hwaking => ?_⟩
  have hon := wakeOn_axwShown hen hwake hi
  have hasleep : (axwShown s w hi).x.dev = .sleep := by rw [axwShown, State.evt_x]; exact hdev
  have hstill : (axwShown s w hi).x.pwr.waking = false := by rw [axwShown, State.evt_x]; exact hwaking
  obtain ⟨hwakes, _⟩ := wakeBy_of_asleep hasleep hstill hon
  exact ⟨hwakes, wakeBy_noted hasleep hstill hon⟩

/-- Settles O37: a fine conversion ends over the triggers that were taken before it, each event of a converter takes the one branch that the
counts and the pairs leave it, and a comparator of the AX moves its own bit. -/
theorem conversions : Obligations.Conversions := ⟨fineConversions, converterEvents, axEvents⟩

end Sys2Proof.Machine

/-! PROOFS. The instructions of a clerk: what one that may run makes of its clerk, the bits that a shift gives and the one that it shifts
out, the branch conditions, and the obligations on arithmetic, branches, pauses and requests (O6, O7, O9, O10, O11). -/

namespace Sys2Proof.Machine

/-! ### An instruction that may run (R302, R303) -/

theorem ckWhen_ready {s : State} {c : ClerkIx} (h : ckReady s c = true) (t : State) : ckWhen s c t = .next t :=
  congrArg Host.Outcome.next (if_pos h)

/-- Two changes of a clerk that agree on it as it is are one. -/
theorem State.modCk_congr {s : State} {c : ClerkIx} {f g : ClerkSt → ClerkSt} (h : f s.cp.clerks[c] = g s.cp.clerks[c]) :
    s.modCk c f = s.modCk c g := by
  rw [State.modCk, h, ← State.modCk]

/-! ### Shifts (R306) -/

theorem ckShift_zero (x : BitVec 32) (a : Bool) : ckShift x 0 a = (x, false) := rfl

theorem ckShift_left (x : BitVec 32) {k : Int} (hk : 0 < k) (a : Bool) :
    ckShift x k a = (x <<< k.natAbs, decide (k.natAbs ≤ 32) && x.getLsbD (32 - k.natAbs)) := by
  have hne : k ≠ 0 := by omega
  simp [ckShift, hk, hne]

theorem ckShift_right (x : BitVec 32) {k : Int} (hk : k < 0) (a : Bool) :
    ckShift x k a = (if a then x.sshiftRight k.natAbs else x >>> k.natAbs,
      if k.natAbs ≤ 32 then x.getLsbD (k.natAbs - 1) else a && x.getLsbD 31) := by
  have hne : k ≠ 0 := by omega
  have hnot : ¬ 0 < k := by omega
  simp [ckShift, hnot, hne]

/-- A shift to the left brings zeros in. -/
theorem getLsbD_ckShift_left (x : BitVec 32) {k : Int} (hk : 0 < k) (a : Bool) {i : Nat} (hi : i < 32) :
    (ckShift x k a).1.getLsbD i = (decide (k.toNat ≤ i) && x.getLsbD (i - k.toNat)) := by
  have habs : k.natAbs = k.toNat := by omega
  rw [ckShift_left x hk, habs, BitVec.getLsbD_shiftLeft, decide_eq_true hi, Bool.true_and, ← decide_not]
  simp only [Nat.not_lt]

/-- A shift to the right brings zeros in, or with A = 1 the sign. -/
theorem getLsbD_ckShift_right (x : BitVec 32) {k : Int} (hk : k < 0) (a : Bool) {i : Nat} (hi : i < 32) :
    (ckShift x k a).1.getLsbD i = if i + k.natAbs < 32 then x.getLsbD (i + k.natAbs) else a && x.getLsbD 31 := by
  rw [ckShift_right x hk, Nat.add_comm i]
  cases a with
  | true =>
    have hin : ¬ 32 ≤ i := by omega
    simp [BitVec.getLsbD_sshiftRight, BitVec.msb_eq_getLsbD_last, hin]
  | false =>
    rw [if_neg Bool.false_ne_true, BitVec.getLsbD_ushiftRight, Bool.false_and]
    split
    · rfl
    · next hout => exact BitVec.getLsbD_of_ge x _ (Nat.not_lt.mp hout)

/-- SH puts the shifted word in Rd and the last bit shifted out in C. -/
theorem ckSh_eq (s : State) (c : ClerkIx) (a : Bool) (d : Fin 4) (o : CkOp) :
    ckSh s c a d o = s.modCk c fun v =>
      ckNext { ckPut v d (ckShift v.regs[d] (shAmount v o) a).1 with c := (ckShift v.regs[d] (shAmount v o) a).2 } := by
  cases o <;> rfl

/-- Settles O6: the bits of the three forms of a shift, and the bit at the end that it leaves by. -/
theorem clerkShift : Obligations.ClerkShift := by
  intro c a d o s hready
  refine ⟨(ckShift s.cp.clerks[c].regs[d] (shAmount s.cp.clerks[c] o) a).1,
    (ckShift s.cp.clerks[c].regs[d] (shAmount s.cp.clerks[c] o) a).2, ?_, ?_⟩
  · exact (ckWhen_ready hready _).trans (congrArg _ ((ckSh_eq s c a d o).trans (State.modCk_congr rfl)))
  · dsimp only
    generalize s.cp.clerks[c].regs[d] = x
    generalize shAmount s.cp.clerks[c] o = k
    refine ⟨fun hzero => ?_, fun hleft => ⟨fun i hi => getLsbD_ckShift_left x hleft a hi, fun hshort => ?_⟩,
      fun hright => ⟨fun i hi => getLsbD_ckShift_right x hright a hi, fun hshort => ?_⟩⟩
    · rw [hzero, ckShift_zero]
      exact ⟨rfl, rfl⟩
    · have habs : k.natAbs = k.toNat := by omega
      rw [ckShift_left x hleft, habs, decide_eq_true (by omega), Bool.true_and]
    · have hin : k.natAbs ≤ 32 := by omega
      rw [ckShift_right x hright]
      exact if_pos hin

/-! ### Arithmetic, logic, comparison (R305, R310) -/

theorem clerkSums : Claims.ClerkSums := fun c d o s hready =>
  ⟨ckWhen_ready hready (ckAdd s c d o), ckWhen_ready hready (ckSub s c d o)⟩

theorem clerkLogic : Claims.ClerkLogic := fun c d o s hready =>
  ⟨ckWhen_ready hready (ckAnd s c d o), ckWhen_ready hready (ckOr s c d o)⟩

theorem clerkCompare : Claims.ClerkCompare := fun c d o s hready =>
  ⟨ckWhen_ready hready (ckCmp s c d o), ckWhen_ready hready (ckTchk s c d)⟩

/-- Settles O7: each of the six is the one change of its clerk that it makes when it may run. -/
theorem clerkArithmetic : Obligations.ClerkArithmetic := ⟨clerkSums, clerkLogic, clerkCompare⟩

/-! ### Branches (R307) -/

theorem ckCond_codes (v : ClerkSt) : ckCond v 0 = true ∧ ckCond v 1 = v.z ∧ ckCond v 2 = !v.z ∧ ckCond v 3 = v.n ∧ ckCond v 4 = !v.n ∧
    ckCond v 5 = v.c ∧ ckCond v 6 = !v.c ∧ ckCond v 7 = (v.z || v.n) :=
  ⟨rfl, rfl, rfl, rfl, rfl, rfl, rfl, rfl⟩

/-- The condition of each code, as the table of R307 lists them. -/
theorem ckCond_iff (v : ClerkSt) (k : Fin 8) :
    ckCond v k = true ↔ (k = 0) ∨ (k = 1 ∧ v.z = true) ∨ (k = 2 ∧ v.z = false) ∨ (k = 3 ∧ v.n = true) ∨ (k = 4 ∧ v.n = false) ∨
      (k = 5 ∧ v.c = true) ∨ (k = 6 ∧ v.c = false) ∨ (k = 7 ∧ (v.z = true ∨ v.n = true)) := by
  match k with
  | 0 | 1 | 2 | 3 | 4 | 5 | 6 | 7 => simp [ckCond_codes v]

theorem exec_br_ready {s : State} {c : ClerkIx} (hready : ckReady s c = true) (k : Fin 8) {target : Nat} (ht : target < 240) :
    exec (.br c k target) s = .next (ckBr s c k target) :=
  (ckWhen_ready hready _).trans (congrArg _ (if_neg (Nat.not_le.mpr ht)))

theorem ckBr_taken {s : State} {c : ClerkIx} {k : Fin 8} (h : ckCond s.cp.clerks[c] k = true) (target : Nat) :
    ckBr s c k target = s.modCk c fun v => { v with pc := target, count := v.count + 1 } :=
  State.modCk_congr (if_pos h)

theorem ckBr_untaken {s : State} {c : ClerkIx} {k : Fin 8} (h : ¬ ckCond s.cp.clerks[c] k = true) (target : Nat) :
    ckBr s c k target = s.modCk c ckNext :=
  State.modCk_congr (if_neg h)

/-- Settles O9: a target below 240 is no illegal instruction, and the code's condition decides between it and the next instruction. -/
theorem clerkBranch : Obligations.ClerkBranch := by
  intro c k target s hready ht
  refine ⟨fun holds => ?_, fun hnot => ?_, ckWhen_ready hready (ckNop s c)⟩
  · rw [exec_br_ready hready k ht, ckBr_taken ((ckCond_iff _ k).mpr holds)]
  · rw [exec_br_ready hready k ht, ckBr_untaken (fun h => hnot ((ckCond_iff _ k).mp h))]
    rfl

/-! ### Pauses (R301, R308, R309) -/

/-- A wait count of 0 counts as 1. -/
theorem max_one_eq (n : Nat) : max 1 n = if n = 0 then 1 else n := by
  split <;> omega

theorem exec_waitEnd_due {s : State} {c : ClerkIx} (hwait : clerkState s c = 2) (hzero : s.cp.clerks[c].wait = 0) :
    exec (.waitEnd c) s = .next (s.modCk c fun v => { v with run := .running }) :=
  if_pos (by rw [hwait, hzero]; rfl)

theorem clerkWaits : Claims.ClerkWaits := by
  intro c o s
  refine ⟨fun hready => ?_, fun hready => ckWhen_ready hready (ckHalt s c), exec_waitEnd_due⟩
  refine (ckWhen_ready hready (ckWait s c o)).trans ?_
  simp only [ckWait, max_one_eq]
  rfl

theorem mode_bne_val (mode n : Fin 3) : (mode.val != n.val) = (mode != n) := by
  revert mode n
  decide

/-- The register bit counts in modes 0 and 1, the timer in modes 1 and 2. -/
theorem ckMet_eq (s : State) (c : ClerkIx) {k : WaitCond} {mode : Fin 3} (hmode : k.mode = mode.val) :
    ckMet s c k = (mode != 2 && (bit (clerkRead s k.page k.off) k.bit == k.p), mode != 0 && s.cp.clerks[c].timers[k.t] == 0) := by
  rw [← mode_bne_val, ← mode_bne_val, ← hmode]
  rfl

/-- A clerk goes on from a WAITC whose condition the register bit or the timer meets, and else waits for it. -/
theorem ckWaitc_eq (s : State) (c : ClerkIx) (k : WaitCond) :
    ckWaitc s c k = s.modCk c fun v =>
      if (ckMet s c k).1 || (ckMet s c k).2 then { ckNext v with run := .running, z := (ckMet s c k).1 }
      else { v with count := v.count + 1, run := .waitc, cond := k, ended := true } := rfl

theorem exec_waitcRetest_due {s : State} {c : ClerkIx} (hticks : ticking s = true) (hwaits : clerkState s c = 3)
    (hopen : s.cp.clerks[c].ended = false) (hfirst : s.cp.clerks[c].count = 0) :
    exec (.waitcRetest c) s = .next (ckWaitc s c s.cp.clerks[c].cond) :=
  if_pos (by rw [hticks, hwaits, hopen, hfirst]; rfl)

theorem clerkCondition : Claims.ClerkCondition := by
  intro c p t page off b mode s k byBit byTimer met wait
  have hsame : ckWaitc s c k = s.modCk c (if byBit || byTimer then met else wait) := by
    rw [ckWaitc_eq, ckMet_eq s c (mode := mode) rfl]
    refine State.modCk_congr ?_
    cases byBit || byTimer with
    | true => rfl
    | false => rfl
  refine ⟨fun hready => ?_, fun hticks hwaits hopen hfirst hcond => ?_⟩
  · exact (ckWhen_ready hready (ckWaitc s c k)).trans (congrArg _ hsame)
  · rw [exec_waitcRetest_due hticks hwaits hopen hfirst, hcond, hsame]

/-- Settles O10: WAIT, HALT and the end of a wait, and the test of a WAITC, which its re-test makes again. -/
theorem clerkPauses : Obligations.ClerkPauses := ⟨clerkWaits, clerkCondition⟩

/-! ### Events, timers, requests (R310, R315, R318) -/

/-- The units of TSTART. -/
theorem tstart_unit (unit : Fin 3) : 256 ^ unit.val = if unit = 0 then 1 else if unit = 1 then 256 else 65536 := by
  revert unit; decide

theorem ckTstart_imm (s : State) (c : ClerkIx) (t : Fin 4) (unit : Fin 3) (w : Word) :
    ckTstart s c t unit (.imm w) = s.modCk c fun v => ckNext { v with
      timers := upd v.timers t (w.toNat * (if unit = 0 then 1 else if unit = 1 then 256 else 65536)) } := by
  rw [← tstart_unit]
  rfl

/-- Settles O11: what each of the four gives its clerk, a request by the request flag. -/
theorem clerkRequests : Obligations.ClerkRequests := by
  intro c r l w code unit a cmd s hready
  refine ⟨ckWhen_ready hready (ckEvt s c r l code), ?_, fun q => ckWhen_ready hready (ckTstart s c r 0 (.reg q)),
    ckWhen_ready hready (ckPbr s c w a cmd), ckWhen_ready hready (ckPbw s c w r a cmd)⟩
  exact (ckWhen_ready hready _).trans (congrArg _ (ckTstart_imm s c r unit code))

end Sys2Proof.Machine

/-! PROOFS. Where a clerk stops or starts: an illegal instruction, a slot and what leaves the tick's record of trips in it, the checker, the
command bits, and the obligations on faults and control (O12, O13). -/

namespace Sys2Proof.Machine

/-! ### An illegal instruction (R323) -/

/-- The clerk stops at its instruction with cause and PC, and nothing else of the clerks changes. -/
theorem ckIllegal_clerks (s : State) (c : ClerkIx) (cause : Nat) : (ckIllegal s c cause).cp.clerks = upd s.cp.clerks c
    { s.cp.clerks[c] with fltCause := cause, fltPc := min 239 s.cp.clerks[c].pc, ended := true, illegal := true } := by
  rw [ckIllegal, raise_cp]
  simp only [ckFault, State.modCk_cp, upd_same, upd_upd]

/-- The clerk's unit of the tick is discarded. -/
theorem ckIllegal_rejects {s : State} {c : ClerkIx} {cause : Nat} {u : CommitUnit} (hu : u ∈ (ckIllegal s c cause).cp.clerkUnits)
    (hsrc : u.src = .clerk c) (hdue : u.due = clerkDue s) : u.reject = some 7 := by
  rw [ckIllegal, raise_cp] at hu
  obtain ⟨v, -, rfl⟩ := List.mem_map.mp hu
  split at hsrc
  next hmine => rw [if_pos hmine]
  next hother =>
    rw [if_neg hother] at hdue
    simp [hsrc, hdue] at hother

theorem ckIllegal_err (s : State) (c : ClerkIx) (cause : Nat) :
    bit ((ckIllegal s c cause).reg (a_PG_ERR (0x81 + c.val))) 0 = true :=
  raise_same _ _ 0 (by decide)

theorem exec_illegalInstruction_word {s : State} {c : ClerkIx} {w : BitVec 32} {cause : Nat} (hready : ckReady s c = true)
    (hpc : s.cp.clerks[c].pc < 240) (hword : ckDecode w = .illegal cause) :
    exec (.illegalInstruction c w) s = .next (ckIllegal s c cause) := by
  have hin : ¬ 240 ≤ s.cp.clerks[c].pc := Nat.not_le.mpr hpc
  change execIllegalInstruction c w s = _
  rw [execIllegalInstruction, if_neg (by rw [hready]; decide), if_neg hin, hword]

theorem exec_illegalInstruction_end {s : State} {c : ClerkIx} (hready : ckReady s c = true) (hpc : 240 ≤ s.cp.clerks[c].pc)
    (w : BitVec 32) : exec (.illegalInstruction c w) s = .next (ckIllegal s c 4) := by
  change execIllegalInstruction c w s = _
  rw [execIllegalInstruction, if_neg (by rw [hready]; decide), if_pos hpc]

theorem exec_br_outside {s : State} {c : ClerkIx} (hready : ckReady s c = true) (k : Fin 8) {target : Nat} (ht : 240 ≤ target) :
    exec (.br c k target) s = .next (ckIllegal s c 3) :=
  (ckWhen_ready hready _).trans (congrArg _ (if_pos ht))

theorem clerkIllegal : Claims.ClerkIllegal := by
  intro c w cause s hready v stopped
  have hstops (cause : Nat) : stopped cause (ckIllegal s c cause) :=
    ⟨ckIllegal_clerks s c cause, ckIllegal_err s c cause, fun u hu => ckIllegal_rejects hu⟩
  exact ⟨fun hpc hword => ⟨_, exec_illegalInstruction_word hready hpc hword, hstops cause⟩,
    fun hpc => ⟨_, exec_illegalInstruction_end hready hpc w, hstops 4⟩,
    fun k target ht => ⟨_, exec_br_outside hready k ht, hstops 3⟩⟩

/-! ### A slot that ends (R303) -/

/-- What it takes for an instruction to run. -/
theorem ckReady_iff (s : State) (c : ClerkIx) : ckReady s c = true ↔
    ticking s = true ∧ clerkState s c = 1 ∧ s.cp.clerks[c].ended = false ∧ s.cp.clerks[c].count < 4 := by
  simp [ckReady, and_assoc]

theorem ckSlot_ready {s : State} {c : ClerkIx} (h : ckReady s c = true) (n : Nat) : ckSlot (n + 1) s c = ckSlot n (ckStep s c) c := by
  obtain ⟨-, hruns, hopen, hcount⟩ := (ckReady_iff s c).mp h
  have hleft : ¬ (s.cp.clerks[c].ended || decide (4 ≤ s.cp.clerks[c].count)) = true := by
    rw [hopen, decide_eq_false (Nat.not_le.mpr hcount)]
    decide
  rw [ckSlot, if_neg hleft, hruns]
  rfl

/-- The rest of a slot that has ended is idle. -/
theorem ckSlot_ended {s : State} {c : ClerkIx} (h : s.cp.clerks[c].ended = true) (n : Nat) : ckSlot n s c = s := by
  cases n with
  | zero => rfl
  | succ n =>
    rw [ckSlot, h]
    rfl

theorem ckHalt_ended (s : State) (c : ClerkIx) : (ckHalt s c).cp.clerks[c].ended = true := by
  rw [ckHalt, State.evt_cp]
  simp only [State.modCk_cp, upd_same]

theorem ckStep_decoded {s : State} {c : ClerkIx} {i : CkInstr} (hpc : s.cp.clerks[c].pc < 240)
    (hword : ckDecode (ckFetch s c s.cp.clerks[c].pc) = i) : ckStep s c = ckRun s c i := by
  rw [ckStep, if_neg (Nat.not_le.mpr hpc), hword]

/-- A user list that reads HALT first executes it alone. -/
theorem ckSlot_halt {s : State} {c : ClerkIx} (hready : ckReady s c = true) (hpc : s.cp.clerks[c].pc < 240)
    (hword : ckDecode (ckFetch s c s.cp.clerks[c].pc) = .halt) (n : Nat) : ckSlot (n + 1) s c = ckHalt s c := by
  rw [ckSlot_ready hready, ckStep_decoded hpc hword]
  exact ckSlot_ended (ckHalt_ended s c) n

theorem exec_clerkSlot_user {s : State} {c : ClerkIx} (hticks : ticking s = true) (hsafe : s.x.dev ≠ .safe)
    (huser : CK_CTRL_LISTSEL s c = true) (pass : Bool) : exec (.clerkSlot c pass .none) s = .next (ckSlot 4 s c) :=
  (if_neg (by simp [hticks, hsafe])).trans (congrArg _ (if_pos huser))

/-! ### What a slot leaves (R36) -/

theorem ckWrite_tick (s : State) (c : ClerkIx) (page off : Nat) (w : Word) : (ckWrite s c page off w).x.tick = s.x.tick := by
  unfold ckWrite
  split
  · rfl
  · split
    · rw [raise_x, State.orReg_x]
      rfl
    · split <;> rfl

theorem ckIllegal_tick (s : State) (c : ClerkIx) (cause : Nat) : (ckIllegal s c cause).x.tick = s.x.tick := by
  rw [ckIllegal, raise_x]
  rfl

theorem ckHalt_tick (s : State) (c : ClerkIx) : (ckHalt s c).x.tick = s.x.tick := by
  rw [ckHalt, State.evt_x]
  rfl

theorem ckRun_tick (s : State) (c : ClerkIx) (i : CkInstr) : (ckRun s c i).x.tick = s.x.tick := by
  cases i with
  | st r page x off => exact ckWrite_tick s c page.toNat _ _
  | halt => exact ckHalt_tick s c
  | illegal cause => exact ckIllegal_tick s c cause
  | _ => rfl

theorem ckStep_tick (s : State) (c : ClerkIx) : (ckStep s c).x.tick = s.x.tick := by
  unfold ckStep
  dsimp only
  split
  · exact ckIllegal_tick s c 4
  · exact ckRun_tick s c _

/-- No instruction of a slot touches the record of the tick's trips. -/
theorem ckSlot_tick (n : Nat) (s : State) (c : ClerkIx) : (ckSlot n s c).x.tick = s.x.tick := by
  induction n generalizing s with
  | zero => rfl
  | succ n ih =>
    unfold ckSlot
    dsimp only
    split
    · rfl
    · split
      · rw [ih, ckStep_tick]
      · split
        · rw [ih]
          rfl
        · rfl

theorem slotUpTo_tick (s : State) (c : ClerkIx) (cyc : Nat) : (slotUpTo s c cyc).x.tick = s.x.tick := by
  unfold slotUpTo
  split
  · exact ckSlot_tick _ s c
  · rfl

/-! ### The checker of a clerk (R324, R402) -/

/-- A trip is recorded after those of the tick before it. -/
theorem trip_trips (s : State) (checker cyc : Nat) (units : List FenceUnit) :
    (trip s checker cyc units).x.tick.trips = s.x.tick.trips ++ [{ checker := checker, unit := units, cyc := cyc }] := by
  unfold trip
  dsimp only
  rw [latch_x]
  split <;> simp only [restoreShadows, State.modTick, State.orReg_x]

theorem trip_clerks (s : State) (checker cyc : Nat) (units : List FenceUnit) :
    (trip s checker cyc units).cp.clerks = s.cp.clerks := by
  unfold trip
  dsimp only
  rw [latch_cp]
  split <;> simp only [restoreShadows, State.modTick, State.orReg_cp]

theorem ckFault_clerk (s : State) (c : ClerkIx) (cause : Nat) :
    (ckFault s c cause).cp.clerks[c] =
      { s.cp.clerks[c] with fltCause := cause, fltPc := min 239 s.cp.clerks[c].pc, ended := true } :=
  upd_same _ _ _

theorem exec_clerkSlot_parity {s : State} (hticks : ticking s = true) (hsafe : s.x.dev ≠ .safe) (c : ClerkIx) (pass : Bool) (cyc : Nat) :
    exec (.clerkSlot c pass (.parity cyc)) s =
      .next (raise (trip (ckFault (slotUpTo s c cyc) c 5) 3 cyc [.clerk c]) (0x81 + c.val) 1) :=
  if_neg (by simp [hticks, hsafe])

theorem clerkSlot : Claims.ClerkSlot := by
  intro c pass cyc s hticks hsafe
  refine ⟨fun huser hready hpc hword => ?_, _, exec_clerkSlot_parity hticks hsafe c pass cyc, ?_, ?_, raise_same _ _ 1 (by decide)⟩
  · rw [exec_clerkSlot_user hticks hsafe huser, ckSlot_halt hready hpc hword]
    rfl
  · rw [raise_x]
    refine (trip_trips _ 3 cyc [.clerk c]).trans ?_
    rw [show (ckFault (slotUpTo s c cyc) c 5).x.tick = s.x.tick from slotUpTo_tick s c cyc]
  · rw [raise_cp]
    dsimp only
    rw [trip_clerks, ckFault_clerk]
    exact ⟨rfl, rfl⟩

/-- Settles O12: the three ways to an illegal instruction end in the one stop; a HALT read first ends its slot; and what the checker records
comes after a slot that leaves the tick's trips as they are. -/
theorem clerkFaults : Obligations.ClerkFaults := ⟨clerkIllegal, clerkSlot⟩

/-! ### The command bits (R301, R317, R321) -/

/-- Writing a register leaves what a clerk is doing. -/
theorem clerkState_setReg (s : State) (a : Nat) (w : Word) (c : ClerkIx) : clerkState (s.setReg a w) c = clerkState s c := by
  rw [clerkState, clerkState, State.isFenced, State.isFenced, State.setReg_cp, State.setReg_x]

theorem CK_CTRL_RUN_set (s : State) (i : Nat) (v : Bool) : CK_CTRL_RUN (set_CK_CTRL_RUN s i v) i = v := by
  rw [CK_CTRL_RUN, set_CK_CTRL_RUN, State.reg_setReg_same, bit_setBit_same _ v (by decide)]

theorem set_CK_CTRL_RUN_clerks (s : State) (i : Nat) (v : Bool) : (set_CK_CTRL_RUN s i v).cp.clerks = s.cp.clerks := by
  rw [set_CK_CTRL_RUN, State.setReg_cp]

theorem exec_clerkRun_stopped {s : State} {c : ClerkIx} (h : clerkState s c = 0) :
    exec (.clerkRun c) s = .next (ckStart (set_CK_CTRL_RUN s c true) c) := by
  have hstate : clerkState (set_CK_CTRL_RUN s c true) c = 0 := (clerkState_setReg s _ _ c).trans h
  change execClerkRun c s = _
  rw [execClerkRun, ckRunBit, CK_CTRL_RUN_set, hstate]
  rfl

theorem exec_clerkStop_active {s : State} {c : ClerkIx} (hstopped : clerkState s c ≠ 0) (hfenced : clerkState s c ≠ 6) :
    exec (.clerkStop c) s = .next (ckStop (set_CK_CTRL_RUN s c false) c) := by
  have hstate : clerkState (set_CK_CTRL_RUN s c false) c = clerkState s c := clerkState_setReg s _ _ c
  change execClerkStop c s = _
  rw [execClerkStop, ckRunBit, CK_CTRL_RUN_set, if_neg Bool.false_ne_true, hstate, if_pos (by simp [hstopped, hfenced])]

theorem clerkStopped_iff (s : State) (c : ClerkIx) : clerkStopped s c = true ↔ clerkState s c = 0 ∨ clerkState s c = 6 := by
  simp [clerkStopped]

theorem exec_clerkListSelect_stopped {s : State} {c : ClerkIx} (h : clerkState s c = 0 ∨ clerkState s c = 6) (user : Bool) :
    exec (.clerkListSelect c user) s = .next (set_CK_CTRL_LISTSEL s c user) :=
  if_pos ((clerkStopped_iff s c).mpr h)

theorem exec_clerkListSelect_locked {s : State} {c : ClerkIx} {user : Bool} (h : ¬ (clerkState s c = 0 ∨ clerkState s c = 6))
    (hother : CK_CTRL_LISTSEL s c ≠ user) : exec (.clerkListSelect c user) s = .next (s.evt (0x81 + c.val) 5) :=
  (if_neg (fun hstopped => h ((clerkStopped_iff s c).mp hstopped))).trans (if_neg (by simpa using hother))

/-- Settles O13: each write of a command bit in the state of the clerk that it needs. -/
theorem clerkControl : Obligations.ClerkControl := by
  intro c user s
  refine ⟨fun hstopped => ?_, fun hstopped hfenced => ?_, fun h => exec_clerkListSelect_stopped h user,
    fun hstopped hfenced => exec_clerkListSelect_locked (not_or.mpr ⟨hstopped, hfenced⟩), rfl, rfl⟩
  · refine ⟨_, exec_clerkRun_stopped hstopped, CK_CTRL_RUN_set s c true, ?_⟩
    rw [ckStart]
    dsimp only
    rw [upd_same]
    exact ⟨rfl, rfl, rfl, rfl, rfl, rfl, rfl⟩
  · refine ⟨_, exec_clerkStop_active hstopped hfenced, CK_CTRL_RUN_set s c false, ?_⟩
    rw [ckStop, set_CK_CTRL_RUN_clerks]

end Sys2Proof.Machine

/-! PROOFS. The pack bus: how a request ends or is tried again, what a read brings, which requests are served on a bus that is on, the peer
target's window, and the obligation on them (O60). -/

namespace Sys2Proof.Machine

/-! ### A request ends (R475, R479, R481) -/

/-- The request at the head has ended with a cause and its data, and the next one follows. -/
def PbEnded (s : State) (r : PbReq) (rest : List PbReq) (cause : Nat) (data : Word) (t : State) : Prop :=
  t.x.twp.queue = rest ∧ t.x.twp.onBus = false ∧ t.x.twp.tries = 0 ∧
    t.x.twp.results = s.x.twp.results ++ [(r, cause, data)] ∧ t.cp.clerks = s.cp.clerks

/-- The request at the head waits to start again, with one more retry used. -/
def PbAgain (s t : State) : Prop :=
  t.x.twp.queue = s.x.twp.queue ∧ t.x.twp.onBus = false ∧ t.x.twp.tries = s.x.twp.tries + 1 ∧ t.x.twp.results = s.x.twp.results

theorem pbFinish_ended {s : State} {r : PbReq} {rest : List PbReq} (hqueue : s.x.twp.queue = r :: rest) (cause : Nat) (data : Word) :
    PbEnded s r rest cause data (pbFinish s cause data) := by
  rw [pbFinish, hqueue]
  exact ⟨rfl, rfl, rfl, rfl, rfl⟩

theorem pbRetry_more {s : State} (hleft : s.x.twp.tries < PB_RETRY_RETRY s) (cause : Nat) :
    pbRetry s cause = s.modTwp fun v => { v with onBus := false, tries := v.tries + 1, since := s.x.tick.count } :=
  if_pos hleft

theorem pbRetry_again {s : State} (hleft : s.x.twp.tries < PB_RETRY_RETRY s) (cause : Nat) : PbAgain s (pbRetry s cause) := by
  rw [pbRetry_more hleft]
  exact ⟨rfl, rfl, rfl, rfl⟩

theorem pbRetry_spent {s : State} (hspent : PB_RETRY_RETRY s ≤ s.x.twp.tries) (cause : Nat) : pbRetry s cause = pbFinish s cause 0 :=
  if_neg (Nat.not_lt.mpr hspent)

/-! ### A transaction on a bus that is on (R474) -/

theorem twpOn_iff (s : State) : twpOn s = true ↔ TWP_CFG_EN s = true ∧ working s = true ∧ s.isFenced .twp = false := by
  simp [twpOn, and_assoc]

/-- Nothing cuts a transaction off while the TWP drives its bus. -/
theorem twpCut_of_on {s : State} (hon : twpOn s = true) : twpCut s = s :=
  if_pos (by rw [hon, Bool.or_true])

/-- With EN = 0 the transaction on the bus ends with FENCED. -/
theorem twpCut_of_disabled {s : State} (hbus : s.x.twp.onBus = true) (hen : TWP_CFG_EN s = false) : twpCut s = pbFinish s 7 0 := by
  have hoff : twpOn s = false := by rw [twpOn, hen, Bool.false_and, Bool.false_and]
  rw [twpCut, if_neg (by rw [hbus, hoff]; decide), hen]
  rfl

/-- While a transaction is on the bus no request of the queue is served. -/
theorem pbServe_of_onBus {s : State} (hbus : s.x.twp.onBus = true) (n : Nat) : pbServe n s = s := by
  cases n with
  | zero => rfl
  | succ n => exact if_pos hbus

/-- On a bus that is on, a head that does not name the device itself waits for its start. -/
theorem pbServe_of_head {s : State} {r : PbReq} {rest : List PbReq} (hqueue : s.x.twp.queue = r :: rest) (hon : twpOn s = true)
    (hself : TWP_CFG_TEN s = true → r.addr ≠ TWP_TADDR_ADDR s) (n : Nat) : pbServe n s = s := by
  obtain ⟨hen, -, hfence⟩ := (twpOn_iff s).mp hon
  have hother : ¬ (TWP_CFG_TEN s && r.addr == TWP_TADDR_ADDR s) = true := by simpa using hself
  cases n with
  | zero => rfl
  | succ n =>
    rw [pbServe, hqueue, hfence, hen]
    dsimp only
    rw [if_neg (by decide : ¬ (false || !true) = true), if_neg hother, ite_self]

/-! ### The end of a transaction (R476, R479, R481) -/

theorem exec_packBusDone_whole {s : State} {r : PbReq} {rest : List PbReq} (hqueue : s.x.twp.queue = r :: rest) (hbus : s.x.twp.onBus = true)
    (hon : twpOn s = true) (rx : List Byte) :
    exec (.packBusDone (.whole rx)) s = .next (if r.write then pbFinish s 0 0 else pbReadEnd s r rx) := by
  change execPackBusDone (.whole rx) s = _
  simp only [execPackBusDone, twpCut_of_on hon, hbus, hqueue]

theorem exec_packBusDone_nackAddr {s : State} {r : PbReq} {rest : List PbReq} (hqueue : s.x.twp.queue = r :: rest) (hbus : s.x.twp.onBus = true)
    (hon : twpOn s = true) :
    exec (.packBusDone .nackAddr) s = .next (if TWP_CFG_NACKRT s then pbRetry s 1 else pbFinish s 1 0) := by
  change execPackBusDone .nackAddr s = _
  simp only [execPackBusDone, twpCut_of_on hon, hbus, hqueue]

theorem exec_packBusDone_nackData {s : State} {r : PbReq} {rest : List PbReq} (hqueue : s.x.twp.queue = r :: rest) (hbus : s.x.twp.onBus = true)
    (hon : twpOn s = true) :
    exec (.packBusDone .nackData) s = .next (pbFinish s 2 0) := by
  change execPackBusDone .nackData s = _
  simp only [execPackBusDone, twpCut_of_on hon, hbus, hqueue]

theorem exec_packBusDone_disabled {s : State} {r : PbReq} {rest : List PbReq} (hqueue : s.x.twp.queue = r :: rest)
    (hbus : s.x.twp.onBus = true) (hen : TWP_CFG_EN s = false) (w : PbWire) : exec (.packBusDone w) s = .next (pbFinish s 7 0) := by
  obtain ⟨-, hover, -⟩ := pbFinish_ended hqueue 7 0
  change execPackBusDone w s = _
  rw [execPackBusDone, twpCut_of_disabled hbus hen, hover]

/-- The data bytes of a read. -/
def readData (r : PbReq) (lo hi : Byte) : List Byte := if r.word then [lo, hi] else [lo]

/-- A read whose data is followed by more bytes ends with its value, or where the first of these is no right PEC with BADPEC. -/
theorem pbReadEnd_data (s : State) (r : PbReq) (lo hi : Byte) (more : List Byte) :
    pbReadEnd s r (readData r lo hi ++ more) =
      if !(TWP_CFG_PEC s) || more.getD 0 0xFF == crc8 0 (s.x.twp.wire ++ readData r lo hi) then
        pbFinish s 0 (if r.word then ofBytes hi lo else ofBytes 0 lo)
      else pbFinish s 5 0 := by
  unfold pbReadEnd readData
  cases r.word <;> rfl

theorem pbReadEnd_unchecked {s : State} (hpec : TWP_CFG_PEC s = false) (r : PbReq) (lo hi : Byte) :
    pbReadEnd s r (readData r lo hi) = pbFinish s 0 (if r.word then ofBytes hi lo else ofBytes 0 lo) := by
  rw [← List.append_nil (readData r lo hi), pbReadEnd_data, hpec]
  rfl

theorem pbReadEnd_checked {s : State} (hpec : TWP_CFG_PEC s = true) (r : PbReq) (lo hi pec : Byte) :
    pbReadEnd s r (readData r lo hi ++ [pec]) = if pec = crc8 0 (s.x.twp.wire ++ readData r lo hi) then
      pbFinish s 0 (if r.word then ofBytes hi lo else ofBytes 0 lo) else pbFinish s 5 0 := by
  rw [pbReadEnd_data, hpec]
  simp only [Bool.not_true, Bool.false_or, beq_iff_eq, List.getD_cons_zero]

/-! ### A lost arbitration (R478, R479) -/

/-- The record of a lost arbitration: in the first byte its count, else the other count, the place and LATE. -/
def arbCounted (s : State) (byte : Nat) (b : Fin 8) : State :=
  if byte == 0 then s.modTwp fun v => { v with early := satInc 255 v.early }
  else (s.modTwp fun v => { v with late := satInc 255 v.late, arbByte := byte, arbBit := b.val }).orReg a_TWP_ERR (oneHot 15)

theorem exec_twpArbLoss_onBus {s : State} (hbus : s.x.twp.onBus = true) (hon : twpOn s = true) (byte : Nat) (b : Fin 8) :
    exec (.twpArbLoss byte b) s = .next (pbRetry (arbCounted s byte b) 3) := by
  change execTwpArbLoss byte b s = _
  rw [execTwpArbLoss, twpCut_of_on hon, hbus]
  rfl

theorem arbCounted_first (s : State) (b : Fin 8) : arbCounted s 0 b = s.modTwp fun v => { v with early := satInc 255 v.early } := rfl

theorem arbCounted_later (s : State) {byte : Nat} (h : byte ≠ 0) (b : Fin 8) : arbCounted s byte b =
    (s.modTwp fun v => { v with late := satInc 255 v.late, arbByte := byte, arbBit := b.val }).orReg a_TWP_ERR (oneHot 15) :=
  if_neg (by simpa using h)

/-- The record of a lost arbitration leaves the requests, the clerks and PB_RETRY. -/
theorem arbCounted_keeps (s : State) (byte : Nat) (b : Fin 8) :
    (arbCounted s byte b).x.twp.queue = s.x.twp.queue ∧ (arbCounted s byte b).x.twp.tries = s.x.twp.tries ∧
      (arbCounted s byte b).x.twp.results = s.x.twp.results ∧ (arbCounted s byte b).cp.clerks = s.cp.clerks ∧
      PB_RETRY_RETRY (arbCounted s byte b) = PB_RETRY_RETRY s := by
  by_cases hbyte : byte = 0
  · rw [hbyte, arbCounted_first]
    exact ⟨rfl, rfl, rfl, rfl, rfl⟩
  · rw [arbCounted_later s hbyte, PB_RETRY_RETRY, State.reg_orReg_other _ _ _ _ (by decide), State.orReg_x, State.orReg_cp]
    exact ⟨rfl, rfl, rfl, rfl, rfl⟩

theorem arbCounted_counts (s : State) (byte : Nat) (b : Fin 8) :
    (byte = 0 → (arbCounted s byte b).x.twp.early = min 255 (s.x.twp.early + 1)) ∧
      (byte ≠ 0 → (arbCounted s byte b).x.twp.late = min 255 (s.x.twp.late + 1)) := by
  refine ⟨fun hbyte => ?_, fun hbyte => ?_⟩
  · rw [hbyte, arbCounted_first, ← satInc_eq_min]
    rfl
  · rw [arbCounted_later s hbyte, State.orReg_x, ← satInc_eq_min]
    rfl

theorem pbRetry_arbCounted_again {s : State} {byte : Nat} (b : Fin 8) (hleft : s.x.twp.tries < PB_RETRY_RETRY s) :
    PbAgain s (pbRetry (arbCounted s byte b) 3) ∧
      (byte = 0 → (pbRetry (arbCounted s byte b) 3).x.twp.early = min 255 (s.x.twp.early + 1)) ∧
      (byte ≠ 0 → (pbRetry (arbCounted s byte b) 3).x.twp.late = min 255 (s.x.twp.late + 1)) := by
  obtain ⟨hqueue, htries, hresults, -, hretry⟩ := arbCounted_keeps s byte b
  rw [← hretry, ← htries] at hleft
  obtain ⟨hqueue', hbus, htries', hresults'⟩ := pbRetry_again hleft 3
  refine ⟨⟨hqueue'.trans hqueue, hbus, htries'.trans (congrArg (· + 1) htries), hresults'.trans hresults⟩, ?_⟩
  rw [pbRetry_more hleft]
  exact arbCounted_counts s byte b

theorem pbRetry_arbCounted_ended {s : State} {r : PbReq} {rest : List PbReq} (hqueue : s.x.twp.queue = r :: rest) (byte : Nat) (b : Fin 8)
    (hspent : PB_RETRY_RETRY s ≤ s.x.twp.tries) : PbEnded s r rest 3 0 (pbRetry (arbCounted s byte b) 3) := by
  obtain ⟨hqueue', htries, hresults, hclerks, hretry⟩ := arbCounted_keeps s byte b
  rw [← hretry, ← htries] at hspent
  have hended := pbFinish_ended (hqueue'.trans hqueue) 3 0
  rw [pbRetry_spent hspent]
  rwa [PbEnded, hresults, hclerks] at hended

/-! ### The two timeouts (R477, R480) -/

theorem exec_twpSclTimeout_onBus {s : State} (hbus : s.x.twp.onBus = true) (hon : twpOn s = true) :
    exec .twpSclTimeout s = .next (raise (pbFinish s 4 0) 0xD2 1) := by
  change execTwpSclTimeout s = _
  rw [execTwpSclTimeout, hon, hbus]
  rfl

/-- Raising an error ends no request and leaves none that has ended. -/
theorem PbEnded.raise {s t : State} {r : PbReq} {rest : List PbReq} {cause : Nat} {data : Word} (h : PbEnded s r rest cause data t)
    (page k : Nat) : PbEnded s r rest cause data (raise t page k) := by
  rw [PbEnded, raise_x, raise_cp]
  exact h

theorem exec_twpBusBusyTimeout_due {s : State} {r : PbReq} {rest : List PbReq} (hqueue : s.x.twp.queue = r :: rest)
    (hfree : s.x.twp.onBus = false) (hdue : s.x.twp.since + 41667 ≤ s.x.tick.count) :
    exec .twpBusBusyTimeout s = .next (pbFinish s 6 0) :=
  if_pos (by rw [hqueue, hfree, decide_eq_true hdue]; rfl)

/-! ### The start of a transaction (R476, R477) -/

theorem exec_twpTransactionStart_head {s : State} {r : PbReq} {rest : List PbReq} (hqueue : s.x.twp.queue = r :: rest)
    (hon : twpOn s = true) (hself : TWP_CFG_TEN s = true → r.addr ≠ TWP_TADDR_ADDR s) :
    exec (.twpTransactionStart .none) s = .next (s.modTwp fun v => { v with onBus := true, wire := pbBytes s r }) := by
  have hchecked : (if hostLive s then portCheck s .twp 0 .none else s) = s := ite_self s
  change execTwpTransactionStart .none s = _
  rw [execTwpTransactionStart, hchecked, twpCut_of_on hon, pbServe_of_head hqueue hon hself, hqueue, hon]
  rfl

theorem packBus : Claims.PackBus := by
  intro w r rest rx lo hi pec byte b s hqueue v ended again ad cmd sent wire value data
  have hfinish (cause : Nat) (d : Word) : ended cause d (pbFinish s cause d) := pbFinish_ended hqueue cause d
  refine ⟨fun hbus hon => ?_, fun hbus hen => ⟨_, exec_packBusDone_disabled hqueue hbus hen w, hfinish 7 0⟩,
    fun _ hon hself => exec_twpTransactionStart_head hqueue hon hself,
    fun hfree hdue => ⟨_, exec_twpBusBusyTimeout_due hqueue hfree hdue, hfinish 6 0⟩⟩
  have hwhole := exec_packBusDone_whole hqueue hbus hon
  have hnack := exec_packBusDone_nackAddr hqueue hbus hon
  refine ⟨fun hwrite => ?_, fun hread hpec => ?_, fun hread hpec => ⟨fun hgood => ?_, fun hbad => ?_⟩,
    ⟨_, exec_packBusDone_nackData hqueue hbus hon, hfinish 2 0⟩, fun hnackrt => ?_, fun hnackrt hleft => ?_,
    fun hleft => ⟨_, exec_twpArbLoss_onBus hbus hon byte b, pbRetry_arbCounted_again b hleft⟩,
    fun hspent => ⟨_, exec_twpArbLoss_onBus hbus hon byte b, pbRetry_arbCounted_ended hqueue byte b hspent⟩,
    ⟨_, exec_twpSclTimeout_onBus hbus hon, (pbFinish_ended hqueue 4 0).raise 0xD2 1, raise_same _ 0xD2 1 (by decide)⟩⟩
  · refine ⟨_, hwhole rx, ?_⟩
    rw [if_pos hwrite]
    exact hfinish 0 0
  · refine ⟨_, hwhole data, ?_⟩
    rw [hread, show pbReadEnd s r data = pbFinish s 0 value from pbReadEnd_unchecked hpec r lo hi]
    exact hfinish 0 value
  · refine ⟨_, hwhole (data ++ [pec]), ?_⟩
    rw [hread, show pbReadEnd s r (data ++ [pec]) = pbFinish s 0 value from (pbReadEnd_checked hpec r lo hi pec).trans (if_pos hgood)]
    exact hfinish 0 value
  · refine ⟨_, hwhole (data ++ [pec]), ?_⟩
    rw [hread, show pbReadEnd s r (data ++ [pec]) = pbFinish s 5 0 from (pbReadEnd_checked hpec r lo hi pec).trans (if_neg hbad)]
    exact hfinish 5 0
  · refine ⟨_, hnack, ?_⟩
    rw [hnackrt]
    exact hfinish 1 0
  · refine ⟨_, hnack, ?_⟩
    rw [hnackrt]
    exact pbRetry_again hleft 1

/-! ### The host's own request (R475) -/

theorem exec_packBusGo_idle {s : State} (hidle : s.x.twp.busy = false) (hbus : s.x.twp.onBus = true) :
    exec .packBusGo s = .next (pbGo s) := by
  have hbus' : (pbGo s).x.twp.onBus = true := by
    rw [pbGo, hidle]
    exact hbus
  exact congrArg _ (pbServe_of_onBus hbus' 9)

theorem exec_packBusGo_busy {s : State} (hbusy : s.x.twp.busy = true) (hbus : s.x.twp.onBus = true) : exec .packBusGo s = .next s := by
  have hnone : pbGo s = s := if_pos hbusy
  change execPackBusGo s = _
  rw [execPackBusGo, hnone, pbServe_of_onBus hbus]

/-! ### The peer target (R482) -/

theorem exec_twpPeerWrite_window {s : State} (hon : peerOn s = true) {ix : Byte} {k : Fin 8} (hix : ix.toNat = 16 + k.val) (lo hi : Byte) :
    exec (.twpPeerWrite ix [lo, hi] true) s =
      .next (((s.modTwp fun v => { v with acked := true }).modTwp fun v => { v with tin := upd v.tin k (ofBytes hi lo) }).evt 0xD2 1) := by
  have hin : (decide (16 ≤ ix.toNat) && decide (ix.toNat ≤ 23)) = true := by
    rw [decide_eq_true (by omega), decide_eq_true (by omega)]
    rfl
  have hword : ix8 (ix.toNat - 16 + 0) = k := Fin.ext (by rw [ix8]; dsimp only; omega)
  change execTwpPeerWrite ix [lo, hi] true s = _
  rw [execTwpPeerWrite, hon, hin, ← hword]
  rfl

theorem exec_twpPeerWrite_outside {s : State} (hon : peerOn s = true) {ix : Byte} (hix : 24 ≤ ix.toNat) (data : List Byte) (stop : Bool) :
    exec (.twpPeerWrite ix data stop) s = .next (s.modTwp fun v => { v with acked := false }) := by
  have hout : decide (ix.toNat ≤ 23) = false := decide_eq_false (by omega)
  change execTwpPeerWrite ix data stop s = _
  rw [execTwpPeerWrite, hon, hout, Bool.and_false, Bool.false_and]
  rfl

/-- The next byte below index 16 is one of TWP_TOUT of the published snapshot. -/
theorem peerSend_tout {s : State} {ix : Nat} (hix : ix < 16) : peerSend s ix = s.modTwp fun v => { v with
    sent := v.sent ++ [if v.sent.length % 2 == 0 then loByte (TWP_TOUTi_W (asState s s.pub) ((ix + v.sent.length / 2) % 16))
      else hiByte (TWP_TOUTi_W (asState s s.pub) ((ix + v.sent.length / 2) % 16))] } :=
  if_neg (Nat.not_le.mpr hix)

/-- The first two bytes of a read are one word, low byte first. -/
theorem peerSend_word {s : State} {ix : Nat} (hix : ix < 16) (hfirst : s.x.twp.sent = []) :
    peerSend (peerSend s ix) ix = s.modTwp fun v => { v with
      sent := [loByte (TWP_TOUTi_W (asState s s.pub) ix), hiByte (TWP_TOUTi_W (asState s s.pub) ix)] } := by
  have hmod : (ix + 0) % 16 = ix := Nat.mod_eq_of_lt hix
  rw [peerSend_tout hix, peerSend_tout hix]
  simp only [State.modTwp, hfirst, List.nil_append, List.length_nil, List.length_singleton, Nat.zero_div, Nat.zero_mod, beq_self_eq_true,
    if_true, hmod]
  rfl

theorem exec_twpPeerRead_acked {s : State} (hon : peerOn s = true) {ix : Byte} (hix : ix.toNat < 24) (n : Nat) :
    exec (.twpPeerRead ix ⟨n, .whole⟩) s = .next (((List.range n).foldl (fun t _ => peerSend t ix.toNat)
      (s.modTwp fun v => { v with acked := true, sent := [], peerIx := some ix.toNat })).modTwp fun v => { v with peerIx := none }) := by
  change execTwpPeerRead ix ⟨n, .whole⟩ s = _
  rw [execTwpPeerRead, hon, decide_eq_true hix, if_pos hix]
  rfl

theorem exec_twpPeerRead_word {s : State} (hon : peerOn s = true) {ix : Byte} (hix : ix.toNat < 16) :
    exec (.twpPeerRead ix ⟨2, .whole⟩) s = .next (s.modTwp fun v => { v with
      acked := true, peerIx := none
      sent := [loByte (TWP_TOUTi_W (asState s s.pub) ix.toNat), hiByte (TWP_TOUTi_W (asState s s.pub) ix.toNat)] }) := by
  refine (exec_twpPeerRead_acked hon (by omega) 2).trans (congrArg _ ?_)
  exact congrArg (State.modTwp · fun v => { v with peerIx := none }) (peerSend_word hix rfl)

theorem exec_twpPeerRead_outside {s : State} (hon : peerOn s = true) {ix : Byte} (hix : 24 ≤ ix.toNat) (n : Nat) :
    exec (.twpPeerRead ix ⟨n, .whole⟩) s = .next (s.modTwp fun v => { v with acked := false, sent := [], peerIx := none }) := by
  have hout : ¬ ix.toNat < 24 := Nat.not_lt.mpr hix
  change execTwpPeerRead ix ⟨n, .whole⟩ s = _
  rw [execTwpPeerRead, hon, decide_eq_false hout, if_neg hout]
  rfl

theorem packBusPeers : Claims.PackBusPeers := by
  intro ix lo hi s v req
  refine ⟨fun hidle hbus => ⟨_, exec_packBusGo_idle hidle hbus, ?_⟩, exec_packBusGo_busy, fun hon => ?_, fun hoff => ?_⟩
  · rw [pbGo, show s.x.twp.busy = false from hidle]
    exact ⟨rfl, rfl, rfl, rfl⟩
  · refine ⟨fun k hix => ⟨_, exec_twpPeerWrite_window hon hix lo hi, ?_⟩,
      fun hix => ⟨_, exec_twpPeerWrite_outside hon hix [lo, hi] true, rfl, rfl⟩, fun hix => ⟨_, exec_twpPeerRead_word hon hix, rfl, rfl, rfl⟩,
      fun hix => ⟨_, exec_twpPeerRead_outside hon hix 2, rfl, rfl⟩⟩
    rw [State.evt_x]
    exact ⟨rfl, rfl, State.evt_same _ 0xD2 1 (by decide)⟩
  · have hsilent : (!peerOn s) = true := by rw [hoff]; rfl
    exact ⟨if_pos hsilent, if_pos hsilent⟩

/-- Settles O60: a request ends, is tried again or starts by what the wire and the configuration say, and the peer target's index decides what
it takes and sends. -/
theorem packBusPort : Obligations.PackBusPort := ⟨packBus, packBusPeers⟩

end Sys2Proof.Machine

/-! PROOFS. Tap calibration: what a command begins or is refused, what the end of a run and the release of its target leave, the verdict of a
ring run, and a save from its request to its end, each said once, and the obligation on them (O42). -/

namespace Sys2Proof.Machine

/-! ### A command is refused (R357) -/

theorem calRefusal_busy {s : State} (h : s.x.cal.kind ≠ 0) (kind target : Nat) : calRefusal s kind target = 1 :=
  if_pos (bne_iff_ne.mpr h)

theorem calRefusal_notWorking {s : State} (hidle : s.x.cal.kind = 0) (h : working s = false) (kind target : Nat) :
    calRefusal s kind target = 2 :=
  (if_neg (by rw [hidle]; decide)).trans (if_pos (by rw [h]; rfl))

section Idle
variable {s : State} (hidle : s.x.cal.kind = 0) (hworks : working s = true)
include hidle hworks

/-- What may refuse a TRAIN command of an idle unit in a working device. -/
theorem calRefusal_train (k : Train) : calRefusal s 1 k.val =
    if s.cp.trains[k].state ≠ .off then 3 else if calVref s < 500000 ∨ 1200000 < calVref s then 4
    else if calLegs s k = [] then 5 else 0 := by
  have hk : ix8 k.val = k := Fin.ext (Nat.mod_eq_of_lt k.isLt)
  simp [calRefusal, hidle, hworks, hk]

/-- What may refuse a SRC command of an idle unit in a working device. -/
theorem calRefusal_src (n : Fin 8) : calRefusal s 2 n.val =
    if n.val < 4 ∧ nbit (SRC_CTRL_EN s) n.val = true then 3 else if calVref s < 500000 ∨ 1200000 < calVref s then 4
    else if 4 ≤ n.val then 6 else 0 := by
  simp [calRefusal, hidle, hworks]

/-- Only the reference may refuse a RING command of an idle unit in a working device. -/
theorem calRefusal_ring : calRefusal s 3 0 = if calVref s < 500000 ∨ 1200000 < calVref s then 4 else 0 := by
  simp [calRefusal, hidle, hworks]

end Idle

theorem calStart_refused {s : State} {kind target cause : Nat} (h : calRefusal s kind target = cause) (hcause : cause ≠ 0) :
    calStart s kind target = s.modCal fun v => { v with refused := true, refCause := cause } := by
  rw [calStart, h, if_pos (bne_iff_ne.mpr hcause)]

/-! ### A command begins its run (R357, R359, R360) -/

/-- A run of the given kind, target and legs has begun. -/
def calBegun (s : State) (kind target : Nat) (legs : List Leg) : State :=
  s.modCal fun v => { v with
    kind := kind, target := target, since := s.x.tick.count, len := calLen kind legs.length, legs := legs
    two := kind != 1 || legs.length ≤ 4, lastKind := kind
    done := false, aborted := false, ignored := false, refused := false, fail := false, refCause := 0, abortCause := 0 }

/-- The enable of a source is inactive. -/
def srcDisabled (s : State) (i : Src) : State := { s with x := { s.x with srcEn := upd s.x.srcEn i (SRCs_CFG_POL s i) } }

theorem calStart_train {s : State} {k : Train} (h : calRefusal s 1 k.val = 0) : calStart s 1 k.val = calBegun s 1 k.val (calLegs s k) := by
  have hk : ix8 k.val = k := Fin.ext (Nat.mod_eq_of_lt k.isLt)
  rw [calStart, h, hk]
  rfl

theorem calStart_ring {s : State} (h : calRefusal s 3 0 = 0) : calStart s 3 0 = calBegun s 3 0 [] := by
  rw [calStart, h]
  rfl

/-- A run on a source takes its enable, and its node may be lost. -/
theorem calStart_src {s : State} {j : Src} (h : calRefusal s 2 j.val = 0) :
    calStart s 2 j.val = nodeCheck (srcDisabled (calBegun s 2 j.val []) j) (srcNode s j) := by
  have hj : (⟨j.val % 4, by omega⟩ : Src) = j := Fin.ext (Nat.mod_eq_of_lt j.isLt)
  have hbegun : (if (2 : Nat) == 1 then calLegs s (ix8 j.val) else []) = [] := if_neg (by decide)
  rw [calStart, h]
  refine (if_neg (by decide)).trans ((if_pos rfl).trans ?_)
  rw [hbegun, hj]
  rfl

theorem State.evt_cal (s : State) (page b : Nat) : (s.evt page b).x.cal = s.x.cal := by rw [State.evt_x]

theorem raise_cal (s : State) (page b : Nat) : (raise s page b).x.cal = s.x.cal := by rw [raise_x]

theorem LossKeeps.cal {s t : State} (h : LossKeeps s t) : t.x.cal = s.x.cal := by
  obtain ⟨r, w, d, hx⟩ := h.ext
  rw [hx]

/-- The loss of a node leaves the calibration and the enables. -/
theorem nodeCheck_cal_srcEn (s : State) (k : Fin 2) : (nodeCheck s k).x.cal = s.x.cal ∧ (nodeCheck s k).x.srcEn = s.x.srcEn := by
  obtain ⟨v, hkeeps⟩ := nodeCheck_keeps s k
  exact ⟨hkeeps.cal, hkeeps.srcEn⟩

/-! ### The release of a target (R57, R358) -/

/-- Of the calibration, only the cells that the delay lines have in force may differ (R354). -/
def RunKept (s t : State) : Prop := ∃ h l, t.x.cal = { s.x.cal with ldH := h, ldL := l }

namespace RunKept

theorem of_cal {s t : State} (h : t.x.cal = s.x.cal) : RunKept s t := ⟨_, _, h⟩

theorem trans {s t u : State} (h : RunKept s t) (h' : RunKept t u) : RunKept s u := by
  obtain ⟨a, b, hst⟩ := h
  obtain ⟨c, d, htu⟩ := h'
  exact ⟨c, d, by rw [htu, hst]⟩

theorem of_setTrain (s : State) (k : Train) (st : TrState) : RunKept s (setTrain s k st) := by
  obtain ⟨r, hx⟩ := setTrain_x s k st
  exact of_cal (by rw [hx])

theorem of_evt (s : State) (page b : Nat) : RunKept s (s.evt page b) := of_cal (State.evt_cal s page b)

/-- Adopting the P bits of a register touches the checkpointed copy alone. -/
theorem adopt {s t : State} (h : RunKept s t) (a : Nat) (mask : Word) : RunKept s (adopt t a mask) := h

theorem of_adoptPending (s : State) : RunKept s (adoptPending s) := by
  unfold adoptPending
  extract_lets cells trains legs
  have hcells : RunKept s cells := ⟨_, _, rfl⟩
  have htrains : RunKept s trains := forAll_keeps hcells fun w k hw => by
    split
    · exact hw.adopt _ _
    · exact hw
  have hlegs : RunKept s legs := forAll_keeps htrains fun w n hw => by
    split
    · exact (hw.adopt _ _).adopt _ _
    · exact hw
  split
  next map pairs _ =>
    have hpairs : RunKept s pairs :=
      (List.foldlRecOn (motive := RunKept s) (List.range 6) _ hlegs fun w hw m _ => hw.adopt _ _).adopt _ _
    split
    · exact hpairs.trans (of_cal (raise_cal pairs 0x28 0))
    · exact hpairs
  · exact hlegs

theorem of_startTrain (s : State) (k : Train) : RunKept s (startTrain s k) :=
  of_setTrain (s.modTrain k _) k .prebias

theorem of_trainStart (s : State) (k : Train) : RunKept s (trainStart s k) := by
  unfold trainStart
  split
  · exact of_cal rfl
  · split
    · split
      · exact of_startTrain s k
      · split
        · exact of_cal rfl
        · exact of_evt (s.modTrain k _) _ 7
    · exact of_cal rfl

theorem evt {s t : State} (h : RunKept s t) (page b : Nat) : RunKept s (t.evt page b) := h.trans (of_evt t page b)

/-- The calibration is no part of the checkpoint (R372). -/
theorem checkpointed {s t : State} (h : RunKept s t) (c : Cp) : RunKept s { t with cp := c } := h

theorem of_preloadLoops (s : State) (k : Train) : RunKept s (preloadLoops s k) := by
  unfold preloadLoops
  extract_lets p
  refine forAll_keeps (P := RunKept s) (of_cal rfl) fun t l ht => ?_
  split
  · exact (ht.checkpointed _).evt _ 5
  · exact ht

theorem of_preload (s : State) (k : Train) : RunKept s (preload s k) := by
  unfold preload
  split
  · refine RunKept.trans ?_ (of_preloadLoops _ k)
    exact of_cal rfl
  · exact of_cal rfl

theorem of_calFreeSource (old : CalSt) (s : State) : RunKept s (calFreeSource old s) := by
  unfold calFreeSource
  split
  · exact of_cal rfl
  · split <;> exact of_cal rfl

theorem of_calRelease (old : CalSt) (s : State) : RunKept s (calRelease old s) := by
  unfold calRelease
  split
  · exact ((of_adoptPending s).trans (of_trainStart _ _)).trans (of_preload _ _)
  · exact of_calFreeSource old s

end RunKept

/-! ### An abort (R370) -/

theorem calEnd_cal (s : State) (f : CalSt → CalSt) :
    (calEnd s f).x.cal = f { s.x.cal with kind := 0, endedAt := s.x.tick.count } := by
  rw [calEnd, set_CAL_CMD_KIND, State.setReg_x]
  rfl

theorem calAbortWith_cal (s : State) (cause : Nat) : (calAbortWith s cause).x.cal = { s.x.cal with
    kind := 0, endedAt := s.x.tick.count, aborted := true, abortCause := cause
    failed := upd s.x.cal.failed (calTargetIx s.x.cal) false } := by
  rw [calAbortWith, State.evt_cal, calEnd_cal]

theorem calAbort_early {s : State} (hrun : s.x.cal.kind ≠ 0) (hearly : s.x.tick.count < s.x.cal.since + s.x.cal.len) :
    calAbort s = calAbortWith s 1 :=
  (if_pos (bne_iff_ne.mpr hrun)).trans (if_neg (Nat.not_le.mpr hearly))

theorem calAbort_over {s : State} (hrun : s.x.cal.kind ≠ 0) (hover : s.x.cal.since + s.x.cal.len ≤ s.x.tick.count) :
    calAbort s = s.modCal fun v => { v with ignored := true } :=
  (if_pos (bne_iff_ne.mpr hrun)).trans (if_pos hover)

theorem exec_calAbort_early {s : State} (hrun : s.x.cal.kind ≠ 0) (hearly : s.x.tick.count < s.x.cal.since + s.x.cal.len) :
    ∃ t, exec .calAbort s = .next t ∧ RunKept (calAbortWith s 1) t := by
  refine ⟨_, rfl, ?_⟩
  rw [← calAbort_early hrun hearly]
  exact RunKept.of_calRelease s.x.cal (calAbort s)

theorem calRelease_running {s : State} (hrun : s.x.cal.kind ≠ 0) (old : CalSt) : calRelease old s = s := by
  have hkind : (s.x.cal.kind == 0) = false := beq_false_of_ne hrun
  rw [calRelease, calFreeSource, hkind, bne, hkind]
  rfl

/-- An abort at the end of its run or later leaves the run. -/
theorem exec_calAbort_over {s : State} (hrun : s.x.cal.kind ≠ 0) (hover : s.x.cal.since + s.x.cal.len ≤ s.x.tick.count) :
    exec .calAbort s = .next (s.modCal fun v => { v with ignored := true }) := by
  have hself : ∀ u : State, u.x = s.x → calRelease u.x.cal (calAbort u) = u.modCal fun v => { v with ignored := true } := by
    intro u hu
    rw [calAbort_over (by rw [hu]; exact hrun) (by rw [hu]; exact hover), calRelease_running]
    rw [State.modCal_x, hu]
    exact hrun
  change Host.Outcome.next (atCycle0 _ s) = _
  rw [atCycle0, hself s rfl, hself { s with cp := s.ck } rfl]
  rfl

theorem tapRuns : Claims.TapRuns := by
  intro k j i s hij
  dsimp only
  refine ⟨fun hidle hworks hvref => ?_, fun hidle hworks => ?_, fun c hno hc => ?_, fun hrun hearly => ?_,
    fun hrun hover => exec_calAbort_over hrun hover⟩
  · have hin : ¬ (calVref s < 500000 ∨ 1200000 < calVref s) := by omega
    refine ⟨fun hoff hlegs => ?_, fun hen => ?_, ?_, fun hoff hlegs => ?_, fun n hn => ?_⟩
    · have hfree : calRefusal s 1 k.val = 0 := by rw [calRefusal_train hidle hworks, if_neg (by simpa using hoff), if_neg hin, if_neg hlegs]
      exact ⟨_, congrArg Host.Outcome.next (calStart_train hfree), ⟨rfl, rfl, rfl, rfl, rfl⟩, rfl, rfl⟩
    · have hfree : calRefusal s 2 i.val = 0 := by
        rw [calRefusal_src hidle hworks, hij, if_neg (by simp [hen]), if_neg hin, if_neg (by omega)]
      rw [hij] at hfree
      obtain ⟨hcal, hsrc⟩ := nodeCheck_cal_srcEn (srcDisabled (calBegun s 2 j.val []) j) (srcNode s j)
      refine ⟨_, congrArg Host.Outcome.next ((congrArg (calStart s 2) hij).trans (calStart_src hfree)), ?_, hsrc⟩
      rw [hcal]
      exact ⟨rfl, rfl, rfl, rfl, rfl⟩
    · have hfree : calRefusal s 3 0 = 0 := by rw [calRefusal_ring hidle hworks, if_neg hin]
      exact ⟨_, congrArg Host.Outcome.next (calStart_ring hfree), ⟨rfl, rfl, rfl, rfl, rfl⟩, rfl⟩
    · have hcause : calRefusal s 1 k.val = 5 := by
        rw [calRefusal_train hidle hworks, if_neg (by simpa using hoff), if_neg hin, if_pos hlegs]
      exact ⟨_, congrArg Host.Outcome.next (calStart_refused hcause (by decide)), rfl⟩
    · have hcause : calRefusal s 2 n.val = 6 := by
        rw [calRefusal_src hidle hworks, if_neg (by omega), if_neg hin, if_pos hn]
      exact ⟨_, congrArg Host.Outcome.next (calStart_refused hcause (by decide)), rfl⟩
  · refine ⟨fun hon => ?_, fun hen => ?_, fun hout => ?_⟩
    · have hcause : calRefusal s 1 k.val = 3 := by rw [calRefusal_train hidle hworks, if_pos hon]
      exact ⟨_, congrArg Host.Outcome.next (calStart_refused hcause (by decide)), rfl⟩
    · have hcause : calRefusal s 2 i.val = 3 := by rw [calRefusal_src hidle hworks, hij, if_pos ⟨by omega, hen⟩]
      exact ⟨_, congrArg Host.Outcome.next (calStart_refused hcause (by decide)), rfl⟩
    · have hcause : calRefusal s 3 0 = 4 := by rw [calRefusal_ring hidle hworks, if_pos (by omega)]
      exact ⟨_, congrArg Host.Outcome.next (calStart_refused hcause (by decide)), rfl⟩
  · have hcause : ∀ kind target, calRefusal s kind target = if s.x.cal.kind ≠ 0 then 1 else 2 := by
      intro kind target
      split
      next hbusy => exact calRefusal_busy hbusy kind target
      next hidle => exact calRefusal_notWorking (Decidable.not_not.mp hidle) (hno.resolve_left hidle) kind target
    have hrefused := fun kind target => calStart_refused (hcause kind target) (by split <;> decide)
    rcases hc with rfl | rfl | rfl
    · exact ⟨_, congrArg Host.Outcome.next (hrefused 1 k.val), rfl⟩
    · exact ⟨_, congrArg Host.Outcome.next (hrefused 2 i.val), rfl⟩
    · exact ⟨_, congrArg Host.Outcome.next (hrefused 3 0), rfl⟩
  · obtain ⟨t, hexec, h, l, hcal⟩ := exec_calAbort_early hrun hearly
    rw [calAbortWith_cal] at hcal
    refine ⟨t, hexec, ?_⟩
    rw [hcal]
    exact ⟨rfl, rfl, rfl, rfl⟩

/-! ### The verdict of a ring run (R365, R366, R368) -/

theorem State.modCal_reg (s : State) (f : CalSt → CalSt) (a : Nat) : (s.modCal f).reg a = s.reg a := rfl

theorem State.modCal_congr {s : State} {f g : CalSt → CalSt} (h : f s.x.cal = g s.x.cal) : s.modCal f = s.modCal g := by
  rw [State.modCal, State.modCal, h]

/-- The end of a run writes CAL_CMD alone. -/
theorem calEnd_reg (s : State) (f : CalSt → CalSt) {a : Nat} (h : a ≠ addr 0x58 0x10) : (calEnd s f).reg a = s.reg a :=
  State.reg_setReg_other _ _ a _ h

/-- The cells that a pass measures, within their range. -/
def ringCells (pass : List Int) : Int := max 64 (min 127 (pass.getD 0 0))

theorem ringCells_range (pass : List Int) : 64 ≤ ringCells pass ∧ ringCells pass ≤ 127 := by
  unfold ringCells
  omega

/-- A ring run of two passes is over. -/
def RingOver (s : State) : Prop :=
  s.x.cal.kind = 3 ∧ s.x.cal.two = true ∧ s.x.cal.since + s.x.cal.len ≤ s.x.tick.count

/-- A cell count lies within the limits. -/
def CellsInside (s : State) (x : Int) : Prop := (CAL_CELL_LIM_MIN s : Int) ≤ x ∧ x ≤ (CAL_CELL_LIM_MAX s : Int)

theorem calAbsOk_ring (s : State) (x : Int) : calAbsOk s 7 x = true ↔ CellsInside s x := by
  simp [calAbsOk, CellsInside]

/-- Two passes that disagree fail AGREE. -/
theorem calTest_disagree {s : State} {v : CalSt} (htwo : v.two = true) {a b : Int} (h : CAL_TOL_TOL s < (a - b).natAbs) (med : Int)
    (code : Nat) : calTest s v a b med code = 1 :=
  if_pos (by rw [htwo, decide_eq_true h]; rfl)

/-- Two passes that agree are judged by the limits alone. -/
theorem calTest_agree {s : State} {v : CalSt} (htwo : v.two = true) {a b : Int} (h : (a - b).natAbs ≤ CAL_TOL_TOL s) (med : Int)
    (code : Nat) : calTest s v a b med code = if calAbsOk s code a = true ∧ calAbsOk s code b = true then 0 else 3 := by
  have hagree : ¬ CAL_TOL_TOL s < (a - b).natAbs := Nat.not_lt.mpr h
  simp only [calTest, htwo, hagree, decide_false, Bool.and_false, Bool.not_true, Bool.false_and, Bool.false_eq_true, if_false, Bool.true_and]
  cases calAbsOk s code a <;> cases calAbsOk s code b <;> rfl

/-- The run has passed with a cell count and is over. -/
def ringEnded (s : State) (cells : Nat) : State :=
  let u := calMark (set_CAL_RING_CELLS s cells)
  (calEnd u fun v => { v with
    done := true, valid := v.valid ||| calValidBit { v with kind := v.lastKind }
    last := u.tickW, failed := upd v.failed 12 false }).evt 0x58 0

/-- The run has passed, and with AUTOSAVE a save is due (R375). -/
def ringPassed (s : State) (cells : Nat) : State :=
  if CAL_CTRL_AUTOSAVE (ringEnded s cells) then (ringEnded s cells).modCal fun v => { v with saveDue := true } else ringEnded s cells

/-- The run has failed a test. -/
def ringFailed (s : State) (test : Nat) : State :=
  let t := (calEnd s fun v => { v with
    fail := true, failTest := test, failValue := 7, failItem := 0, failed := upd v.failed 12 true }).evt 0x58 1
  if s.x.cal.failed[(12 : Fin 13)] then raise t 0x58 1 else t

section RingRun
variable {s : State} (hring : RingOver s)
include hring

theorem calTargetIx_ring : calTargetIx s.x.cal = 12 := by
  obtain ⟨hkind, -, -⟩ := hring
  simp only [calTargetIx, hkind]

theorem calItems_ring : calItems s s.x.cal = [(0, 7, 0)] := by
  obtain ⟨hkind, -, -⟩ := hring
  simp only [calItems, hkind]

theorem calResult_ring (pass : List Int) : calResult s s.x.cal.kind 0 7 (pass.getD 0 0) = ringCells pass := by
  obtain ⟨hkind, -, -⟩ := hring
  rw [hkind]
  exact clampI_eq_max_min (by decide) _

theorem calRelease_ring (t : State) : calRelease s.x.cal t = t := by
  obtain ⟨hkind, -, -⟩ := hring
  simp [calRelease, calFreeSource, hkind]

/-- A ring run has one result, whose test decides. -/
theorem calVerdict_ring (m : CalResults) {test : Nat}
    (htest : ∀ med, calTest s s.x.cal (ringCells m.first) (ringCells m.second) med 7 = test) :
    calVerdict m s = if test = 0 then ringPassed s ((ringCells m.first + ringCells m.second + 1).fdiv 2).toNat else ringFailed s test := by
  have ⟨hkind, htwo, hover⟩ := hring
  have hdue : ¬ (s.x.cal.kind == 0 || decide (s.x.tick.count < s.x.cal.since + s.x.cal.len)) = true := by simp [hkind, hover]
  unfold calVerdict
  dsimp only
  rw [if_neg hdue, calItems_ring hring]
  simp only [List.map_cons, List.map_nil, calResult_ring hring, htest, htwo, calTargetIx_ring hring, List.find?_cons, List.find?_nil,
    calRelease_ring hring, List.foldl_cons, List.foldl_nil]
  by_cases hpass : test = 0
  · rw [if_pos hpass, hpass]
    rfl
  · rw [if_neg hpass, bne_iff_ne.mpr hpass]
    rfl

end RingRun

theorem set_CAL_RING_CELLS_cal (s : State) (cells : Nat) : (set_CAL_RING_CELLS s cells).x.cal = s.x.cal := by
  rw [set_CAL_RING_CELLS, State.setReg_x]

theorem set_CAL_RING_CELLS_tick (s : State) (cells : Nat) : (set_CAL_RING_CELLS s cells).x.tick = s.x.tick := by
  rw [set_CAL_RING_CELLS, State.setReg_x]

theorem calMark_tick (s : State) : (calMark s).x.tick = s.x.tick := rfl

theorem calMark_reg (s : State) (a : Nat) : (calMark s).reg a = s.reg a := rfl

/-- The mark of a ring run's entry touches no other field. -/
theorem calMark_ring {s : State} (h : s.x.cal.kind = 3) : (calMark s).x.cal = { s.x.cal with ringOk := true } := by
  unfold calMark
  dsimp only [State.modCal_x]
  rw [h]
  rfl

theorem ringEnded_cal {s : State} (h : s.x.cal.kind = 3) (cells : Nat) : (ringEnded s cells).x.cal = { s.x.cal with
    kind := 0, endedAt := s.x.tick.count, ringOk := true, done := true
    valid := s.x.cal.valid ||| calValidBit { s.x.cal with kind := s.x.cal.lastKind }
    last := s.tickW, failed := upd s.x.cal.failed 12 false } := by
  have hmark : (calMark (set_CAL_RING_CELLS s cells)).x.cal = { s.x.cal with ringOk := true } := by
    rw [calMark_ring (by rw [set_CAL_RING_CELLS_cal]; exact h), set_CAL_RING_CELLS_cal]
  rw [ringEnded, State.evt_cal, calEnd_cal, hmark, State.tickW, calMark_tick, set_CAL_RING_CELLS_tick]
  rfl

theorem ringEnded_reg (s : State) (cells : Nat) {a : Nat} (hcmd : a ≠ addr 0x58 0x10) (hevt : a ≠ addr 0x58 6) :
    (ringEnded s cells).reg a = (set_CAL_RING_CELLS s cells).reg a := by
  rw [ringEnded, State.evt_other _ _ _ _ hevt, calEnd_reg _ _ hcmd, calMark_reg]

theorem ringPassed_reg (s : State) (cells a : Nat) : (ringPassed s cells).reg a = (ringEnded s cells).reg a := by
  unfold ringPassed
  split <;> rfl

theorem ringPassed_cells (s : State) (cells : Nat) : bits ((ringPassed s cells).reg a_CAL_RING) 6 0 = cells % 128 := by
  rw [ringPassed_reg, ringEnded_reg s cells (by decide) (by decide)]
  exact (congrArg (bits · 6 0) (State.reg_setReg_same s _ _)).trans (bits_setBits_same _ cells (by decide) (by decide))

theorem ringPassed_evt (s : State) (cells : Nat) : EvtSet (ringPassed s cells) 0x58 0 := by
  rw [EvtSet, ringPassed_reg]
  exact State.evt_same _ 0x58 0 (by decide)

theorem ringPassed_cal (s : State) (cells : Nat) : (ringPassed s cells).x.cal =
    { (ringEnded s cells).x.cal with saveDue := CAL_CTRL_AUTOSAVE s || (ringEnded s cells).x.cal.saveDue } := by
  have hauto : CAL_CTRL_AUTOSAVE (ringEnded s cells) = CAL_CTRL_AUTOSAVE s := by
    rw [CAL_CTRL_AUTOSAVE, ringEnded_reg s cells (by decide) (by decide)]
    exact congrArg (bit · 0) (State.reg_setReg_other s _ _ _ (by decide))
  rw [ringPassed, hauto]
  cases CAL_CTRL_AUTOSAVE s <;> rfl

theorem ringFailed_cal (s : State) (test : Nat) : (ringFailed s test).x.cal = { s.x.cal with
    kind := 0, endedAt := s.x.tick.count, fail := true, failTest := test, failValue := 7, failItem := 0
    failed := upd s.x.cal.failed 12 true } := by
  unfold ringFailed
  extract_lets t
  have ht : t.x.cal = _ := (State.evt_cal _ 0x58 1).trans (calEnd_cal s _)
  split
  · exact (raise_cal t 0x58 1).trans ht
  · exact ht

/-- A failed run writes its event, CAL_CMD and, the second time, its error. -/
theorem ringFailed_reg (s : State) (test : Nat) {a : Nat} (hcmd : a ≠ addr 0x58 0x10) (hevt : a ≠ addr 0x58 6) (herr : a ≠ a_PG_ERR 0x58) :
    (ringFailed s test).reg a = s.reg a := by
  unfold ringFailed
  extract_lets t
  have ht : t.reg a = s.reg a := (State.evt_other _ 0x58 1 a hevt).trans (calEnd_reg s _ hcmd)
  split
  · exact (raise_other t 0x58 1 a herr).trans ht
  · exact ht

theorem ringFailed_evt (s : State) (test : Nat) : EvtSet (ringFailed s test) 0x58 1 := by
  unfold ringFailed
  extract_lets t
  have ht : EvtSet t 0x58 1 := State.evt_same _ 0x58 1 (by decide)
  split
  · rw [EvtSet, raise_other t 0x58 1 _ (by decide)]
    exact ht
  · exact ht

theorem ringFailed_err {s : State} (h : s.x.cal.failed[(12 : Fin 13)] = true) (test : Nat) : ErrSet (ringFailed s test) 0x58 1 := by
  unfold ringFailed
  rw [if_pos h]
  exact raise_same _ 0x58 1 (by decide)

theorem exec_calVerdict (m : CalResults) (s : State) :
    ∃ t, exec (.calVerdict m) s = .next t ∧ t.x = (calVerdict m s).x ∧ ∀ a, t.reg a = (calVerdict m s).reg a :=
  ⟨_, rfl, rfl, fun _ => rfl⟩

/-- Passes that agree within the limits pass the run. -/
theorem calVerdict_passed {m : CalResults} {s : State} (hring : RingOver s)
    (hagree : (ringCells m.first - ringCells m.second).natAbs ≤ CAL_TOL_TOL s) (hfirst : CellsInside s (ringCells m.first))
    (hsecond : CellsInside s (ringCells m.second)) :
    calVerdict m s = ringPassed s ((ringCells m.first + ringCells m.second + 1).fdiv 2).toNat := by
  have ⟨_, htwo, _⟩ := hring
  have hin := And.intro ((calAbsOk_ring s _).mpr hfirst) ((calAbsOk_ring s _).mpr hsecond)
  rw [calVerdict_ring hring m fun med => (calTest_agree htwo hagree med 7).trans (if_pos hin), if_pos rfl]

/-- The test that a ring run fails: 1 AGREE where its passes disagree, else 3 ABS where one lies outside the limits. -/
def RingFails (s : State) (m : CalResults) (test : Nat) : Prop :=
  (test = 1 ∧ CAL_TOL_TOL s < (ringCells m.first - ringCells m.second).natAbs) ∨
    (test = 3 ∧ (ringCells m.first - ringCells m.second).natAbs ≤ CAL_TOL_TOL s ∧
      ¬ (CellsInside s (ringCells m.first) ∧ CellsInside s (ringCells m.second)))

theorem calVerdict_failed {m : CalResults} {s : State} (hring : RingOver s) {test : Nat} (h : RingFails s m test) :
    calVerdict m s = ringFailed s test := by
  have ⟨_, htwo, _⟩ := hring
  obtain ⟨rfl, hapart⟩ | ⟨rfl, hagree, hout⟩ := h
  · rw [calVerdict_ring hring m fun med => calTest_disagree htwo hapart med 7, if_neg (by decide)]
  · rw [← calAbsOk_ring, ← calAbsOk_ring] at hout
    rw [calVerdict_ring hring m fun med => (calTest_agree htwo hagree med 7).trans (if_neg hout), if_neg (by decide)]

/-- The mean of two cell counts, halves up, is a cell count. -/
theorem ringMean {a b : Int} (ha : 64 ≤ a ∧ a ≤ 127) (hb : 64 ≤ b ∧ b ≤ 127) :
    ((((a + b + 1).fdiv 2).toNat % 128 : Nat) : Int) = (a + b + 1) / 2 := by
  rw [Int.fdiv_eq_ediv_of_nonneg _ (by decide)]
  omega

/-- What a passed run shows. -/
theorem ringVerdict_passed {m : CalResults} {s : State} (hring : RingOver s) (hlast : s.x.cal.lastKind = 3)
    (hagree : (ringCells m.first - ringCells m.second).natAbs ≤ CAL_TOL_TOL s) (hfirst : CellsInside s (ringCells m.first))
    (hsecond : CellsInside s (ringCells m.second)) :
    ∃ t, exec (.calVerdict m) s = .next t ∧ t.x.cal.kind = 0 ∧ t.x.cal.done = true ∧
      (bits (t.reg a_CAL_RING) 6 0 : Int) = (ringCells m.first + ringCells m.second + 1) / 2 ∧ bit t.x.cal.valid 12 = true ∧
      t.x.cal.failed[(12 : Fin 13)] = false ∧ EvtSet t 0x58 0 ∧ (CAL_CTRL_AUTOSAVE s = true → t.x.cal.saveDue = true) := by
  obtain ⟨t, hexec, hx, hreg⟩ := exec_calVerdict m s
  have ⟨hkind, _, _⟩ := hring
  rw [calVerdict_passed hring hagree hfirst hsecond] at hx hreg
  refine ⟨t, hexec, ?_⟩
  rw [EvtSet, hreg, hreg, ringPassed_cells, ringMean (ringCells_range _) (ringCells_range _), hx, ringPassed_cal, ringEnded_cal hkind]
  refine ⟨rfl, rfl, rfl, ?_, upd_same _ 12 false, ringPassed_evt s _, fun hauto => ?_⟩
  · rw [calValidBit]
    dsimp only
    rw [hlast]
    exact bit_or_oneHot _ 12 (by decide)
  · rw [hauto]
    rfl

/-- What a failed run shows. -/
theorem ringVerdict_failed {m : CalResults} {s : State} (hring : RingOver s) {test : Nat} (h : RingFails s m test) :
    ∃ t, exec (.calVerdict m) s = .next t ∧ t.x.cal.kind = 0 ∧ t.x.cal.fail = true ∧ t.x.cal.failTest = test ∧
      t.x.cal.valid = s.x.cal.valid ∧ t.x.cal.failed[(12 : Fin 13)] = true ∧ bits (t.reg a_CAL_RING) 6 0 = bits (s.reg a_CAL_RING) 6 0 ∧
      EvtSet t 0x58 1 ∧ (s.x.cal.failed[(12 : Fin 13)] = true → ErrSet t 0x58 1) := by
  obtain ⟨t, hexec, hx, hreg⟩ := exec_calVerdict m s
  rw [calVerdict_failed hring h] at hx hreg
  refine ⟨t, hexec, ?_⟩
  rw [EvtSet, ErrSet, hreg, hreg, hreg, ringFailed_reg s test (by decide) (by decide) (by decide), hx, ringFailed_cal]
  exact ⟨rfl, rfl, rfl, rfl, upd_same _ 12 true, rfl, ringFailed_evt s test, fun hagain => ringFailed_err hagain test⟩

/-! ### A save is asked for (R375, R392) -/

theorem exec_calSave_idle {s : State} (hserves : s.isFenced .store = false) (hidle : s.x.cal.saveBusy = false) :
    exec .calSave s = .next (s.modCal fun v => { v with saveBusy := true, saveDone := false, saveErr := false }) :=
  congrArg Host.Outcome.next ((if_neg (by rw [hserves]; decide)).trans (State.modCal_congr (if_neg (by rw [hidle]; decide))))

theorem exec_calSave_busy {s : State} (hserves : s.isFenced .store = false) (hbusy : s.x.cal.saveBusy = true) :
    exec .calSave s = .next (s.modCal fun v => { v with saveAgain := v.saveAgain + 1 }) :=
  congrArg Host.Outcome.next ((if_neg (by rw [hserves]; decide)).trans (State.modCal_congr (if_pos hbusy)))

theorem exec_calSave_fenced {s : State} (h : s.isFenced .store = true) :
    exec .calSave s = .next (raise (s.modCal fun v => { v with saveDone := false, saveErr := true }) 0x58 2) :=
  congrArg Host.Outcome.next (if_pos h)

/-! ### Words that nothing has written (R488, R490) -/

/-- No byte of a word is listed. -/
def Unwritten (m : List Host.Cell) (a : Nat) : Prop := ∀ c ∈ m, c.1 / 2 ≠ a

theorem memGet_unlisted {m : List Host.Cell} {a : Nat} (h : ∀ c ∈ m, c.1 ≠ a) : memGet m a = erasedByte := by
  induction m with
  | nil => rfl
  | cons c t ih =>
    obtain ⟨hc, ht⟩ := List.forall_mem_cons.mp h
    exact (if_neg (by simpa using hc.symm)).trans (ih ht)

/-- A byte written where none is listed reads back. -/
theorem memGet_memPut_unlisted {m : List Host.Cell} {a : Nat} (h : ∀ c ∈ m, c.1 ≠ a) (v : Byte) : memGet (memPut m a v) a = v := by
  induction m with
  | nil => by_cases hv : v = erasedByte <;> simp [memPut, memGet, hv]
  | cons c t ih =>
    obtain ⟨b, w⟩ := c
    obtain ⟨hb, ht⟩ := List.forall_mem_cons.mp h
    have hab : a ≠ b := Ne.symm hb
    by_cases hlt : a < b
    · by_cases hv : v = erasedByte
      · simp [memPut, memGet, hlt, hv, hab, memGet_unlisted ht]
      · simp [memPut, memGet, hlt, hv]
    · simp [memPut, memGet, hlt, hab, ih ht]

/-- A write lists no other byte than its own. -/
theorem mem_memPut {m : List Host.Cell} {a : Nat} {v : Byte} {c : Host.Cell} (h : c ∈ memPut m a v) : c ∈ m ∨ c.1 = a := by
  induction m with
  | nil =>
    unfold memPut at h
    split at h
    · exact .inl h
    · exact .inr (congrArg Prod.fst (List.mem_singleton.mp h))
  | cons d t ih =>
    unfold memPut at h
    split at h
    · split at h
      · exact .inl h
      · exact (List.mem_cons.mp h).symm.imp_right (congrArg Prod.fst)
    · split at h
      · split at h
        · exact .inl (.tail _ h)
        · exact (List.mem_cons.mp h).symm.imp (.tail _) (congrArg Prod.fst)
      · obtain rfl | ht := List.mem_cons.mp h
        · exact .inl (.head _)
        · exact (ih ht).imp_left (.tail _)

namespace Unwritten

theorem listed {m : List Host.Cell} {a : Nat} (h : Unwritten m a) {b : Nat} (hb : b / 2 = a) : ∀ c ∈ m, c.1 ≠ b :=
  fun c hc hcb => h c hc (by rw [hcb, hb])

theorem stGet_eq {m : List Host.Cell} {a : Nat} (h : Unwritten m a) : stGet m a = 0xFFFF := by
  rw [stGet, memGet_unlisted (h.listed (by omega)), memGet_unlisted (h.listed (by omega))]
  decide

/-- A word written where nothing was reads back, whatever the order of the list. -/
theorem stGet_stPut {m : List Host.Cell} {a : Nat} (h : Unwritten m a) (w : Word) : stGet (stPut m a w) a = w := by
  have hlow : ∀ c ∈ memPut m (2 * a) (loByte w), c.1 ≠ 2 * a + 1 := fun c hc => by
    obtain hm | hc := mem_memPut hc
    · exact h.listed (by omega) c hm
    · omega
  rw [stGet, stPut, memGet_memPut_unlisted hlow, memGet_memPut_other _ _ _ _ (by omega),
    memGet_memPut_unlisted (h.listed (by omega)), ofBytes_hiLo]

theorem stGet_stProg {m : List Host.Cell} {a : Nat} (h : Unwritten m a) (w : Word) : stGet (stProg m a w) a = w := by
  rw [stProg, h.stGet_stPut, h.stGet_eq]
  exact BitVec.allOnes_and

theorem stProg_other {m : List Host.Cell} {a k : Nat} (h : Unwritten m a) (hk : k ≠ a) (w : Word) : Unwritten (stProg m k w) a := by
  intro c hc
  obtain hc | hc := mem_memPut hc
  · obtain hc | hc := mem_memPut hc
    · exact h c hc
    · omega
  · omega

end Unwritten

/-- The words of a program, one after the other. -/
def progAll (m : List Host.Cell) (a : Nat) (l : List (Nat × Word)) : List Host.Cell := l.foldl (fun m c => stProg m (a + c.1) c.2) m

theorem stGet_progAll_other {a k : Nat} (l : List (Nat × Word)) (m : List Host.Cell) (h : ∀ c ∈ l, k ≠ a + c.1) :
    stGet (progAll m a l) k = stGet m k := by
  induction l generalizing m with
  | nil => rfl
  | cons d t ih =>
    obtain ⟨hd, ht⟩ := List.forall_mem_cons.mp h
    exact (ih _ ht).trans (stGet_stProg_other m _ k _ hd)

/-- Words programmed at different places where nothing was written read back. -/
theorem stGet_progAll {a : Nat} (l : List (Nat × Word)) (m : List Host.Cell) (hplaces : (l.map Prod.fst).Nodup)
    (hfree : ∀ c ∈ l, Unwritten m (a + c.1)) : ∀ c ∈ l, stGet (progAll m a l) (a + c.1) = c.2 := by
  induction l generalizing m with
  | nil => exact fun c hc => absurd hc List.not_mem_nil
  | cons d t ih =>
    obtain ⟨hd, ht⟩ := List.forall_mem_cons.mp hfree
    obtain ⟨hnew, hplaces⟩ := List.nodup_cons.mp hplaces
    have hapart : ∀ c ∈ t, a + d.1 ≠ a + c.1 := fun c hc heq => hnew (List.mem_map.mpr ⟨c, hc, by omega⟩)
    refine List.forall_mem_cons.mpr ⟨?_, ih _ hplaces fun c hc => (ht c hc).stProg_other (hapart c hc) d.2⟩
    exact (stGet_progAll_other t _ hapart).trans (hd.stGet_stProg d.2)

/-! ### The record and its slot (R374, R375) -/

theorem map_fst_numbered (l : List Word) : (numbered l).map Prod.fst = List.range l.length :=
  List.ext_getElem (by simp [numbered]) fun i _ _ => by simp [numbered]

theorem length_calRecord (s : State) (seq : Nat) : (calRecord s seq).length = 128 := by
  have hlegs : ((List.finRange 24).map fun _ => 4).sum = 96 := by decide
  simp only [calRecord, withCrc, List.length_append, List.length_flatMap, List.length_cons, List.length_nil, List.length_map,
    List.length_replicate, List.length_finRange, hlegs]

/-- A slot of the calibration region is empty. -/
def EmptySlot (m : List Host.Cell) (k : Nat) : Prop := ∀ i < 128, Unwritten m (calBase + 128 * k + i)

theorem emptySlot_of_calEmpty {m : List Host.Cell} {k : Nat} (h : calEmpty m = some k) : EmptySlot m k := by
  dsimp only [calEmpty] at h
  have hk : k < 256 := List.mem_range.mp (List.mem_of_find?_eq_some h)
  have hunused : k ∉ recordsIn m calBase 128 256 := by simpa using List.find?_some h
  intro i hi c hc hword
  refine hunused (List.mem_eraseDups.mpr (List.mem_filterMap.mpr ⟨c, hc, ?_⟩))
  dsimp only
  rw [hword, if_pos, Nat.add_assoc, Nat.add_sub_cancel_left]
  · congr 1
    omega
  · exact Bool.and_eq_true_iff.mpr ⟨decide_eq_true (by omega), decide_eq_true (by omega)⟩

theorem emptySlot_stErase (m : List Host.Cell) : EmptySlot (stErase m 4) 0 := by
  intro i hi c hc hword
  have hout : c.1 / 65536 ≠ 4 := by simpa using (List.mem_filter.mp hc).2
  unfold calBase sectorWords at hword
  omega

/-- A record programmed into an empty slot and read back as it is gives no mismatch. -/
theorem progWords_emptySlot {s : State} {k : Nat} (h : EmptySlot s.x.store.mem k) (t : State) (seq : Nat) {r : ArrayRead} (hread : r.bad = []) :
    (progWords s (calBase + 128 * k) (numbered (calRecord t seq)) r).2 = false := by
  have hplaces := map_fst_numbered (calRecord t seq)
  rw [length_calRecord] at hplaces
  have hfree : ∀ c ∈ numbered (calRecord t seq), Unwritten s.x.store.mem (calBase + 128 * k + c.1) := fun c hc =>
    h c.1 (List.mem_range.mp (hplaces ▸ List.mem_map_of_mem hc))
  have hback := stGet_progAll _ _ (hplaces ▸ List.nodup_range) hfree
  unfold progWords
  dsimp only
  rw [hread, List.foldl_nil]
  exact List.any_eq_false.mpr fun c hc => by simpa [progAll] using hback c hc

/-! ### The end of a save (R375, R492) -/

/-- The calibration and the array's operation stay as they are. -/
def SaveKept (s t : State) : Prop := t.x.cal = s.x.cal ∧ t.x.store.op = s.x.store.op

namespace SaveKept

theorem raise {s t : State} (h : SaveKept s t) (page b : Nat) : SaveKept s (raise t page b) := by
  rw [SaveKept, raise_x]
  exact h

theorem orReg {s t : State} (h : SaveKept s t) (a : Nat) (w : Word) : SaveKept s (t.orReg a w) := by
  rw [SaveKept, State.orReg_x]
  exact h

/-- What reading the array meets is counted, or raises an error. -/
theorem eccFound {s t : State} (h : SaveKept s t) (r : ArrayRead) : SaveKept s (eccFound t r) := by
  unfold Machine.eccFound
  split
  · exact raise (t := { t with x := { t.x with store := { t.x.store with eccCnt := min 0xFFFF (t.x.store.eccCnt + r.corrected) } } }) h _ _
  · exact h

theorem verifyError {s t : State} (h : SaveKept s t) (wrong : Bool) : SaveKept s (verifyError t wrong) := by
  unfold Machine.verifyError
  split
  · exact (h.orReg _ _).raise _ _
  · exact h

theorem of_mem (s : State) (m : List Host.Cell) : SaveKept s { s with x := { s.x with store := { s.x.store with mem := m } } } := ⟨rfl, rfl⟩

theorem of_progWords (s : State) (a : Nat) (l : List (Nat × Word)) (r : ArrayRead) : SaveKept s (progWords s a l r).1 :=
  ((of_mem s _).verifyError _).eccFound r

theorem of_eraseSector (s : State) (k : Nat) (r : ArrayRead) : SaveKept s (eraseSector s k r) := by
  unfold eraseSector
  dsimp only
  split
  · exact ((of_mem s _).raise _ _).eccFound r
  · exact (of_mem s _).eccFound r

end SaveKept

theorem eccFound_mem (s : State) (r : ArrayRead) : (eccFound s r).x.store.mem = s.x.store.mem := by
  unfold eccFound
  dsimp only
  split
  · rw [raise_x]
  · rfl

/-- A sector whose blank check finds nothing is erased. -/
theorem eraseSector_mem (s : State) (k : Nat) {r : ArrayRead} (hblank : r.bad = []) :
    (eraseSector s k r).x.store.mem = stErase s.x.store.mem k := by
  have hnone : ¬ notBlank r = true := by simp [notBlank, hblank]
  rw [eraseSector, eccFound_mem, if_neg hnone, hblank]
  rfl

/-- The record is read back as it is: the save ends with its number and slot. -/
def saveWritten (s : State) (slot seq : Nat) : State :=
  (s.modCal fun v => saveAgain { v with saveDone := true, seq := seq, slot := slot }).evt 0x58 3

/-- The storeroom found nothing wrong in the erase and in the program. -/
def SaveGood (r : SaveRead) : Prop :=
  r.erase.bad = [] ∧ r.erase.uncorrectable = false ∧ r.prog.bad = [] ∧ r.prog.uncorrectable = false

/-- A save of s that met r ends in t: its record is written, or it ends with the error, as the storeroom found. -/
def SaveEnds (s t : State) (r : SaveRead) : Prop :=
  ∃ u, SaveKept s u ∧ ((t = saveFailed u ∧ ¬ SaveGood r) ∨ (r.prog.uncorrectable = false ∧ ∃ slot seq, t = saveWritten u slot seq))

theorem saveEnds_saveRecord {s u : State} {r : SaveRead} {slot : Nat} (hkept : SaveKept s u)
    (hempty : SaveGood r → EmptySlot u.x.store.mem slot) (seq : Nat) : SaveEnds s (saveRecord u slot seq r.prog) r := by
  have hprog := SaveKept.of_progWords u (calBase + 128 * slot) (numbered (calRecord u seq)) r.prog
  refine ⟨_, ⟨hprog.1.trans hkept.1, hprog.2.trans hkept.2⟩, ?_⟩
  unfold saveRecord
  dsimp only
  split
  next hwrong =>
    refine .inl ⟨rfl, fun hgood => ?_⟩
    have ⟨_, _, hbad, hecc⟩ := hgood
    rw [progWords_emptySlot (hempty hgood) u seq hbad, hecc] at hwrong
    exact absurd hwrong (by decide)
  next hright => exact .inr ⟨(Bool.or_eq_false_iff.mp (Bool.not_eq_true _ ▸ hright)).2, slot, seq, rfl⟩

/-- The save looks for the first empty slot, and erases the sector where there is none (R375). -/
theorem exec_calSaveDone {s : State} (hop : s.x.store.op = some .calSave) (r : SaveRead) :
    ∃ t, exec (.calSaveDone r) s = .next t ∧ SaveEnds (s.modStore fun v => { v with op := none }) t r := by
  change ∃ t, execCalSaveDone r s = .next t ∧ _
  rw [execCalSaveDone, hop, if_neg (by decide)]
  dsimp only
  split
  next k hk => exact ⟨_, rfl, saveEnds_saveRecord ⟨rfl, rfl⟩ (fun _ => emptySlot_of_calEmpty hk) _⟩
  next =>
    have hkept := SaveKept.of_eraseSector (s.modStore fun v => { v with op := none }) 4 r.erase
    split
    next hwrong =>
      refine ⟨_, rfl, _, hkept, .inl ⟨rfl, fun hgood => ?_⟩⟩
      obtain ⟨hblank, hecc, -, -⟩ := hgood
      simp [notBlank, hblank, hecc] at hwrong
    next =>
      refine ⟨_, rfl, saveEnds_saveRecord hkept (fun hgood => ?_) _⟩
      obtain ⟨hblank, -, -, -⟩ := hgood
      rw [eraseSector_mem _ 4 hblank]
      exact emptySlot_stErase _

/-- What the end of a busy save leaves, with or without another one asked for. -/
theorem saveAgain_fields {v : CalSt} (hbusy : v.saveBusy = true) :
    ((saveAgain v).saveBusy = true ↔ v.saveAgain ≠ 0) ∧ (saveAgain v).saveAgain = v.saveAgain - 1 ∧
      (saveAgain v).saveDone = (v.saveDone && decide (¬ v.saveAgain ≠ 0)) ∧
      (saveAgain v).saveErr = (v.saveErr && decide (¬ v.saveAgain ≠ 0)) := by
  unfold saveAgain
  by_cases hlast : v.saveAgain = 0
  · simp [hlast]
  · simp [hlast, hbusy]

theorem saveFailed_cal (s : State) : (saveFailed s).x.cal = saveAgain { s.x.cal with saveErr := true } := raise_cal _ 0x58 2

theorem saveWritten_cal (s : State) (slot seq : Nat) :
    (saveWritten s slot seq).x.cal = saveAgain { s.x.cal with saveDone := true, seq := seq, slot := slot } := State.evt_cal _ 0x58 3

theorem saveFailed_op (s : State) : (saveFailed s).x.store.op = s.x.store.op := by
  rw [saveFailed, raise_x]
  rfl

theorem saveWritten_op (s : State) (slot seq : Nat) : (saveWritten s slot seq).x.store.op = s.x.store.op := by
  rw [saveWritten, State.evt_x]
  rfl

/-- The end of a save, good or not, and what it leaves of those asked for. -/
theorem SaveEnds.shows {s t : State} {r : SaveRead} (h : SaveEnds s t r) (hbusy : s.x.cal.saveBusy = true) :
    t.x.store.op = s.x.store.op ∧ (t.x.cal.saveBusy = true ↔ s.x.cal.saveAgain ≠ 0) ∧ t.x.cal.saveAgain = s.x.cal.saveAgain - 1 ∧
      (SaveGood r → EvtSet t 0x58 3 ∧ t.x.cal.saveDone = decide (¬ s.x.cal.saveAgain ≠ 0)) ∧
      (r.prog.uncorrectable = true → ErrSet t 0x58 2 ∧ t.x.cal.saveErr = decide (¬ s.x.cal.saveAgain ≠ 0)) ∧
      (s.x.cal.saveAgain ≠ 0 → t.x.cal.saveDone = false ∧ t.x.cal.saveErr = false) := by
  obtain ⟨u, ⟨hcal, hop⟩, ⟨rfl, hbad⟩ | ⟨hecc, slot, seq, rfl⟩⟩ := h
  · obtain ⟨hagain, hleft, hdone, herr⟩ := saveAgain_fields (v := { s.x.cal with saveErr := true }) hbusy
    rw [saveFailed_op, saveFailed_cal, hcal]
    refine ⟨hop, hagain, hleft, fun hgood => absurd hgood hbad, fun _ => ⟨raise_same _ 0x58 2 (by decide), herr⟩, fun hmore => ?_⟩
    rw [hdone, herr, decide_eq_false (Decidable.not_not.mpr hmore), Bool.and_false, Bool.and_false]
    exact ⟨rfl, rfl⟩
  · obtain ⟨hagain, hleft, hdone, herr⟩ :=
      saveAgain_fields (v := { s.x.cal with saveDone := true, seq := seq, slot := slot }) hbusy
    rw [saveWritten_op, saveWritten_cal, hcal]
    refine ⟨hop, hagain, hleft, fun _ => ⟨State.evt_same _ 0x58 3 (by decide), hdone⟩,
      fun hfound => absurd (hecc.symm.trans hfound) (by decide), fun hmore => ?_⟩
    rw [hdone, herr, decide_eq_false (Decidable.not_not.mpr hmore), Bool.and_false, Bool.and_false]
    exact ⟨rfl, rfl⟩

theorem tapVerdict : Claims.TapVerdict := by
  intro m r s
  refine ⟨fun hkind htwo hover => ⟨fun hagree hfirst hsecond hlast => ?_, fun test htest => ?_⟩, exec_calSave_idle, exec_calSave_busy,
    fun hfenced => ?_, fun hop hbusy => ?_⟩
  · exact ringVerdict_passed ⟨hkind, htwo, hover⟩ hlast hagree hfirst hsecond
  · exact ringVerdict_failed ⟨hkind, htwo, hover⟩ htest
  · refine ⟨_, exec_calSave_fenced hfenced, ?_⟩
    rw [raise_cal]
    exact ⟨rfl, rfl, raise_same _ 0x58 2 (by decide)⟩
  · obtain ⟨t, hexec, hends⟩ := exec_calSaveDone hop r
    exact ⟨t, hexec, hends.shows hbusy⟩

/-- Settles O42: a command begins its run or is refused by the first cause, an early abort ends it and a late one is ignored; a ring run passes
or fails by its two passes; a save writes its record into an empty slot, where it reads back, or ends with its error. -/
theorem tapCalibration : Obligations.TapCalibration := ⟨tapRuns, tapVerdict⟩

end Sys2Proof.Machine

/-! PROOFS. The front of the queue, the state after reset, and the states in which no tick runs -/

namespace Sys2Proof.Machine

/-- Settles O1: the queue is not empty, so the step is its front's. -/
theorem stepRunsFront : Obligations.StepRunsFront := fun _ _ _ => rfl

/-- Settles O4: nothing is programmed in the array, and every leg starts with both outputs low. -/
theorem resetSound : Obligations.ResetSound := by
  refine ⟨rfl, fun n => ?_⟩
  have hlow : State.reset.x.hw[n] = {} := by simp [State.reset]
  rw [hlow]
  rfl

/-- Settles O20: the device neither ticks nor works, so that each command of the tick answers the state it meets. -/
theorem noTickNoWork : Obligations.NoTickNoWork := by
  intro inp f i k s hdev
  have hidle : (!working s) = true := by
    unfold working
    rcases hdev with h | h | h <;> rw [h] <;> rfl
  have hstill : (!ticking s) = true := by
    unfold ticking
    rcases hdev with h | h | h <;> rw [h] <;> rfl
  have hsafe : s.x.dev ≠ .safe := by
    rcases hdev with h | h | h <;> rw [h] <;> decide
  have hboundary : execTickBoundary inp s = .next (strapsAt inp.straps s) := by
    unfold execTickBoundary
    rw [if_neg (by simpa using hstill)]
  exact ⟨hboundary, if_pos hidle, if_pos (by rw [hidle]; rfl), (if_neg hsafe).trans (if_pos hidle), if_pos hidle,
    if_pos hstill, if_pos hstill, if_pos hstill, if_pos hstill⟩
end Sys2Proof.Machine

/-! PROOFS. The decision of the collector -/

namespace Sys2Proof.Machine

/-! ### The decision of the collector (R385 to R387) -/

theorem headBit_concat (s : State) (l : List Nat) (b : Nat) :
    headBit s (l ++ [b]) = match headBit s l with
      | none => some b
      | some c => if reactAs s c ≤ reactAs s b then some b else some c := by
  rw [headBit, List.foldl_append]
  change (match headBit s l with
    | none => some b
    | some c => if reactAs s c ≤ reactAs s b then some b else headBit s l) = _
  cases headBit s l with
  | none => rfl
  | some c => rfl

/-- The head of the order is one of the bits, and no other reacts more strongly (R383). -/
theorem headBit_spec (s : State) (l : List Nat) :
    l = [] ∨ ∃ c ∈ l, headBit s l = some c ∧ ∀ b ∈ l, reactAs s b ≤ reactAs s c := by
  induction l using List.reverseRecOn with
  | nil => exact .inl rfl
  | append_singleton l k ih =>
    refine .inr ?_
    rw [headBit_concat]
    rcases ih with rfl | ⟨c, hc, hhead, hmax⟩
    · exact ⟨k, by simp, rfl, by simp⟩
    · rw [hhead]
      by_cases hle : reactAs s c ≤ reactAs s k
      · refine ⟨k, by simp, if_pos hle, fun b hb => ?_⟩
        rcases List.mem_append.mp hb with hb | hb
        · exact (hmax b hb).trans hle
        · rw [List.mem_singleton.mp hb]
      · refine ⟨c, by simp [hc], if_neg hle, fun b hb => ?_⟩
        rcases List.mem_append.mp hb with hb | hb
        · exact hmax b hb
        · rw [List.mem_singleton.mp hb]
          omega

/-- A bit that names nothing for a code has no units (R386). -/
theorem unitsOf_eq_nil {err : Nat → Word} {b : Nat} (hb : namesUnit b = false) : unitsOf err b = [] := by
  unfold namesUnit at hb
  simp only [Bool.or_eq_false_iff, decide_eq_false_iff_not, beq_eq_false_iff_ne, Bool.and_eq_false_iff] at hb
  unfold unitsOf
  rw [dif_neg (by omega)]
  repeat rw [if_neg (by simp; omega)]

theorem trainsOf_eq_nil {s : State} {err : Nat → Word} {b : Nat} (hb : namesTrains b = false) : trainsOf s err b = [] := by
  unfold namesTrains at hb
  simp only [Bool.or_eq_false_iff, decide_eq_false_iff_not, Bool.and_eq_false_iff] at hb
  unfold trainsOf
  rw [if_neg (by simp; omega), if_neg (by simp; omega), dif_neg (by omega)]
  repeat rw [if_neg (by simp; omega)]

theorem unitsOf_subset_fencesOf {s : State} {err : Nat → Word} {b : Nat} (hr : react s b = 1 ∨ react s b = 2) :
    unitsOf err b ⊆ fencesOf s err b := by
  intro u hu
  have hn : namesUnit b = true := by
    by_contra hn
    rw [unitsOf_eq_nil (by simpa using hn)] at hu
    exact absurd hu List.not_mem_nil
  unfold fencesOf reactAs
  rcases hr with hr | hr
  · simp only [hr, hn, if_true]
    exact hu
  · cases ht : namesTrains b <;> simp [hr, hn, hu]

theorem trainsOf_subset_fencesOf {s : State} {err : Nat → Word} {b : Nat} {k : Train} (hr : react s b = 2) (hk : k ∈ trainsOf s err b) :
    .train k ∈ fencesOf s err b := by
  have hn : namesTrains b = true := by
    by_contra hn
    rw [trainsOf_eq_nil (by simpa using hn)] at hk
    exact absurd hk List.not_mem_nil
  unfold fencesOf reactAs
  simp [hr, hn, hk]

theorem reactAs_le (s : State) (b : Nat) : reactAs s b ≤ react s b := by
  unfold reactAs
  split
  next h => split <;> omega
  next h => (repeat' split) <;> omega
  next => exact le_rfl

/-- The collector with the new bits decided and their units named, as the decision leaves it when no converter is to be fenced (R387). -/
def namedCol (s : State) : Collector :=
  { s.x.col with
    newly := 0, causes := [], inherent := [], opened := false
    fencePend := s.x.col.fencePend ++ (deadConvs s).map .conv ++ inherentUnits s ++ (newBits s).flatMap (fencesOf s (causeOf s)) }

/-- What the head of the decided bits makes of the collector (R383, R387). -/
def headedCol (s : State) (b : Nat) (c : Collector) : Collector :=
  let k := reactAs s b
  { c with
    actCode := if k == 0 then c.actCode else k
    actBit := if k == 0 then c.actBit else b
    holdPend := c.holdPend || k == 3
    holdConf := c.holdConf || ((newBits s).contains 30 && react s 30 == 3)
    safePend := if c.safePend.isSome then c.safePend else if k == 4 then some b else none }

/-- The decision ends in its collector with no bit left to decide, whatever its own check finds. -/
theorem exec_faultDecision_decides {s : State} (ht : ticking s = true) (f : CheckFault) :
    ∃ t, exec (.faultDecision f) s = .next t ∧ t.x.col.newly = 0 := by
  change ∃ t, execFaultDecision f s = _ ∧ _
  unfold execFaultDecision
  rw [if_neg (by rw [ht]; decide)]
  dsimp only
  split
  · exact ⟨_, rfl, rfl⟩
  · exact ⟨_, rfl, rfl⟩

/-- With nothing found and no converter to fence the decision is one change of the collector. -/
theorem exec_faultDecision_none {s : State} (ht : ticking s = true) (hd : deadConvs s = []) :
    exec (.faultDecision .none) s = .next (s.modCol fun _ => match headBit s (newBits s) with
      | none => namedCol s
      | some b => headedCol s b (namedCol s)) := by
  change execFaultDecision .none s = _
  unfold execFaultDecision
  rw [if_neg (by rw [ht]; decide)]
  have hcheck : oneCycle (collectorCheck .none) s = s.modCol fun c => { c with opened := false } := rfl
  have hdead : (deadConvs (s.modCol fun c => { c with opened := false })).foldl
      (lostConv (deadConvs (s.modCol fun c => { c with opened := false }))) (s.modCol fun c => { c with opened := false }) =
      s.modCol fun c => { c with opened := false } := by
    rw [show deadConvs (s.modCol fun c => { c with opened := false }) = [] from hd]
    rfl
  have hhead : headBit (s.modCol fun c => { c with opened := false }) (newBits (s.modCol fun c => { c with opened := false })) =
      headBit s (newBits s) := rfl
  rw [hcheck]
  dsimp only
  rw [hdead, hhead]
  cases headBit s (newBits s) with
  | none => rfl
  | some b => rfl

/-- Settles O25: the decision names the units of each new bit, and its head reacts with the strongest of them. -/
theorem collectorDecides : Obligations.CollectorDecides := by
  intro s ht
  refine ⟨exec_faultDecision_decides ht, fun hd => ?_⟩
  have hexec := exec_faultDecision_none ht hd
  have hnew {b : Nat} (hb : b < 32) (hn : s.x.col.newly.getLsbD b = true) : b ∈ newBits s :=
    List.mem_filter.mpr ⟨List.mem_range.mpr hb, hn⟩
  have hfence {b : Nat} {u : FenceUnit} (hb : b ∈ newBits s) (hu : u ∈ fencesOf s (causeOf s) b) : u ∈ (namedCol s).fencePend :=
    List.mem_append_right _ (List.mem_flatMap.mpr ⟨b, hb, hu⟩)
  rcases headBit_spec s (newBits s) with hnil | ⟨c, hc, hhead, hmax⟩
  · have hnone : ∀ b < 32, s.x.col.newly.getLsbD b = true → False := fun b hb hn => by
      have := hnew hb hn
      rw [hnil] at this
      exact absurd this List.not_mem_nil
    rw [hnil] at hexec
    exact ⟨_, hexec, rfl, rfl, fun b hb hn => (hnone b hb hn).elim, fun _ b hb hn => (hnone b hb hn).elim⟩
  · rw [hhead] at hexec
    refine ⟨_, hexec, rfl, rfl, fun b hb hn => ⟨fun hr u hu => ?_, fun hr => ⟨fun u hu => ?_, fun k hk => ?_⟩⟩,
      fun hcodes b hb hn hr => ?_⟩
    · exact hfence (hnew hb hn) (unitsOf_subset_fencesOf (.inl hr) hu)
    · exact hfence (hnew hb hn) (unitsOf_subset_fencesOf (.inr hr) hu)
    · exact hfence (hnew hb hn) (trainsOf_subset_fencesOf hr hk)
    · have hsafe : reactAs s c = 4 := by
        have hb4 : reactAs s b = 4 := by simp [reactAs, hr]
        have hle := hmax b (hnew hb hn)
        have hc32 : c < 32 := List.mem_range.mp (List.mem_filter.mp hc).1
        have := (reactAs_le s c).trans (hcodes c hc32)
        omega
      show (headedCol s c (namedCol s)).safePend.isSome = true
      unfold headedCol
      simp only [hsafe]
      split
      · assumption
      · rfl
end Sys2Proof.Machine

/-! PROOFS. The fault word is set, cleared and read -/

namespace Sys2Proof.Machine

/-! ### A line is latched (R379, R384, R385) -/

/-- The collector's record of a line that it had not latched (R379, R384). -/
def recordLine (s : State) (b : Nat) : State :=
  noteLine (s.modCol fun c => { c with
    word := c.word ||| BitVec.ofNat 32 (2 ^ b)
    newly := c.newly ||| BitVec.ofNat 32 (2 ^ b)
    first := if c.word = 0 then some b else if c.opened then some (min b (c.first.getD b)) else c.first
    firstTk := if c.word = 0 then s.tickW else c.firstTk }) b

/-- A line that is newly asserted is recorded, with the pin actions of its reaction; FLT# and the larder follow. -/
theorem latch_of_new {s : State} {b : Nat} (hl : line s b = true) (hw : s.x.col.word.getLsbD b = false) :
    ∃ low l, latch s b = { pinShutdown (recordLine s b) (react s b) with
      x := { (pinShutdown (recordLine s b) (react s b)).x with
        col := { (pinShutdown (recordLine s b) (react s b)).x.col with fltLow := low }, larder := l } } := by
  unfold latch
  rw [hl, hw, if_neg (by decide), if_neg (by decide)]
  dsimp only
  have hreact : react (s.modCol fun c => { c with
    word := c.word ||| BitVec.ofNat 32 (2 ^ b)
    newly := c.newly ||| BitVec.ofNat 32 (2 ^ b)
    first := if c.word = 0 then some b else if c.opened then some (min b (c.first.getD b)) else c.first
    firstTk := if c.word = 0 then s.tickW else c.firstTk }) b = react s b := rfl
  rw [hreact]
  change ∃ low l, fltPin (if enabled _ _ b then larderTrigger (pinShutdown (recordLine s b) (react s b)) 2 b
    else pinShutdown (recordLine s b) (react s b)) = _
  split
  · obtain ⟨l, hl⟩ := larderTrigger_frame (pinShutdown (recordLine s b) (react s b)) 2 b
    rw [hl]
    exact ⟨_, l, rfl⟩
  · exact ⟨_, _, rfl⟩

/-- A line that is latched already leaves word and pins. -/
theorem latch_of_latched {s : State} {b : Nat} (hw : s.x.col.word.getLsbD b = true) :
    ∃ g l, latch s b = s.modCol fun c => { c with grave := g, causes := l } := by
  unfold latch
  split
  · exact ⟨_, _, rfl⟩
  · exact ⟨_, _, rfl⟩

theorem pinShutdown_col (s : State) (k : Nat) :
    ∃ p r, (pinShutdown s k).x.col = { s.x.col with pinsOff := p, strapsOn := r } := by
  unfold pinShutdown
  dsimp only
  split <;> split <;> exact ⟨_, _, rfl⟩

/-- Reactions 3 and 4 drive every output low at once (R385). -/
theorem pinShutdown_low {s : State} {k : Nat} (h : k = 3 ∨ k = 4) (n : Leg) : OutputsLow (pinShutdown s k) n := by
  have hpins : (k == 3 || k == 4) = true := by rcases h with rfl | rfl <;> rfl
  unfold pinShutdown
  rw [hpins, if_pos rfl]
  dsimp only
  split <;> exact (OutputsLow.allLegsLow s n).of_hw rfl

theorem getLsbD_or_pow (w : BitVec 32) {b n : Nat} (hn : n < 32) :
    (w ||| BitVec.ofNat 32 (2 ^ b)).getLsbD n = (w.getLsbD n || n == b) := by
  rw [BitVec.getLsbD_or, BitVec.getLsbD_ofNat, decide_eq_true hn, Bool.true_and, Nat.testBit_two_pow]
  simp [eq_comm, Bool.beq_eq_decide_eq]

/-! ### The fault of a converter (R271, R379) -/

/-- The state in which the collector sees the error of a converter. -/
def convMarked (s : State) (c : Conv) (b : Nat) : State :=
  (noteCheck (s.modConv c fun v => { v with fault := true }) (convPage c) (oneHot b)).orReg (a_PG_ERR (convPage c)) (oneHot b)

theorem convFaulted_eq (s : State) (c : Conv) (b : Nat) : convFaulted s c b = latch (convMarked s c b) 14 := by
  have hlines : pageLines (convPage c) = [14] := by
    revert c
    decide
  rw [convFaulted, raise, raiseMask, hlines]
  rfl

theorem convMarked_x (s : State) (c : Conv) (b : Nat) :
    ∃ r v k, (convMarked s c b).x = { s.x with regs := r, conv := v, checks := k } := by
  rw [convMarked, State.orReg_x]
  exact ⟨_, _, _, rfl⟩

theorem convMarked_reg_other (s : State) (c : Conv) (b a : Nat) (h : a ≠ a_PG_ERR (convPage c)) :
    (convMarked s c b).reg a = s.reg a :=
  State.reg_orReg_other _ _ _ _ h

/-- An error of a converter that is neither masked nor held by a loop-back asserts line 14 (R378, R531). -/
theorem convMarked_line {s : State} {c : Conv} {b : Nat} (hb : b < 16) (hmask : bit (PG_ERRMASK_W s (convPage c)) b = false)
    (hheld : bit (testHeld s (convPage c)) b = false) : line (convMarked s c b) 14 = true := by
  have hpage : ∀ c, convPage c ∈ (0x40 :: 0x51 :: 0x52 :: pagesFrom 0x41 16 : List Nat) := by decide
  obtain ⟨r, v, k, hx⟩ := convMarked_x s c b
  have htest : testHeld (convMarked s c b) (convPage c) = testHeld s (convPage c) := by
    rw [testHeld, hx]
    rfl
  have hmasks : PG_ERRMASK_W (convMarked s c b) (convPage c) = PG_ERRMASK_W s (convPage c) :=
    convMarked_reg_other s c b _ (by unfold a_PG_ERR addr; omega)
  have herr : bit (PG_ERR_W (convMarked s c b) (convPage c)) b = true := by
    rw [PG_ERR_W, convMarked]
    exact (congrArg (bit · b) (State.reg_orReg_same _ _ _)).trans (bit_or_oneHot _ b hb)
  have hset : bit (errOf (convMarked s c b) (convPage c)) b = true := by
    rw [errOf, htest, hmasks]
    unfold bit at *
    simp only [BitVec.getLsbD_and, BitVec.getLsbD_not, herr, hmask, hheld, decide_eq_true hb]
    rfl
  have hne : errOf (convMarked s c b) (convPage c) ≠ 0 := fun h0 => by
    rw [h0] at hset
    simp [bit] at hset
  exact List.any_eq_true.mpr ⟨_, hpage c, bne_iff_ne.mpr hne⟩

theorem convMarked_react (s : State) (c : Conv) (b : Nat) : react (convMarked s c b) 14 = react s 14 := by
  have hreg : (convMarked s c b).reg (addr 0xB8 (0x20 + 14 / 4)) = s.reg (addr 0xB8 (0x20 + 14 / 4)) := by
    refine convMarked_reg_other s c b _ ?_
    revert c
    decide
  rw [react, FLT_REACT_W, hreg]
  rfl

/-- The first error of a converter on a clear bit 14 is recorded and takes the pins by its reaction. -/
theorem convFaulted_new {s : State} {c : Conv} {b : Nat} (hl : line (convMarked s c b) 14 = true)
    (hw : s.x.col.word.getLsbD 14 = false) :
    let t := convFaulted s c b
    t.x.col.word = s.x.col.word ||| BitVec.ofNat 32 (2 ^ 14) ∧ t.x.col.newly = s.x.col.newly ||| BitVec.ofNat 32 (2 ^ 14) ∧
      (s.x.col.word = 0 → t.x.col.first = some 14 ∧ t.x.col.firstTk = s.tickW) ∧
      (react s 14 = 3 ∨ react s 14 = 4 → ∀ n, OutputsLow t n) ∧
      (react s 14 ≤ 2 → t.x.hw = s.x.hw ∧ t.x.srcEn = s.x.srcEn ∧ t.x.batEn = s.x.batEn) := by
  obtain ⟨r, v, k, hx⟩ := convMarked_x s c b
  have hword : (convMarked s c b).x.col = s.x.col := by rw [hx]
  have htick : (convMarked s c b).x.tick = s.x.tick := by rw [hx]
  obtain ⟨low, l, hlatch⟩ := latch_of_new hl (by rw [hword]; exact hw)
  rw [convMarked_react] at hlatch
  obtain ⟨p, q, hcol⟩ := pinShutdown_col (recordLine (convMarked s c b) 14) (react s 14)
  dsimp only
  rw [convFaulted_eq, hlatch]
  refine ⟨?_, ?_, fun h0 => ⟨?_, ?_⟩, fun hr n => (pinShutdown_low hr n).of_hw rfl, fun hr => ?_⟩
  · rw [hcol, ← hword]
    rfl
  · rw [hcol, ← hword]
    rfl
  · rw [hcol]
    exact if_pos (hword ▸ h0)
  · rw [hcol, State.tickW, ← htick]
    exact if_pos (hword ▸ h0)
  · rw [pinShutdown_of_mild hr]
    have hhw : (convMarked s c b).x.hw = s.x.hw := by rw [hx]
    have hsrc : (convMarked s c b).x.srcEn = s.x.srcEn := by rw [hx]
    have hbat : (convMarked s c b).x.batEn = s.x.batEn := by rw [hx]
    exact ⟨hhw, hsrc, hbat⟩

/-- An error of a converter whose bit is latched already leaves word and pins. -/
theorem convFaulted_latched {s : State} (c : Conv) (b : Nat) (hw : s.x.col.word.getLsbD 14 = true) :
    (∃ g l, (convFaulted s c b).x.col = { s.x.col with grave := g, causes := l }) ∧ (convFaulted s c b).x.hw = s.x.hw := by
  obtain ⟨r, v, k, hx⟩ := convMarked_x s c b
  obtain ⟨g, l, hlatch⟩ := latch_of_latched (s := convMarked s c b) (b := 14) (by rw [hx]; exact hw)
  rw [convFaulted_eq, hlatch, State.modCol_x, hx]
  exact ⟨⟨g, l, rfl⟩, rfl⟩

/-! ### Clearing the fault word (R379) -/

theorem getLsbD_foldl_pow {p : Nat → Bool} {g : Nat → Nat} (l : List Nat) (w : BitVec 32) {n : Nat} (hn : n < 32) :
    (l.foldl (fun (a : BitVec 32) i => if p i then a ||| BitVec.ofNat 32 (2 ^ g i) else a) w).getLsbD n =
      (w.getLsbD n || l.any fun i => p i && n == g i) := by
  induction l generalizing w with
  | nil => simp
  | cons i l ih =>
    rw [List.foldl_cons, ih, List.any_cons]
    cases p i
    · simp
    · rw [if_pos rfl, getLsbD_or_pow w hn, Bool.true_and, Bool.or_assoc]

/-- The bits that a clear takes: those named in its half whose lines are quiet. -/
theorem any_half (hi : Bool) (m : Word) (q : Nat → Bool) {n : Nat} (hn : n < 32) :
    ((List.range 16).any fun i => (bit m i && !q (if hi then i + 16 else i)) && n == (if hi then i + 16 else i)) =
      ((if hi then decide (16 ≤ n) else decide (n < 16)) && bit m (n % 16) && !q n) := by
  rw [Bool.eq_iff_iff, List.any_eq_true]
  simp only [List.mem_range, Bool.and_eq_true, beq_iff_eq]
  constructor
  · rintro ⟨i, hi16, ⟨hm, hq⟩, rfl⟩
    cases hi
    · simp_all [Nat.mod_eq_of_lt]
    · simp_all [Nat.mod_eq_of_lt]
  · rintro ⟨⟨hhalf, hm⟩, hq⟩
    refine ⟨n % 16, by omega, ?_⟩
    have hplace : (if hi then n % 16 + 16 else n % 16) = n := by
      cases hi <;> simp at hhalf ⊢ <;> omega
    rw [hplace]
    exact ⟨⟨hm, hq⟩, rfl⟩

theorem faultClear_word (s : State) (hi : Bool) (m : Word) {n : Nat} (hn : n < 32) :
    (faultClear s hi m).x.col.word.getLsbD n =
      (s.x.col.word.getLsbD n && !((if hi then decide (16 ≤ n) else decide (n < 16)) && bit m (n % 16) && !line s n)) := by
  have hbits := getLsbD_foldl_pow (p := fun i => bit m i && !line s (if hi then i + 16 else i))
    (g := fun i => if hi then i + 16 else i) (List.range 16) 0 hn
  rw [any_half hi m (line s) hn] at hbits
  change (s.x.col.word &&& ~~~(List.range 16).foldl _ 0).getLsbD n = _
  rw [BitVec.getLsbD_and, BitVec.getLsbD_not, decide_eq_true hn, Bool.true_and, hbits]
  simp

/-- Settles O45: the one line of a converter is latched or was, a clear masks its half bit by bit, and a read latches for its port. -/
theorem faultWord : Obligations.FaultWord := by
  intro c parity hi m p s
  refine ⟨fun hmask hheld => ?_, ⟨_, rfl, fun n hn => faultClear_word s hi m hn, fun a => rfl, rfl⟩, _, rfl, rfl, rfl⟩
  refine ⟨_, exec_converterFault s c parity, ?_⟩
  have hl := convMarked_line (by split <;> decide) hmask hheld
  cases hw : s.x.col.word.getLsbD 14
  · obtain ⟨hword, hnewly, hfirst, hgrave, hmild⟩ := convFaulted_new hl hw
    refine ⟨fun n hn => by rw [hword, getLsbD_or_pow _ hn], fun _ => ⟨?_, hfirst, hgrave, hmild⟩, fun h => absurd h (by decide)⟩
    rw [hnewly, getLsbD_or_pow _ (by decide)]
    simp
  · obtain ⟨⟨g, l, hcol⟩, hhw⟩ := convFaulted_latched c (if parity then 1 else 0) hw
    rw [hcol]
    refine ⟨fun n _ => ?_, fun h => absurd h (by decide), fun _ => ⟨rfl, rfl, rfl, hhw⟩⟩
    by_cases hn : n = 14
    · subst hn
      simp [hw]
    · simp [hn]
end Sys2Proof.Machine

/-! PROOFS. Every command answers a next state, and keeps a sane state sane -/

namespace Sys2Proof.Machine
/-! ### Every command answers a next state -/

/-- The outcome is a next state, and a sane one if the state before was. -/
def Answers (p : List Instr) (s : State) (o : Host.Outcome State Fault Refusal) : Prop := ∃ t, o = .next t ∧ (Sane p s → Sane p t)

@[simp] theorem answers_next (p : List Instr) (s t : State) : Answers p s (.next t) ↔ (Sane p s → Sane p t) := by
  constructor
  · rintro ⟨u, hu, h⟩
    cases hu
    exact h
  · exact fun h => ⟨t, rfl, h⟩

@[simp] theorem answers_ite (p : List Instr) (s : State) (c : Prop) [Decidable c] (a b : Host.Outcome State Fault Refusal)
    (ha : Answers p s a) (hb : Answers p s b) : Answers p s (if c then a else b) := by
  split <;> assumption

/-- An instruction of a clerk acts when it may run, and else leaves the state. -/
@[simp] theorem ckWhen_answers (p : List Instr) (s t : State) (c : ClerkIx) (ht : Sane p s → Sane p t) : Answers p s (ckWhen s c t) := by
  rw [ckWhen, answers_next]
  exact fun hs => sane_ite p _ _ _ (ht hs) hs

@[simp] theorem saneLeg_begun (p : List Instr) (h : LegHw) (turned : Bool) : SaneLeg p (h.begun turned) ↔ SaneLeg p h := by
  unfold LegHw.begun
  split <;> rfl

/-- The period of a leg begins with its outputs as they are (R66, R68). -/
@[simp] theorem modHw_begun_sane (p : List Instr) (s : State) (n : Leg) (turned : Bool) (h : Sane p s) :
    Sane p (s.modHw n (·.begun turned)) :=
  modHw_sane p s n _ h ((saneLeg_begun p _ turned).mpr (sane_apart p s n h))

/-! A frame of the two-wire target goes on only from the state in which it has started. -/

/-- A frame that starts or is not taken, whatever follows. -/
theorem twmStart_answers (p : List Instr) (begins : Bool) (s : State) (f : CheckFault) (k : State → Host.Outcome State Fault Refusal)
    (hk : ∀ t, Answers p t (k t)) :
    Answers p s (match twmStart begins s f with
      | (t, false) => .next t
      | (t, true) => k t) := by
  have hstart := twmStart_sane p begins s f
  generalize twmStart begins s f = r at hstart ⊢
  obtain ⟨t, taken⟩ := r
  cases taken with
  | false => exact ⟨t, rfl, hstart⟩
  | true =>
    obtain ⟨u, hu, hsane⟩ := hk t
    exact ⟨u, hu, fun hs => hsane (hstart hs)⟩

theorem twmEarly_sane (p : List Instr) {s t : State} {e : TwmEnd} (h : twmEarly s e = some t) (hs : Sane p s) : Sane p t := by
  unfold twmEarly at h
  split at h <;> cases h <;> exact twmAbort_sane p s _ hs

theorem execTwmPointerWrite_answers (p : List Instr) (q : TwmPtr) (pec : Option Byte) (e : TwmEnd) (f : CheckFault) (s : State) :
    Answers p s (execTwmPointerWrite q pec e f s) := by
  refine twmStart_answers p true s f _ fun t => ?_
  split
  next h => exact ⟨_, rfl, twmEarly_sane p h⟩
  next => simp +contextual (maxDischargeDepth := 30)

theorem execTwmDataWrite_answers (p : List Instr) (q : TwmPtr) (data : List Byte) (pec : Option Byte) (e : TwmEnd) (cyc : Nat) (f : CheckFault)
    (s : State) : Answers p s (execTwmDataWrite q data pec e cyc f s) := by
  refine twmStart_answers p true s f _ fun t => ?_
  split
  next h => exact ⟨_, rfl, twmEarly_sane p h⟩
  next => simp +contextual (maxDischargeDepth := 30)

theorem execTwmRead_answers (p : List Instr) (n : Nat) (e : TwmCut) (ecc : List StoreEcc) (f : CheckFault) (s : State) :
    Answers p s (execTwmRead n e ecc f s) := by
  refine twmStart_answers p e.piece.begins s f _ fun t => ?_
  have hend (u : State) (hu : Sane p u) : Sane p ((twmEarly u e.stop).getD (twmOver (twmStep u (twmReadWords u u.x.twm.sent.length)))) := by
    cases h : twmEarly u e.stop with
    | none => simp [hu]
    | some v => exact twmEarly_sane p h hu
  simp +contextual (maxDischargeDepth := 30) [hend]

/-! The end of a wake in its steps (R519, R520, R522): the device and its tick run again, the Tally counts what it slept, the clerks see the
new tick, and the ports read all of it. -/

/-- The device is in the state it left, its clocks run and its tick number has advanced by the sleep. -/
def wakeRunning (e : Nat) (s : State) : State :=
  let x := e * 390625 + s.x.pwr.rem
  ((setDev s s.x.pwr.sleepFrom).modPwr fun v => { v with
    stopped := false, sleeping := false, waking := false, pll := true, sleeps := satInc 0xFFFF v.sleeps, rem := x % 30720 }).modTick
      fun t => { t with num := (t.num + x / 30720) % 281474976710656 }

/-- The transactions' times, the Tally's channels and the clerks after the sleep. -/
def wakeCounted (e : Nat) (s : State) : State :=
  tlTickEdges (forAll (n := 8) (tlCopy (forAll (n := 16) (txnRetarget { s with x := { s.x with sleepE := e } }) (tlWake e))) ckBoundary)

/-- The present state is what the ports read. -/
def published (s : State) : State := { s with pub := ⟨s.cp, s.x⟩ }

theorem execWakeComplete_eq (e : Nat) (s : State) :
    execWakeComplete e s =
      if !(s.x.dev = .sleep && s.x.pwr.waking && s.x.pwr.vbias) then .next s
      else .next (pinsBoundary (published (wakeCounted e (wakeRunning e s)))) := by
  unfold execWakeComplete
  dsimp only
  rw [← wakeCounted]
  rfl

theorem wakeRunning_sane (p : List Instr) (e : Nat) (s : State) (h : Sane p s) : Sane p (wakeRunning e s) :=
  State.modTick_sane p _ _ (State.modPwr_sane p _ _ (setDev_sane p s _ h))

theorem wakeCounted_sane (p : List Instr) (e : Nat) (s : State) (h : Sane p s) : Sane p (wakeCounted e s) :=
  have hretargeted := txnRetarget_sane p { s with x := { s.x with sleepE := e } } h
  have htally := forAll_sane (n := 16) p (tlWake e) _ hretargeted (tlWake_sane p e)
  tlTickEdges_sane p _ (forAll_sane (n := 8) p _ _ (tlCopy_sane p _ htally) (ckBoundary_sane p))

theorem published_sane (p : List Instr) (s : State) (h : Sane p s) : Sane p (published s) := ⟨h.1, h.2.1, h.2.2⟩


section
variable (p : List Instr) (s : State)

@[simp] theorem execTickBoundary_answers (inp : TickInputs) : Answers p s (execTickBoundary inp s) := by
  simp +contextual (maxDischargeDepth := 30) [execTickBoundary]
@[simp] theorem execCeSectionSlot_answers (i : Slot) (f : CheckFault) : Answers p s (execCeSectionSlot i f s) := by
  unfold execCeSectionSlot
  dsimp only
  (repeat' split) <;> simp +contextual (maxDischargeDepth := 30)
@[simp] theorem execSupervisorModelRun_answers (f : CheckFault) : Answers p s (execSupervisorModelRun f s) := by
  unfold execSupervisorModelRun
  dsimp only
  (repeat' split) <;> simp +contextual (maxDischargeDepth := 30)
@[simp] theorem execTrainProcessing_answers (f : TrainCheck) : Answers p s (execTrainProcessing f s) := by
  unfold execTrainProcessing
  dsimp only
  (repeat' split) <;> simp +contextual (maxDischargeDepth := 30)
@[simp] theorem execDemandShadowWrite_answers : Answers p s (execDemandShadowWrite s) := by
  simp +contextual (maxDischargeDepth := 30) [execDemandShadowWrite]
@[simp] theorem execClerkSlot_answers (c : ClerkIx) (pass : Bool) (f : CheckFault) : Answers p s (execClerkSlot c pass f s) := by
  unfold execClerkSlot
  (repeat' split) <;> simp +contextual (maxDischargeDepth := 30)
@[simp] theorem execNop_answers (c : ClerkIx) : Answers p s (execNop c s) := by
  simp +contextual (maxDischargeDepth := 30) [execNop]
@[simp] theorem execLd_answers (c : ClerkIx) (sx : Bool) (d : Fin 4) (page : Byte) (x : Bool) (off : Byte) : Answers p s (execLd c sx d page x off s) := by
  simp +contextual (maxDischargeDepth := 30) [execLd]
@[simp] theorem execLdi_answers (c : ClerkIx) (d : Fin 4) (hi : Bool) (i : Word) : Answers p s (execLdi c d hi i s) := by
  simp +contextual (maxDischargeDepth := 30) [execLdi]
@[simp] theorem execSt_answers (c : ClerkIx) (r : Fin 4) (page : Byte) (x : Bool) (off : Byte) : Answers p s (execSt c r page x off s) := by
  simp +contextual (maxDischargeDepth := 30) [execSt]
@[simp] theorem execAdd_answers (c : ClerkIx) (d : Fin 4) (o : CkOp) : Answers p s (execAdd c d o s) := by
  simp +contextual (maxDischargeDepth := 30) [execAdd]
@[simp] theorem execSub_answers (c : ClerkIx) (d : Fin 4) (o : CkOp) : Answers p s (execSub c d o s) := by
  simp +contextual (maxDischargeDepth := 30) [execSub]
@[simp] theorem execAnd_answers (c : ClerkIx) (d : Fin 4) (o : CkOp) : Answers p s (execAnd c d o s) := by
  simp +contextual (maxDischargeDepth := 30) [execAnd]
@[simp] theorem execOr_answers (c : ClerkIx) (d : Fin 4) (o : CkOp) : Answers p s (execOr c d o s) := by
  simp +contextual (maxDischargeDepth := 30) [execOr]
@[simp] theorem execSh_answers (c : ClerkIx) (a : Bool) (d : Fin 4) (o : CkOp) : Answers p s (execSh c a d o s) := by
  simp +contextual (maxDischargeDepth := 30) [execSh]
@[simp] theorem execCmp_answers (c : ClerkIx) (d : Fin 4) (o : CkOp) : Answers p s (execCmp c d o s) := by
  simp +contextual (maxDischargeDepth := 30) [execCmp]
@[simp] theorem execBr_answers (c : ClerkIx) (k : Fin 8) (target : Nat) : Answers p s (execBr c k target s) := by
  simp +contextual (maxDischargeDepth := 30) [execBr]
@[simp] theorem execWait_answers (c : ClerkIx) (o : CkOp) : Answers p s (execWait c o s) := by
  simp +contextual (maxDischargeDepth := 30) [execWait]
@[simp] theorem execWaitc_answers (c : ClerkIx) (q : Bool) (t : Fin 4) (page : Byte) (b : Fin 16) (mode : Fin 3) (off : Byte) : Answers p s (execWaitc c q t page b mode off s) := by
  simp +contextual (maxDischargeDepth := 30) [execWaitc]
@[simp] theorem execWaitcRetest_answers (c : ClerkIx) : Answers p s (execWaitcRetest c s) := by
  simp +contextual (maxDischargeDepth := 30) [execWaitcRetest]
@[simp] theorem execWaitEnd_answers (c : ClerkIx) : Answers p s (execWaitEnd c s) := by
  simp +contextual (maxDischargeDepth := 30) [execWaitEnd]
@[simp] theorem execEvt_answers (c : ClerkIx) (r : Fin 4) (l : Bool) (code : Word) : Answers p s (execEvt c r l code s) := by
  simp +contextual (maxDischargeDepth := 30) [execEvt]
@[simp] theorem execTstart_answers (c : ClerkIx) (t : Fin 4) (unit : Fin 3) (o : CkOp) : Answers p s (execTstart c t unit o s) := by
  unfold execTstart
  (repeat' split) <;> simp +contextual (maxDischargeDepth := 30)
@[simp] theorem execTchk_answers (c : ClerkIx) (t : Fin 4) : Answers p s (execTchk c t s) := by
  simp +contextual (maxDischargeDepth := 30) [execTchk]
@[simp] theorem execPbr_answers (c : ClerkIx) (w : Bool) (a : BitVec 7) (cmd : Byte) : Answers p s (execPbr c w a cmd s) := by
  simp +contextual (maxDischargeDepth := 30) [execPbr]
@[simp] theorem execPbw_answers (c : ClerkIx) (w : Bool) (r : Fin 4) (a : BitVec 7) (cmd : Byte) : Answers p s (execPbw c w r a cmd s) := by
  simp +contextual (maxDischargeDepth := 30) [execPbw]
@[simp] theorem execHalt_answers (c : ClerkIx) : Answers p s (execHalt c s) := by
  simp +contextual (maxDischargeDepth := 30) [execHalt]
@[simp] theorem execIllegalInstruction_answers (c : ClerkIx) (w : BitVec 32) : Answers p s (execIllegalInstruction c w s) := by
  unfold execIllegalInstruction
  (repeat' split) <;> simp +contextual (maxDischargeDepth := 30)
@[simp] theorem execFaultDecision_answers (f : CheckFault) : Answers p s (execFaultDecision f s) := by
  unfold execFaultDecision
  dsimp only
  (repeat' split) <;> simp +contextual (maxDischargeDepth := 30)
@[simp] theorem execCommitDecision_answers (f : CheckFault) : Answers p s (execCommitDecision f s) := by
  unfold execCommitDecision
  dsimp only
  (repeat' split) <;> simp +contextual (maxDischargeDepth := 30)
@[simp] theorem execCommitValidation_answers (f : CheckFault) : Answers p s (execCommitValidation f s) := by
  unfold execCommitValidation
  dsimp only
  (repeat' split) <;> simp +contextual (maxDischargeDepth := 30)
@[simp] theorem execLarderRecord_answers (f : CheckFault) : Answers p s (execLarderRecord f s) := by
  unfold execLarderRecord
  (repeat' split) <;> simp +contextual (maxDischargeDepth := 30)
@[simp] theorem execSpanningDemandApply_answers : Answers p s (execSpanningDemandApply s) := by
  unfold execSpanningDemandApply
  dsimp only
  (repeat' split) <;> simp +contextual (maxDischargeDepth := 30)
@[simp] theorem execLegValley_answers (n : Leg) (v : Int) : Answers p s (execLegValley n v s) := by
  unfold execLegValley
  dsimp only
  (repeat' split) <;> simp +contextual (maxDischargeDepth := 30)
@[simp] theorem execBootstrapRelease_answers (n : Leg) : Answers p s (execBootstrapRelease n s) := by
  simp +contextual (maxDischargeDepth := 30) [execBootstrapRelease]
@[simp] theorem execDeadTimeEnd_answers (n : Leg) : Answers p s (execDeadTimeEnd n s) := by
  unfold execDeadTimeEnd
  dsimp only
  (repeat' split) <;> simp +contextual (maxDischargeDepth := 30)
@[simp] theorem execBlankingEnd_answers (n : Leg) (v : Int) : Answers p s (execBlankingEnd n v s) := by
  simp +contextual (maxDischargeDepth := 30) [execBlankingEnd]
@[simp] theorem execPeakComparatorTrip_answers (n : Leg) (ton : LegInstant) : Answers p s (execPeakComparatorTrip n ton s) := by
  simp +contextual (maxDischargeDepth := 30) [execPeakComparatorTrip]
@[simp] theorem execZeroCrossTrip_answers (n : Leg) (tzc : LegInstant) : Answers p s (execZeroCrossTrip n tzc s) := by
  unfold execZeroCrossTrip
  dsimp only
  (repeat' split) <;> simp +contextual (maxDischargeDepth := 30)
@[simp] theorem execTonmaxEnd_answers (n : Leg) : Answers p s (execTonmaxEnd n s) := by
  simp +contextual (maxDischargeDepth := 30) [execTonmaxEnd]
@[simp] theorem execDutyOnTimeEnd_answers (n : Leg) : Answers p s (execDutyOnTimeEnd n s) := by
  simp +contextual (maxDischargeDepth := 30) [execDutyOnTimeEnd]
@[simp] theorem execSenseTestEnd_answers : Answers p s (execSenseTestEnd s) := by
  simp +contextual (maxDischargeDepth := 30) [execSenseTestEnd]
@[simp] theorem execDriverFault_answers (n : Leg) : Answers p s (execDriverFault n s) := by
  simp +contextual (maxDischargeDepth := 30) [execDriverFault]
@[simp] theorem execTrainStopEnd_answers (t : Train) : Answers p s (execTrainStopEnd t s) := by
  simp +contextual (maxDischargeDepth := 30) [execTrainStopEnd]
@[simp] theorem execTrainReverseComplete_answers (t : Train) : Answers p s (execTrainReverseComplete t s) := by
  simp +contextual (maxDischargeDepth := 30) [execTrainReverseComplete]
@[simp] theorem execTrainShed_answers (t : Train) : Answers p s (execTrainShed t s) := by
  unfold execTrainShed
  dsimp only
  (repeat' split) <;> simp +contextual (maxDischargeDepth := 30)
@[simp] theorem execShedOffStep_answers (t : Train) : Answers p s (execShedOffStep t s) := by
  unfold execShedOffStep
  dsimp only
  (repeat' split) <;> simp +contextual (maxDischargeDepth := 30)
@[simp] theorem execShareDeviation_answers (n : Leg) : Answers p s (execShareDeviation n s) := by
  unfold execShareDeviation
  dsimp only
  (repeat' split) <;> simp +contextual (maxDischargeDepth := 30)
@[simp] theorem execPendingConfigAdopt_answers : Answers p s (execPendingConfigAdopt s) := by
  simp +contextual (maxDischargeDepth := 30) [execPendingConfigAdopt]
@[simp] theorem execOscillatorStop_answers (o : OscIx) : Answers p s (execOscillatorStop o s) := by
  simp +contextual (maxDischargeDepth := 30) [execOscillatorStop]
@[simp] theorem execPulseSetpointTimeout_answers (l : LoopIx) : Answers p s (execPulseSetpointTimeout l s) := by
  simp +contextual (maxDischargeDepth := 30) [execPulseSetpointTimeout]
@[simp] theorem execSubstitutionTimeout_answers (t : Train) : Answers p s (execSubstitutionTimeout t s) := by
  simp +contextual (maxDischargeDepth := 30) [execSubstitutionTimeout]
@[simp] theorem execSpareConnect_answers : Answers p s (execSpareConnect s) := by
  unfold execSpareConnect
  dsimp only
  (repeat' split) <;> simp +contextual (maxDischargeDepth := 30)
@[simp] theorem execAlternativeAccept_answers (i : Slice) : Answers p s (execAlternativeAccept i s) := by
  simp +contextual (maxDischargeDepth := 30) [execAlternativeAccept]
@[simp] theorem execSourceUvFire_answers (i : Src) : Answers p s (execSourceUvFire i s) := by
  simp +contextual (maxDischargeDepth := 30) [execSourceUvFire]
@[simp] theorem execSourceOvFire_answers (i : Src) : Answers p s (execSourceOvFire i s) := by
  simp +contextual (maxDischargeDepth := 30) [execSourceOvFire]
@[simp] theorem execSourceComparatorClear_answers (i : Src) (ov : Bool) : Answers p s (execSourceComparatorClear i ov s) := by
  simp +contextual (maxDischargeDepth := 30) [execSourceComparatorClear]
@[simp] theorem execNodeRampStart_answers (k : Fin 2) : Answers p s (execNodeRampStart k s) := by
  simp +contextual (maxDischargeDepth := 30) [execNodeRampStart]
@[simp] theorem execNodeLive_answers (k : Fin 2) : Answers p s (execNodeLive k s) := by
  simp +contextual (maxDischargeDepth := 30) [execNodeLive]
@[simp] theorem execSourceListStall_answers : Answers p s (execSourceListStall s) := by
  simp +contextual (maxDischargeDepth := 30) [execSourceListStall]
@[simp] theorem execRideThroughTakeover_answers : Answers p s (execRideThroughTakeover s) := by
  simp +contextual (maxDischargeDepth := 30) [execRideThroughTakeover]
@[simp] theorem execGuardTrip_answers (q : BPort) : Answers p s (execGuardTrip q s) := by
  simp +contextual (maxDischargeDepth := 30) [execGuardTrip]
@[simp] theorem execChargeTimeout_answers (q : BPort) : Answers p s (execChargeTimeout q s) := by
  simp +contextual (maxDischargeDepth := 30) [execChargeTimeout]
@[simp] theorem execPrechargeTimeout_answers (q : BPort) : Answers p s (execPrechargeTimeout q s) := by
  simp +contextual (maxDischargeDepth := 30) [execPrechargeTimeout]
@[simp] theorem execRemovalOvc_answers (q : BPort) : Answers p s (execRemovalOvc q s) := by
  simp +contextual (maxDischargeDepth := 30) [execRemovalOvc]
@[simp] theorem execPresenceLost_answers (q : BPort) : Answers p s (execPresenceLost q s) := by
  simp +contextual (maxDischargeDepth := 30) [execPresenceLost]
@[simp] theorem execReinsertion_answers (q : BPort) : Answers p s (execReinsertion q s) := by
  simp +contextual (maxDischargeDepth := 30) [execReinsertion]
@[simp] theorem execBpRestart_answers (q : BPort) : Answers p s (execBpRestart q s) := by
  simp +contextual (maxDischargeDepth := 30) [execBpRestart]
@[simp] theorem execBpZlearn_answers (q : BPort) : Answers p s (execBpZlearn q s) := by
  simp +contextual (maxDischargeDepth := 30) [execBpZlearn]
@[simp] theorem execProbeResult_answers (q : BPort) : Answers p s (execProbeResult q s) := by
  unfold execProbeResult
  dsimp only
  (repeat' split) <;> simp +contextual (maxDischargeDepth := 30)
@[simp] theorem execGuardLockSet_answers : Answers p s (execGuardLockSet s) := by
  simp +contextual (maxDischargeDepth := 30) [execGuardLockSet]
@[simp] theorem execFineConversionDone_answers  (i : Slice) (f : FineDone) : Answers p s (execFineConversionDone i f s) := by
  unfold execFineConversionDone
  dsimp only
  (repeat' split) <;> simp +contextual (maxDischargeDepth := 30)
@[simp] theorem execSlStart_answers (i : Slice) : Answers p s (execSlStart i s) := by
  simp +contextual (maxDischargeDepth := 30) [execSlStart]
@[simp] theorem execSlOvrClr_answers (i : Slice) : Answers p s (execSlOvrClr i s) := by
  simp +contextual (maxDischargeDepth := 30) [execSlOvrClr]
@[simp] theorem execOpenWireDetect_answers (i : Slice) : Answers p s (execOpenWireDetect i s) := by
  simp +contextual (maxDischargeDepth := 30) [execOpenWireDetect]
@[simp] theorem execConverterFault_answers (c : Conv) (parity : Bool) : Answers p s (execConverterFault c parity s) := by
  simp +contextual (maxDischargeDepth := 30) [execConverterFault]
@[simp] theorem execPairSettleEnd_answers (k : Fin 8) : Answers p s (execPairSettleEnd k s) := by
  unfold execPairSettleEnd
  dsimp only
  (repeat' split) <;> simp +contextual (maxDischargeDepth := 30)
@[simp] theorem execAxSlotResult_answers (raw : Raw) : Answers p s (execAxSlotResult raw s) := by
  simp +contextual (maxDischargeDepth := 30) [execAxSlotResult]
@[simp] theorem execAxWindowFire_answers (w : Fin 4) (hi : Bool) : Answers p s (execAxWindowFire w hi s) := by
  simp +contextual (maxDischargeDepth := 30) [execAxWindowFire]
@[simp] theorem execSyscalZero_answers (i : Slice) : Answers p s (execSyscalZero i s) := by
  simp +contextual (maxDischargeDepth := 30) [execSyscalZero]
@[simp] theorem execSyscalFull_answers (i : Slice) : Answers p s (execSyscalFull i s) := by
  simp +contextual (maxDischargeDepth := 30) [execSyscalFull]
@[simp] theorem execSyscalAbort_answers (i : Slice) : Answers p s (execSyscalAbort i s) := by
  simp +contextual (maxDischargeDepth := 30) [execSyscalAbort]
@[simp] theorem execSyscalDone_answers (i : Slice) : Answers p s (execSyscalDone i s) := by
  simp +contextual (maxDischargeDepth := 30) [execSyscalDone]
@[simp] theorem execAxSyscalZero_answers : Answers p s (execAxSyscalZero s) := by
  simp +contextual (maxDischargeDepth := 30) [execAxSyscalZero]
@[simp] theorem execAxSyscalFull_answers : Answers p s (execAxSyscalFull s) := by
  simp +contextual (maxDischargeDepth := 30) [execAxSyscalFull]
@[simp] theorem execAxSyscalAbort_answers : Answers p s (execAxSyscalAbort s) := by
  simp +contextual (maxDischargeDepth := 30) [execAxSyscalAbort]
@[simp] theorem execAxSyscalDone_answers : Answers p s (execAxSyscalDone s) := by
  simp +contextual (maxDischargeDepth := 30) [execAxSyscalDone]
@[simp] theorem execBgCalStart_answers : Answers p s (execBgCalStart s) := by
  unfold execBgCalStart
  dsimp only
  (repeat' split) <;> simp +contextual (maxDischargeDepth := 30)
@[simp] theorem execBgCalStep_answers : Answers p s (execBgCalStep s) := by
  unfold execBgCalStep
  dsimp only
  (repeat' split) <;> simp +contextual (maxDischargeDepth := 30)
@[simp] theorem execBgCalUpdate_answers : Answers p s (execBgCalUpdate s) := by
  simp +contextual (maxDischargeDepth := 30) [execBgCalUpdate]
@[simp] theorem execBgCalLate_answers (i : Slice) : Answers p s (execBgCalLate i s) := by
  simp +contextual (maxDischargeDepth := 30) [execBgCalLate]
@[simp] theorem execRefTraceRequest_answers : Answers p s (execRefTraceRequest s) := by
  simp +contextual (maxDischargeDepth := 30) [execRefTraceRequest]
@[simp] theorem execRefTraceBegin_answers : Answers p s (execRefTraceBegin s) := by
  simp +contextual (maxDischargeDepth := 30) [execRefTraceBegin]
@[simp] theorem execRefTraceToCalv_answers : Answers p s (execRefTraceToCalv s) := by
  simp +contextual (maxDischargeDepth := 30) [execRefTraceToCalv]
@[simp] theorem execRefTraceDone_answers : Answers p s (execRefTraceDone s) := by
  unfold execRefTraceDone
  dsimp only
  (repeat' split) <;> simp +contextual (maxDischargeDepth := 30)
@[simp] theorem execRefTraceAbort_answers : Answers p s (execRefTraceAbort s) := by
  simp +contextual (maxDischargeDepth := 30) [execRefTraceAbort]
@[simp] theorem execClerkRun_answers (c : ClerkIx) : Answers p s (execClerkRun c s) := by
  simp +contextual (maxDischargeDepth := 30) [execClerkRun]
@[simp] theorem execClerkStop_answers (c : ClerkIx) : Answers p s (execClerkStop c s) := by
  simp +contextual (maxDischargeDepth := 30) [execClerkStop]
@[simp] theorem execClerkListSelect_answers (c : ClerkIx) (user : Bool) : Answers p s (execClerkListSelect c user s) := by
  simp +contextual (maxDischargeDepth := 30) [execClerkListSelect]
@[simp] theorem execEventPop_answers : Answers p s (execEventPop s) := by
  simp +contextual (maxDischargeDepth := 30) [execEventPop]
@[simp] theorem execEqLostClr_answers : Answers p s (execEqLostClr s) := by
  simp +contextual (maxDischargeDepth := 30) [execEqLostClr]
@[simp] theorem execPackBusDone_answers (w : PbWire) : Answers p s (execPackBusDone w s) := by
  unfold execPackBusDone
  dsimp only
  (repeat' split) <;> simp +contextual (maxDischargeDepth := 30)
@[simp] theorem execTallyMatch_answers (n : TallyEdge) : Answers p s (execTallyMatch n s) := by
  simp +contextual (maxDischargeDepth := 30) [execTallyMatch]
@[simp] theorem execTallyWrap_answers (n : TallyEdge) : Answers p s (execTallyWrap n s) := by
  simp +contextual (maxDischargeDepth := 30) [execTallyWrap]
@[simp] theorem execTallyCaptureRise_answers (e : TinEdge) : Answers p s (execTallyCaptureRise e s) := by
  simp +contextual (maxDischargeDepth := 30) [execTallyCaptureRise]
@[simp] theorem execTallyCaptureFall_answers (e : TinEdge) : Answers p s (execTallyCaptureFall e s) := by
  simp +contextual (maxDischargeDepth := 30) [execTallyCaptureFall]
@[simp] theorem execTallyGateChange_answers (e : TinEdge) (level : Bool) : Answers p s (execTallyGateChange e level s) := by
  simp +contextual (maxDischargeDepth := 30) [execTallyGateChange]
@[simp] theorem execTallySyncStart_answers (mask : Word) : Answers p s (execTallySyncStart mask s) := by
  simp +contextual (maxDischargeDepth := 30) [execTallySyncStart]
@[simp] theorem execTallyCntLWrite_answers (n : TallyIx) (v : Word) : Answers p s (execTallyCntLWrite n v s) := by
  simp +contextual (maxDischargeDepth := 30) [execTallyCntLWrite]
@[simp] theorem execTallyCntHWrite_answers (n : TallyIx) (v : TallyLoad) : Answers p s (execTallyCntHWrite n v s) := by
  simp +contextual (maxDischargeDepth := 30) [execTallyCntHWrite]
@[simp] theorem execTallyCmpLWrite_answers (n : TallyIx) (v : Word) : Answers p s (execTallyCmpLWrite n v s) := by
  simp +contextual (maxDischargeDepth := 30) [execTallyCmpLWrite]
@[simp] theorem execTallyCmpHWrite_answers (n : TallyIx) (v : TallyLoad) : Answers p s (execTallyCmpHWrite n v s) := by
  simp +contextual (maxDischargeDepth := 30) [execTallyCmpHWrite]
@[simp] theorem execTallyParityError_answers (n : TallyIx) : Answers p s (execTallyParityError n s) := by
  simp +contextual (maxDischargeDepth := 30) [execTallyParityError]
@[simp] theorem execCalTrain_answers (t : Train) : Answers p s (execCalTrain t s) := by
  simp +contextual (maxDischargeDepth := 30) [execCalTrain]
@[simp] theorem execCalSrc_answers (i : Fin 8) : Answers p s (execCalSrc i s) := by
  simp +contextual (maxDischargeDepth := 30) [execCalSrc]
@[simp] theorem execCalRing_answers : Answers p s (execCalRing s) := by
  simp +contextual (maxDischargeDepth := 30) [execCalRing]
@[simp] theorem execCalAbort_answers : Answers p s (execCalAbort s) := by
  simp +contextual (maxDischargeDepth := 30) [execCalAbort]
@[simp] theorem execCalVerdict_answers (m : CalResults) : Answers p s (execCalVerdict m s) := by
  simp +contextual (maxDischargeDepth := 30) [execCalVerdict]
@[simp] theorem execCalSave_answers : Answers p s (execCalSave s) := by
  simp +contextual (maxDischargeDepth := 30) [execCalSave]
@[simp] theorem execCalSaveDone_answers (r : SaveRead) : Answers p s (execCalSaveDone r s) := by
  unfold execCalSaveDone
  dsimp only
  (repeat' split) <;> simp +contextual (maxDischargeDepth := 30)
@[simp] theorem execUnfenceRequest_answers (page : Nat) : Answers p s (execUnfenceRequest page s) := by
  simp +contextual (maxDischargeDepth := 30) [execUnfenceRequest]
@[simp] theorem execReadmission_answers (u : FenceUnit) (found : SelfTest) : Answers p s (execReadmission u found s) := by
  unfold execReadmission
  (repeat' split) <;> simp +contextual (maxDischargeDepth := 30)
@[simp] theorem execHostPortAutoReadmit_answers (q : Port) : Answers p s (execHostPortAutoReadmit q s) := by
  simp +contextual (maxDischargeDepth := 30) [execHostPortAutoReadmit]
@[simp] theorem execDeviceResume_answers : Answers p s (execDeviceResume s) := by
  simp +contextual (maxDischargeDepth := 30) [execDeviceResume]
@[simp] theorem execFaultWordClear_answers (hi : Bool) (m : Word) : Answers p s (execFaultWordClear hi m s) := by
  simp +contextual (maxDischargeDepth := 30) [execFaultWordClear]
@[simp] theorem execFaultWordLRead_answers (q : Port) : Answers p s (execFaultWordLRead q s) := by
  simp +contextual (maxDischargeDepth := 30) [execFaultWordLRead]
@[simp] theorem execTkNumLRead_answers (q : Port) : Answers p s (execTkNumLRead q s) := by
  simp +contextual (maxDischargeDepth := 30) [execTkNumLRead]
@[simp] theorem execTkCntClr_answers : Answers p s (execTkCntClr s) := by
  simp +contextual (maxDischargeDepth := 30) [execTkCntClr]
@[simp] theorem execCeCntClr_answers : Answers p s (execCeCntClr s) := by
  simp +contextual (maxDischargeDepth := 30) [execCeCntClr]
@[simp] theorem execTxnClear_answers (q : Port) : Answers p s (execTxnClear q s) := by
  simp +contextual (maxDischargeDepth := 30) [execTxnClear]
@[simp] theorem execTxnOpen_answers (q : Port) : Answers p s (execTxnOpen q s) := by
  simp +contextual (maxDischargeDepth := 30) [execTxnOpen]
@[simp] theorem execTxnCommit_answers (q : Port) (cyc : Nat) : Answers p s (execTxnCommit q cyc s) := by
  simp +contextual (maxDischargeDepth := 30) [execTxnCommit]
@[simp] theorem execTxnCommitAt_answers (q : Port) (cyc : Nat) : Answers p s (execTxnCommitAt q cyc s) := by
  simp +contextual (maxDischargeDepth := 30) [execTxnCommitAt]
@[simp] theorem execTxnAbort_answers (q : Port) (cyc : Nat) : Answers p s (execTxnAbort q cyc s) := by
  simp +contextual (maxDischargeDepth := 30) [execTxnAbort]
@[simp] theorem execTxnUndefinedCmd_answers (q : Port) : Answers p s (execTxnUndefinedCmd q s) := by
  simp +contextual (maxDischargeDepth := 30) [execTxnUndefinedCmd]
@[simp] theorem execTxnTgtWrite_answers (q : Port) (v : Word) : Answers p s (execTxnTgtWrite q v s) := by
  simp +contextual (maxDischargeDepth := 30) [execTxnTgtWrite]
@[simp] theorem execTxnTimeout_answers (q : Port) : Answers p s (execTxnTimeout q s) := by
  simp +contextual (maxDischargeDepth := 30) [execTxnTimeout]
@[simp] theorem execSnapHold_answers (q : Port) : Answers p s (execSnapHold q s) := by
  simp +contextual (maxDischargeDepth := 30) [execSnapHold]
@[simp] theorem execSnapRelease_answers (q : Port) : Answers p s (execSnapRelease q s) := by
  simp +contextual (maxDischargeDepth := 30) [execSnapRelease]
@[simp] theorem execSnapHoldExpiry_answers (q : Port) : Answers p s (execSnapHoldExpiry q s) := by
  simp +contextual (maxDischargeDepth := 30) [execSnapHoldExpiry]
@[simp] theorem execRegisterWrite_answers (q : Port) (page off : Nat) (v : Word) (cyc : Nat) : Answers p s (execRegisterWrite q page off v cyc s) := by
  simp +contextual (maxDischargeDepth := 30) [execRegisterWrite]
@[simp] theorem execHostPortConfigWrite_answers (page off : Nat) (v : Word) : Answers p s (execHostPortConfigWrite page off v s) := by
  simp +contextual (maxDischargeDepth := 30) [execHostPortConfigWrite]
@[simp] theorem execRingTrainingDone_answers (east : Bool) (flight : Nat) : Answers p s (execRingTrainingDone east flight s) := by
  simp +contextual (maxDischargeDepth := 30) [execRingTrainingDone]
@[simp] theorem execRingPortDown_answers (east : Bool) : Answers p s (execRingPortDown east s) := by
  simp +contextual (maxDischargeDepth := 30) [execRingPortDown]
@[simp] theorem execMasterElection_answers : Answers p s (execMasterElection s) := by
  simp +contextual (maxDischargeDepth := 30) [execMasterElection]
@[simp] theorem execTickFrameReceive_answers (f : TickFrame) : Answers p s (execTickFrameReceive f s) := by
  simp +contextual (maxDischargeDepth := 30) [execTickFrameReceive]
@[simp] theorem execDemandFrameReceive_answers (east : Bool) (f : DemandFrame) : Answers p s (execDemandFrameReceive east f s) := by
  unfold execDemandFrameReceive
  dsimp only
  (repeat' split) <;> simp +contextual (maxDischargeDepth := 30)
@[simp] theorem execImageFrameReceive_answers (east : Bool) (f : ImageFrame) : Answers p s (execImageFrameReceive east f s) := by
  simp +contextual (maxDischargeDepth := 30) [execImageFrameReceive]
@[simp] theorem execAnnounceBlock_answers (east : Bool) (hops : Fin 8) (a : Announce) : Answers p s (execAnnounceBlock east hops a s) := by
  simp +contextual (maxDischargeDepth := 30) [execAnnounceBlock]
@[simp] theorem execMarkerMissed_answers : Answers p s (execMarkerMissed s) := by
  unfold execMarkerMissed
  (repeat' split) <;> simp +contextual (maxDischargeDepth := 30)
@[simp] theorem execMasterSuccession_answers : Answers p s (execMasterSuccession s) := by
  simp +contextual (maxDischargeDepth := 30) [execMasterSuccession]
@[simp] theorem execMasterDrop_answers : Answers p s (execMasterDrop s) := by
  simp +contextual (maxDischargeDepth := 30) [execMasterDrop]
@[simp] theorem execTickAlign_answers (num : Nat) : Answers p s (execTickAlign num s) := by
  simp +contextual (maxDischargeDepth := 30) [execTickAlign]
@[simp] theorem execAlignTimeout_answers : Answers p s (execAlignTimeout s) := by
  unfold execAlignTimeout
  (repeat' split) <;> simp +contextual (maxDischargeDepth := 30)
@[simp] theorem execRingEntry_answers : Answers p s (execRingEntry s) := by
  simp +contextual (maxDischargeDepth := 30) [execRingEntry]
@[simp] theorem execRingRejoin_answers : Answers p s (execRingRejoin s) := by
  simp +contextual (maxDischargeDepth := 30) [execRingRejoin]
@[simp] theorem execRingLeave_answers : Answers p s (execRingLeave s) := by
  simp +contextual (maxDischargeDepth := 30) [execRingLeave]
@[simp] theorem execRgCntClr_answers : Answers p s (execRgCntClr s) := by
  simp +contextual (maxDischargeDepth := 30) [execRgCntClr]
@[simp] theorem execSpiRead_answers (cmd ad : Word) (crc : Byte) (n : Nat) (part : SpiCut) (e : List StoreEcc) (f : CheckFault) : Answers p s (execSpiRead cmd ad crc n part e f s) := by
  simp +contextual (maxDischargeDepth := 30) [execSpiRead]
@[simp] theorem execSpiWrite_answers (cmd ad : Word) (crc : Byte) (l : List SpiWord) (part : SpiCut) (f : CheckFault) : Answers p s (execSpiWrite cmd ad crc l part f s) := by
  simp +contextual (maxDischargeDepth := 30) [execSpiWrite]
@[simp] theorem execSpiCntClr_answers : Answers p s (execSpiCntClr s) := by
  simp +contextual (maxDischargeDepth := 30) [execSpiCntClr]
@[simp] theorem execTwmSclTimeout_answers : Answers p s (execTwmSclTimeout s) := by
  simp +contextual (maxDischargeDepth := 30) [execTwmSclTimeout]
@[simp] theorem execTwmCntClr_answers : Answers p s (execTwmCntClr s) := by
  simp +contextual (maxDischargeDepth := 30) [execTwmCntClr]
@[simp] theorem execAlertResponse_answers (lost : Bool) : Answers p s (execAlertResponse lost s) := by
  simp +contextual (maxDischargeDepth := 30) [execAlertResponse]
@[simp] theorem execPackBusGo_answers : Answers p s (execPackBusGo s) := by
  simp +contextual (maxDischargeDepth := 30) [execPackBusGo]
@[simp] theorem execTwpTransactionStart_answers (f : CheckFault) : Answers p s (execTwpTransactionStart f s) := by
  unfold execTwpTransactionStart
  dsimp only
  (repeat' split) <;> simp +contextual (maxDischargeDepth := 30)
@[simp] theorem execTwpArbLoss_answers (byte : Nat) (b : Fin 8) : Answers p s (execTwpArbLoss byte b s) := by
  simp +contextual (maxDischargeDepth := 30) [execTwpArbLoss]
@[simp] theorem execTwpSclTimeout_answers : Answers p s (execTwpSclTimeout s) := by
  simp +contextual (maxDischargeDepth := 30) [execTwpSclTimeout]
@[simp] theorem execTwpBusBusyTimeout_answers : Answers p s (execTwpBusBusyTimeout s) := by
  simp +contextual (maxDischargeDepth := 30) [execTwpBusBusyTimeout]
@[simp] theorem execTwpPeerWrite_answers (ix : Byte) (data : List Byte) (stop : Bool) : Answers p s (execTwpPeerWrite ix data stop s) := by
  simp +contextual (maxDischargeDepth := 30) [execTwpPeerWrite]
@[simp] theorem execTwpPeerRead_answers (ix : Byte) (n : PeerBytes) : Answers p s (execTwpPeerRead ix n s) := by
  unfold execTwpPeerRead
  dsimp only
  (repeat' split) <;> simp +contextual (maxDischargeDepth := 30)
@[simp] theorem execStoreAddrWrite_answers (hi : Bool) (v : Word) : Answers p s (execStoreAddrWrite hi v s) := by
  simp +contextual (maxDischargeDepth := 30) [execStoreAddrWrite]
@[simp] theorem execStoreDataRead_answers (e : StoreEcc) : Answers p s (execStoreDataRead e s) := by
  simp +contextual (maxDischargeDepth := 30) [execStoreDataRead]
@[simp] theorem execStoreDataWrite_answers (w : Word) : Answers p s (execStoreDataWrite w s) := by
  simp +contextual (maxDischargeDepth := 30) [execStoreDataWrite]
@[simp] theorem execStoreErase_answers (sector : Fin 1024) : Answers p s (execStoreErase sector s) := by
  simp +contextual (maxDischargeDepth := 30) [execStoreErase]
@[simp] theorem execStoreProg_answers : Answers p s (execStoreProg s) := by
  simp +contextual (maxDischargeDepth := 30) [execStoreProg]
@[simp] theorem execStoreAbort_answers : Answers p s (execStoreAbort s) := by
  simp +contextual (maxDischargeDepth := 30) [execStoreAbort]
@[simp] theorem execStoreOpStart_answers : Answers p s (execStoreOpStart s) := by
  simp +contextual (maxDischargeDepth := 30) [execStoreOpStart]
@[simp] theorem execStoreProgramDone_answers (r : ArrayRead) : Answers p s (execStoreProgramDone r s) := by
  simp +contextual (maxDischargeDepth := 30) [execStoreProgramDone]
@[simp] theorem execStoreEraseDone_answers (r : ArrayRead) : Answers p s (execStoreEraseDone r s) := by
  simp +contextual (maxDischargeDepth := 30) [execStoreEraseDone]
@[simp] theorem execLedgerAppend_answers : Answers p s (execLedgerAppend s) := by
  simp +contextual (maxDischargeDepth := 30) [execLedgerAppend]
@[simp] theorem execLarderArm_answers : Answers p s (execLarderArm s) := by
  simp +contextual (maxDischargeDepth := 30) [execLarderArm]
@[simp] theorem execLarderForce_answers : Answers p s (execLarderForce s) := by
  simp +contextual (maxDischargeDepth := 30) [execLarderForce]
@[simp] theorem execLarderFlush_answers : Answers p s (execLarderFlush s) := by
  simp +contextual (maxDischargeDepth := 30) [execLarderFlush]
@[simp] theorem execLarderFreeze_answers : Answers p s (execLarderFreeze s) := by
  simp +contextual (maxDischargeDepth := 30) [execLarderFreeze]
@[simp] theorem execLarderFlushDone_answers : Answers p s (execLarderFlushDone s) := by
  simp +contextual (maxDischargeDepth := 30) [execLarderFlushDone]
@[simp] theorem execPowerUp_answers (q : Straps) : Answers p s (execPowerUp q s) := by
  simp +contextual (maxDischargeDepth := 30) [execPowerUp]
@[simp] theorem execPowerDown_answers : Answers p s (execPowerDown s) := by
  simp +contextual (maxDischargeDepth := 30) [execPowerDown]
@[simp] theorem execVbiasGood_answers : Answers p s (execVbiasGood s) := by
  simp +contextual (maxDischargeDepth := 30) [execVbiasGood]
@[simp] theorem execBootComplete_answers : Answers p s (execBootComplete s) := by
  simp +contextual (maxDischargeDepth := 30) [execBootComplete]
@[simp] theorem execAutorunEntry_answers : Answers p s (execAutorunEntry s) := by
  simp +contextual (maxDischargeDepth := 30) [execAutorunEntry]
@[simp] theorem execResetPin_answers : Answers p s (execResetPin s) := by
  simp +contextual (maxDischargeDepth := 30) [execResetPin]
@[simp] theorem execBrownOut_answers (core : Bool) : Answers p s (execBrownOut core s) := by
  simp +contextual (maxDischargeDepth := 30) [execBrownOut]
@[simp] theorem execSupplyMonitorTrip_answers (i : Fin 5) : Answers p s (execSupplyMonitorTrip i s) := by
  unfold execSupplyMonitorTrip
  dsimp only
  (repeat' split) <;> simp +contextual (maxDischargeDepth := 30)
@[simp] theorem execClockMonitorTrip_answers (pll : Bool) : Answers p s (execClockMonitorTrip pll s) := by
  simp +contextual (maxDischargeDepth := 30) [execClockMonitorTrip]
@[simp] theorem execSlowClockFail_answers : Answers p s (execSlowClockFail s) := by
  simp +contextual (maxDischargeDepth := 30) [execSlowClockFail]
@[simp] theorem execDeviceRun_answers : Answers p s (execDeviceRun s) := by
  simp +contextual (maxDischargeDepth := 30) [execDeviceRun]
@[simp] theorem execDeviceHold_answers : Answers p s (execDeviceHold s) := by
  simp +contextual (maxDischargeDepth := 30) [execDeviceHold]
@[simp] theorem execDeviceSleep_answers : Answers p s (execDeviceSleep s) := by
  simp +contextual (maxDischargeDepth := 30) [execDeviceSleep]
@[simp] theorem execDeviceReset_answers (key : Word) : Answers p s (execDeviceReset key s) := by
  simp +contextual (maxDischargeDepth := 30) [execDeviceReset]
@[simp] theorem execSleepEntry_answers : Answers p s (execSleepEntry s) := by
  simp +contextual (maxDischargeDepth := 30) [execSleepEntry]
@[simp] theorem execWake_answers (w : WakeSource) : Answers p s (execWake w s) := by
  simp +contextual (maxDischargeDepth := 30) [execWake]
@[simp] theorem execWakeComplete_answers (e : Nat) : Answers p s (execWakeComplete e s) := by
  rw [execWakeComplete_eq]
  refine answers_ite p s _ _ _ ((answers_next p s s).mpr id) ((answers_next p s _).mpr fun h => ?_)
  exact pinsBoundary_sane p _ (published_sane p _ (wakeCounted_sane p e _ (wakeRunning_sane p e s h)))
@[simp] theorem execWakeVbiasTimeout_answers : Answers p s (execWakeVbiasTimeout s) := by
  simp +contextual (maxDischargeDepth := 30) [execWakeVbiasTimeout]
@[simp] theorem execTestKeyWrite_answers (q : Port) (v : Word) : Answers p s (execTestKeyWrite q v s) := by
  simp +contextual (maxDischargeDepth := 30) [execTestKeyWrite]
@[simp] theorem execTestGo_answers (ext : Bool) : Answers p s (execTestGo ext s) := by
  simp +contextual (maxDischargeDepth := 30) [execTestGo]
@[simp] theorem execTestStop_answers (cyc : Nat) : Answers p s (execTestStop cyc s) := by
  simp +contextual (maxDischargeDepth := 30) [execTestStop]
@[simp] theorem execTestExit_answers : Answers p s (execTestExit s) := by
  simp +contextual (maxDischargeDepth := 30) [execTestExit]
@[simp] theorem execLoopbackDone_answers (r : LoopResult) (cyc : Nat) : Answers p s (execLoopbackDone r cyc s) := by
  unfold execLoopbackDone
  dsimp only
  (repeat' split) <;> simp +contextual (maxDischargeDepth := 30)
@[simp] theorem execTestModeTimeout_answers : Answers p s (execTestModeTimeout s) := by
  simp +contextual (maxDischargeDepth := 30) [execTestModeTimeout]
@[simp] theorem execTallyCountEdge_answers (n : TallyEdge) : Answers p s (execTallyCountEdge n s) := by
  simp +contextual (maxDischargeDepth := 30) [execTallyCountEdge]
@[simp] theorem execDutyOnTimeStart_answers (n : Leg) : Answers p s (execDutyOnTimeStart n s) := by
  simp +contextual (maxDischargeDepth := 30) [execDutyOnTimeStart]
@[simp] theorem execBuckBoostTonEnd_answers (n : Leg) : Answers p s (execBuckBoostTonEnd n s) := by
  simp +contextual (maxDischargeDepth := 30) [execBuckBoostTonEnd]
@[simp] theorem execAxWindowClear_answers (w : Fin 4) (hi : Bool) : Answers p s (execAxWindowClear w hi s) := by
  simp +contextual (maxDischargeDepth := 30) [execAxWindowClear]
@[simp] theorem execPairOddWordProduced_answers (k : Fin 8) (raw : Raw) : Answers p s (execPairOddWordProduced k raw s) := by
  simp +contextual (maxDischargeDepth := 30) [execPairOddWordProduced]
end

/-- Every command answers a next state, and keeps a sane state sane. -/
theorem exec_answers (p : List Instr) (c : Instr) (s : State) : Answers p s (exec c s) := by
  cases c
  case twmPointerWrite q pec e f => exact execTwmPointerWrite_answers p q pec e f s
  case twmDataWrite q data pec e cyc f => exact execTwmDataWrite_answers p q data pec e cyc f s
  case twmRead n e ecc f => exact execTwmRead_answers p n e ecc f s
  all_goals simp [exec]

theorem stepIdles : Claims.StepIdles := fun s h => by
  unfold step
  rw [h]

theorem execKeepsQueue : Claims.ExecKeepsQueue := by
  intro c s t hs h
  obtain ⟨u, hu, hsane⟩ := exec_answers s.pending c s
  cases hu.symm.trans h
  exact (hsane ⟨rfl, hs⟩).1

/-- Settles O2: each command is a choice among next states. -/
theorem everyCommandCompletes : Obligations.EveryCommandCompletes := by
  intro c s
  obtain ⟨t, ht, -⟩ := exec_answers [] c s
  exact ⟨t, ht⟩

/-- Settles O5. -/
theorem queueKept : Obligations.QueueKept := ⟨stepIdles, execKeepsQueue⟩
end Sys2Proof.Machine

/-! PROOFS. The port of the other side as a device takes its place in the ring -/

namespace Sys2Proof.Machine

/-! ### The port of the other side as a device takes its place in the ring (R408, R444) -/

/-- A device in HOLD with `RG_CFG.EN` set, searching, its west port separated from the ring of another master (R444). -/
def searchingDevice : State :=
  { State.reset with x := { State.reset.x with
    dev := .hold
    pwr := { State.reset.x.pwr with stopped := false }
    regs := State.reset.x.regs.set (addr 0xC8 0x10) 0x8000
    ring := { State.reset.x.ring with state := .search, w := { State.reset.x.ring.w with state := .foreign } } } }

/-- The training of its east port takes it to LISTEN, where the separated west port rejoins: `foreign` becomes `up`. -/
theorem searchingDevice_trained :
    searchingDevice.x.ring.w.state = .foreign ∧ (trainingDone searchingDevice true 0).x.ring.w.state = .up := by decide

/-- Refutes O50: the port of the other side does not stay as it is when the device takes its place in LISTEN (R410), for a port that was
separated from another master's ring rejoins there. -/
theorem not_ringStates : ¬ Obligations.RingStates := by
  rintro ⟨hports, -⟩
  obtain ⟨htrained, -⟩ := hports true 0 searchingDevice
  obtain ⟨t, hstep, -, -, hother, -⟩ := htrained (by decide) (by decide) (by decide) (by decide) (by decide)
  obtain ⟨hbefore, hafter⟩ := searchingDevice_trained
  have ht : t = trainingDone searchingDevice true 0 := Host.Outcome.next.inj (hstep.symm.trans rfl)
  have hkept : t.x.ring.w.state = searchingDevice.x.ring.w.state := congrArg RgPort.state hother
  rw [ht, hbefore, hafter] at hkept
  cases hkept
end Sys2Proof.Machine

/-! PROOFS. Test mode: keys, loop-backs and what a closed one ignores -/

namespace Sys2Proof.Machine

/-! ### A closed test mode (R528) -/

/-- While test mode is closed only the key register takes a write. -/
theorem testWrite_of_closed {s : State} (p : Port) {off : Nat} (w : Word) (cyc : Nat) (ext : Bool) (hopen : s.x.test.isOpen = false)
    (hoff : off ≠ 0x10) : testWrite s p off w cyc ext = s := by
  unfold testWrite
  rw [if_neg (by simpa using hoff), if_pos (by rw [hopen]; rfl)]

/-- A write to page TEST at 0x10 or above is the test port's, what only the outside knows being drawn from the free bits. -/
theorem hostWrite_test {s : State} {p : Port} {off : Nat} (w : Word) (cyc : Nat) (hx : txnExpire s p = s) (hoff : 0x10 ≤ off) :
    hostWrite s p 0xF0 off w cyc = testWrite (freeBit s).2 p off w cyc (freeBit s).1 := by
  unfold hostWrite
  rw [hx]
  dsimp only
  rw [if_neg (by decide), if_neg (by simp), if_neg (by simp), if_pos (by simpa using hoff)]

/-- Settles O57: the write reaches the test port of the touched port, which answers its state. -/
theorem closedTestMode : Obligations.ClosedTestMode := by
  intro p off w cyc s hlive hopen hlow hhigh hyoung
  have hconfig : portConfig 0xF0 off = false := by
    unfold portConfig
    simp
  have hexpire : txnExpire (touch s p) p = touch s p := txnExpire_eq_self (touch s p) p hyoung
  refine ⟨(freeBit (touch s p)).2, ?_, fun _ => rfl, rfl, rfl, rfl⟩
  rw [exec_registerWrite s p 0xF0 off w cyc hlive hconfig, hostWrite_test w cyc hexpire (by omega),
    testWrite_of_closed (s := (freeBit (touch s p)).2) p w cyc _ hopen (by omega)]

/-! ### Keys and loop-backs (R527 to R532) -/

section
variable {s : State}

theorem exec_testKeyWrite (hl : hostLive s = true) (p : Port) (w : Word) : exec (.testKeyWrite p w) s = .next (testKey s p w) :=
  if_neg (by rw [hl]; decide)

theorem exec_testGo (hl : hostLive s = true) (ext : Bool) : exec (.testGo ext) s = .next (testGo s ext) :=
  if_neg (by rw [hl]; decide)

theorem exec_testStop (hl : hostLive s = true) (cyc : Nat) : exec (.testStop cyc) s = .next (testStop s cyc) :=
  if_neg (by rw [hl]; decide)

/-- Does the key open test mode: the second key after the first from the same port, in time (R527)? -/
def keyOpens (s : State) (p : Port) (w : Word) : Bool :=
  w == 0x0B17 && (match s.x.test.armed with
    | some (q, k) => q == p && s.x.tick.count ≤ k + 4096
    | none => false)

/-- In HOLD another key than the first ends the attempt, and opens test mode if it is the second in time. -/
theorem testKey_of_second (hd : s.x.dev = .hold) {w : Word} (hw : w ≠ 0x4D4C) (p : Port) :
    (testKey s p w).x.test =
      { s.x.test with lastWrite := s.x.tick.count, armed := none, isOpen := s.x.test.isOpen || keyOpens s p w } := by
  have hhold (f : TestSt → TestSt) : ¬ (s.modTest f).x.dev ≠ .hold := fun h => h hd
  unfold testKey
  dsimp only
  rw [if_neg (hhold _), if_neg (by simpa using hw)]
  rfl

/-- The loop-back that `TEST_LB` selects. -/
def selected (s : State) : LoopBack := { iface := TEST_LB_IF s, depth := TEST_LB_DEPTH s, inst := TEST_LB_INST s, since := s.x.tick.count }

/-- GO in an open test mode is refused with the first of its causes, and else starts what is selected (R530). -/
theorem testGo_of_open (ho : s.x.test.isOpen = true) (ext : Bool) :
    testGo s ext =
      let c := if s.x.test.run.isSome then 1 else if !(loopKnown (selected s)) then 3 else if !(loopPrereq s (selected s) ext) then 2 else 0
      if c != 0 then s.modTest fun t => { t with refused := true, refCause := c, lastWrite := s.x.tick.count }
      else s.modTest fun t => { t with
        run := some (selected s), done := false, pass := false, aborted := false, abortIgnored := false, refused := false, refCause := 0
        errCnt := 0, meas := 0, lastWrite := s.x.tick.count } := by
  unfold testGo
  rw [if_neg (by rw [ho]; decide)]
  rfl

/-- STOP of a running loop-back ends it, and what it held back is latched (R532). -/
theorem testStop_of_running (ho : s.x.test.isOpen = true) (hr : s.x.test.run ≠ none) (cyc : Nat) :
    (testStop s cyc).x.test = { s.x.test with lastWrite := s.x.tick.count, run := none, aborted := true, endTk := s.tickW } := by
  have hrun : s.x.test.run.isSome = true := Option.isSome_iff_ne_none.mpr hr
  unfold testStop
  rw [if_neg (by rw [ho]; decide)]
  dsimp only
  rw [if_pos hrun, latchAll_x]
  rfl

/-- However test mode closes, nothing of it is open, armed or running, and no register or trajectory changes (R529). -/
theorem testClosed (s : State) :
    let t := latchAll (testClose s)
    t.x.test.isOpen = false ∧ t.x.test.run = none ∧ t.x.test.armed = none ∧ t.cp = s.cp := by
  dsimp only
  rw [latchAll_x, latchAll_cp]
  exact ⟨rfl, rfl, rfl, rfl⟩

/-- What the end of a loop-back records (R531, R532). -/
def loopEnded (s : State) (b : LoopBack) (r : LoopResult) (cyc : Nat) : TestSt :=
  { s.x.test with
    run := none, done := true, pass := loopPass s b r, errCnt := min 0xFFFF r.errors, meas := r.meas, endTk := s.tickW
    endedAt := some (s.x.tick.count, cyc) }

theorem exec_loopbackDone {b : LoopBack} (hr : s.x.test.run = some b) (hd : b.since + loopTicks b ≤ s.x.tick.count) (r : LoopResult)
    (cyc : Nat) :
    ∃ t, exec (.loopbackDone r cyc) s = .next t ∧ t.x.test = loopEnded s b r cyc ∧ EvtSet t 0xF0 0 := by
  change ∃ t, execLoopbackDone r cyc s = .next t ∧ _
  unfold execLoopbackDone
  rw [hr]
  dsimp only
  rw [if_neg (by omega)]
  refine ⟨_, rfl, ?_, ?_⟩
  · rw [latchAll_x, State.evt_x]
    split <;> rfl
  · rw [EvtSet, latchAll_reg]
    exact State.evt_same _ _ _ (by decide)

end

theorem loopPass_by_errors (s : State) {b : LoopBack} (r : LoopResult) (h : b.iface ∈ [1, 2, 8] ∨ (b.iface ∈ [4, 5] ∧ b.depth = 0)) :
    loopPass s b r = decide (r.errors = 0) := by
  unfold loopPass
  simp only [List.mem_cons, List.not_mem_nil, or_false] at h
  rcases h with (h | h | h) | ⟨h | h, hd⟩
  · rw [h]; rfl
  · rw [h]; rfl
  · rw [h]; rfl
  · rw [h, hd]; rfl
  · rw [h, hd]; rfl

/-- Settles O56: the key, GO, STOP, end and close, each by what the model makes of it in the state at hand. -/
theorem testMode : Obligations.TestMode := by
  intro p w ext cyc since r b s hlive
  refine ⟨fun hd => ?_, fun hd ha hnow => ?_, fun hd hfirst hsecond => ?_, fun hd => ?_, fun hclosed => ?_, fun hopen => ?_,
    fun hrun hdue => ?_⟩
  · rw [exec_testKeyWrite hlive]
    simp [testKey, State.modTest, hd]
  · refine ⟨_, exec_testKeyWrite hlive p _, ?_⟩
    rw [testKey_of_second hd (by decide)]
    simp [keyOpens, ha, hnow]
  · refine ⟨_, exec_testKeyWrite hlive p w, ?_⟩
    have hstays : keyOpens s p w = false := by
      rcases hsecond with hw | ha
      · rw [keyOpens, beq_false_of_ne hw, Bool.false_and]
      · simp [keyOpens, ha]
    rw [testKey_of_second hd hfirst, hstays]
    simp
  · refine ⟨_, exec_testKeyWrite hlive p w, ?_⟩
    simp [testKey, State.modTest, hd]
  · rw [exec_testGo hlive, exec_testStop hlive, testGo, testStop]
    refine ⟨?_, ?_, ?_⟩
    · simp [hclosed]
    · simp [hclosed]
    · exact if_neg (by rw [hclosed]; decide)
  · refine ⟨fun hr hk hp => ?_, fun hr => ?_, fun hr hk => ?_, fun hr hk hp => ?_, fun hr => ?_, ?_, fun hd hw hh => ?_⟩
    · refine ⟨_, exec_testGo hlive ext, ?_⟩
      rw [testGo_of_open hopen]
      simp [selected, hr, hk, hp, State.modTest]
    · rw [exec_testGo hlive, testGo_of_open hopen, Option.isSome_iff_ne_none.mpr hr]
      rfl
    · rw [exec_testGo hlive, testGo_of_open hopen]
      simp [selected, hr, hk]
    · rw [exec_testGo hlive, testGo_of_open hopen]
      simp [selected, hr, hk, hp]
    · refine ⟨_, exec_testStop hlive cyc, ?_⟩
      rw [testStop_of_running hopen hr]
      exact ⟨rfl, rfl, hopen⟩
    · exact ⟨_, if_pos hopen, testClosed s⟩
    · refine ⟨_, if_pos ?_, testClosed s⟩
      simp [hopen, hd]
      omega
  · obtain ⟨t, ht, htest, hevt⟩ := exec_loopbackDone hrun hdue r cyc
    refine ⟨t, ht, ?_⟩
    rw [htest]
    refine ⟨rfl, rfl, rfl, rfl, hevt, loopPass_by_errors s r, fun hi hdep => ?_, fun hi hdep => ?_⟩
    · change loopPass s b r = _
      unfold loopPass
      rw [hi, hdep]
      rfl
    · change loopPass s b r = _
      unfold loopPass
      rw [hi, hdep]
      rfl
end Sys2Proof.Machine

/-! PROOFS. The ledger and the states of the larder -/

namespace Sys2Proof.Machine

/-! ### What the read-back of the array leaves as it was (R492) -/

@[simp] theorem eccFound_store (s : State) (r : ArrayRead) :
    (eccFound s r).x.store = { s.x.store with eccCnt := min 0xFFFF (s.x.store.eccCnt + r.corrected) } := by
  unfold eccFound
  dsimp only
  split
  · rw [raise_x]
  · rfl

@[simp] theorem verifyError_store (s : State) (wrong : Bool) : (verifyError s wrong).x.store = s.x.store := by
  unfold verifyError
  split
  · rw [raise_x, State.orReg_x]
  · rfl

theorem eccFound_reg_other (s : State) (r : ArrayRead) {a : Nat} (ha : a ≠ a_PG_ERR 0xC0) : (eccFound s r).reg a = s.reg a := by
  unfold eccFound
  dsimp only
  split
  · rw [raise_other _ _ _ _ ha]
    rfl
  · rfl

theorem verifyError_reg_other (s : State) (wrong : Bool) {a : Nat} (ha : a ≠ a_PG_ERR 0xC0) (hs : a ≠ a_STORE_ERR) :
    (verifyError s wrong).reg a = s.reg a := by
  unfold verifyError
  split
  · rw [raise_other _ _ _ _ ha, State.reg_orReg_other _ _ _ _ hs]
  · rfl

/-- The array after words are programmed from an address on, and after what the read-back finds to hold another value (R490, R492). -/
def progMem (m : List Host.Cell) (a : Nat) (l : List (Nat × Word)) (r : ArrayRead) : List Host.Cell :=
  r.bad.foldl (fun m c => stPut m (a + c.1) c.2) (progAll m a l)

theorem progWords_eq (s : State) (a : Nat) (l : List (Nat × Word)) (r : ArrayRead) :
    (progWords s a l r).1 = eccFound (verifyError (s.modStore fun v => { v with mem := progMem v.mem a l r })
      (l.any fun c => stGet (progMem s.x.store.mem a l r) (a + c.1) != c.2)) r := rfl

@[simp] theorem progWords_store (s : State) (a : Nat) (l : List (Nat × Word)) (r : ArrayRead) :
    (progWords s a l r).1.x.store = { s.x.store with
      mem := progMem s.x.store.mem a l r, eccCnt := min 0xFFFF (s.x.store.eccCnt + r.corrected) } := by
  rw [progWords_eq, eccFound_store, verifyError_store]
  rfl

theorem progWords_reg_other (s : State) (k : Nat) (l : List (Nat × Word)) (r : ArrayRead) {a : Nat} (ha : a ≠ a_PG_ERR 0xC0)
    (hs : a ≠ a_STORE_ERR) : (progWords s k l r).1.reg a = s.reg a := by
  rw [progWords_eq, eccFound_reg_other _ _ ha, verifyError_reg_other _ _ ha hs]
  rfl

/-! ### The ledger (R501) and the end of a flush (R503, R504) -/

theorem exec_ledgerAppend {s : State} (hl : hostLive s = true) : exec .ledgerAppend s = .next (ledgerAppend s) :=
  if_neg (by rw [hl]; decide)

/-- The record that an append makes of the registers (R501). -/
def registerRecord (s : State) : LedgerRec where
  kind := LG_KIND_KIND s
  sub := LG_KIND_SUB s
  tick := s.x.tick.num
  pay := (List.range 7).map fun i => s.reg (addr 0xC0 (0x21 + i))

/-- A record of another kind than the counters and the temperatures is queued as it stands in the registers. -/
theorem ledgerAppend_plain {s : State} (h2 : LG_KIND_KIND s ≠ 2) (h3 : LG_KIND_KIND s ≠ 3) :
    ledgerAppend s = ledgerPut s (registerRecord s) := by
  unfold ledgerAppend
  extract_lets kind sub pay p v
  have hkind2 : ¬ (kind == 2 && decide (sub < 4)) = true := by simp [kind, h2]
  have hkind3 : ¬ (kind == 3 && decide (sub < 4)) = true := by simp [kind, h3]
  rw [if_neg hkind2, if_neg hkind3]
  rfl

/-- A record that finds no room, or the storeroom fenced, is counted (R392, R501). -/
theorem ledgerPut_lost {s : State} (h : 16 ≤ s.x.store.queue.length ∨ s.isFenced .store = true) (r : LedgerRec) :
    ledgerPut s r = (s.modStore fun v => { v with lost := satInc 255 v.lost }).evt 0xC0 1 := by
  refine if_neg ?_
  rcases h with h | h
  · simp [show ¬ s.x.store.queue.length < 16 by omega]
  · simp [h]

/-- A page of the larder's window is programmed (R503, R504). -/
def pageFlushed (s : State) (j : Nat) (r : ArrayRead) : State :=
  ((progWords s (capBase + (flushSlot s * 4096 + j) * 128)
    (numbered (flushWords (windowRec s.x.larder j) (s.x.store.capSeq + 1))) r).1.modStore fun v => { v with
      op := none, cut := none }).modLar fun l => { l with prog := j + 1 }

/-- A flush that EN has not cut off goes on by a page, and ends with the last. -/
theorem programDone_flush {s : State} {j : Nat} (hop : s.x.store.op = some (.flush j)) (hcut : s.x.store.cut = none) (r : ArrayRead) :
    programDone s r = if j + 1 == 4096 then flushEnd (pageFlushed s j r) else pageFlushed s j r := by
  unfold programDone
  dsimp only
  rw [hop, hcut]
  rfl

theorem pageFlushed_rearm (s : State) (j : Nat) (r : ArrayRead) : LAR_CFG_REARM (pageFlushed s j r) = LAR_CFG_REARM s :=
  congrArg (bit · 14) (progWords_reg_other s _ _ r (by decide) (by decide))

theorem pageFlushed_capSeq (s : State) (j : Nat) (r : ArrayRead) : (pageFlushed s j r).x.store.capSeq = s.x.store.capSeq := by
  rw [pageFlushed, State.modLar_x, State.modStore_x, progWords_store]

theorem exec_larderFlushDone {s : State} (hop : s.x.store.op = some (.flush 4095)) (hcut : s.x.store.cut = none) :
    exec .larderFlushDone s = .next (flushEnd (pageFlushed s 4095 {})) := by
  refine (if_pos (by rw [hop]; rfl)).trans ?_
  rw [programDone_flush hop hcut, if_pos (by decide)]

/-- A trigger takes an armed larder into its post-trigger part (R503). -/
theorem larderTrigger_of_armed {s : State} (h : s.x.larder.state = .armed) (src ix : Nat) :
    larderTrigger s src ix =
      { s with x := { s.x with larder := { s.x.larder with state := .post, trigSrc := src, trigIdx := ix, recorded := false } } } := by
  unfold larderTrigger
  dsimp only
  rw [h]

/-- Settles O44: each command by the branch that the state of the larder or the queue chooses. -/
theorem ledgerAndLarder : Obligations.LedgerAndLarder := by
  intro s
  refine ⟨fun hlive h2 h3 => ⟨fun hroom hopen => ?_, fun hfull => ?_⟩, fun harm => ?_, fun harmed => ?_, fun hfrozen hopen => ?_,
    fun hfrozen hfence => ?_, fun hpost hrec hleft => ?_, fun hop hcut hflush => ?_⟩
  · refine ⟨_, exec_ledgerAppend hlive, ?_⟩
    rw [ledgerAppend_plain h2 h3]
    exact if_pos (by simp [hroom, hopen])
  · refine ⟨_, exec_ledgerAppend hlive, ?_⟩
    rw [ledgerAppend_plain h2 h3, ledgerPut_lost hfull]
    refine ⟨?_, ?_, State.evt_same _ _ _ (by decide)⟩
    · rw [State.evt_x]
      rfl
    · rw [State.evt_x]
      simp only [State.modStore, satInc]
      split <;> omega
  · refine ⟨s.modLar larArm, congrArg Host.Outcome.next ?_, rfl, fun r hr => ?_⟩
    · unfold larderArm
      rcases harm with ⟨hoff, hen⟩ | hfrozen
      · rw [hoff]
        exact if_pos hen
      · rw [hfrozen]
    · obtain ⟨q, -, rfl⟩ := List.mem_map.mp hr
      rfl
  · refine ⟨_, rfl, ?_⟩
    rw [larderTrigger_of_armed harmed]
    exact ⟨rfl, rfl, rfl⟩
  · refine ⟨_, rfl, ?_⟩
    have hflush : larderFlush s = s.modLar fun l => { l with state := .flush, prog := 0, flushed := false, err := false } := by
      unfold larderFlush
      rw [hfrozen]
      exact if_neg (by rw [hopen]; decide)
    rw [hflush]
    exact ⟨rfl, rfl⟩
  · refine congrArg Host.Outcome.next ?_
    unfold larderFlush
    rw [hfrozen]
    exact if_pos hfence
  · refine ⟨_, if_pos (by simp [hpost, hrec, hleft]), ?_, State.evt_same _ _ _ (by decide)⟩
    rw [State.evt_x]
    rfl
  · refine ⟨_, exec_larderFlushDone hop hcut, ?_⟩
    have hseq := pageFlushed_capSeq s 4095 {}
    have hrearm := pageFlushed_rearm s 4095 {}
    generalize pageFlushed s 4095 {} = t at hseq hrearm ⊢
    unfold flushEnd
    rw [hrearm, State.evt_x]
    refine ⟨?_, ?_, State.evt_same _ _ _ (by decide), congrArg (· + 1) hseq⟩
    · cases LAR_CFG_REARM s <;> rfl
    · cases LAR_CFG_REARM s <;> rfl
end Sys2Proof.Machine

/-! PROOFS. The storeroom's data port -/

namespace Sys2Proof.Machine

/-! ### The data port (R489, R490) -/

/-- The address is taken; the buffers may move on, and nothing else changes. -/
theorem setAddr_frame (s : State) (a : Nat) :
    ∃ f w, setAddr s a = s.modStore fun v => { v with addr := a, fill := f, waitB := w } := by
  unfold setAddr
  dsimp only
  split
  next b hb =>
    split
    · exact ⟨_, _, rfl⟩
    · unfold bufferOut
      rw [State.modStore, hb]
      exact ⟨_, _, rfl⟩
  next => exact ⟨_, _, rfl⟩

theorem stepAddr_frame (s : State) :
    ∃ f w, stepAddr s = s.modStore fun v => { v with addr := (v.addr + 1) % 2 ^ 25, fill := f, waitB := w } :=
  setAddr_frame s _

/-- The buffer that is filled is filled still, or waits. -/
theorem stepAddr_buffer {s : State} {b : ProgBuf} (h : s.x.store.fill = some b) :
    (stepAddr s).x.store.fill = some b ∨ b ∈ (stepAddr s).x.store.waitB := by
  unfold stepAddr setAddr
  dsimp only
  rw [show (s.modStore fun v => { v with addr := (s.x.store.addr + 1) % 0x2000000 }).x.store.fill = some b from h]
  dsimp only
  split
  · exact .inl h
  · refine .inr ?_
    unfold bufferOut
    rw [State.modStore, show (s.modStore fun v => { v with addr := (s.x.store.addr + 1) % 0x2000000 }).x.store.fill = some b from h]
    exact List.mem_append_right _ (List.mem_singleton.mpr rfl)

section
variable {s : State}

theorem exec_storeAddrWrite (hl : hostLive s = true) (hi : Bool) (w : Word) :
    exec (.storeAddrWrite hi w) s =
      .next (loadAddr (if hi then set_STORE_ADDR_H_ADDR s w.toNat else set_STORE_ADDR_L s w.toNat)) := if_neg (by rw [hl]; decide)

theorem exec_storeDataRead (hl : hostLive s = true) (e : StoreEcc) : exec (.storeDataRead e) s = .next (storeRead s e) :=
  if_neg (by rw [hl]; decide)

theorem exec_storeDataWrite (hl : hostLive s = true) (w : Word) : exec (.storeDataWrite w) s = .next (storeWrite s w) :=
  if_neg (by rw [hl]; decide)

/-- The address loaded is that of the registers, which stay. -/
theorem loadAddr_spec (s : State) :
    (∀ a, (loadAddr s).reg a = s.reg a) ∧ (loadAddr s).x.store.addr = STORE_ADDR_H_ADDR s * 65536 + STORE_ADDR_L s ∧
      (loadAddr s).x.store.mem = s.x.store.mem := by
  obtain ⟨f, w, h⟩ := setAddr_frame s (STORE_ADDR_H_ADDR s * 65536 + STORE_ADDR_L s)
  rw [loadAddr, h]
  exact ⟨fun _ => rfl, rfl, rfl⟩

/-- A read ends with the address stepped, in the state in which its word was taken. -/
theorem storeRead_of_open (hf : s.isFenced .store = false) (e : StoreEcc) :
    storeRead s e = stepAddr (match e with
      | .good => s.modStore fun v => { v with out := stGet s.x.store.mem s.x.store.addr }
      | .corrected => s.modStore fun v => { v with out := stGet s.x.store.mem s.x.store.addr, eccCnt := satInc 0xFFFF v.eccCnt }
      | .bad r => raise (s.modStore fun v => { v with out := r }) 0xC0 2) := by
  refine (if_neg (by rw [hf]; decide)).trans ?_
  cases e with
  | good => rfl
  | corrected => rfl
  | bad r => rfl

/-- The buffer of a page with a word written, as a write leaves it (R490). -/
def filledBuf (s : State) (w : Word) : ProgBuf :=
  bufPut (match s.x.store.fill with
    | some b => b
    | none => { page := s.x.store.addr / pageWords, words := [] }) (s.x.store.addr % pageWords) w

/-- A write goes into the buffer, or is dropped with its bit of STORE_ERR, and steps the address. -/
theorem storeWrite_of_open (hf : s.isFenced .store = false) (w : Word) :
    storeWrite s w = stepAddr (
      if !(hostSector (s.x.store.addr / sectorWords)) then s.orReg a_STORE_ERR (oneHot 14)
      else if 2 ≤ s.x.store.waitB.length then s.orReg a_STORE_ERR (oneHot 15)
      else s.modStore fun v => { v with fill := some (filledBuf s w) }) :=
  if_neg (by rw [hf]; decide)

theorem filledBuf_mem (s : State) (w : Word) : (s.x.store.addr % 128, w) ∈ (filledBuf s w).words :=
  List.mem_append_right _ (List.mem_singleton.mpr rfl)

theorem filledBuf_page (w : Word) (h : s.x.store.fill = none) : (filledBuf s w).page = s.x.store.addr / 128 := by
  unfold filledBuf
  rw [h]
  rfl

/-- A write that is dropped sets its bit, keeps the array and steps the address. -/
theorem stepAddr_dropped (s : State) {b : Nat} (hb : b < 16) :
    let t := stepAddr (s.orReg a_STORE_ERR (oneHot b))
    (t.x.store.addr = (s.x.store.addr + 1) % 2 ^ 25 ∧ t.x.store.mem = s.x.store.mem) ∧ bit (t.reg a_STORE_ERR) b = true := by
  obtain ⟨f, v, h⟩ := stepAddr_frame (s.orReg a_STORE_ERR (oneHot b))
  dsimp only
  rw [h]
  refine ⟨⟨?_, ?_⟩, ?_⟩
  · rw [State.modStore_x, State.orReg_x]
  · rw [State.modStore_x, State.orReg_x]
  · change bit ((s.orReg a_STORE_ERR (oneHot b)).reg a_STORE_ERR) b = true
    rw [State.reg_orReg_same, bit_or_oneHot _ b hb]

end

/-- The halves of the address as they are written (R489). -/
theorem addrWritten_low (s : State) (w : Word) :
    STORE_ADDR_L (set_STORE_ADDR_L s w.toNat) = w.toNat ∧ STORE_ADDR_H_ADDR (set_STORE_ADDR_L s w.toNat) = STORE_ADDR_H_ADDR s ∧
      (set_STORE_ADDR_L s w.toNat).x.store = s.x.store := by
  refine ⟨?_, congrArg (bits · 8 0) (State.reg_setReg_other _ _ _ _ (by decide)), by rw [set_STORE_ADDR_L, State.setReg_x]⟩
  rw [STORE_ADDR_L, set_STORE_ADDR_L, State.reg_setReg_same, bits_setBits_same _ _ (by decide) (by decide)]
  exact Nat.mod_eq_of_lt w.isLt

theorem addrWritten_high (s : State) (w : Word) :
    STORE_ADDR_L (set_STORE_ADDR_H_ADDR s w.toNat) = STORE_ADDR_L s ∧
      STORE_ADDR_H_ADDR (set_STORE_ADDR_H_ADDR s w.toNat) = w.toNat % 512 ∧ (set_STORE_ADDR_H_ADDR s w.toNat).x.store = s.x.store := by
  refine ⟨congrArg (bits · 15 0) (State.reg_setReg_other _ _ _ _ (by decide)), ?_, by rw [set_STORE_ADDR_H_ADDR, State.setReg_x]⟩
  rw [STORE_ADDR_H_ADDR, set_STORE_ADDR_H_ADDR, State.reg_setReg_same, bits_setBits_same _ _ (by decide) (by decide)]
  rfl

theorem storeWindow : Claims.StoreWindow := by
  intro w r s hlive hopen
  refine ⟨?_, ?_, ?_, ?_, ?_, fun hhost hroom => ?_, fun hdenied => ?_, fun hhost hfull => ?_⟩
  · obtain ⟨hreg, haddr, hmem⟩ := loadAddr_spec (set_STORE_ADDR_L s w.toNat)
    obtain ⟨hlow, hhigh, hstore⟩ := addrWritten_low s w
    have hhigh' : STORE_ADDR_H_ADDR (loadAddr (set_STORE_ADDR_L s w.toNat)) = STORE_ADDR_H_ADDR s :=
      (congrArg (bits · 8 0) (hreg _)).trans hhigh
    refine ⟨_, exec_storeAddrWrite hlive false w, (congrArg (bits · 15 0) (hreg _)).trans hlow, hhigh', ?_, hmem.trans (by rw [hstore])⟩
    refine haddr.trans ?_
    rw [hlow, hhigh]
    exact congrArg (· * 65536 + w.toNat) hhigh'.symm
  · obtain ⟨hreg, haddr, hmem⟩ := loadAddr_spec (set_STORE_ADDR_H_ADDR s w.toNat)
    obtain ⟨hlow, hhigh, hstore⟩ := addrWritten_high s w
    refine ⟨_, exec_storeAddrWrite hlive true w, (congrArg (bits · 15 0) (hreg _)).trans hlow,
      (congrArg (bits · 8 0) (hreg _)).trans hhigh, ?_, hmem.trans (by rw [hstore])⟩
    refine haddr.trans ?_
    rw [hlow]
    exact congrArg (· * 65536 + STORE_ADDR_L s) (congrArg (bits · 8 0) (hreg _)).symm
  · obtain ⟨f, v, h⟩ := stepAddr_frame (s.modStore fun v => { v with out := stGet s.x.store.mem s.x.store.addr })
    refine ⟨_, exec_storeDataRead hlive .good, ?_⟩
    rw [storeRead_of_open hopen, h]
    exact ⟨rfl, rfl, rfl, rfl⟩
  · obtain ⟨f, v, h⟩ := stepAddr_frame (s.modStore fun v => { v with out := stGet s.x.store.mem s.x.store.addr, eccCnt := satInc 0xFFFF v.eccCnt })
    refine ⟨_, exec_storeDataRead hlive .corrected, ?_⟩
    rw [storeRead_of_open hopen, h]
    exact ⟨rfl, satInc_eq_min _ _, rfl, rfl⟩
  · obtain ⟨f, v, h⟩ := stepAddr_frame (raise (s.modStore fun v => { v with out := r }) 0xC0 2)
    refine ⟨_, exec_storeDataRead hlive (.bad r), ?_⟩
    rw [storeRead_of_open hopen, h]
    refine ⟨?_, raise_same (s.modStore fun v => { v with out := r }) 0xC0 2 (by decide), ?_, ?_⟩
    · rw [State.modStore_x, raise_x]
      rfl
    · rw [State.modStore_x, raise_x]
      rfl
    · rw [State.modStore_x, raise_x]
      rfl
  · have hsector : hostSector (s.x.store.addr / sectorWords) = true := (Bool.not_eq_false _).mp hhost
    have hfills : storeWrite s w = stepAddr (s.modStore fun v => { v with fill := some (filledBuf s w) }) := by
      rw [storeWrite_of_open hopen, if_neg (by rw [hsector]; decide), if_neg (by omega)]
    obtain ⟨f, v, h⟩ := stepAddr_frame (s.modStore fun v => { v with fill := some (filledBuf s w) })
    refine ⟨_, exec_storeDataWrite hlive w, ?_⟩
    have hbuf := stepAddr_buffer (s := s.modStore fun v => { v with fill := some (filledBuf s w) }) rfl
    rw [hfills]
    refine ⟨?_, filledBuf s w, hbuf, filledBuf_mem s w, filledBuf_page w⟩
    rw [h]
    exact ⟨rfl, rfl⟩
  · have hsector : hostSector (s.x.store.addr / sectorWords) = false := hdenied
    refine ⟨_, exec_storeDataWrite hlive w, ?_⟩
    rw [storeWrite_of_open hopen, if_pos (by rw [hsector]; rfl)]
    exact stepAddr_dropped s (by decide)
  · have hsector : hostSector (s.x.store.addr / sectorWords) = true := (Bool.not_eq_false _).mp hhost
    refine ⟨_, exec_storeDataWrite hlive w, ?_⟩
    rw [storeWrite_of_open hopen, if_neg (by rw [hsector]; decide), if_pos hfull]
    exact stepAddr_dropped s (by decide)
end Sys2Proof.Machine

/-! PROOFS. The storeroom's commands and the order of the array's agents -/

namespace Sys2Proof.Machine

/-! ### The commands (R490, R494) and the order of the array's agents (R493) -/

theorem State.modStore_congr {s : State} {f g : StoreSt → StoreSt} (h : f s.x.store = g s.x.store) : s.modStore f = s.modStore g := by
  rw [State.modStore, h, State.modStore]

/-- CMD is a register of its own. -/
theorem set_STORE_CMD_CMD_store (s : State) (c : Nat) : (set_STORE_CMD_CMD s c).x.store = s.x.store := by
  rw [set_STORE_CMD_CMD, State.setReg_x]

theorem set_STORE_CMD_CMD_reg_other (s : State) (c : Nat) {a : Nat} (ha : a ≠ addr 0xC0 0x13) : (set_STORE_CMD_CMD s c).reg a = s.reg a :=
  State.reg_setReg_other _ _ _ _ ha

theorem hostCmdEnd_store (s : State) (f : StoreSt → StoreSt) :
    (hostCmdEnd s f).x.store =
      f { s.x.store with busy := false, prog := false, erase := none, eraseEnd := false, endedAt := s.x.tick.count } :=
  set_STORE_CMD_CMD_store _ _

theorem hostCmdEnd_reg_other (s : State) (f : StoreSt → StoreSt) {a : Nat} (ha : a ≠ addr 0xC0 0x13) :
    (hostCmdEnd s f).reg a = s.reg a :=
  set_STORE_CMD_CMD_reg_other _ _ ha

/-- The words that become free are those of the range. -/
theorem stFree_other (s : State) (a n : Nat) {k : Nat} (hk : k < a ∨ a + n ≤ k) :
    stGet (stFree s a n).x.store.mem k = stGet s.x.store.mem k := by
  have hout (l : List Nat) (hl : ∀ i ∈ l, i < n) (m : List Host.Cell) :
      stGet (l.foldl (fun m i => stPut m (a + i) (Config.freeWord (s.free + i))) m) k = stGet m k := by
    induction l generalizing m with
    | nil => rfl
    | cons i t ih =>
      obtain ⟨hi, ht⟩ := List.forall_mem_cons.mp hl
      exact (ih ht _).trans (stGet_stPut_other m _ k _ (by omega))
  exact hout (List.range n) (fun i hi => List.mem_range.mp hi) _

section
variable {s : State}

theorem exec_storeErase (hl : hostLive s = true) (k : Fin 1024) : exec (.storeErase k) s = .next (storeErase s k.val) :=
  if_neg (by rw [hl]; decide)

theorem exec_storeProg (hl : hostLive s = true) : exec .storeProg s = .next (storeProg s) := if_neg (by rw [hl]; decide)

theorem exec_storeAbort (hl : hostLive s = true) : exec .storeAbort s = .next (storeAbort s) := if_neg (by rw [hl]; decide)

theorem exec_storeOpStart (hl : hostLive s = true) (hf : s.isFenced .store = false) (hs : s.x.pwr.sleeping = false)
    (ho : s.x.store.op = none) : exec .storeOpStart s = .next (s.modStore fun v => { v with op := nextOp s }) :=
  if_neg (by rw [hl, hf, hs, ho]; decide)

/-- An erase of a sector that is not the host's is refused with its bit of STORE_ERR (R488, R494). -/
def eraseDenied (s : State) : State := (s.orReg a_STORE_ERR (oneHot 14)).modStore fun v => { v with refused := true }

theorem storeErase_of_denied {k : Nat} (hk : hostSector k = false) :
    storeErase s k = if s.x.store.busy then eraseDenied s else set_STORE_CMD_CMD (eraseDenied s) 0 := by
  unfold storeErase
  rw [hk]
  rfl

theorem eraseDenied_spec (s : State) :
    (eraseDenied s).x.store = { s.x.store with refused := true } ∧ bit ((eraseDenied s).reg a_STORE_ERR) 14 = true := by
  refine ⟨?_, (congrArg (bit · 14) (State.reg_orReg_same s a_STORE_ERR (oneHot 14))).trans (bit_or_oneHot _ _ (by decide))⟩
  rw [eraseDenied, State.modStore_x, State.orReg_x]

theorem storeErase_denied_spec {k : Nat} (hk : hostSector k = false) :
    (storeErase s k).x.store = { s.x.store with refused := true } ∧ bit ((storeErase s k).reg a_STORE_ERR) 14 = true := by
  obtain ⟨hstore, hbit⟩ := eraseDenied_spec s
  rw [storeErase_of_denied hk]
  split
  · exact ⟨hstore, hbit⟩
  · rw [set_STORE_CMD_CMD_store, set_STORE_CMD_CMD_reg_other _ _ (by decide)]
    exact ⟨hstore, hbit⟩

/-- For a sector of the host's an erase is refused while another command runs or the storeroom is fenced, and else accepted (R490, R494). -/
theorem storeErase_of_host {k : Nat} (hk : hostSector k = true) :
    storeErase s k = if s.x.store.busy then s.modStore fun v => { v with refused := true }
      else if s.isFenced .store then set_STORE_CMD_CMD (s.modStore fun v => { v with refused := true }) 0
      else s.modStore fun v => { hostCmdStart v with erase := some k, eraseAfter := v.waitB.length } := by
  unfold storeErase
  rw [hk]
  rfl

/-- PROG puts the buffer in hand behind those that wait. -/
theorem bufferOut_eq (s : State) :
    bufferOut s = s.modStore fun v => { v with
      fill := none, waitB := s.x.store.waitB ++ (match s.x.store.fill with | some b => [b] | none => []) } := by
  refine State.modStore_congr ?_
  cases h : s.x.store.fill with
  | none =>
    rw [List.append_nil]
    exact congrArg (fun f => { s.x.store with fill := f }) h
  | some b => rfl

/-- PROG with nothing in the buffers is done at once (R490). -/
theorem storeProg_none (hf : s.isFenced .store = false) (hb : s.x.store.busy = false) (hn : s.x.store.fill = none)
    (hw : s.x.store.waitB = []) :
    storeProg s = (hostCmdEnd ((bufferOut s).modStore hostCmdStart) fun v => { v with done := true }).evt 0xC0 0 := by
  have hbusy : (bufferOut s).x.store.busy = false := by
    rw [bufferOut_eq]
    exact hb
  have hnone : (bufferOut s).x.store.waitB = [] := by
    rw [bufferOut_eq, hn]
    simpa [State.modStore] using hw
  unfold storeProg
  rw [if_neg (by rw [hf]; decide)]
  dsimp only
  rw [if_neg (by rw [hbusy]; decide), if_pos (by rw [hnone]; rfl)]

theorem storeProg_some (hf : s.isFenced .store = false) (hb : s.x.store.busy = false)
    (hsome : ¬ (s.x.store.fill = none ∧ s.x.store.waitB = [])) :
    storeProg s = (bufferOut s).modStore fun v => { hostCmdStart v with prog := true } := by
  have hbusy : (bufferOut s).x.store.busy = false := by
    rw [bufferOut_eq]
    exact hb
  have hwaits : (bufferOut s).x.store.waitB.isEmpty = false := by
    rw [bufferOut_eq]
    cases hfill : s.x.store.fill with
    | none => simpa [State.modStore, hfill] using hsome
    | some b => simp [State.modStore]
  unfold storeProg
  rw [if_neg (by rw [hf]; decide)]
  dsimp only
  rw [if_neg (by rw [hbusy]; decide), if_neg (by rw [hwaits]; decide)]

/-- An erase of the sector runs, or its end is still to be reported (R494). -/
def eraseTouched (s : State) (k : Nat) : Bool := s.x.store.op == some (.hostErase k) || s.x.store.eraseEnd

/-- The array as an abort of the erase of a sector leaves it: the sector is undefined if the erase touched it. -/
def eraseCut (s : State) (k : Nat) : State :=
  if eraseTouched s k then (stFree s (k * sectorWords) sectorWords).modStore fun v =>
    { v with op := if v.op == some (.hostErase k) then none else v.op }
  else s

theorem storeAbort_of_erase {k : Nat} (h : s.x.store.erase = some k) :
    storeAbort s = hostCmdEnd (eraseCut s k) fun v => { v with aborted := true } := by
  unfold storeAbort
  dsimp only
  rw [h]
  rfl

theorem stFree_op (s : State) (a n : Nat) : (stFree s a n).x.store.op = s.x.store.op := rfl

theorem eraseCut_op (s : State) (k : Nat) :
    (eraseCut s k).x.store.op = if s.x.store.op = some (.hostErase k) then none else s.x.store.op := by
  unfold eraseCut
  split
  · rw [State.modStore_x, stFree_op]
    simp only [beq_iff_eq]
  next htouched =>
    have hop : s.x.store.op ≠ some (.hostErase k) := fun hop => htouched (by simp [eraseTouched, hop])
    rw [if_neg hop]

/-- A sector that becomes free leaves the words of the others. -/
theorem stFree_sector_other (s : State) (k : Nat) (f : StoreSt → StoreSt) (hf : ∀ v, (f v).mem = v.mem) {a : Nat} (ha : a / 32768 ≠ k) :
    stGet ((stFree s (k * sectorWords) sectorWords).modStore f).x.store.mem a = stGet s.x.store.mem a := by
  rw [State.modStore_x, hf]
  exact stFree_other s (k * sectorWords) sectorWords (by unfold sectorWords; omega)

theorem eraseCut_mem (s : State) (k : Nat) {a : Nat} (ha : a / 32768 ≠ k) :
    stGet (eraseCut s k).x.store.mem a = stGet s.x.store.mem a := by
  unfold eraseCut
  split
  · refine stFree_sector_other s k _ ?_ ha
    exact fun v => rfl
  · rfl

/-- With no image wanted the array's agents take their turn (R493). -/
theorem nextOp_of_save (hi : imageWanted s = false) (hs : s.x.cal.saveBusy = true) : nextOp s = some .calSave := by
  unfold nextOp
  dsimp only
  rw [if_neg (by rw [hi]; decide), if_pos hs]

theorem nextOp_of_queue (hi : imageWanted s = false) (hs : s.x.cal.saveBusy = false) (hq : s.x.store.queue ≠ [])
    (hh : s.x.store.head % 2048 ≠ 0 ∨ s.x.store.fresh = true) : nextOp s = some .ledger := by
  have hplace : (s.x.store.head % 2048 == 0 && !s.x.store.fresh) = false := by
    rcases hh with h | h
    · simp [h]
    · simp [h]
  unfold nextOp
  dsimp only
  rw [if_neg (by rw [hi]; decide), if_neg (by rw [hs]; decide), if_pos (by simpa using hq), hplace]
  rfl

/-- The host's turn: its erase once the buffers asked for before it are programmed, else the next buffer. -/
theorem nextOp_of_erase (hi : imageWanted s = false) (hs : s.x.cal.saveBusy = false) (hq : s.x.store.queue = []) {k : Nat}
    (he : s.x.store.erase = some k) (ha : s.x.store.eraseAfter = 0) (hend : s.x.store.eraseEnd = false) :
    nextOp s = some (.hostErase k) := by
  unfold nextOp
  dsimp only
  rw [if_neg (by rw [hi]; decide), if_neg (by rw [hs]; decide), if_neg (by rw [hq]; decide), if_pos (by rw [ha, hend]; rfl), he]

theorem nextOp_of_buffer (hi : imageWanted s = false) (hs : s.x.cal.saveBusy = false) (hq : s.x.store.queue = [])
    (he : s.x.store.erase = none ∨ s.x.store.eraseAfter ≠ 0) (hw : s.x.store.waitB ≠ []) : nextOp s = some .hostProg := by
  have herase : (if s.x.store.eraseAfter == 0 && !s.x.store.eraseEnd then s.x.store.erase else none) = none := by
    rcases he with he | he
    · rw [he]
      exact ite_self _
    · exact if_neg (by simp [he])
  unfold nextOp
  dsimp only
  rw [if_neg (by rw [hi]; decide), if_neg (by rw [hs]; decide), if_neg (by rw [hq]; decide), herase]
  exact if_pos (by simpa using hw)

end

theorem storeCommands : Claims.StoreCommands := by
  intro k s hlive hopen
  refine ⟨fun hfree hk => ?_, fun hbusy hk => ?_, fun hk => ?_, fun hfree hnone => ?_, fun hfree hsome => ?_, fun e he => ?_,
    fun hawake hidle himage => ?_, fun hawake hidle himage => ?_⟩
  · refine ⟨_, exec_storeErase hlive k, ?_⟩
    rw [storeErase_of_host hk, if_neg (by rw [hfree]; decide), if_neg (by rw [hopen]; decide)]
    rfl
  · rw [exec_storeErase hlive k, storeErase_of_host hk, if_pos hbusy]
  · obtain ⟨hstore, hbit⟩ := storeErase_denied_spec (s := s) hk
    refine ⟨_, exec_storeErase hlive k, ?_⟩
    rw [hstore]
    exact ⟨rfl, rfl, rfl, hbit⟩
  · refine ⟨_, exec_storeProg hlive, ?_⟩
    rw [storeProg_none hopen hfree hnone.1 hnone.2]
    refine ⟨?_, ?_, ?_, State.evt_same _ _ _ (by decide)⟩
    · rw [State.evt_x, hostCmdEnd_store]
    · rw [State.evt_x, hostCmdEnd_store]
    · rw [State.evt_x, hostCmdEnd_store, bufferOut_eq]
      rfl
  · refine ⟨_, exec_storeProg hlive, ?_⟩
    rw [storeProg_some hopen hfree hsome, bufferOut_eq]
    exact ⟨rfl, rfl, rfl, rfl, rfl⟩
  · refine ⟨_, exec_storeAbort hlive, ?_⟩
    rw [storeAbort_of_erase he, hostCmdEnd_store]
    refine ⟨rfl, rfl, rfl, fun hop => (eraseCut_op s e).trans (if_pos hop), fun hop => ⟨(eraseCut_op s e).trans (if_neg hop), fun hend => ?_⟩,
      fun a ha => eraseCut_mem s e ha⟩
    have hbefore : eraseCut s e = s := if_neg (by simp [eraseTouched, hop, hend])
    exact congrArg (·.x.store.mem) hbefore
  · rw [exec_storeOpStart hlive hopen hawake hidle, nextOp, if_pos himage]
  · refine ⟨_, exec_storeOpStart hlive hopen hawake hidle, rfl, nextOp_of_save himage, nextOp_of_queue himage, fun hs hq e he ha hend => ?_,
      nextOp_of_buffer himage⟩
    exact nextOp_of_erase himage hs hq he ha hend
end Sys2Proof.Machine

/-! PROOFS. The end of the array's operations -/

namespace Sys2Proof.Machine

/-! ### The array's operations end (R490, R492, R494) -/

/-- Words programmed at different places hold what both they and the array held: programming clears bits and sets none (log entry 23). -/
theorem stGet_progAll_same {a : Nat} (l : List (Nat × Word)) (m : List Host.Cell) (hw : Memory.wf m = true)
    (hplaces : (l.map Prod.fst).Nodup) : ∀ c ∈ l, stGet (progAll m a l) (a + c.1) = stGet m (a + c.1) &&& c.2 := by
  induction l generalizing m with
  | nil => exact fun c hc => absurd hc List.not_mem_nil
  | cons d t ih =>
    obtain ⟨hnew, hplaces⟩ := List.nodup_cons.mp hplaces
    have hapart : ∀ c ∈ t, a + c.1 ≠ a + d.1 := fun c hc heq => hnew (List.mem_map.mpr ⟨c, hc, by omega⟩)
    refine List.forall_mem_cons.mpr ⟨?_, fun c hc => ?_⟩
    · exact (stGet_progAll_other t _ fun c hc => (hapart c hc).symm).trans (stGet_stProg_same m _ d.2 hw)
    · refine (ih _ (stProg_sane [] m _ d.2 hw) hplaces c hc).trans ?_
      rw [stGet_stProg_other m _ _ d.2 (hapart c hc)]

/-! What the read-back meets is raised on the storeroom's page, and no error of the page is taken back. -/

theorem eccFound_error (s : State) {r : ArrayRead} (h : r.uncorrectable = true) : ErrSet (eccFound s r) 0xC0 2 := by
  unfold eccFound
  dsimp only
  rw [if_pos h]
  exact raise_same _ _ _ (by decide)

theorem eccFound_keeps {s : State} {b : Nat} (h : ErrSet s 0xC0 b) (r : ArrayRead) : ErrSet (eccFound s r) 0xC0 b := by
  unfold eccFound
  dsimp only
  split
  · exact raise_keeps _ _ _ _ h
  · exact h

/-- A word that reads back wrong is an error with its bit of STORE_ERR (R492). -/
theorem progWords_wrong (s : State) {a : Nat} {l : List (Nat × Word)} {r : ArrayRead}
    (h : ∃ c ∈ l, stGet (progMem s.x.store.mem a l r) (a + c.1) ≠ c.2) :
    ErrSet (progWords s a l r).1 0xC0 0 ∧ bit ((progWords s a l r).1.reg a_STORE_ERR) 13 = true := by
  obtain ⟨c, hc, hne⟩ := h
  have hwrong : (l.any fun c => stGet (progMem s.x.store.mem a l r) (a + c.1) != c.2) = true :=
    List.any_eq_true.mpr ⟨c, hc, bne_iff_ne.mpr hne⟩
  rw [progWords_eq, hwrong]
  refine ⟨eccFound_keeps (raise_same _ _ _ (by decide)) r, ?_⟩
  rw [eccFound_reg_other _ _ (by decide), verifyError, if_pos rfl, raise_other _ _ _ _ (by decide), State.reg_orReg_same,
    bit_or_oneHot _ _ (by decide)]

/-- The buffer of the program command is written, and the array is free. -/
def bufferDone (s : State) (b : ProgBuf) (rest : List ProgBuf) (r : ArrayRead) : State :=
  (progWords s (b.page * pageWords) b.words r).1.modStore fun v => { v with op := none, waitB := rest, eraseAfter := v.eraseAfter - 1 }

/-- With the last buffer that waits the command that asked for it is done, with its event (R490). -/
theorem programDone_host {s : State} {b : ProgBuf} {rest : List ProgBuf} (hop : s.x.store.op = some .hostProg)
    (hw : s.x.store.waitB = b :: rest) (r : ArrayRead) :
    programDone s r =
      if rest.isEmpty && s.x.store.prog then (hostCmdEnd (bufferDone s b rest r) fun v => { v with done := true }).evt 0xC0 0
      else bufferDone s b rest r := by
  unfold programDone
  dsimp only
  rw [hop]
  dsimp only
  rw [hw]
  rfl

theorem bufferDone_store (s : State) (b : ProgBuf) (rest : List ProgBuf) (r : ArrayRead) :
    (bufferDone s b rest r).x.store = { s.x.store with
      mem := progMem s.x.store.mem (b.page * pageWords) b.words r, eccCnt := min 0xFFFF (s.x.store.eccCnt + r.corrected)
      op := none, waitB := rest, eraseAfter := s.x.store.eraseAfter - 1 } := by
  rw [bufferDone, State.modStore_x, progWords_store]

/-- Whether or not the command is done, the buffer's words, the array and the errors are as the program left them. -/
theorem programDone_spec {s : State} {b : ProgBuf} {rest : List ProgBuf} (hop : s.x.store.op = some .hostProg)
    (hw : s.x.store.waitB = b :: rest) (r : ArrayRead) :
    let t := programDone s r
    t.x.store.op = none ∧ t.x.store.waitB = rest ∧ t.x.store.mem = progMem s.x.store.mem (b.page * pageWords) b.words r ∧
      t.x.store.eccCnt = min 65535 (s.x.store.eccCnt + r.corrected) ∧
      (∀ a, a ≠ addr 0xC0 6 → a ≠ addr 0xC0 0x13 → t.reg a = (progWords s (b.page * pageWords) b.words r).1.reg a) ∧
      (rest = [] → s.x.store.prog = true → t.x.store.done = true ∧ t.x.store.busy = false ∧ EvtSet t 0xC0 0) := by
  dsimp only
  rw [programDone_host hop hw]
  split
  · rw [State.evt_x, hostCmdEnd_store, bufferDone_store]
    refine ⟨rfl, rfl, rfl, rfl, fun a hevt hcmd => ?_, fun _ _ => ⟨rfl, rfl, State.evt_same _ _ _ (by decide)⟩⟩
    rw [State.evt_other _ _ _ _ hevt, hostCmdEnd_reg_other _ _ hcmd]
    rfl
  next hmore =>
    rw [bufferDone_store]
    exact ⟨rfl, rfl, rfl, rfl, fun _ _ _ => rfl, fun hrest hprog => absurd (by rw [hrest, hprog]; rfl) hmore⟩

/-- The array after the erase of a sector, with what its blank check finds (R492). -/
def erasedMem (m : List Host.Cell) (k : Nat) (r : ArrayRead) : List Host.Cell :=
  r.bad.foldl (fun m c => stPut m (k * sectorWords + c.1 % sectorWords) c.2) (stErase m k)

/-- The state in which the blank check has raised what it found. -/
def blankChecked (s : State) (k : Nat) (r : ArrayRead) : State :=
  if notBlank r then raise (s.modStore fun v => { v with mem := erasedMem v.mem k r }) 0xC0 1
  else s.modStore fun v => { v with mem := erasedMem v.mem k r }

theorem eraseSector_eq (s : State) (k : Nat) (r : ArrayRead) : eraseSector s k r = eccFound (blankChecked s k r) r := rfl

theorem eraseSector_store (s : State) (k : Nat) (r : ArrayRead) :
    (eraseSector s k r).x.store = { s.x.store with
      mem := erasedMem s.x.store.mem k r, eccCnt := min 0xFFFF (s.x.store.eccCnt + r.corrected) } := by
  have hchecked : (blankChecked s k r).x.store = { s.x.store with mem := erasedMem s.x.store.mem k r } := by
    unfold blankChecked
    split
    · rw [raise_x]
      rfl
    · rfl
  rw [eraseSector_eq, eccFound_store, hchecked]

/-- The blank check of a host's erase is over; the command is done at the next cycle 0. -/
def eraseChecked (s : State) (k : Nat) (r : ArrayRead) : State :=
  (eraseSector s k r).modStore fun v => { v with op := none, eraseEnd := true }

theorem exec_storeEraseDone {s : State} {k : Nat} (hop : s.x.store.op = some (.hostErase k)) (r : ArrayRead) :
    exec (.storeEraseDone r) s = .next (eraseChecked s k r) := by
  change Host.Outcome.next (eraseDone s r) = _
  unfold eraseDone
  dsimp only
  rw [hop]
  rfl

theorem eraseChecked_store (s : State) (k : Nat) (r : ArrayRead) :
    (eraseChecked s k r).x.store = { s.x.store with
      mem := erasedMem s.x.store.mem k r, eccCnt := min 0xFFFF (s.x.store.eccCnt + r.corrected), op := none, eraseEnd := true } := by
  rw [eraseChecked, State.modStore_x, eraseSector_store]

/-- At cycle 0 a checked erase is reported (R494). -/
theorem storeBoundary_of_end {s : State} (hop : s.x.store.op = none) (hend : s.x.store.eraseEnd = true) :
    storeBoundary s = (hostCmdEnd s fun v => { v with done := true }).evt 0xC0 0 := by
  unfold storeBoundary
  have hidle : (if s.x.store.op == some .imageRead && !(imageWanted s) then s.modStore fun v => { v with op := none } else s) = s :=
    if_neg (by rw [hop]; exact Bool.false_ne_true)
  rw [hidle]
  exact if_pos hend

theorem storeArray : Claims.StoreArray := by
  intro s hwf
  refine ⟨fun b rest hop hwait hplaces => ?_, fun k hop => ?_, fun r b rest hop hwait => ?_, fun r k hop => ?_⟩
  · obtain ⟨hfree, hrest, hmem, -, -, hdone⟩ := programDone_spec hop hwait {}
    refine ⟨_, rfl, hfree, hrest, fun c hc => ?_, fun a ha => ?_, hdone⟩
    · rw [hmem]
      exact stGet_progAll_same b.words s.x.store.mem hwf hplaces c hc
    · rw [hmem]
      exact stGet_progAll_other b.words s.x.store.mem ha
  · have hstore := eraseChecked_store s k {}
    refine ⟨_, exec_storeEraseDone hop {}, ?_, fun a ha => ?_, fun a ha => ?_, ?_⟩
    · rw [hstore]
    · rw [hstore]
      exact stGet_stErase_in _ _ _ ha
    · rw [hstore]
      exact stGet_stErase_out _ _ _ ha
    · dsimp only
      rw [storeBoundary_of_end (by rw [hstore]) (by rw [hstore]), State.evt_x, hostCmdEnd_store]
      exact ⟨rfl, rfl, rfl, State.evt_same _ _ _ (by decide)⟩
  · obtain ⟨-, -, hmem, hcount, hreg, -⟩ := programDone_spec hop hwait r
    have herr : ∀ n, ErrSet (progWords s (b.page * pageWords) b.words r).1 0xC0 n → ErrSet (programDone s r) 0xC0 n := fun n hn =>
      (congrArg (bit · n) (hreg _ (by decide) (by decide))).trans hn
    refine ⟨_, rfl, hcount, fun hbad => herr 2 (eccFound_error _ hbad), fun hdiff => ?_⟩
    rw [hmem] at hdiff
    obtain ⟨herror, hbit⟩ := progWords_wrong s hdiff
    exact ⟨herr 0 herror, (congrArg (bit · 13) (hreg _ (by decide) (by decide))).trans hbit⟩
  · refine ⟨_, exec_storeEraseDone hop r, ?_, fun hbad => eccFound_error (blankChecked s k r) hbad, fun hfound => ?_⟩
    · rw [eraseChecked_store]
    · obtain ⟨c, hc, hne⟩ := hfound
      have hblank : notBlank r = true := List.any_eq_true.mpr ⟨c, hc, bne_iff_ne.mpr hne⟩
      refine eccFound_keeps (s := blankChecked s k r) ?_ r
      rw [blankChecked, if_pos hblank]
      exact raise_same _ _ _ (by decide)

/-- Settles O43: the data port, the commands with the order of the agents, and the end of the array's operations. -/
theorem storeroom : Obligations.Storeroom := ⟨storeWindow, storeCommands, storeArray⟩
end Sys2Proof.Machine

/-! PROOFS. The frames of the ring -/

namespace Sys2Proof.Machine

/-! ### A frame that fails its check words (R409) -/

/-- A failure counted at a port, with its tick. -/
def frameFailed (now : Nat) (p : RgPort) : RgPort :=
  { p with crc := satInc 0xFFFF p.crc, crcWin := (p.crcWin.filter fun t => now < t + 4096) ++ [now] }

@[simp] theorem portOfRing_modPort (s : State) (east : Bool) (f : RgPort → RgPort) :
    portOfRing (modPort s east f) east = f (portOfRing s east) := by
  cases east <;> rfl

@[simp] theorem modPort_state (s : State) (east : Bool) (f : RgPort → RgPort) : (modPort s east f).x.ring.state = s.x.ring.state := by
  cases east <;> rfl

/-- Up to the fifteenth failure of 4096 ticks the port only counts. -/
theorem crcError_of_few {s : State} {east : Bool} (h : (portOfRing s east).crcWin.length < 15) :
    crcError s east = modPort s east (frameFailed s.x.tick.count) := by
  have hfew : ¬ 16 ≤ (portOfRing (modPort s east (frameFailed s.x.tick.count)) east).crcWin.length := by
    have hle := List.length_filter_le (fun t => decide (s.x.tick.count < t + 4096)) (portOfRing s east).crcWin
    rw [portOfRing_modPort, frameFailed, List.length_append, List.length_singleton]
    omega
  exact if_neg hfew

theorem crcError_counts {s : State} {east : Bool} (h : (portOfRing s east).crcWin.length < 15) :
    (portOfRing (crcError s east) east).crc = min 65535 ((portOfRing s east).crc + 1) ∧
      (crcError s east).x.ring.state = s.x.ring.state ∧ (crcError s east).cp = s.cp := by
  rw [crcError_of_few h, portOfRing_modPort, modPort_state]
  exact ⟨satInc_eq_min _ _, rfl, rfl⟩

/-! ### A member and the tick frame of its master (R414 to R417, R444) -/

section
variable {s : State} {f : TickFrame}

/-- What a frame says of the turn of the loop and where it goes: the ring state, the masks and counts, the batches, the frame passed on. -/
def turnOf (t : State) :=
  let r := t.x.ring
  (r.state, r.memb, r.missed, r.hop, r.lastMarker, r.batches, r.fwdTick)

@[simp] theorem ringEvent_turn (s : State) (b : Nat) : turnOf (ringEvent s b) = turnOf s := by
  rw [turnOf, ringEvent, State.evt_x]
  rfl

@[simp] theorem raise_turn (s : State) (page b : Nat) : turnOf (raise s page b) = turnOf s := by
  rw [turnOf, raise_x]
  rfl

@[simp] theorem modPort_turn (s : State) (east : Bool) (g : RgPort → RgPort) : turnOf (modPort s east g) = turnOf s := by
  cases east <;> rfl

theorem loopHealed_turn (s : State) : turnOf (loopHealed s) = turnOf s := by
  rw [loopHealed, ringEvent_turn]
  rfl

theorem phaseCheck_turn (s : State) (east : Bool) (e : Int) : turnOf (phaseCheck s east e) = turnOf s := by
  unfold phaseCheck
  dsimp only
  rw [apply_ite turnOf, raise_turn, ite_self]
  exact modPort_turn s east _

theorem diverge_turn (s : State) : turnOf (diverge s) = turnOf s := by
  rw [diverge, raise_turn]
  rfl

theorem digestCheck_turn (s : State) (f : TickFrame) : turnOf (digestCheck s f) = turnOf s := by
  unfold digestCheck
  dsimp only
  split
  · rfl
  · split
    · rfl
    · split
      · rfl
      · exact diverge_turn s

/-- A frame all of whose check words are good. -/
def Whole (f : TickFrame) : Prop := f.markerOk = true ∧ f.batchOk = true ∧ ∀ q : Pos, ∀ w, f.slots[q] = some w → w.good = true

theorem Whole.noBadSlot (h : Whole f) : (f.slots.any fun w => (w.map (!·.good)).getD false) = false := by
  rw [Vector.any_eq_false]
  intro i hi
  cases hw : f.slots[i] with
  | none => simp
  | some w => simp [h.2.2 ⟨i, hi⟩ w hw]

/-- What a member notes of its master's marker, before the fold, the heal and the succession that it may tell of (R415, R439, R444). -/
def markerTaken (s : State) (f : TickFrame) : State :=
  s.modRing fun r => { r with
    memb := f.memb, ready := f.ready, topo := if f.line then 2 else 1, mpos := f.mpos.val, hop := f.hop + 1, missed := 0
    lastMarker := countOf s f.num, quiet := 0 }

/-- The batch is kept for the boundary after the next, with the drops and the heal that it names (R418, R442, R444). -/
def batchTaken (s : State) (k : Nat) (f : TickFrame) : State :=
  s.modRing fun r => { r with
    batches := r.batches ++ [(k + 2, f.entries)]
    drops := if f.drop == 0 then r.drops else r.drops ++ [(k + 2, f.drop)]
    heal := match f.heal with | some h => some h.toNat | none => r.heal }

/-- The first pass of a good frame of its master through a member: the marker is taken, and the batch after what the marker told of. -/
theorem memberTake_eq (hstate : s.x.ring.state = .member) (hok : f.batchOk = true) :
    ∃ t, turnOf t = turnOf (markerTaken s f) ∧ memberTake s f = digestCheck (batchTaken t (countOf s f.num) f) f := by
  have hmember : ¬ s.x.ring.state = .holdover := by
    rw [hstate]
    decide
  unfold memberTake
  dsimp only
  rw [if_neg hmember, if_pos hok]
  refine ⟨_, ?_, rfl⟩
  rw [phaseCheck_turn]
  simp only [apply_ite turnOf, ringEvent_turn, loopHealed_turn, ite_self]
  rfl

theorem batchTaken_turn {t : State} (k : Nat) (f : TickFrame) (h : turnOf t = turnOf (markerTaken s f)) :
    turnOf (batchTaken t k f) =
      (s.x.ring.state, f.memb, 0, f.hop + 1, countOf s f.num, s.x.ring.batches ++ [(k + 2, f.entries)], s.x.ring.fwdTick) := by
  obtain ⟨hstate, hmemb, hmissed, hhop, hlast, hbatches, hfwd⟩ := by simpa only [turnOf, Prod.mk.injEq] using h
  simp only [turnOf, batchTaken, State.modRing, hstate, hmemb, hmissed, hhop, hlast, hbatches, hfwd]
  rfl

/-- The first pass of a good frame of its master through a member. -/
theorem memberTake_turn (hstate : s.x.ring.state = .member) (hok : f.batchOk = true) :
    turnOf (memberTake s f) = (.member, f.memb, 0, f.hop + 1, countOf s f.num,
      s.x.ring.batches ++ [(countOf s f.num + 2, f.entries)], s.x.ring.fwdTick) := by
  obtain ⟨t, hmarker, htake⟩ := memberTake_eq hstate hok
  rw [htake, digestCheck_turn, batchTaken_turn _ f hmarker, hstate]

/-- A frame of the device's own master is taken as it stands: on its second pass passed on, on its first taken by the ring state. -/
theorem tickFrame_of_whole (ht : ticking s = true) (hin : portIn s f.east = true) (hen : RG_CFG_EN s = true) (hf : Whole f)
    (hown : foreignFrame s f = false) :
    tickFrame s f = if secondPass s f then s.modRing fun r => { r with fwdTick := some ⟨f, loopOut s f.east⟩ } else frameTake (forward s f) f := by
  obtain ⟨hmarker, hbatch, -⟩ := id hf
  have hgood : ¬ (!f.batchOk || f.slots.any fun w => (w.map (!·.good)).getD false) = true := by
    rw [hbatch, hf.noBadSlot]
    decide
  unfold tickFrame
  rw [if_neg (by rw [ht, hin, hen]; decide), if_neg (by rw [hmarker]; decide)]
  dsimp only
  rw [if_neg hgood, hown, if_neg Bool.false_ne_true]

theorem foreignFrame_of_own (hin : inLoop s = true) (hpos : f.mpos.val = s.x.ring.mpos) : foreignFrame s f = false := by
  have hsame : (f.mpos.val != s.x.ring.mpos) = false := bne_eq_false_iff_eq.mpr hpos
  unfold inLoop at hin
  unfold foreignFrame
  dsimp only
  rcases Bool.or_eq_true_iff.mp hin with h | h
  · rw [of_decide_eq_true h]
    exact (congrArg (· && _) hsame).trans (Bool.false_and _)
  · rw [of_decide_eq_true h]
    exact (congrArg (· && _) hsame).trans (Bool.false_and _)

theorem frameTake_member (h : s.x.ring.state = .member) (f : TickFrame) : frameTake s f = memberTake s f := by
  unfold frameTake
  dsimp only
  rw [h]

/-- The frame as a device in the loop passes it on: one hop more, and its own slot (R414, R416). -/
def passedOn (s : State) (f : TickFrame) : Sent TickFrame :=
  ⟨{ f with hop := f.hop + 1, slots := upd f.slots (ownPos s) (some (slotFor s f)) }, (loopOut s f.east ++ tapOut s).eraseDups⟩

theorem forward_of_inLoop (h : inLoop s = true) (f : TickFrame) :
    forward s f = s.modRing fun r => { r with fwdTick := some (passedOn s f), unwritten := r.unwritten || (slotFor s f).late } :=
  if_pos h

/-- A member passes the frame on and takes it. -/
theorem tickFrame_member (ht : ticking s = true) (hin : portIn s f.east = true) (hen : RG_CFG_EN s = true) (hf : Whole f)
    (hstate : s.x.ring.state = .member) (hpos : f.mpos.val = s.x.ring.mpos) (hfirst : s.x.ring.lastMarker ≠ countOf s f.num) :
    turnOf (tickFrame s f) = (.member, f.memb, 0, f.hop + 1, countOf s f.num,
      s.x.ring.batches ++ [(countOf s f.num + 2, f.entries)], some (passedOn s f)) := by
  have hloop : inLoop s = true := by simp [inLoop, hstate]
  have hpass : ¬ secondPass s f = true := by simp [secondPass, hfirst]
  have hforward : (forward s f).x.ring.state = .member := by
    rw [forward_of_inLoop hloop]
    exact hstate
  rw [tickFrame_of_whole ht hin hen hf (foreignFrame_of_own hloop hpos), if_neg hpass, frameTake_member hforward,
    memberTake_turn hforward hf.2.1, forward_of_inLoop hloop]
  rfl

end

/-! ### Demand frames, the image and announces (R410, R413, R418, R433, R445, R446) -/

section
variable {s : State} {east : Bool}

/-- A device whose port takes part and whose ring is enabled meets the frames of the tick. -/
def Meets (s : State) (east : Bool) : Prop := ticking s = true ∧ RG_CFG_EN s = true ∧ portIn s east = true

theorem Meets.serves (h : Meets s east) : ¬ (!(ticking s) || !(portIn s east) || !(RG_CFG_EN s)) = true := by
  obtain ⟨ht, hen, hin⟩ := h
  rw [ht, hen, hin]
  decide

theorem tickFrame_of_bad {f : TickFrame} (h : Meets s f.east) (hbad : f.markerOk = false) : tickFrame s f = crcError s f.east := by
  unfold tickFrame
  rw [if_neg h.serves, if_pos (by rw [hbad]; rfl)]

theorem exec_demandFrameReceive_of_bad {d : DemandFrame} (h : Meets s east) (hbad : d.ok = false) :
    exec (.demandFrameReceive east d) s = .next (crcError s east) :=
  (if_neg h.serves).trans (if_pos (by rw [hbad]; rfl))

theorem exec_demandFrameReceive_of_own {d : DemandFrame} (h : Meets s east) (hok : d.ok = true) (hloop : inLoop s = true)
    (hpos : d.mpos.val = s.x.ring.mpos) :
    exec (.demandFrameReceive east d) s =
      .next (s.modRing fun r => { r with fwdDemand := some ⟨d, demandOut s east d.mpos⟩, frame := some d, last := some d }) := by
  change execDemandFrameReceive east d s = _
  unfold execDemandFrameReceive
  rw [if_neg h.serves, if_neg (by rw [hok]; decide)]
  dsimp only
  rcases Bool.or_eq_true_iff.mp hloop with hstate | hstate
  · rw [State.modRing_x, of_decide_eq_true hstate]
    exact if_pos (beq_iff_eq.mpr hpos)
  · rw [State.modRing_x, of_decide_eq_true hstate]
    exact if_pos (beq_iff_eq.mpr hpos)

/-- Where an image frame goes on. -/
def imageOut (s : State) (east : Bool) : List Bool :=
  if inLoop s then (loopOut s east ++ tapOut s).eraseDups else if s.x.ring.state = .dropped then loopOut s east else []

/-- The state in which an image frame is on its way on. -/
def imagePassed (s : State) (east : Bool) (i : ImageFrame) : State := s.modRing fun r => { r with fwdImage := some ⟨i, imageOut s east⟩ }

/-- An image frame is passed on; a bad one counts and spoils the part that a device in LOAD collects, a good one is collected there. -/
theorem exec_imageFrameReceive (h : Meets s east) (i : ImageFrame) :
    exec (.imageFrameReceive east i) s =
      if !i.ok then .next (
        if s.x.ring.state = .load then (crcError (imagePassed s east i) east).modRing fun r => { r with imgErr := true, imgBad := true }
        else crcError (imagePassed s east i) east)
      else if !(decide (s.x.ring.state = .load)) then .next (imagePassed s east i)
      else
        let t := (imagePassed s east i).modRing (imageCollect i)
        .next (if loadReady t && t.x.dev = .hold then imageApply t else t) :=
  (if_neg h.serves).trans rfl

/-- What a part of the image or the scope that does not complete the scope leaves of the transfer (R446). -/
structure Collected (i : ImageFrame) (r q : RingSt) : Prop where
  count : q.imgFrames = r.imgFrames + 1
  state : q.state = r.state
  noScope : q.gotScope = false
  ofImage : i.scope = false → q.image = r.image ++ i.entries ∧ q.scope = r.scope
  ofScope : i.scope = true → q.scope = r.scope ++ i.entries ∧ q.image = r.image

theorem imageCollect_part {i : ImageFrame} {r : RingSt} (hscope : r.gotScope = false) (hwhole : r.imgBad = false)
    (hpart : i.last = false ∨ i.scope = false) : Collected i r (imageCollect i r) := by
  cases hs : i.scope
  · cases hl : i.last
    · constructor <;> simp [imageCollect, hs, hl, hscope]
    · constructor <;> simp [imageCollect, hs, hl, hscope, hwhole]
  · have hl : i.last = false := hpart.resolve_right (by rw [hs]; decide)
    constructor <;> simp [imageCollect, hs, hl, hscope]

/-- Until the scope is complete nothing is applied. -/
theorem loadReady_of_noScope (h : s.x.ring.gotScope = false) : loadReady s = false := by
  unfold loadReady
  dsimp only
  rw [h, Bool.false_and]

/-- A neighbour's state moves the ports alone (R445). -/
theorem tapPort_frame (s : State) (east joins : Bool) : ∃ e w, tapPort s east joins = s.modRing fun r => { r with e := e, w := w } := by
  unfold tapPort
  split
  · cases east <;> exact ⟨_, _, rfl⟩
  · split
    · cases east <;> exact ⟨_, _, rfl⟩
    · exact ⟨_, _, rfl⟩

/-- What an announce leaves in the ring's state: it is heard, relayed, and kept as the neighbour's (R410, R412, R417). -/
def announced (s : State) (east : Bool) (hops : Fin 8) (a : Announce) : State :=
  (hear s a).modRing fun r => { r with
    fwdAnn := some ⟨a, if hops.val < 7 && portIn (hear s a) (!east) then [!east] else []⟩, dup := r.dup || a.pos.val == r.pos
    heardE := if east && decide (hops.val ≤ 1) then some a else r.heardE
    heardW := if !east && decide (hops.val ≤ 1) then some a else r.heardW }

theorem exec_announceBlock (h : Meets s east) (hops : Fin 8) (a : Announce) :
    ∃ e w, exec (.announceBlock east hops a) s = .next ((announced s east hops a).modRing fun r => { r with e := e, w := w }) := by
  have hexec : exec (.announceBlock east hops a) s = .next (if decide (hops.val ≤ 1) && ringFormed (announced s east hops a)
      then tapPort (announced s east hops a) east ([2, 3, 4, 5].contains a.state.val) else announced s east hops a) := by
    refine (if_neg h.serves).trans ?_
    rfl
  rw [hexec]
  split
  · obtain ⟨e, w, ht⟩ := tapPort_frame (announced s east hops a) east ([2, 3, 4, 5].contains a.state.val)
    exact ⟨e, w, congrArg Host.Outcome.next ht⟩
  · exact ⟨_, _, rfl⟩

end

/-- Settles O51: each frame by what the model makes of it at a port that takes part. -/
theorem ringFrames : Obligations.RingFrames := by
  intro east hops f d i a s ht hen hin hinf
  have hmeets : Meets s east := ⟨ht, hen, hin⟩
  refine ⟨fun hstate hf hpos hfirst => ?_, fun hloop hf hpos hlast => ?_, fun hbad hfew => ?_, fun hok hloop hpos => ?_, fun hbad hfew => ?_,
    fun hbad hfew => ?_, fun hother hok => ?_, fun hload hok hscope hwhole hpart => ?_, ?_⟩
  · have hturn := tickFrame_member ht hinf hen hf hstate hpos hfirst
    simp only [turnOf, Prod.mk.injEq] at hturn
    obtain ⟨hstate, hmemb, hmissed, hhop, hlast, hbatches, hfwd⟩ := hturn
    exact ⟨_, rfl, hstate, hmemb, hmissed, hhop, hlast, hbatches, hfwd⟩
  · have hpass : secondPass s f = true := by
      rw [secondPass, hloop, Bool.true_and]
      exact beq_iff_eq.mpr hlast
    exact congrArg Host.Outcome.next ((tickFrame_of_whole ht hinf hen hf (foreignFrame_of_own hloop hpos)).trans (if_pos hpass))
  · obtain ⟨hcount, hstate, hcp⟩ := crcError_counts hfew
    exact ⟨_, congrArg Host.Outcome.next (tickFrame_of_bad ⟨ht, hen, hinf⟩ hbad), hcount, hstate, congrArg Cp.trains hcp⟩
  · exact ⟨_, exec_demandFrameReceive_of_own hmeets hok hloop hpos, rfl⟩
  · obtain ⟨hcount, hstate, hcp⟩ := crcError_counts hfew
    exact ⟨_, exec_demandFrameReceive_of_bad hmeets hbad, hcount, hstate, congrArg Cp.trains hcp⟩
  · obtain ⟨hcount, hstate, hcp⟩ := crcError_counts (s := imagePassed s east i) hfew
    rw [exec_imageFrameReceive hmeets, if_pos (by rw [hbad]; rfl)]
    split
    next hload => exact ⟨_, rfl, ⟨hcount, hstate, congrArg Cp.trains hcp⟩, fun _ => rfl⟩
    next hload => exact ⟨_, rfl, ⟨hcount, hstate, congrArg Cp.trains hcp⟩, fun h => absurd h hload⟩
  · rw [exec_imageFrameReceive hmeets, if_neg (by rw [hok]; decide), if_pos (by rw [decide_eq_false hother]; rfl)]
    rfl
  · have hcollected := imageCollect_part (r := (imagePassed s east i).x.ring) hscope hwhole hpart
    have hwaits : loadReady ((imagePassed s east i).modRing (imageCollect i)) = false := loadReady_of_noScope hcollected.noScope
    rw [exec_imageFrameReceive hmeets, if_neg (by rw [hok]; decide), if_neg (by rw [decide_eq_true hload]; decide)]
    dsimp only
    rw [hwaits, Bool.false_and, if_neg Bool.false_ne_true]
    exact ⟨_, rfl, hcollected.count, hcollected.state.trans hload, hcollected.ofImage, hcollected.ofScope⟩
  · obtain ⟨e, w, hexec⟩ := exec_announceBlock hmeets hops a
    have hout : portIn (hear s a) (!east) = portIn s (!east) := rfl
    refine ⟨_, hexec, ?_, ?_, ?_, List.mem_append_right _ (List.mem_singleton.mpr rfl), rfl⟩
    · simp [announced, State.modRing, hout]
    · simp [announced, State.modRing, hear]
    · simp [announced, State.modRing, hear]
end Sys2Proof.Machine

/-! PROOFS. RUN, HOLD and SLEEP of the device -/

namespace Sys2Proof.Machine

/-! ### What the start and the hold of trains touch (R83, R84, R87) -/

/-- Beside the checkpoint, only stored registers, the legs' hardware and the request of a sense test differ. -/
def CpMoves (s t : State) : Prop := ∃ r h b, t.x = { s.x with regs := r, hw := h, senseTest := b }

namespace CpMoves

theorem of_x {s t : State} (h : t.x = s.x) : CpMoves s t := ⟨s.x.regs, s.x.hw, s.x.senseTest, h⟩

theorem refl (s : State) : CpMoves s s := of_x rfl

theorem trans {s t u : State} (h : CpMoves s t) (h' : CpMoves t u) : CpMoves s u := by
  obtain ⟨_, _, _, hst⟩ := h
  obtain ⟨r, v, b, htu⟩ := h'
  exact ⟨r, v, b, by rw [htu, hst]⟩

theorem of_evt (s : State) (page b : Nat) : CpMoves s (s.evt page b) := ⟨_, s.x.hw, s.x.senseTest, State.evt_x s page b⟩

theorem of_setTrain (s : State) (k : Train) (st : TrState) : CpMoves s (setTrain s k st) := by
  obtain ⟨r, hx⟩ := setTrain_x s k st
  exact ⟨r, s.x.hw, s.x.senseTest, hx⟩

theorem of_legsOff (s : State) (k : Train) : CpMoves s (legsOff s k) := by
  rw [legsOff_eq]
  refine forAll_keeps (P := CpMoves s) (refl s) fun t n ht => ?_
  split
  · exact ht.trans ⟨t.x.regs, _, t.x.senseTest, rfl⟩
  · exact ht

theorem of_cancelShed (s : State) (k : Train) : CpMoves s (cancelShed s k) := by
  unfold cancelShed
  split
  · exact (of_x rfl).trans (of_evt (s.modTrain k _) _ _)
  · exact refl s

theorem of_trainHold (s : State) (k : Train) : CpMoves s (trainHold s k) := by
  unfold trainHold
  split
  · exact refl s
  · exact refl s
  · exact refl s
  · refine CpMoves.trans ?_ (of_legsOff _ k)
    refine CpMoves.trans ?_ (of_setTrain _ k .hold)
    exact (of_cancelShed s k).trans (of_x rfl)

theorem of_trainsHold (s : State) : CpMoves s (trainsHold s) :=
  forAll_keeps (P := CpMoves s) (refl s) fun t k ht => ht.trans (of_trainHold t k)

theorem of_startTrain (s : State) (k : Train) : CpMoves s (startTrain s k) := by
  unfold startTrain
  extract_lets turned started
  have hstarted : CpMoves s started := (of_x rfl).trans (of_setTrain turned k .prebias)
  exact hstarted.trans ⟨started.x.regs, started.x.hw, true, rfl⟩

theorem of_trainStart (s : State) (k : Train) : CpMoves s (trainStart s k) := by
  unfold trainStart
  split
  · exact refl s
  · split
    · split
      · exact of_startTrain s k
      · split
        · exact refl s
        · exact (of_x rfl).trans (of_evt (s.modTrain k _) _ _)
    · exact refl s

theorem of_preloadLoops (s : State) (k : Train) : CpMoves s (preloadLoops s k) := by
  unfold preloadLoops
  extract_lets p
  refine forAll_keeps (P := CpMoves s) (refl s) fun t l ht => ?_
  split
  · exact (ht.trans (of_x rfl)).trans (of_evt (State.modLoop { t with cp := _ } l _) _ _)
  · exact ht

theorem of_preload (s : State) (k : Train) : CpMoves s (preload s k) := by
  unfold preload
  split
  · refine CpMoves.trans ?_ (of_preloadLoops _ k)
    exact of_x rfl
  · exact refl s

theorem of_startTrains (old s : State) : CpMoves s (startTrains old s) := by
  unfold startTrains
  split
  · refine forAll_keeps (P := CpMoves s) ?_ fun t k ht => ht.trans (of_preload t k)
    exact forAll_keeps (P := CpMoves s) (refl s) fun t k ht => ht.trans (of_trainStart t k)
  · exact refl s

end CpMoves

/-! ### Every train that switches enters HOLD (R84, R388) -/

/-- As the trains enter HOLD, one that switched is held, and its legs stop. -/
theorem trainsHold_held {s : State} {k : Train} (h : s.cp.trains[k].state.switching = true) : TrainHeld s (trainsHold s) k := by
  refine forAll_reaches (P := fun t => t.cp.adopted = s.cp.adopted ∧ (t.cp.trains[k] = s.cp.trains[k] ∨ TrainHeld s t k))
    (Q := fun t => TrainHeld s t k) k ⟨rfl, .inl rfl⟩ (fun t j ht => ?_) (fun t ht => ?_) (fun t j ht => ht.trainHold j)
  · obtain ⟨hadopted, hk⟩ := ht
    have hkeeps := HoldKeeps.of_trainHold j t
    refine ⟨hkeeps.adopted.trans hadopted, ?_⟩
    rcases hk with hsame | hheld
    · by_cases hj : k = j
      · subst hj
        exact .inr (trainHold_held (by rw [hsame]; exact .inl h) hadopted)
      · exact .inl ((hkeeps.others k hj).trans hsame)
    · exact .inr (hheld.trainHold j)
  · obtain ⟨hadopted, hsame | hheld⟩ := ht
    · exact trainHold_held (by rw [hsame]; exact .inl h) hadopted
    · exact hheld.trainHold k

/-! ### A device state is entered (R511, R525) -/

theorem setDev_x (s : State) (d : DevState) : ∃ r, (setDev s d).x = { s.x with regs := r, dev := d } := by
  unfold setDev
  split
  next h => exact ⟨s.x.regs, by rw [← h]⟩
  next => exact ⟨_, State.evt_x _ _ _⟩

theorem setDev_cp (s : State) (d : DevState) : ∃ g, (setDev s d).cp = { s.cp with regs := g } := by
  unfold setDev
  split
  · exact ⟨s.cp.regs, rfl⟩
  · exact ⟨_, State.evt_cp _ _ _⟩

/-- A device that runs enters HOLD with its trains (R388, R515). -/
theorem enterHold_of_run {s : State} (h : s.x.dev = .run) (byReaction : Bool) :
    ∃ r c, (enterHold s byReaction).x = { (trainsHold s).x with
      regs := r, dev := .hold, pwr := { s.x.pwr with holdAt := s.x.tick.count }, col := c } ∧
      (enterHold s byReaction).cp.trains = (trainsHold s).cp.trains := by
  obtain ⟨r, v, b, hhold⟩ := CpMoves.of_trainsHold s
  obtain ⟨q, hx⟩ := setDev_x (trainsHold s) .hold
  obtain ⟨g, hcp⟩ := setDev_cp (trainsHold s) .hold
  unfold enterHold
  rw [if_neg (by simpa using h)]
  dsimp only
  rw [State.modCol_x, hx, hhold]
  exact ⟨q, _, rfl, by rw [State.modCol_cp, hcp]⟩

/-- A device enters RUN and closes test mode (R514, R515, R529). -/
theorem enterRun_x (s : State) :
    ∃ r, (enterRun s).x = { s.x with
      regs := r, dev := .run, test := (testClose s).x.test
      col := { s.x.col with heldByReaction := false, heldByConfig := false, pinsOff := false } } := by
  obtain ⟨r, hx⟩ := setDev_x (testClose s) .run
  rw [enterRun, State.modCol_x, hx]
  exact ⟨r, rfl⟩

/-! ### The commands of DEV_CTRL (R515) -/

section
variable {s : State}

theorem exec_deviceRun (hl : hostLive s = true) : exec .deviceRun s = .next (startTrains s (devRun s)) :=
  congrArg Host.Outcome.next (if_pos hl)

theorem exec_deviceHold (hl : hostLive s = true) : exec .deviceHold s = .next (devHold s) := congrArg Host.Outcome.next (if_pos hl)

theorem exec_deviceSleep (hl : hostLive s = true) : exec .deviceSleep s = .next (devSleep s) := congrArg Host.Outcome.next (if_pos hl)

/-- A device that does not come to RUN starts no train. -/
theorem startTrains_of_dev {t : State} (h : t.x.dev = s.x.dev) : startTrains s t = t := by
  refine if_neg ?_
  rw [h]
  simp

theorem exec_deviceRun_refused (hl : hostLive s = true) {cause : Nat} (h : devRun s = devRefuse s cause) :
    exec .deviceRun s = .next (devRefuse s cause) := by
  rw [exec_deviceRun hl, h, startTrains_of_dev (s := s) (t := devRefuse s cause) rfl]

/-- RUN taken: the device is in RUN, whatever trains start. -/
theorem devRun_taken (hd : s.x.dev = .hold) (hc : s.x.pwr.conf = true) (hg : graveLine s = false) (hw : s.x.col.word.getLsbD 30 = false) :
    (startTrains s (devRun s)).x.dev = .run ∧ (startTrains s (devRun s)).x.pwr.refused = false := by
  have htaken : devRun s = enterRun ((devAccept s).modPwr fun p => { p with autoPend := false }) := by
    unfold devRun
    rw [if_neg (by simpa using hd), if_neg (by rw [hc]; decide), if_neg (by rw [hg, hw]; decide)]
  obtain ⟨r, h, b, hstart⟩ := CpMoves.of_startTrains s (devRun s)
  obtain ⟨q, hrun⟩ := enterRun_x ((devAccept s).modPwr fun p => { p with autoPend := false })
  rw [hstart, htaken, hrun]
  exact ⟨rfl, rfl⟩

/-- SLEEP finds no train that works: each is OFF or fenced. -/
theorem noTrainBusy : (List.finRange 8).any (fun t : Train => s.cp.trains[t].state != .off && s.cp.trains[t].state != .fenced) = false ↔
    ∀ k : Train, s.cp.trains[k].state = .off ∨ s.cp.trains[k].state = .fenced := by
  rw [List.any_eq_false]
  exact ⟨fun h k => or_iff_not_imp_left.mpr (by simpa using h k (List.mem_finRange k)),
    fun h k _ => by simpa using or_iff_not_imp_left.mp (h k)⟩

/-- The device is out of the ring (R411, R515). -/
def ringOff (s : State) : Bool :=
  match s.x.ring.state with
  | .off | .search | .dropped => true
  | _ => false

theorem ringOff_iff : ringOff s = true ↔ s.x.ring.state = .off ∨ s.x.ring.state = .search ∨ s.x.ring.state = .dropped := by
  unfold ringOff
  cases s.x.ring.state <;> decide

/-- SLEEP is refused with the first of its causes, and else begins the entry. -/
theorem devSleep_eq (s : State) :
    devSleep s =
      if !(working s) then devRefuse s 1
      else if (List.finRange 8).any fun t : Train => s.cp.trains[t].state != .off && s.cp.trains[t].state != .fenced then devRefuse s 4
      else if !(ringOff s) then devRefuse s 5
      else (devAccept s).modPwr fun p => { p with sleeping := true, sleepFrom := s.x.dev } := by
  unfold devSleep ringOff
  rfl

end

/-- Settles O53: each command by the condition that takes or refuses it. -/
theorem deviceCommands : Obligations.DeviceCommands := by
  intro s hlive
  refine ⟨fun hd hc hg hw => ⟨_, exec_deviceRun hlive, devRun_taken hd hc hg hw⟩, fun hd => ?_, fun hd hc => ?_, fun hd hc hg => ?_,
    fun hd => ?_, fun hd => ?_, fun hworks hidle hout => ?_, fun hworks => ?_, fun hworks hbusy => ?_, fun hworks hidle hin => ?_⟩
  · exact exec_deviceRun_refused hlive (if_pos hd)
  · refine exec_deviceRun_refused hlive ?_
    rw [devRun, if_neg (by simpa using hd), if_pos (by rw [hc]; rfl)]
  · refine exec_deviceRun_refused hlive ?_
    rw [devRun, if_neg (by simpa using hd), if_neg (by rw [hc]; decide), if_pos (by simpa using hg)]
  · have hhold : devHold s = enterHold (devAccept s) false := if_neg (by simpa using hd)
    obtain ⟨r, c, hx, htrains⟩ := enterHold_of_run (s := devAccept s) hd false
    refine ⟨_, exec_deviceHold hlive, ?_⟩
    rw [hhold]
    refine ⟨by rw [hx], by rw [hx]; rfl, fun k hk => ?_⟩
    obtain ⟨hstate, hstopped⟩ := trainsHold_held (s := devAccept s) hk
    rw [htrains]
    exact ⟨hstate, fun n hn => (hstopped n hn).2.of_hw (by rw [hx])⟩
  · rw [exec_deviceHold hlive]
    exact congrArg Host.Outcome.next (if_pos hd)
  · have hquiet := noTrainBusy.mpr hidle
    have hoff := ringOff_iff.mpr hout
    rw [exec_deviceSleep hlive, devSleep_eq, if_neg (by rw [hworks]; decide), hquiet, if_neg Bool.false_ne_true, if_neg (by rw [hoff]; decide)]
    exact ⟨_, rfl, rfl⟩
  · rw [exec_deviceSleep hlive, devSleep_eq, if_pos (by rw [hworks]; rfl)]
    rfl
  · have hany := Bool.not_eq_false _ |>.mp fun h => hbusy (noTrainBusy.mp h)
    rw [exec_deviceSleep hlive, devSleep_eq, if_neg (by rw [hworks]; decide), hany, if_pos rfl]
    rfl
  · have hquiet := noTrainBusy.mpr hidle
    have hring : ringOff s = false := (Bool.not_eq_true _).mp fun h => hin (ringOff_iff.mp h)
    rw [exec_deviceSleep hlive, devSleep_eq, if_neg (by rw [hworks]; decide), hquiet, if_neg Bool.false_ne_true, if_pos (by rw [hring]; rfl)]
    rfl
end Sys2Proof.Machine

/-! PROOFS. Readmission of units and the return from a reaction -/

namespace Sys2Proof.Machine

/-! ### The effects of a readmission (R166, R395) -/

namespace CpMoves

theorem of_substNow (s : State) (k : Train) (on : Bool) (tk before : Nat) : CpMoves s (substNow s k on tk before) := by
  unfold substNow
  dsimp only
  split
  · exact of_x rfl
  · exact of_x rfl

theorem of_substAgain (s : State) (k : Train) : CpMoves s (substAgain s k) := by
  unfold substAgain
  split
  · exact refl s
  · exact of_substNow s k _ _ _

theorem of_sliceBack (s : State) (i : Slice) : CpMoves s (sliceBack s i) := by
  unfold sliceBack
  extract_lets v served spared
  have hserved : CpMoves s served := by
    unfold served
    split
    · exact of_evt s _ _
    · exact refl s
  have hspared : CpMoves s spared := by
    unfold spared
    split
    · split
      · exact hserved.trans (of_x rfl)
      · exact hserved.trans (of_x rfl)
      · exact hserved.trans (of_x rfl)
      · exact hserved
    · exact hserved
  refine forAll_keeps (P := CpMoves s) (hspared.trans (of_x rfl)) fun t k ht => ht.trans (of_substAgain t k)

theorem of_ckStart (s : State) (c : ClerkIx) : CpMoves s (ckStart s c) := of_x rfl

theorem with_conv {s t : State} (h : CpMoves s t) : ∃ r h b c, t.x = { s.x with regs := r, hw := h, senseTest := b, conv := c } := by
  obtain ⟨r, v, b, hx⟩ := h
  exact ⟨r, v, b, s.x.conv, hx⟩

end CpMoves

/-- The effects of a readmission move the checkpoint, stored registers and the fault of a converter: no fence, check or word of the array. -/
theorem readmitEffect_x (s : State) (u : FenceUnit) :
    ∃ r h b c, (readmitEffect s u).x = { s.x with regs := r, hw := h, senseTest := b, conv := c } := by
  cases u with
  | leg n => exact (CpMoves.refl s).with_conv
  | train k => exact (CpMoves.of_setTrain s k .off).with_conv
  | conv c =>
    unfold readmitEffect
    dsimp only
    split
    · obtain ⟨r, h, b, hx⟩ := CpMoves.of_sliceBack (s.modConv c fun v => { v with fault := false }) ⟨c.val, by assumption⟩
      rw [hx]
      exact ⟨r, h, b, _, rfl⟩
    · exact ⟨s.x.regs, s.x.hw, s.x.senseTest, _, rfl⟩
  | loop l => exact (CpMoves.of_x (t := s.modLoop l _) rfl).with_conv
  | clerk c =>
    unfold readmitEffect
    dsimp only
    split
    · exact (CpMoves.of_ckStart s c).with_conv
    · exact (CpMoves.of_x rfl).with_conv
  | supv =>
    refine CpMoves.with_conv ?_
    exact forAll_keeps (P := CpMoves s) (f := fun t k => t.modModel k fun m => { m with running := false, fresh := true, frozen := none })
      (CpMoves.refl s) fun t k ht => ht.trans (.of_x rfl)
  | store => exact (CpMoves.refl s).with_conv
  | ringE => exact (CpMoves.refl s).with_conv
  | ringW => exact (CpMoves.refl s).with_conv
  | spi => exact (CpMoves.refl s).with_conv
  | twm => exact (CpMoves.refl s).with_conv
  | twp => exact (CpMoves.refl s).with_conv

/-! ### A request and the end of a self-check (R394, R396) -/

section
variable {s : State} {u : FenceUnit}

/-- A request is answered for each unit of its page alone. -/
theorem unfence_of_single (h : pageUnits (unitPage u) = [u]) :
    unfence s (unitPage u) =
      if !(s.isFenced u) || s.x.checks.any (·.unit == u) then s
      else if s.x.dev = .safe || unitErr s u then unfFail s (unitPage u)
      else { s with x := { s.x with checks := s.x.checks ++ [{ unit := u, since := s.x.tick.count, bad := false }] } } := by
  unfold unfence
  rw [h]
  rfl

theorem noCheck (h : ∀ k ∈ s.x.checks, k.unit ≠ u) : s.x.checks.any (·.unit == u) = false := by
  rw [List.any_eq_false]
  exact fun k hk => by simpa using h k hk

theorem unfFail_spec (s : State) (page : Nat) :
    (unfFail s page).x.fenced = s.x.fenced ∧ (unfFail s page).x.checks = s.x.checks ∧ (unfFail s page).x.col.unfFail = true ∧
      EvtSet (unfFail s page) 0xB8 2 := by
  refine ⟨?_, ?_, ?_, State.evt_same _ _ _ (by decide)⟩
  · rw [unfFail, State.evt_x]
    rfl
  · rw [unfFail, State.evt_x]
    rfl
  · rw [unfFail, State.evt_x]
    rfl

theorem reqClear_x (s : State) (page : Nat) : ∃ r, (reqClear s page).x = { s.x with regs := r } := by
  unfold reqClear
  split
  · exact ⟨_, rfl⟩
  · exact ⟨_, State.setReg_x _ _ _⟩

/-- The request flag is at offset 3 of its page. -/
theorem reqClear_evt {page b : Nat} (h : EvtSet s 0xB8 b) : EvtSet (reqClear s page) 0xB8 b := by
  unfold reqClear
  split
  · exact h
  · refine (congrArg (bit · b) (State.reg_setReg_other _ _ _ _ ?_)).trans h
    unfold addr
    omega

/-- A failed check is over, and the unit stays fenced. -/
theorem endCheck_failed (u : FenceUnit) (s : State) :
    (endCheck u false s).x.fenced = s.x.fenced ∧ (∀ k ∈ (endCheck u false s).x.checks, k.unit ≠ u) ∧
      (endCheck u false s).x.col.unfFail = true ∧ EvtSet (endCheck u false s) 0xB8 2 := by
  obtain ⟨hfenced, hchecks, hfail, hevt⟩ :=
    unfFail_spec { s with x := { s.x with checks := s.x.checks.filter (·.unit != u) } } (unitPage u)
  obtain ⟨r, hx⟩ := reqClear_x (unfFail { s with x := { s.x with checks := s.x.checks.filter (·.unit != u) } } (unitPage u)) (unitPage u)
  have hend : endCheck u false s =
      reqClear (unfFail { s with x := { s.x with checks := s.x.checks.filter (·.unit != u) } } (unitPage u)) (unitPage u) := rfl
  rw [hend]
  refine ⟨by rw [hx, hfenced], fun k hk => ?_, by rw [hx, hfail], reqClear_evt hevt⟩
  rw [hx, hchecks] at hk
  exact bne_iff_ne.mp (List.mem_filter.mp hk).2

/-- The unit is out of the fences and of the checks. -/
theorem readmit_x (s : State) (u : FenceUnit) :
    ∃ r h b c, (readmit s u).x = { s.x with
      regs := r, hw := h, senseTest := b, conv := c, fenced := s.x.fenced.filter (· != u), checks := s.x.checks.filter (·.unit != u) } := by
  obtain ⟨r, h, b, c, hx⟩ := readmitEffect_x
    (State.evt { s with x := { s.x with fenced := s.x.fenced.filter (· != u), checks := s.x.checks.filter (·.unit != u) } } 0xB8 1) u
  refine ⟨r, h, b, c, ?_⟩
  rw [readmit, hx, State.evt_x]

/-- A passed one readmits the unit and no other, with no word of the array touched. -/
theorem endCheck_passed (u : FenceUnit) (s : State) :
    ∃ r h b c, (endCheck u true s).x = { s.x with
      regs := r, hw := h, senseTest := b, conv := c, fenced := s.x.fenced.filter (· != u)
      checks := s.x.checks.filter (·.unit != u), col := { s.x.col with unfDone := true, unfFail := false, unfPage := unitPage u } } := by
  obtain ⟨r, h, b, c, hx⟩ := readmit_x s u
  obtain ⟨q, hclear⟩ := reqClear_x (readmit s u) (unitPage u)
  have hend : endCheck u true s = (reqClear (readmit s u) (unitPage u)).modCol fun c =>
      { c with unfDone := true, unfFail := false, unfPage := unitPage u } := rfl
  rw [hend, State.modCol_x, hclear, hx]
  exact ⟨q, h, b, c, rfl⟩

/-! ### When a self-check ends, and how (R392, R394, R396) -/

/-- A slice whose open-wire test has met its count is not readmitted (R392). -/
def wireGood (s : State) : FenceUnit → Bool
  | .conv c => if h : c.val < 16 then !(SL_OW_TEN s c.val && decide (SL_OW_N s c.val ≤ s.x.slices[(⟨c.val, h⟩ : Slice)].owHit)) else true
  | _ => true

/-- A port of the ring stands as its training leaves it. -/
def trainedUp (p : RgPortState) : Prop := p = .up ∨ p = .wrap ∨ p = .tap

/-- Where the unit is a port of the ring, it is up. -/
def portsUp (s : State) (u : FenceUnit) : Prop := (u = .ringE → trainedUp s.x.ring.e.state) ∧ (u = .ringW → trainedUp s.x.ring.w.state)

/-- A check of its full length passes when it found nothing, no error stands or stood, and no wire is open. -/
theorem checkEnd_due {k : SelfCheck} (hu : k.unit = u) (hage : k.since + checkTicks u ≤ s.x.tick.count) (hup : portsUp s u) (pass : Bool) :
    checkEnd s k pass = some (pass && (!(unitErr s u) && !k.bad) && wireGood s u) := by
  obtain ⟨unit, since, bad⟩ := k
  subst hu
  obtain ⟨heast, hwest⟩ := hup
  cases unit with
  | conv c =>
    have hlong : ¬ s.x.tick.count - since < 64 := by
      change since + 64 ≤ _ at hage
      omega
    unfold checkEnd
    dsimp only
    rw [if_neg hlong]
    unfold wireGood
    dsimp only
    split
    · rfl
    · rw [Bool.and_true]
  | ringE =>
    have hlong : 1 ≤ s.x.tick.count - since := by
      change since + 1 ≤ _ at hage
      omega
    have hstands : (s.x.ring.e.state = .up || s.x.ring.e.state = .wrap || s.x.ring.e.state = .tap) = true := by
      simpa [trainedUp, or_assoc] using heast rfl
    exact (if_pos hstands).trans ((if_pos hlong).trans (congrArg some (Bool.and_true _).symm))
  | ringW =>
    have hlong : 1 ≤ s.x.tick.count - since := by
      change since + 1 ≤ _ at hage
      omega
    have hstands : (s.x.ring.w.state = .up || s.x.ring.w.state = .wrap || s.x.ring.w.state = .tap) = true := by
      simpa [trainedUp, or_assoc] using hwest rfl
    exact (if_pos hstands).trans ((if_pos hlong).trans (congrArg some (Bool.and_true _).symm))
  | _ =>
    have hlong : ¬ s.x.tick.count - since < _ := Nat.not_lt.mpr (Nat.le_sub_of_add_le' hage)
    exact (if_neg hlong).trans (congrArg some (Bool.and_true _).symm)

/-- A port that has not come up after 1024 ticks fails. -/
theorem checkEnd_down {k : SelfCheck} (hu : k.unit = u) (hdown : ¬ portsUp s u) (hage : k.since + 1024 ≤ s.x.tick.count) (pass : Bool) :
    checkEnd s k pass = some false := by
  obtain ⟨unit, since, bad⟩ := k
  subst hu
  have hlong : 1024 ≤ s.x.tick.count - since := by
    change since + 1024 ≤ _ at hage
    omega
  cases unit with
  | ringE =>
    have hstands : ¬ (s.x.ring.e.state = .up || s.x.ring.e.state = .wrap || s.x.ring.e.state = .tap) = true := fun h =>
      hdown ⟨fun _ => by simpa [trainedUp, or_assoc] using h, fun h => nomatch h⟩
    exact (if_neg hstands).trans (if_pos hlong)
  | ringW =>
    have hstands : ¬ (s.x.ring.w.state = .up || s.x.ring.w.state = .wrap || s.x.ring.w.state = .tap) = true := fun h =>
      hdown ⟨fun h => (nomatch h), fun _ => by simpa [trainedUp, or_assoc] using h⟩
    exact (if_neg hstands).trans (if_pos hlong)
  | _ => exact absurd ⟨fun h => (nomatch h), fun h => (nomatch h)⟩ hdown

/-! ### What the check of the storeroom does (R505) -/

theorem eccFound_fenced (s : State) (r : ArrayRead) : (eccFound s r).x.fenced = s.x.fenced := by
  unfold eccFound
  dsimp only
  split
  · rw [raise_x]
  · rfl

theorem verifyError_fenced (s : State) (wrong : Bool) : (verifyError s wrong).x.fenced = s.x.fenced := by
  unfold verifyError
  split
  · rw [raise_x, State.orReg_x]
  · rfl

theorem blankChecked_fenced (s : State) (k : Nat) (r : ArrayRead) : (blankChecked s k r).x.fenced = s.x.fenced := by
  unfold blankChecked
  split
  · rw [raise_x]
    rfl
  · rfl

/-- However it ends, a check fences nothing. -/
theorem selfTest_fenced (s : State) (found : SelfTest) : (selfTest s found).x.fenced = s.x.fenced := by
  cases found with
  | pass => rfl
  | fail => rfl
  | store p e => exact (eccFound_fenced _ e).trans ((blankChecked_fenced _ 1023 e).trans ((eccFound_fenced _ p).trans (verifyError_fenced s _)))

theorem eccFound_of_good {r : ArrayRead} (h : r.uncorrectable = false) (s : State) :
    eccFound s r = s.modStore fun v => { v with eccCnt := min 0xFFFF (v.eccCnt + r.corrected) } :=
  if_neg (by rw [h]; decide)

/-- A good one touches the storeroom alone, and there the device-reserved sector. -/
theorem selfTest_good {found : SelfTest} (h : selfTestGood found = true) :
    ∃ v, (selfTest s found).x = { s.x with store := v } ∧ ∀ p e, found = .store p e → v.mem = erasedMem s.x.store.mem 1023 e := by
  cases found with
  | pass => exact ⟨s.x.store, rfl, fun _ _ hstore => (nomatch hstore)⟩
  | fail => exact absurd h Bool.false_ne_true
  | store p e =>
    simp only [selfTestGood, Bool.and_eq_true, Bool.not_eq_true'] at h
    obtain ⟨⟨⟨hwords, hread⟩, hblank⟩, herase⟩ := h
    have hverify : verifyError s (!p.bad.isEmpty) = s := if_neg (by rw [hwords]; decide)
    have hchecked (t : State) : blankChecked t 1023 e = t.modStore fun v => { v with mem := erasedMem v.mem 1023 e } :=
      if_neg (by rw [hblank]; decide)
    rw [selfTest, hverify, eccFound_of_good hread, eraseSector_eq, hchecked, eccFound_of_good herase]
    refine ⟨_, rfl, fun q d hstore => ?_⟩
    cases hstore
    rfl

/-- The erase of a sector leaves the words of the others, whatever its blank check finds; one that finds nothing leaves 0xFFFF. -/
theorem erasedMem_other (m : List Host.Cell) (k : Nat) (r : ArrayRead) {a : Nat} (ha : a / 32768 ≠ k) :
    stGet (erasedMem m k r) a = stGet m a := by
  have hputs : ∀ (l : List (Nat × Word)) (m : List Host.Cell),
      stGet (l.foldl (fun m c => stPut m (k * sectorWords + c.1 % sectorWords) c.2) m) a = stGet m a := by
    intro l
    induction l with
    | nil => exact fun m => rfl
    | cons c t ih =>
      refine fun m => (ih _).trans (stGet_stPut_other m _ a _ ?_)
      unfold sectorWords
      omega
  exact (hputs r.bad _).trans (stGet_stErase_out m k a ha)

theorem erasedMem_blank (m : List Host.Cell) (k : Nat) {r : ArrayRead} (hr : r.bad = []) {a : Nat} (ha : a / 32768 = k) :
    stGet (erasedMem m k r) a = 0xFFFF := by
  rw [erasedMem, hr]
  exact stGet_stErase_in m k a ha

/-! ### READMISSION -/

theorem isFenced_filter_same {t : State} (h : t.x.fenced = s.x.fenced.filter (· != u)) : t.isFenced u = false := by
  rw [State.isFenced, h]
  simp

theorem isFenced_filter_other {t : State} (h : t.x.fenced = s.x.fenced.filter (· != u)) {v : FenceUnit} (hv : v ≠ u) :
    t.isFenced v = s.isFenced v := by
  rw [State.isFenced, State.isFenced, h, Bool.eq_iff_iff]
  simp [hv]

theorem exec_readmission {k : SelfCheck} {found : SelfTest} {ok : Bool} (hk : s.x.checks.find? (·.unit == u) = some k)
    (hend : checkEnd s k (selfTestGood found) = some ok) :
    exec (.readmission u found) s =
      .next (atCycle0 (fun s => endCheck u (ok && !s.x.col.fencePend.contains u) (selfTest s found)) s) := by
  change execReadmission u found s = _
  unfold execReadmission
  rw [hk]
  dsimp only
  rw [hend]

/-- At its end a check that did not pass, or whose unit is to be fenced again, leaves the unit fenced with its event. -/
theorem readmission_failed {k : SelfCheck} {found : SelfTest} {ok : Bool} (hk : s.x.checks.find? (·.unit == u) = some k)
    (hend : checkEnd s k (selfTestGood found) = some ok) (hfail : ok = false ∨ u ∈ s.x.col.fencePend) :
    ∃ t, exec (.readmission u found) s = .next t ∧ t.x.fenced = s.x.fenced ∧ (∀ k ∈ t.x.checks, k.unit ≠ u) ∧
      t.x.col.unfFail = true ∧ EvtSet t 0xB8 2 := by
  have hno : (ok && !s.x.col.fencePend.contains u) = false := by
    rcases hfail with h | h
    · rw [h, Bool.false_and]
    · simp [h]
  obtain ⟨hfenced, hchecks, hunf, hevt⟩ := endCheck_failed u (selfTest s found)
  refine ⟨_, exec_readmission hk hend, ?_⟩
  unfold atCycle0
  dsimp only
  rw [hno]
  exact ⟨hfenced.trans (selfTest_fenced s found), hchecks, hunf, hevt⟩

/-- One that passed readmits its unit and no other. -/
theorem readmission_passed {k : SelfCheck} {found : SelfTest} (hk : s.x.checks.find? (·.unit == u) = some k)
    (hend : checkEnd s k (selfTestGood found) = some true) (hgood : selfTestGood found = true) (hpend : u ∉ s.x.col.fencePend) :
    ∃ t, exec (.readmission u found) s = .next t ∧ t.x.fenced = s.x.fenced.filter (· != u) ∧ (∀ k ∈ t.x.checks, k.unit ≠ u) ∧
      t.x.col.unfDone = true ∧ t.x.col.unfPage = unitPage u ∧ ∀ p e, found = .store p e → t.x.store.mem = erasedMem s.x.store.mem 1023 e := by
  have hyes : (true && !s.x.col.fencePend.contains u) = true := by simp [hpend]
  obtain ⟨v, htest, hmem⟩ := selfTest_good (s := s) hgood
  obtain ⟨r, h, b, c, hx⟩ := endCheck_passed u (selfTest s found)
  refine ⟨_, exec_readmission hk hend, ?_⟩
  unfold atCycle0
  dsimp only
  rw [hyes, hx, htest]
  exact ⟨rfl, fun k hk => bne_iff_ne.mp (List.mem_filter.mp hk).2, rfl, rfl, hmem⟩

/-- The fence unit of a host port. -/
def hostUnit : Port → FenceUnit
  | .spi => .spi
  | .twm => .twm

/-- A host port that was silent is readmitted (R397). -/
theorem exec_hostPortAutoReadmit {p : Port} (hf : s.isFenced (hostUnit p) = true) (hi : 4096 ≤ s.x.idle.get p) :
    ∃ t, exec (.hostPortAutoReadmit p) s = .next t ∧ t.x.fenced = s.x.fenced.filter (· != hostUnit p) ∧ EvtSet t 0xB8 1 := by
  have hexec : exec (.hostPortAutoReadmit p) s =
      .next (atCycle0 (fun s => reqClear (readmit s (hostUnit p)) (unitPage (hostUnit p))) s) := by
    cases p with
    | spi => exact if_pos (Bool.and_eq_true_iff.mpr ⟨hf, decide_eq_true hi⟩)
    | twm => exact if_pos (Bool.and_eq_true_iff.mpr ⟨hf, decide_eq_true hi⟩)
  obtain ⟨r, h, b, c, hx⟩ := readmit_x s (hostUnit p)
  obtain ⟨q, hclear⟩ := reqClear_x (readmit s (hostUnit p)) (unitPage (hostUnit p))
  have hevt : EvtSet (readmit s (hostUnit p)) 0xB8 1 := by
    cases p with
    | spi => exact State.evt_same _ 0xB8 1 (by decide)
    | twm => exact State.evt_same _ 0xB8 1 (by decide)
  refine ⟨_, hexec, ?_, reqClear_evt hevt⟩
  unfold atCycle0
  dsimp only
  rw [hclear, hx]

end

theorem wireGood_of {s : State} {u : FenceUnit}
    (h : ∀ i : Slice, u = .conv (convOf i) → SL_OW_TEN s i = false ∨ s.x.slices[i].owHit < SL_OW_N s i) : wireGood s u = true := by
  cases u with
  | conv c =>
    unfold wireGood
    dsimp only
    split
    next hc =>
      rcases h ⟨c.val, hc⟩ rfl with hten | hhit
      · rw [hten]
        rfl
      · have hlt : ¬ SL_OW_N s c ≤ (s.x.slices[c.val]'hc).owHit := Nat.not_le.mpr hhit
        simp [hlt]
    next => rfl
  | _ => rfl

theorem readmissions : Claims.Readmissions := by
  intro u p s
  refine ⟨fun hpage hf hno => ⟨fun hsafe herr => ?_, fun hbad => ?_⟩, fun hpage hf => ?_, fun k hk => ⟨fun hage hup => ⟨?_, ?_⟩, ?_⟩, fun hf hi => ?_⟩
  · refine ⟨_, congrArg Host.Outcome.next (unfence_of_single hpage), ?_⟩
    rw [if_neg (by rw [hf, noCheck hno]; decide), if_neg (by simp [hsafe, herr])]
  · obtain ⟨hfenced, hchecks, hfail, hevt⟩ := unfFail_spec s (unitPage u)
    refine ⟨_, congrArg Host.Outcome.next (unfence_of_single hpage), ?_⟩
    rw [if_neg (by rw [hf, noCheck hno]; decide), if_pos (by simpa using hbad)]
    exact ⟨hfenced, hchecks, hfail, hevt⟩
  · exact congrArg Host.Outcome.next ((unfence_of_single hpage).trans (if_pos (by rw [hf]; rfl)))
  · have hunit : k.unit = u := by simpa using List.find?_some hk
    intro found hgood herr hclean hpend hwire
    have hend := checkEnd_due hunit hage hup (selfTestGood found)
    rw [hgood, herr, hclean, wireGood_of hwire] at hend
    obtain ⟨t, hexec, hfenced, hchecks, hdone, hreq, hmem⟩ := readmission_passed hk (by rw [hgood]; exact hend) hgood hpend
    refine ⟨t, hexec, isFenced_filter_same hfenced, fun v hv => isFenced_filter_other hfenced hv, hchecks, hdone, hreq, fun q e hstore => ?_⟩
    rw [hmem q e hstore]
    exact ⟨fun a ha => erasedMem_other _ 1023 e ha, fun hblank a ha => erasedMem_blank _ 1023 hblank ha⟩
  · have hunit : k.unit = u := by simpa using List.find?_some hk
    intro found hbad
    refine readmission_failed hk (checkEnd_due hunit hage hup (selfTestGood found)) ?_
    rcases hbad with h | h | h | h
    · exact .inl (by rw [h]; rfl)
    · exact .inl (by rw [h]; simp)
    · exact .inl (by rw [h]; simp)
    · exact .inr h
  · have hunit : k.unit = u := by simpa using List.find?_some hk
    exact fun found hdown hage => readmission_failed hk (checkEnd_down hunit hdown hage (selfTestGood found)) (.inl rfl)
  · cases p with
    | spi =>
      obtain ⟨t, hexec, hfenced, hevt⟩ := exec_hostPortAutoReadmit (p := .spi) hf hi
      exact ⟨t, hexec, isFenced_filter_same hfenced, hevt, fun w hw => isFenced_filter_other hfenced hw⟩
    | twm =>
      obtain ⟨t, hexec, hfenced, hevt⟩ := exec_hostPortAutoReadmit (p := .twm) hf hi
      exact ⟨t, hexec, isFenced_filter_same hfenced, hevt, fun w hw => isFenced_filter_other hfenced hw⟩

/-! ### The return to RUN (R389) -/

/-- A device held by a reaction alone whose quiet time has passed returns while its resumes are not used up. -/
def resumeDue (s : State) : Bool :=
  s.x.dev = .hold && s.x.col.heldByReaction && !s.x.col.heldByConfig && FLT_RESUME_DELAY s != 0 &&
    FLT_RESUME_DELAY s * 256 < s.x.col.quiet && s.x.col.resumeCnt < FLT_RESUME_MAXN s

/-- The resume is counted, with its event, and the trains that are to run leave HOLD. -/
def resumed (s : State) : State :=
  forAll (n := 8) ((s.modCol fun c => { c with resumeCnt := c.resumeCnt + 1 }).evt 0xB8 3) fun s t =>
    if s.cp.trains[t].state = .hold && TR_CTRL_RUN s t then setTrain s t .off else s

theorem exec_deviceResume (s : State) :
    exec .deviceResume s =
      if resumeDue s then
        .next (startTrains ((s.modCol fun c => { c with resumeCnt := c.resumeCnt + 1 }).evt 0xB8 3) (enterRun (resumed s)))
      else .next s := rfl

theorem resumed_col (s : State) : (resumed s).x.col = { s.x.col with resumeCnt := s.x.col.resumeCnt + 1 } := by
  unfold resumed
  refine forAll_keeps (P := fun t => t.x.col = { s.x.col with resumeCnt := s.x.col.resumeCnt + 1 }) ?_ fun t k ht => ?_
  · rw [State.evt_x]
    rfl
  · split
    · obtain ⟨r, hx⟩ := setTrain_x t k .off
      rw [hx]
      exact ht
    · exact ht

theorem reactionResumes : Claims.ReactionResumes := by
  intro s
  have hdue : resumeDue s = true ↔ s.x.dev = .hold ∧ s.x.col.heldByReaction = true ∧ s.x.col.heldByConfig = false ∧
      FLT_RESUME_DELAY s ≠ 0 ∧ FLT_RESUME_DELAY s * 256 < s.x.col.quiet ∧ s.x.col.resumeCnt < FLT_RESUME_MAXN s := by
    simp [resumeDue, and_assoc]
  refine ⟨fun h => ?_, fun h => ?_⟩
  · obtain ⟨r, v, b, hstart⟩ := CpMoves.of_startTrains ((s.modCol fun c => { c with resumeCnt := c.resumeCnt + 1 }).evt 0xB8 3) (enterRun (resumed s))
    obtain ⟨q, hrun⟩ := enterRun_x (resumed s)
    refine ⟨_, (exec_deviceResume s).trans (if_pos (hdue.mpr h)), ?_⟩
    rw [hstart, hrun, resumed_col]
    exact ⟨rfl, rfl, rfl⟩
  · exact (exec_deviceResume s).trans (if_neg fun hr => h (hdue.mp hr))

/-- Settles O46: the readmission of units and the return from a reaction. -/
theorem faultRecovery : Obligations.FaultRecovery := ⟨readmissions, reactionResumes⟩
end Sys2Proof.Machine

/-! PROOFS. What leaves the device's state and its supplies as they are -/

namespace Sys2Proof.Machine

/-! ### What leaves the device's state and its supplies as they are

Only the commands of the device, its sleep and its reset move them; all else that a wake or BOOT runs leaves them, but for the source of
the reference that the ring takes (R421). -/

/-- The device is in the state of dv, with its supplies but for the reference in use. -/
def Stands (dv : DevState × PwrSt) (s : State) : Prop := s.x.dev = dv.1 ∧ { s.x.pwr with ref := 0 } = dv.2

theorem Stands.refl (s : State) : Stands (s.x.dev, { s.x.pwr with ref := 0 }) s := ⟨rfl, rfl⟩

/-- The device's part of Stands. -/
def StandsDev (dv : DevState × PwrSt) (d : DevState) : Prop := d = dv.1
/-- The supplies' part of Stands. -/
def StandsPwr (dv : DevState × PwrSt) (v : PwrSt) : Prop := { v with ref := 0 } = dv.2

section
variable {dv : DevState × PwrSt} {s : State}

@[simp] theorem stands_mk (q : List Instr) (c : Cp) (x : Ext) (u : Snap) (v : PerPort (Option Snap)) (k : Cp) (n : Nat) :
    Stands dv ⟨q, c, x, u, v, k, n⟩ ↔ (StandsDev dv x.dev ∧ StandsPwr dv x.pwr) := Iff.rfl

variable (h : Stands dv s)
include h

@[simp] theorem stands_dev : StandsDev dv s.x.dev := h.1
@[simp] theorem stands_pwr : StandsPwr dv s.x.pwr := h.2
@[simp] theorem stands_ite {t : State} (c : Prop) [Decidable c] (ht : Stands dv t) : Stands dv (if c then s else t) := by
  split <;> assumption
@[simp] theorem foldl_stands {α : Type} (l : List α) (g : State → α → State) (hg : ∀ s a, Stands dv s → Stands dv (g s a)) :
    Stands dv (l.foldl g s) :=
  List.foldlRecOn (motive := Stands dv) l g h fun s hs a _ => hg s a hs
@[simp] theorem forAll_stands {n : Nat} (g : State → Fin n → State) (hg : ∀ s a, Stands dv s → Stands dv (g s a)) :
    Stands dv (forAll s g) := foldl_stands h _ g hg
@[simp] theorem modHw_stands (n : Leg) (f : LegHw → LegHw) : Stands dv (s.modHw n f) := h
@[simp] theorem modStore_stands (f : StoreSt → StoreSt) : Stands dv (s.modStore f) := h
@[simp] theorem drive_stands (n : Leg) (high on : Bool) : Stands dv (drive s n high on) := h
@[simp] theorem stFree_stands (a n : Nat) : Stands dv (stFree s a n) := h
@[simp] theorem flushNext_stands : Stands dv (flushNext s) := by
  unfold flushNext
  simp +contextual (maxDischargeDepth := 30) [h]
@[simp] theorem State.setReg_stands (a : Nat) (w : Word) : Stands dv (State.setReg s a w) := by
  unfold State.setReg
  simp +contextual (maxDischargeDepth := 30) [h]
@[simp] theorem State.orReg_stands (a : Nat) (w : Word) : Stands dv (State.orReg s a w) := by
  unfold State.orReg
  simp +contextual (maxDischargeDepth := 30) [h]
@[simp] theorem State.modTrain_stands (t : Train) (f : TrainSt → TrainSt) : Stands dv (State.modTrain s t f) := h
@[simp] theorem State.modLeg_stands (n : Leg) (f : LegCp → LegCp) : Stands dv (State.modLeg s n f) := h
@[simp] theorem State.modLoop_stands (l : LoopIx) (f : LoopSt → LoopSt) : Stands dv (State.modLoop s l f) := h
@[simp] theorem State.modSect_stands (i : Slot) (f : SectSt → SectSt) : Stands dv (State.modSect s i f) := h
@[simp] theorem State.modOsc_stands (i : OscIx) (f : OscSt → OscSt) : Stands dv (State.modOsc s i f) := h
@[simp] theorem State.modModel_stands (t : Train) (f : ModelSt → ModelSt) : Stands dv (State.modModel s t f) := h
@[simp] theorem State.modSup_stands (i : Slice) (f : SliceSup → SliceSup) : Stands dv (State.modSup s i f) := h
@[simp] theorem State.modBat_stands (p : BPort) (f : BatSt → BatSt) : Stands dv (State.modBat s p f) := h
@[simp] theorem State.modBatHw_stands (p : BPort) (f : BatHw → BatHw) : Stands dv (State.modBatHw s p f) := h
@[simp] theorem State.modSrc_stands (i : Src) (f : SrcSt → SrcSt) : Stands dv (State.modSrc s i f) := h
@[simp] theorem State.modNode_stands (i : Fin 2) (f : NodeSt → NodeSt) : Stands dv (State.modNode s i f) := h
@[simp] theorem State.modSl_stands (i : Slice) (f : SliceSt → SliceSt) : Stands dv (State.modSl s i f) := h
@[simp] theorem State.modSys_stands (i : Slice) (f : SysCal → SysCal) : Stands dv (State.modSys s i f) := h
@[simp] theorem State.modBg_stands (f : BgSt → BgSt) : Stands dv (State.modBg s f) := h
@[simp] theorem State.modTrace_stands (f : TraceSt → TraceSt) : Stands dv (State.modTrace s f) := h
@[simp] theorem State.modAx_stands (f : AxSt → AxSt) : Stands dv (State.modAx s f) := h
@[simp] theorem State.modTl_stands (n : TallyIx) (f : TallySt → TallySt) : Stands dv (State.modTl s n f) := h
@[simp] theorem State.modCal_stands (f : CalSt → CalSt) : Stands dv (State.modCal s f) := h
@[simp] theorem State.modSpare_stands (f : SpareSt → SpareSt) : Stands dv (State.modSpare s f) := h
@[simp] theorem State.modCol_stands (f : Collector → Collector) : Stands dv (State.modCol s f) := h
@[simp] theorem State.modTick_stands (f : TickSt → TickSt) : Stands dv (State.modTick s f) := h
@[simp] theorem State.evt_stands (page b : Nat) : Stands dv (State.evt s page b) := by
  unfold State.evt
  simp +contextual (maxDischargeDepth := 30) [h]
@[simp] theorem State.allLegsLow_stands : Stands dv (State.allLegsLow s) := by
  unfold State.allLegsLow
  simp +contextual (maxDischargeDepth := 30) [h]
@[simp] theorem set_ADC_REF_CTRL_TRACE_stands (v : Bool) : Stands dv (set_ADC_REF_CTRL_TRACE s v) := by
  unfold set_ADC_REF_CTRL_TRACE
  simp +contextual (maxDischargeDepth := 30) [h]
@[simp] theorem set_BP_PHASE_PHASE_stands (i : Nat) (v : Nat) : Stands dv (set_BP_PHASE_PHASE s i v) := by
  unfold set_BP_PHASE_PHASE
  simp +contextual (maxDischargeDepth := 30) [h]
@[simp] theorem set_CAL_CMD_KIND_stands (v : Nat) : Stands dv (set_CAL_CMD_KIND s v) := by
  unfold set_CAL_CMD_KIND
  simp +contextual (maxDischargeDepth := 30) [h]
@[simp] theorem set_STORE_CMD_CMD_stands (v : Nat) : Stands dv (set_STORE_CMD_CMD s v) := by
  unfold set_STORE_CMD_CMD
  simp +contextual (maxDischargeDepth := 30) [h]
@[simp] theorem set_TLn_CFG_EN_stands (i : Nat) (v : Bool) : Stands dv (set_TLn_CFG_EN s i v) := by
  unfold set_TLn_CFG_EN
  simp +contextual (maxDischargeDepth := 30) [h]
@[simp] theorem setTrain_stands (t : Train) (st : TrState) : Stands dv (setTrain s t st) := by
  unfold setTrain
  simp +contextual (maxDischargeDepth := 30) [h]
@[simp] theorem legsOff_stands (t : Train) : Stands dv (legsOff s t) := by
  unfold legsOff
  simp +contextual (maxDischargeDepth := 30) [h]
@[simp] theorem cancelShed_stands (t : Train) : Stands dv (cancelShed s t) := by
  unfold cancelShed
  simp +contextual (maxDischargeDepth := 30) [h]
@[simp] theorem larderTrigger_stands (src idx : Nat) : Stands dv (larderTrigger s src idx) := by
  unfold larderTrigger
  dsimp only
  (repeat' split) <;> simp +contextual (maxDischargeDepth := 30) [*]
@[simp] theorem fltPin_stands : Stands dv (fltPin s) := by
  unfold fltPin
  simp +contextual (maxDischargeDepth := 30) [h]
@[simp] theorem enablesToStraps_stands : Stands dv (enablesToStraps s) := by
  unfold enablesToStraps
  simp +contextual (maxDischargeDepth := 30) [h]
@[simp] theorem pinShutdown_stands (code : Nat) : Stands dv (pinShutdown s code) := by
  unfold pinShutdown
  simp +contextual (maxDischargeDepth := 30) [h]
@[simp] theorem noteLine_stands (b : Nat) : Stands dv (noteLine s b) := by
  unfold noteLine
  simp +contextual (maxDischargeDepth := 30) [h]
@[simp] theorem latch_stands (b : Nat) : Stands dv (latch s b) := by
  unfold latch
  simp +contextual (maxDischargeDepth := 30) [h]
@[simp] theorem latchAll_stands : Stands dv (latchAll s) := by
  unfold latchAll
  simp +contextual (maxDischargeDepth := 30) [h]
@[simp] theorem noteCheck_stands (page : Nat) (m : Word) : Stands dv (noteCheck s page m) := by
  unfold noteCheck
  simp +contextual (maxDischargeDepth := 30) [h]
@[simp] theorem raiseMask_stands (page : Nat) (m : Word) : Stands dv (raiseMask s page m) := by
  unfold raiseMask
  simp +contextual (maxDischargeDepth := 30) [h]
@[simp] theorem raise_stands (page b : Nat) : Stands dv (raise s page b) := by
  unfold raise
  simp +contextual (maxDischargeDepth := 30) [h]
@[simp] theorem loopsTickStart_stands : Stands dv (loopsTickStart s) := by
  unfold loopsTickStart
  simp +contextual (maxDischargeDepth := 30) [h]
@[simp] theorem loopAfterCommit_stands (old : Word) (l : LoopIx) : Stands dv (loopAfterCommit old s l) := by
  unfold loopAfterCommit
  simp +contextual (maxDischargeDepth := 30) [h]
@[simp] theorem oscBoundary_stands (o : OscIx) : Stands dv (oscBoundary s o) := by
  unfold oscBoundary
  dsimp only
  (repeat' split) <;> simp +contextual (maxDischargeDepth := 30) [*]
@[simp] theorem preloadLoops_stands (t : Train) : Stands dv (preloadLoops s t) := by
  unfold preloadLoops
  simp +contextual (maxDischargeDepth := 30) [h]
@[simp] theorem setCtl_stands (n : Leg) (on : Bool) : Stands dv (setCtl s n on) := by
  unfold setCtl
  dsimp only
  (repeat' split) <;> simp +contextual (maxDischargeDepth := 30) [*]
@[simp] theorem setRect_stands (n : Leg) (on : Bool) : Stands dv (setRect s n on) := by
  unfold setRect
  dsimp only
  (repeat' split) <;> simp +contextual (maxDischargeDepth := 30) [*]
@[simp] theorem presetLegs_stands (t : Train) (share : Nat) : Stands dv (presetLegs s t share) := by
  unfold presetLegs
  simp +contextual (maxDischargeDepth := 30) [h]
@[simp] theorem presetTrain_stands (t : Train) (total : Nat) : Stands dv (presetTrain s t total) := by
  unfold presetTrain
  simp +contextual (maxDischargeDepth := 30) [h]
@[simp] theorem ridePreset_stands : Stands dv (ridePreset s) := by
  unfold ridePreset
  simp +contextual (maxDischargeDepth := 30) [h]
@[simp] theorem nodeCheck_stands (k : Fin 2) : Stands dv (nodeCheck s k) := by
  unfold nodeCheck
  dsimp only
  split
  · refine ridePreset_stands (forAll_stands (by simp [h]) _ fun s a hs => ?_)
    (repeat' split) <;> simp [hs]
  · exact h
@[simp] theorem srcBoundary_stands : Stands dv (srcBoundary s) := by
  unfold srcBoundary
  simp +contextual (maxDischargeDepth := 30) [h]
@[simp] theorem batNewTemp_stands (p : BPort) : Stands dv (batNewTemp s p) := by
  unfold batNewTemp
  dsimp only
  (repeat' split) <;> simp +contextual (maxDischargeDepth := 30) [*]
@[simp] theorem phaseEntered_stands (p : BPort) (old : Nat) : Stands dv (phaseEntered s p old) := by
  unfold phaseEntered
  simp +contextual (maxDischargeDepth := 30) [h]
@[simp] theorem qualWindow_stands (p : BPort) : Stands dv (qualWindow s p) := by
  unfold qualWindow
  simp +contextual (maxDischargeDepth := 30) [h]
@[simp] theorem forcePhase_stands (p : BPort) (ph : Nat) : Stands dv (forcePhase s p ph) := by
  unfold forcePhase
  simp +contextual (maxDischargeDepth := 30) [h]
@[simp] theorem forceFault_stands (p : BPort) (cause : Nat) : Stands dv (forceFault s p cause) := by
  unfold forceFault
  simp +contextual (maxDischargeDepth := 30) [h]
@[simp] theorem bpRestart_stands (p : BPort) : Stands dv (bpRestart s p) := by
  unfold bpRestart
  simp +contextual (maxDischargeDepth := 30) [h]
@[simp] theorem probeDiscard_stands (p : BPort) (cause : Nat) : Stands dv (probeDiscard s p cause) := by
  unfold probeDiscard
  simp +contextual (maxDischargeDepth := 30) [h]
@[simp] theorem probeBoundary_stands (p : BPort) : Stands dv (probeBoundary s p) := by
  unfold probeBoundary
  simp +contextual (maxDischargeDepth := 30) [h]
@[simp] theorem batMeasure_stands (p : BPort) : Stands dv (batMeasure s p) := by
  unfold batMeasure
  simp +contextual (maxDischargeDepth := 30) [h]
@[simp] theorem batPin_stands (p : BPort) : Stands dv (batPin s p) := by
  unfold batPin
  simp +contextual (maxDischargeDepth := 30) [h]
@[simp] theorem batPresence_stands (p : BPort) : Stands dv (batPresence s p) := by
  unfold batPresence
  simp +contextual (maxDischargeDepth := 30) [h]
@[simp] theorem batAge_stands (p : BPort) : Stands dv (batAge s p) := by
  unfold batAge
  dsimp only
  (repeat' split) <;> simp +contextual (maxDischargeDepth := 30) [*]
@[simp] theorem adopt_stands (a : Nat) (mask : Word) : Stands dv (adopt s a mask) := by
  unfold adopt
  simp +contextual (maxDischargeDepth := 30) [h]
@[simp] theorem adoptCells_stands : Stands dv (adoptCells s) := by
  unfold adoptCells
  simp +contextual (maxDischargeDepth := 30) [h]
@[simp] theorem adoptPending_stands : Stands dv (adoptPending s) := by
  unfold adoptPending
  simp +contextual (maxDischargeDepth := 30) [h]
@[simp] theorem startTrain_stands (t : Train) : Stands dv (startTrain s t) := by
  unfold startTrain
  simp +contextual (maxDischargeDepth := 30) [h]
@[simp] theorem beginStop_stands (t : Train) : Stands dv (beginStop s t) := by
  unfold beginStop
  simp +contextual (maxDischargeDepth := 30) [h]
@[simp] theorem ssRise_stands (t : Train) : Stands dv (ssRise s t) := by
  unfold ssRise
  simp +contextual (maxDischargeDepth := 30) [h]
@[simp] theorem legsOn_stands (t : Train) : Stands dv (legsOn s t) := by
  unfold legsOn
  simp +contextual (maxDischargeDepth := 30) [h]
@[simp] theorem trainBoundary_stands (t : Train) : Stands dv (trainBoundary s t) := by
  unfold trainBoundary
  dsimp only
  (repeat' split) <;> simp +contextual (maxDischargeDepth := 30) [*]
@[simp] theorem trainStart_stands (t : Train) : Stands dv (trainStart s t) := by
  unfold trainStart
  simp +contextual (maxDischargeDepth := 30) [h]
@[simp] theorem preload_stands (t : Train) : Stands dv (preload s t) := by
  unfold preload
  simp +contextual (maxDischargeDepth := 30) [h]
@[simp] theorem fineTrigger_stands (i : Slice) (cyc : Nat) : Stands dv (fineTrigger s i cyc) := by
  unfold fineTrigger
  simp +contextual (maxDischargeDepth := 30) [h]
@[simp] theorem fineRestart_stands (old : State) : Stands dv (fineRestart old s) := by
  unfold fineRestart
  simp +contextual (maxDischargeDepth := 30) [h]
@[simp] theorem sysStart_stands (i : Slice) (kind : Nat) : Stands dv (sysStart s i kind) := by
  unfold sysStart
  simp +contextual (maxDischargeDepth := 30) [h]
@[simp] theorem sysAbort_stands (i : Slice) : Stands dv (sysAbort s i) := by
  unfold sysAbort
  simp +contextual (maxDischargeDepth := 30) [h]
@[simp] theorem axCalStart_stands (kind : Nat) : Stands dv (axCalStart s kind) := by
  unfold axCalStart
  simp +contextual (maxDischargeDepth := 30) [h]
@[simp] theorem axCalAbort_stands : Stands dv (axCalAbort s) := by
  unfold axCalAbort
  simp +contextual (maxDischargeDepth := 30) [h]
@[simp] theorem bgRelease_stands : Stands dv (bgRelease s) := by
  unfold bgRelease
  simp +contextual (maxDischargeDepth := 30) [h]
@[simp] theorem bgCancel_stands : Stands dv (bgCancel s) := by
  unfold bgCancel
  simp +contextual (maxDischargeDepth := 30) [h]
@[simp] theorem traceRequest_stands : Stands dv (traceRequest s) := by
  unfold traceRequest
  simp +contextual (maxDischargeDepth := 30) [h]
@[simp] theorem traceEnd_stands (f : TraceSt → TraceSt) : Stands dv (traceEnd s f) := by
  unfold traceEnd
  simp +contextual (maxDischargeDepth := 30) [h]
@[simp] theorem traceStop_stands : Stands dv (traceStop s) := by
  unfold traceStop
  simp +contextual (maxDischargeDepth := 30) [h]
@[simp] theorem traceAbort_stands : Stands dv (traceAbort s) := by
  unfold traceAbort
  simp +contextual (maxDischargeDepth := 30) [h]
@[simp] theorem estimates_stands : Stands dv (estimates s) := by
  unfold estimates
  simp +contextual (maxDischargeDepth := 30) [h]
@[simp] theorem dutyReturn_stands (t : Train) : Stands dv (dutyReturn s t) := by
  unfold dutyReturn
  simp +contextual (maxDischargeDepth := 30) [h]
@[simp] theorem substNow_stands (t : Train) (on : Bool) (tk before : Nat) : Stands dv (substNow s t on tk before) := by
  unfold substNow
  simp +contextual (maxDischargeDepth := 30) [h]
@[simp] theorem substTrain_stands (t : Train) : Stands dv (substTrain s t) := by
  unfold substTrain
  simp +contextual (maxDischargeDepth := 30) [h]
@[simp] theorem tlNote_stands (n : TallyIx) (hit wrap : Bool) : Stands dv (tlNote s n hit wrap) := by
  unfold tlNote
  simp +contextual (maxDischargeDepth := 30) [h]
@[simp] theorem countEdge_stands (n : TallyIx) (cyc : Nat) : Stands dv (countEdge s n cyc) := by
  unfold countEdge
  simp +contextual (maxDischargeDepth := 30) [h]
@[simp] theorem tlTickEdges_stands : Stands dv (tlTickEdges s) := by
  unfold tlTickEdges
  simp +contextual (maxDischargeDepth := 30) [h]
@[simp] theorem toutAct_stands (n : TallyIx) (code : Nat) : Stands dv (toutAct s n code) := by
  unfold toutAct
  simp +contextual (maxDischargeDepth := 30) [h]
@[simp] theorem tlSync_stands (mask : Word) : Stands dv (tlSync s mask) := by
  unfold tlSync
  simp +contextual (maxDischargeDepth := 30) [h]
@[simp] theorem tlStart_stands (n : TallyIx) : Stands dv (tlStart s n) := by
  unfold tlStart
  simp +contextual (maxDischargeDepth := 30) [h]
@[simp] theorem tlBoundary_stands (n : TallyIx) : Stands dv (tlBoundary s n) := by
  unfold tlBoundary
  simp +contextual (maxDischargeDepth := 30) [h]
@[simp] theorem calStart_stands (kind target : Nat) : Stands dv (calStart s kind target) := by
  unfold calStart
  simp +contextual (maxDischargeDepth := 30) [h]
@[simp] theorem calEnd_stands (f : CalSt → CalSt) : Stands dv (calEnd s f) := by
  unfold calEnd
  simp +contextual (maxDischargeDepth := 30) [h]
@[simp] theorem calAbortWith_stands (cause : Nat) : Stands dv (calAbortWith s cause) := by
  unfold calAbortWith
  simp +contextual (maxDischargeDepth := 30) [h]
@[simp] theorem calAbort_stands : Stands dv (calAbort s) := by
  unfold calAbort
  simp +contextual (maxDischargeDepth := 30) [h]
@[simp] theorem calFreeSource_stands (old : CalSt) : Stands dv (calFreeSource old s) := by
  unfold calFreeSource
  simp +contextual (maxDischargeDepth := 30) [h]
@[simp] theorem calRelease_stands (old : CalSt) : Stands dv (calRelease old s) := by
  unfold calRelease
  simp +contextual (maxDischargeDepth := 30) [h]
@[simp] theorem calSave_stands : Stands dv (calSave s) := by
  unfold calSave
  simp +contextual (maxDischargeDepth := 30) [h]
@[simp] theorem calForget_stands (page off : Nat) : Stands dv (calForget s page off) := by
  unfold calForget
  simp +contextual (maxDischargeDepth := 30) [h]
@[simp] theorem testClose_stands : Stands dv (testClose s) := by
  unfold testClose
  simp +contextual (maxDischargeDepth := 30) [h]
@[simp] theorem State.modLar_stands (f : LarderSt → LarderSt) : Stands dv (State.modLar s f) := h
@[simp] theorem unfFail_stands (page : Nat) : Stands dv (unfFail s page) := by
  unfold unfFail
  simp +contextual (maxDischargeDepth := 30) [h]
@[simp] theorem reqClear_stands (page : Nat) : Stands dv (reqClear s page) := by
  unfold reqClear
  simp +contextual (maxDischargeDepth := 30) [h]
@[simp] theorem unfence_stands (page : Nat) : Stands dv (unfence s page) := by
  unfold unfence
  simp +contextual (maxDischargeDepth := 30) [h]
@[simp] theorem ckStart_stands (c : ClerkIx) : Stands dv (ckStart s c) := by
  unfold ckStart
  simp +contextual (maxDischargeDepth := 30) [h]
@[simp] theorem ckStop_stands (c : ClerkIx) : Stands dv (ckStop s c) := by
  unfold ckStop
  simp +contextual (maxDischargeDepth := 30) [h]
@[simp] theorem faultClear_stands (hi : Bool) (m : Word) : Stands dv (faultClear s hi m) := by
  unfold faultClear
  simp +contextual (maxDischargeDepth := 30) [h]
@[simp] theorem bufferOut_stands : Stands dv (bufferOut s) := by
  unfold bufferOut
  simp +contextual (maxDischargeDepth := 30) [h]
@[simp] theorem setAddr_stands (a : Nat) : Stands dv (setAddr s a) := by
  unfold setAddr
  dsimp only
  (repeat' split) <;> simp +contextual (maxDischargeDepth := 30) [*]
@[simp] theorem loadAddr_stands : Stands dv (loadAddr s) := by
  unfold loadAddr
  simp +contextual (maxDischargeDepth := 30) [h]
@[simp] theorem hostCmdEnd_stands (f : StoreSt → StoreSt) : Stands dv (hostCmdEnd s f) := by
  unfold hostCmdEnd
  simp +contextual (maxDischargeDepth := 30) [h]
@[simp] theorem storeErase_stands (sector : Nat) : Stands dv (storeErase s sector) := by
  unfold storeErase
  simp +contextual (maxDischargeDepth := 30) [h]
@[simp] theorem storeProg_stands : Stands dv (storeProg s) := by
  unfold storeProg
  simp +contextual (maxDischargeDepth := 30) [h]
@[simp] theorem storeAbort_stands : Stands dv (storeAbort s) := by
  unfold storeAbort
  dsimp only
  (repeat' split) <;> simp +contextual (maxDischargeDepth := 30) [*]
@[simp] theorem ledgerPut_stands (r : LedgerRec) : Stands dv (ledgerPut s r) := by
  unfold ledgerPut
  simp +contextual (maxDischargeDepth := 30) [h]
@[simp] theorem ledgerAppend_stands : Stands dv (ledgerAppend s) := by
  unfold ledgerAppend
  simp +contextual (maxDischargeDepth := 30) [h]
@[simp] theorem larderArm_stands : Stands dv (larderArm s) := by
  unfold larderArm
  (repeat' split) <;> simp [h]
@[simp] theorem larderFlush_stands : Stands dv (larderFlush s) := by
  unfold larderFlush
  (repeat' split) <;> simp [h]
@[simp] theorem flushStop_stands : Stands dv (flushStop s) := by
  unfold flushStop
  dsimp only
  (repeat' split) <;> simp +contextual (maxDischargeDepth := 30) [*]
@[simp] theorem larderBoundary_stands : Stands dv (larderBoundary s) := by
  unfold larderBoundary
  simp +contextual (maxDischargeDepth := 30) [h]
@[simp] theorem State.modRing_stands (f : RingSt → RingSt) : Stands dv (State.modRing s f) := h
@[simp] theorem modPort_stands (east : Bool) (f : RgPort → RgPort) : Stands dv (modPort s east f) := by
  unfold modPort
  simp +contextual (maxDischargeDepth := 30) [h]
@[simp] theorem takeRef_stands (r : Nat) : Stands dv (takeRef s r) := h
@[simp] theorem setRing_stands (st : RgState) : Stands dv (setRing s st) := by
  unfold setRing
  simp +contextual (maxDischargeDepth := 30) [h]
@[simp] theorem ringEvent_stands (b : Nat) : Stands dv (ringEvent s b) := by
  unfold ringEvent
  simp +contextual (maxDischargeDepth := 30) [h]
@[simp] theorem ringCntClr_stands : Stands dv (ringCntClr s) := by
  unfold ringCntClr
  simp +contextual (maxDischargeDepth := 30) [h]
@[simp] theorem applyDrop_stands (m : Nat) : Stands dv (applyDrop s m) := by
  unfold applyDrop
  simp +contextual (maxDischargeDepth := 30) [h]
@[simp] theorem ringDrops_stands : Stands dv (ringDrops s) := by
  unfold ringDrops
  simp +contextual (maxDischargeDepth := 30) [h]
@[simp] theorem spanLegsLow_stands : Stands dv (spanLegsLow s) := by
  unfold spanLegsLow
  refine forAll_stands h _ fun s n hs => ?_
  (repeat' split) <;> simp [hs]
@[simp] theorem ringMoves_stands : Stands dv (ringMoves s) := by
  unfold ringMoves
  simp +contextual (maxDischargeDepth := 30) [h]
@[simp] theorem ringBoundary_stands : Stands dv (ringBoundary s) := by
  unfold ringBoundary
  simp +contextual (maxDischargeDepth := 30) [h]
@[simp] theorem rawWrite_stands (page off : Nat) (v : Word) : Stands dv (rawWrite s page off v) := by
  unfold rawWrite
  dsimp only
  (repeat' split) <;> simp +contextual (maxDischargeDepth := 30) [*]
@[simp] theorem reportCause_stands (cause cap : Nat) : Stands dv (reportCause s cause cap) := by
  unfold reportCause
  dsimp only
  (repeat' split) <;> simp +contextual (maxDischargeDepth := 30) [*]
@[simp] theorem State.modCk_stands (c : ClerkIx) (f : ClerkSt → ClerkSt) : Stands dv (State.modCk s c f) := h
@[simp] theorem ckRunBit_stands (c : ClerkIx) : Stands dv (ckRunBit s c) := by
  unfold ckRunBit
  simp +contextual (maxDischargeDepth := 30) [h]
@[simp] theorem ckBoundary_stands (c : ClerkIx) : Stands dv (ckBoundary s c) := by
  unfold ckBoundary
  simp +contextual (maxDischargeDepth := 30) [h]
@[simp] theorem eqPop_stands : Stands dv (eqPop s) := by
  unfold eqPop
  simp +contextual (maxDischargeDepth := 30) [h]
@[simp] theorem pbEnter_stands (r : PbReq) : Stands dv (pbEnter s r) := by
  unfold pbEnter
  dsimp only
  (repeat' split) <;> simp +contextual (maxDischargeDepth := 30) [*]
@[simp] theorem State.modSpi_stands (f : SpiSt → SpiSt) : Stands dv (State.modSpi s f) := h
@[simp] theorem spiCntClr_stands : Stands dv (spiCntClr s) := by
  unfold spiCntClr
  simp +contextual (maxDischargeDepth := 30) [h]
@[simp] theorem State.modTwm_stands (f : TwmSt → TwmSt) : Stands dv (State.modTwm s f) := h
@[simp] theorem twmCntClr_stands : Stands dv (twmCntClr s) := by
  unfold twmCntClr
  simp +contextual (maxDischargeDepth := 30) [h]
@[simp] theorem pinsBoundary_stands : Stands dv (pinsBoundary s) := by
  unfold pinsBoundary
  simp +contextual (maxDischargeDepth := 30) [h]
@[simp] theorem pbGo_stands : Stands dv (pbGo s) := by
  unfold pbGo
  simp +contextual (maxDischargeDepth := 30) [h]
@[simp] theorem clearSelf_stands (r : Nat × Nat) : Stands dv (clearSelf s r) := by
  unfold clearSelf
  simp +contextual (maxDischargeDepth := 30) [h]
@[simp] theorem larCtrl_stands (w : Word) : Stands dv (larCtrl s w) := by
  unfold larCtrl
  simp +contextual (maxDischargeDepth := 30) [h]
@[simp] theorem storeCmd_stands (w : Word) : Stands dv (storeCmd s w) := by
  unfold storeCmd
  (repeat' split) <;> simp [h]
@[simp] theorem calCmd_stands (w : Word) : Stands dv (calCmd s w) := by
  unfold calCmd
  simp +contextual (maxDischargeDepth := 30) [h]
@[simp] theorem sysCmd_stands (i : Slice) (w : Word) : Stands dv (sysCmd s i w) := by
  unfold sysCmd
  simp +contextual (maxDischargeDepth := 30) [h]
@[simp] theorem axCmd_stands (w : Word) : Stands dv (axCmd s w) := by
  unfold axCmd
  simp +contextual (maxDischargeDepth := 30) [h]
@[simp] theorem eqCtrl_stands (w : Word) : Stands dv (eqCtrl s w) := by
  unfold eqCtrl
  simp +contextual (maxDischargeDepth := 30) [h]
@[simp] theorem slCtrl_stands (i : Slice) (w : Word) : Stands dv (slCtrl s i w) := by
  unfold slCtrl
  simp +contextual (maxDischargeDepth := 30) [h]
@[simp] theorem rgCtrl_stands (w : Word) : Stands dv (rgCtrl s w) := by
  unfold rgCtrl
  simp +contextual (maxDischargeDepth := 30) [h]
@[simp] theorem hook_stands (old : State) (r : Nat × Nat) : Stands dv (hook old s r) := by
  unfold hook
  dsimp only
  (repeat' split) <;> simp +contextual (maxDischargeDepth := 30) [*]
@[simp] theorem hookUnfence_stands (r : Nat × Nat) : Stands dv (hookUnfence s r) := by
  unfold hookUnfence
  simp +contextual (maxDischargeDepth := 30) [h]
@[simp] theorem hookAppend_stands (l : List (Nat × Nat)) : Stands dv (hookAppend s l) := by
  unfold hookAppend
  simp +contextual (maxDischargeDepth := 30) [h]
@[simp] theorem hookGo_stands (l : List (Nat × Nat)) : Stands dv (hookGo s l) := by
  unfold hookGo
  simp +contextual (maxDischargeDepth := 30) [h]
@[simp] theorem hookUnits_stands (old : State) (l : List (Nat × Nat)) : Stands dv (hookUnits old s l) := by
  unfold hookUnits
  simp +contextual (maxDischargeDepth := 30) [h]
@[simp] theorem faultWrites_stands (ws : List StagedWrite) : Stands dv (faultWrites s ws) := by
  unfold faultWrites
  simp +contextual (maxDischargeDepth := 30) [h]
@[simp] theorem pulseTick_stands (l : LoopIx) : Stands dv (pulseTick s l) := by
  unfold pulseTick
  simp +contextual (maxDischargeDepth := 30) [h]
@[simp] theorem checkpointed_stands : Stands dv (checkpointed s) := by
  unfold checkpointed
  simp +contextual (maxDischargeDepth := 30) [h]
@[simp] theorem lines_stands : Stands dv (lines s) := by
  unfold lines
  simp +contextual (maxDischargeDepth := 30) [h]
@[simp] theorem tlCopy_stands : Stands dv (tlCopy s) := by
  unfold tlCopy
  simp +contextual (maxDischargeDepth := 30) [h]
@[simp] theorem tlWake_stands (e : Nat) (n : TallyIx) : Stands dv (tlWake e s n) := by
  unfold tlWake
  simp +contextual (maxDischargeDepth := 30) [h]
@[simp] theorem txnRetarget_stands : Stands dv (txnRetarget s) := h
@[simp] theorem cntLWrite_stands (n : TallyIx) (v : Word) : Stands dv (cntLWrite s n v) := h
@[simp] theorem cmpLWrite_stands (n : TallyIx) (v : Word) : Stands dv (cmpLWrite s n v) := h
@[simp] theorem cntHWrite_stands (n : TallyIx) (w : TallyLoad) : Stands dv (cntHWrite s n w) := by
  unfold cntHWrite
  simp (maxDischargeDepth := 30) [h]
@[simp] theorem cmpHWrite_stands (n : TallyIx) (w : TallyLoad) : Stands dv (cmpHWrite s n w) := by
  unfold cmpHWrite
  simp (maxDischargeDepth := 30) [h]
@[simp] theorem portConfigWrite_stands (page off : Nat) (v : Word) : Stands dv (portConfigWrite s page off v) := by
  unfold portConfigWrite
  simp (maxDischargeDepth := 30) [h]
@[simp] theorem loadWrite_stands (w : StagedWrite) : Stands dv (loadWrite s w) := by
  unfold loadWrite
  (repeat' split) <;> simp [h]
@[simp] theorem hookAppends_stands (l : List (Nat × Nat)) : Stands dv (hookAppends s l) := by
  unfold hookAppends
  simp (maxDischargeDepth := 30) [h]
@[simp] theorem bootRecord_stands : Stands dv (bootRecord s) := ledgerPut_stands h _
@[simp] theorem calLeg_stands (r : List Word) (n : Leg) : Stands dv (calLeg r s n) := by
  unfold calLeg set_L_TRIM_TRIM
  simp (maxDischargeDepth := 30) [h]
@[simp] theorem calSource_stands (r : List Word) (i : Src) : Stands dv (calSource r s i) := by
  unfold calSource
  simp (maxDischargeDepth := 30) [h]
@[simp] theorem calRingLine_stands (r : List Word) : Stands dv (calRingLine r s) := by
  unfold calRingLine set_CAL_RING_CELLS
  simp (maxDischargeDepth := 30) [h]
@[simp] theorem bootCal_stands : Stands dv (bootCal s) := by
  unfold bootCal
  split <;> simp +contextual (maxDischargeDepth := 30) [h]
@[simp] theorem bootCalTrains_stands (ok : Vector Bool 24) : Stands dv (bootCalTrains ok s) := h
@[simp] theorem bootList_stands (c : ClerkIx) : Stands dv (bootList s c) := by
  unfold bootList
  split <;> simp +contextual (maxDischargeDepth := 30) [h]
@[simp] theorem bootLedger_stands : Stands dv (bootLedger s) := h
end
end Sys2Proof.Machine

/-! PROOFS. Sleep and wake -/

namespace Sys2Proof.Machine

/-! ### What the entry of SLEEP leaves low (R520) -/

section
variable {s : State} {n : Leg} (h : OutputsLow s n)
include h

theorem evt_low (page b : Nat) : OutputsLow (s.evt page b) n := h.of_hw (by rw [State.evt_x])

theorem setDev_low (d : DevState) : OutputsLow (setDev s d) n := by
  obtain ⟨r, hx⟩ := setDev_x s d
  exact h.of_hw (by rw [hx])

theorem bgCancel_low : OutputsLow (bgCancel s) n := by
  unfold bgCancel bgRelease
  dsimp only
  (repeat' split) <;> exact h

theorem calAbortWith_low (cause : Nat) : OutputsLow (calAbortWith s cause) n := by
  unfold calAbortWith calEnd set_CAL_CMD_KIND
  refine evt_low ?_ _ _
  exact h.of_hw (by rw [State.setReg_x]; rfl)

theorem adopt_low (a : Nat) (mask : Word) : OutputsLow (adopt s a mask) n := h

theorem adoptCells_low : OutputsLow (adoptCells s) n := h.of_hw (by rw [adoptCells, State.modCal_x])

theorem adoptPending_low : OutputsLow (adoptPending s) n := by
  unfold adoptPending
  extract_lets cells trains legs
  have hcells : OutputsLow cells n := adoptCells_low h
  have htrains : OutputsLow trains n := forAll_keeps (P := fun t => OutputsLow t n) hcells fun w k hw => by
    split
    · exact adopt_low hw _ _
    · exact hw
  have hlegs : OutputsLow legs n := forAll_keeps (P := fun t => OutputsLow t n) htrains fun w k hw => by
    split
    · exact adopt_low (adopt_low hw _ _) _ _
    · exact hw
  split
  next map pairs _ =>
    have hpairs : OutputsLow pairs n :=
      adopt_low (List.foldlRecOn (motive := fun t => OutputsLow t n) (List.range 6) _ hlegs fun w hw m _ => adopt_low hw _ _) _ _
    split
    · exact hpairs.raise 0x28 0
    · exact hpairs
  · exact hlegs

theorem setTrain_low (k : Train) (st : TrState) : OutputsLow (setTrain s k st) n := by
  obtain ⟨r, hx⟩ := setTrain_x s k st
  exact h.of_hw (by rw [hx])

theorem trainStart_low (k : Train) : OutputsLow (trainStart s k) n := by
  unfold trainStart
  split
  · exact h
  · split
    · split
      · exact setTrain_low (s := s.modTrain k _) h k .prebias
      · split
        · exact h
        · exact evt_low (s := s.modTrain k _) h _ 7
    · exact h

theorem preloadLoops_low (k : Train) : OutputsLow (preloadLoops s k) n := by
  unfold preloadLoops
  extract_lets p
  refine forAll_keeps (P := fun t => OutputsLow t n) h fun t l ht => ?_
  split
  · refine evt_low ?_ _ 5
    exact ht
  · exact ht

theorem preload_low (k : Train) : OutputsLow (preload s k) n := by
  unfold preload
  split
  · refine preloadLoops_low ?_ k
    exact h
  · exact h

theorem calRelease_low (old : CalSt) : OutputsLow (calRelease old s) n := by
  unfold calRelease calFreeSource
  split
  · exact preload_low (trainStart_low (adoptPending_low h) _) _
  · (repeat' split) <;> exact h

end

/-! ### The entry of SLEEP (R519, R520) -/

theorem setDev_moves (s : State) (d : DevState) :
    (setDev s d).x.dev = d ∧ (setDev s d).x.pwr = s.x.pwr ∧ (setDev s d).x.tick = s.x.tick := by
  obtain ⟨r, hx⟩ := setDev_x s d
  rw [hx]
  exact ⟨rfl, rfl, rfl⟩

/-- The supplies of a device that falls asleep from state d: a wake waits for VBIAS anew, but not one that ends the entry (R522, log entry 50). -/
def fallenAsleep (d : DevState) (v : PwrSt) : PwrSt :=
  { v with stopped := true, pll := false, sleepFrom := d, vbias := v.vbias && v.waking }

/-- The device sleeps, its outputs low and its tick stopped. -/
def asleep (s : State) : State := (setDev (testClose (bgCancel s.allLegsLow)) .sleep).modPwr (fallenAsleep s.x.dev)

/-- A run of tap calibration ends with the entry (R371). -/
def calEnded (s : State) : State := if s.x.cal.kind == 0 then asleep s else calRelease s.x.cal (calAbortWith (asleep s) 2)

theorem execSleepEntry_eq (s : State) :
    execSleepEntry s =
      if !(s.x.pwr.sleeping && working s && s.x.store.op.isNone) then .next s
      else .next { calEnded s with x := { (calEnded s).x with
        tout := Vector.replicate 4 false, alert := { (calEnded s).x.alert with irq := false } } } := rfl

theorem asleep_stands (s : State) : Stands (.sleep, { fallenAsleep s.x.dev s.x.pwr with ref := 0 }) (asleep s) := by
  have hclosed : Stands (s.x.dev, { s.x.pwr with ref := 0 }) (testClose (bgCancel s.allLegsLow)) :=
    testClose_stands (bgCancel_stands (State.allLegsLow_stands (Stands.refl s)))
  obtain ⟨hdev, hpwr, -⟩ := setDev_moves (testClose (bgCancel s.allLegsLow)) .sleep
  exact ⟨hdev, (congrArg (fun v => { fallenAsleep s.x.dev v with ref := 0 }) hpwr).trans (congrArg (fallenAsleep s.x.dev) hclosed.2)⟩

theorem calEnded_stands {dv : DevState × PwrSt} {s : State} (h : Stands dv (asleep s)) : Stands dv (calEnded s) := by
  unfold calEnded
  split
  · exact h
  · exact calRelease_stands (calAbortWith_stands h _) _

theorem asleep_low (s : State) (n : Leg) : OutputsLow (asleep s) n :=
  setDev_low (s := testClose (bgCancel s.allLegsLow)) (bgCancel_low (OutputsLow.allLegsLow s n)) .sleep

theorem calEnded_low (s : State) (n : Leg) : OutputsLow (calEnded s) n := by
  unfold calEnded
  split
  · exact asleep_low s n
  · exact calRelease_low (calAbortWith_low (asleep_low s n) 2) _

theorem sleepEntry_sleeps {s : State} (hsleeping : s.x.pwr.sleeping = true) (hworking : working s = true) (hidle : s.x.store.op = none) :
    ∃ t, exec .sleepEntry s = .next t ∧ t.x.dev = .sleep ∧ t.x.pwr.stopped = true ∧ t.x.pwr.sleepFrom = s.x.dev ∧
      t.x.pwr.vbias = (s.x.pwr.vbias && s.x.pwr.waking) ∧ (∀ n : Leg, OutputsLow t n) ∧ (∀ m : Fin 4, t.x.tout[m] = false) := by
  obtain ⟨hdev, hpwr⟩ := calEnded_stands (asleep_stands s)
  refine ⟨_, (execSleepEntry_eq s).trans (if_neg (by rw [hsleeping, hworking, hidle]; decide)), hdev, congrArg (·.stopped) hpwr,
    congrArg (·.sleepFrom) hpwr, congrArg (·.vbias) hpwr, calEnded_low s, fun m => ?_⟩
  exact Vector.getElem_replicate _

/-! ### Waking (R521 to R523) -/

theorem exec_wake_on {s : State} {w : WakeSource} (hsleep : s.x.dev = .sleep ∨ s.x.pwr.sleeping = true) (hwaking : s.x.pwr.waking = false)
    (hon : wakeOn s w = true) : ∃ t, exec (.wake w) s = .next t ∧ t.x.pwr.waking = true ∧ (t.x.pwr.wakeSrc, t.x.pwr.wakeIx) = wakeCode w ∧
      EvtSet t 0xE0 2 := by
  refine ⟨_, congrArg Host.Outcome.next (if_pos ?_), ?_, ?_, State.evt_same _ 0xE0 2 (by decide)⟩
  · simpa [hwaking, hon] using hsleep
  · rw [State.evt_x]
  · rw [State.evt_x]

theorem exec_wake_off {s : State} {w : WakeSource} (h : wakeOn s w = false ∨ s.x.pwr.waking = true) : exec (.wake w) s = .next s := by
  refine congrArg Host.Outcome.next (if_neg ?_)
  rcases h with hoff | hwaking
  · simp [hoff]
  · simp [hwaking]

theorem exec_wakeVbiasTimeout_of_asleep {s : State} (hdev : s.x.dev = .sleep) (hwaking : s.x.pwr.waking = true) (hvbias : s.x.pwr.vbias = false) :
    ∃ t, exec .wakeVbiasTimeout s = .next t ∧ t.x.dev = .sleep ∧ t.x.pwr.waking = false ∧ EvtSet t 0xE0 1 := by
  refine ⟨_, if_pos (by simp [hdev, hwaking, hvbias]), ?_, ?_, State.evt_same _ 0xE0 1 (by decide)⟩
  · rw [State.evt_x]
    exact hdev
  · rw [State.evt_x]
    rfl

/-- The supplies of a device that runs again after a sleep of x / 30720 ticks. -/
def awake (x : Nat) (v : PwrSt) : PwrSt := { v with
  stopped := false, sleeping := false, waking := false, pll := true, sleeps := satInc 0xFFFF v.sleeps, rem := x % 30720 }

/-- The device is in the state it left, after x / 30720 ticks (R523). -/
def wokenUp (x : Nat) (s : State) : State :=
  ((setDev s s.x.pwr.sleepFrom).modPwr (awake x)).modTick fun t => { t with num := (t.num + x / 30720) % 2 ^ 48 }

theorem wakeRunning_eq (e : Nat) (s : State) : wakeRunning e s = wokenUp (e * 390625 + s.x.pwr.rem) s := rfl

theorem wokenUp_stands (x : Nat) (s : State) : Stands (s.x.pwr.sleepFrom, { awake x s.x.pwr with ref := 0 }) (wokenUp x s) := by
  obtain ⟨hdev, hpwr, -⟩ := setDev_moves s s.x.pwr.sleepFrom
  exact ⟨hdev, congrArg (fun v => { awake x v with ref := 0 }) hpwr⟩

theorem wokenUp_tick (x : Nat) (s : State) :
    (wokenUp x s).x.tick.count = s.x.tick.count ∧ (wokenUp x s).x.tick.num = (s.x.tick.num + x / 30720) % 2 ^ 48 := by
  obtain ⟨-, -, htick⟩ := setDev_moves s s.x.pwr.sleepFrom
  exact ⟨congrArg (·.count) htick, congrArg (fun v : TickSt => (v.num + x / 30720) % 2 ^ 48) htick⟩

theorem wakeCounted_stands {dv : DevState × PwrSt} {s : State} (h : Stands dv s) (e : Nat) : Stands dv (wakeCounted e s) := by
  have hretargeted : Stands dv (txnRetarget { s with x := { s.x with sleepE := e } }) := h
  have htally := forAll_stands (n := 16) hretargeted (tlWake e) fun t n ht => tlWake_stands ht e n
  exact tlTickEdges_stands (forAll_stands (n := 8) (tlCopy_stands htally) ckBoundary fun t c ht => ckBoundary_stands ht c)

theorem tlWake_clocked (p : Nat × Nat × Snap) (e : Nat) (s : State) (n : TallyIx) (h : Clocked p s) : Clocked p (tlWake e s n) := by
  unfold tlWake
  simp +contextual (maxDischargeDepth := 30) [h]

theorem tlCopy_clocked (p : Nat × Nat × Snap) (s : State) (h : Clocked p s) : Clocked p (tlCopy s) := by
  unfold tlCopy
  simp +contextual (maxDischargeDepth := 30) [h]

theorem wakeCounted_clocked (p : Nat × Nat × Snap) (e : Nat) (s : State) (h : Clocked p s) : Clocked p (wakeCounted e s) := by
  have hretargeted : Clocked p (txnRetarget { s with x := { s.x with sleepE := e } }) := h
  have htally := forAll_clocked (n := 16) p (tlWake e) _ hretargeted fun t n ht => tlWake_clocked p e t n ht
  exact tlTickEdges_clocked p _ (forAll_clocked (n := 8) p ckBoundary _ (tlCopy_clocked p _ htally) fun t c ht => ckBoundary_clocked p t c ht)

theorem Clocked.refl (s : State) : Clocked (s.x.tick.count, s.x.tick.num, s.pub) s := ⟨⟨rfl, rfl⟩, rfl, rfl⟩

theorem exec_wakeComplete {s : State} (e : Nat) (hdev : s.x.dev = .sleep) (hwaking : s.x.pwr.waking = true) (hvbias : s.x.pwr.vbias = true) :
    exec (.wakeComplete e) s = .next (pinsBoundary (published (wakeCounted e (wakeRunning e s)))) :=
  (execWakeComplete_eq e s).trans (if_neg (by simp [hdev, hwaking, hvbias]))

/-- The pins and the snapshot move neither the device nor the tick. -/
theorem pinsBoundary_published (s : State) :
    (pinsBoundary (published s)).x.dev = s.x.dev ∧ (pinsBoundary (published s)).x.pwr = s.x.pwr ∧
      (pinsBoundary (published s)).x.tick = s.x.tick := ⟨rfl, rfl, rfl⟩

theorem wakeComplete_runs {s : State} (e : Nat) (hdev : s.x.dev = .sleep) (hwaking : s.x.pwr.waking = true) (hvbias : s.x.pwr.vbias = true) :
    ∃ t, exec (.wakeComplete e) s = .next t ∧ t.x.dev = s.x.pwr.sleepFrom ∧ t.x.pwr.stopped = false ∧ t.x.pwr.waking = false ∧
      t.x.tick.num = (s.x.tick.num + (e * 390625 + s.x.pwr.rem) / 30720) % 2 ^ 48 ∧
      t.x.pwr.rem = (e * 390625 + s.x.pwr.rem) % 30720 ∧ t.x.tick.count = s.x.tick.count := by
  have hexec := exec_wakeComplete e hdev hwaking hvbias
  rw [wakeRunning_eq] at hexec
  generalize e * 390625 + s.x.pwr.rem = x at hexec ⊢
  obtain ⟨hcountWoken, hnumWoken⟩ := wokenUp_tick x s
  obtain ⟨hback, hpwr⟩ := wakeCounted_stands (wokenUp_stands x s) e
  obtain ⟨⟨hcount, hnum⟩, -⟩ := wakeCounted_clocked _ e _ (Clocked.refl (wokenUp x s))
  obtain ⟨hpubDev, hpubPwr, hpubTick⟩ := pinsBoundary_published (wakeCounted e (wokenUp x s))
  refine ⟨_, hexec, ?_⟩
  rw [hpubDev, hpubPwr, hpubTick]
  exact ⟨hback, congrArg (·.stopped) hpwr, congrArg (·.waking) hpwr, hnum.trans hnumWoken, congrArg (·.rem) hpwr,
    hcount.trans hcountWoken⟩

/-- Settles O55: sleep and wake. -/
theorem sleepAndWake : Obligations.SleepAndWake := by
  intro w e s
  exact ⟨sleepEntry_sleeps, exec_wake_on, exec_wake_off, wakeComplete_runs e, exec_wakeVbiasTimeout_of_asleep⟩

end Sys2Proof.Machine

/-! PROOFS. The rails, AUTORUN and the monitors -/

namespace Sys2Proof.Machine

/-! ### The rails fall and rise (R509, R516) -/

theorem keepSticky_x (old s : State) : ∃ r c, (keepSticky old s).x = { s.x with regs := r, col := c } := by
  unfold keepSticky
  dsimp only
  rw [State.modCol_x, State.setReg_x, State.setReg_x]
  exact ⟨_, _, rfl⟩

/-- Nothing is cut off in an array that is idle and not checked. -/
theorem cutCheck_cutOff_of_idle {s : State} (hop : s.x.store.op = none) (hchecks : ∀ k ∈ s.x.checks, k.unit ≠ .store) :
    cutCheck (cutOff s) = s := by
  have hoff : cutOff s = s := by
    unfold cutOff
    dsimp only
    rw [hop]
  rw [hoff]
  refine if_neg ?_
  simpa using hchecks

/-- What is left without the rails: the array and the supplies that stand. -/
def unpowered (s : State) : State :=
  { State.reset with
    pending := s.pending, free := s.free
    x := { State.reset.x with dev := .off, store := { State.reset.x.store with mem := s.x.store.mem }
                              pwr := { State.reset.x.pwr with vstart := false, vbias := s.x.pwr.vbias, supply := s.x.pwr.supply } } }

theorem powerLost_eq (s : State) :
    powerLost s = if (cutCheck (cutOff s)).x.pwr.supply then keepSticky (cutCheck (cutOff s)) (unpowered (cutCheck (cutOff s)))
      else unpowered (cutCheck (cutOff s)) := rfl

theorem powerLost_x (s : State) : ∃ r c, (powerLost s).x = { (unpowered (cutCheck (cutOff s))).x with regs := r, col := c } := by
  rw [powerLost_eq]
  split
  · exact keepSticky_x _ _
  · exact ⟨_, _, rfl⟩

theorem unpowered_low (s : State) (n : Leg) : OutputsLow (unpowered s) n := by
  have hlow : (unpowered s).x.hw[n] = {} := by simp [unpowered, State.reset]
  rw [OutputsLow, hlow]
  exact ⟨rfl, rfl⟩

theorem powerLost_off (s : State) : (powerLost s).x.dev = .off ∧ (∀ n : Leg, OutputsLow (powerLost s) n) ∧
    (s.x.store.op = none → (∀ k ∈ s.x.checks, k.unit ≠ .store) → (powerLost s).x.store.mem = s.x.store.mem) := by
  obtain ⟨r, c, hx⟩ := powerLost_x s
  refine ⟨by rw [hx]; rfl, fun n => (unpowered_low (cutCheck (cutOff s)) n).of_hw (by rw [hx]), fun hop hchecks => ?_⟩
  rw [hx, cutCheck_cutOff_of_idle hop hchecks]
  rfl

section
variable {s : State}

theorem powered_modPwr (h : s.x.dev ≠ .off) (f : PwrSt → PwrSt) : powered (s.modPwr f) = true := by simpa [powered, State.modPwr] using h

theorem exec_powerDown_carried (h : s.x.dev ≠ .off) (hsupply : s.x.pwr.supply = true) (hawake : s.x.dev ≠ .sleep) :
    exec .powerDown s = .next (s.modPwr fun v => { v with vstart := false }) := by
  refine congrArg Host.Outcome.next (if_pos ?_)
  rw [powered_modPwr h]
  simp [State.modPwr, hsupply, hawake]

theorem exec_powerDown_lost (h : s.x.dev ≠ .off) (hlost : s.x.pwr.supply = false ∨ s.x.dev = .sleep) :
    exec .powerDown s = .next (powerLost (s.modPwr fun v => { v with vstart := false })) := by
  refine congrArg Host.Outcome.next (if_neg ?_)
  rw [powered_modPwr h]
  rcases hlost with hsupply | hsleep
  · simp [State.modPwr, hsupply]
  · simp [State.modPwr, hsleep]

theorem exec_vbiasGood_on (h : s.x.dev ≠ .off) :
    exec .vbiasGood s = .next (s.modPwr fun v => { v with vbias := true, supply := true, core := true, io := true }) := by
  have hon : (s.x.dev != .off) = true := bne_iff_ne.mpr h
  refine congrArg Host.Outcome.next (congrArg (State.modPwr s) (funext fun v => ?_))
  rw [hon, Bool.or_true, Bool.or_true]

theorem exec_vbiasGood_off (h : s.x.dev = .off) :
    exec .vbiasGood s = .next (s.modPwr fun v => { v with vbias := true, supply := true }) := by
  have hoff : (s.x.dev != .off) = false := by rw [h]; rfl
  refine congrArg Host.Outcome.next (congrArg (State.modPwr s) (funext fun v => ?_))
  rw [hoff, Bool.or_false, Bool.or_false]

/-! ### AUTORUN (R514) -/

/-- AUTORUN is spent. -/
def autorunSpent (s : State) : State := s.modPwr fun p => { p with autoPend := false }

theorem exec_autorunEntry_due (hdev : s.x.dev = .hold) (hauto : s.x.pwr.autoPend = true) (hage : 834 ≤ s.x.tick.count - s.x.pwr.holdAt)
    (hwait : RG_CFG_WAIT s = false) :
    exec .autorunEntry s = .next (if graveLine (autorunSpent s) then devRefuse (autorunSpent s) 3
      else startTrains (autorunSpent s) (enterRun (autorunSpent s))) :=
  (if_neg (by simp [hdev, hauto, hage])).trans (if_neg (by simp [hwait]))

/-- AUTORUN is no line of the fault word. -/
theorem graveLine_autorunSpent : graveLine (autorunSpent s) = graveLine s := rfl

theorem autorunEntry_runs (hdev : s.x.dev = .hold) (hauto : s.x.pwr.autoPend = true) (hage : 834 ≤ s.x.tick.count - s.x.pwr.holdAt)
    (hwait : RG_CFG_WAIT s = false) (hgrave : graveLine s = false) :
    ∃ t, exec .autorunEntry s = .next t ∧ t.x.dev = .run ∧ t.x.pwr.autoPend = false := by
  refine ⟨_, (exec_autorunEntry_due hdev hauto hage hwait).trans (congrArg Host.Outcome.next (if_neg ?_)), ?_⟩
  · rw [graveLine_autorunSpent, hgrave]
    decide
  · obtain ⟨r, v, b, hstart⟩ := CpMoves.of_startTrains (autorunSpent s) (enterRun (autorunSpent s))
    obtain ⟨q, hrun⟩ := enterRun_x (autorunSpent s)
    rw [hstart, hrun]
    exact ⟨rfl, rfl⟩

theorem autorunEntry_refused (hdev : s.x.dev = .hold) (hauto : s.x.pwr.autoPend = true) (hage : 834 ≤ s.x.tick.count - s.x.pwr.holdAt)
    (hwait : RG_CFG_WAIT s = false) (hgrave : graveLine s = true) :
    exec .autorunEntry s = .next (s.modPwr fun p => { p with autoPend := false, refused := true, refCause := 3 }) :=
  (exec_autorunEntry_due hdev hauto hage hwait).trans (congrArg Host.Outcome.next (if_pos hgrave))

end

/-! ### The monitors (R510, R518) -/

/-- The state once the monitor of a rail has tripped, before its error: a rail that is low no longer reads good. -/
def railTripped (s : State) (i : Fin 5) : State :=
  match i with
  | 0 => s.modPwr fun v => { v with vbias := false }
  | 2 => s.modPwr fun v => { v with core := false }
  | 3 => s.modPwr fun v => { v with io := false }
  | _ => s

theorem railTripped_reg (s : State) (i : Fin 5) (a : Nat) : (railTripped s i).reg a = s.reg a := by
  unfold railTripped
  split <;> rfl

section
variable {s : State} (h : s.x.dev ≠ .off)
include h

theorem notPowered_false : (!powered s) = false := by simpa [powered] using h

theorem supplyMonitorTrip_raises (i : Fin 5) :
    ∃ t, exec (.supplyMonitorTrip i) s = .next t ∧ ErrSet t 0xE0 (2 + i.val) ∧ ∀ a, a ≠ a_PG_ERR 0xE0 → t.reg a = s.reg a := by
  have hexec : exec (.supplyMonitorTrip i) s = .next (raise (railTripped s i) 0xE0 (2 + i.val)) :=
    if_neg (by rw [notPowered_false h]; decide)
  obtain ⟨hset, hothers, -⟩ := raise_only (railTripped s i) 0xE0 (2 + i.val) (by omega)
  exact ⟨_, hexec, hset, fun a ha => (hothers a ha).trans (railTripped_reg s i a)⟩

theorem pllTrip_raises : ∃ t, exec (.clockMonitorTrip true) s = .next t ∧ ErrSet t 0xE0 1 ∧ t.x.pwr.pll = false := by
  have hexec : exec (.clockMonitorTrip true) s = .next (raise (s.modPwr fun v => { v with pll := false }) 0xE0 1) :=
    (if_neg (by rw [notPowered_false h]; decide)).trans (if_pos rfl)
  refine ⟨_, hexec, raise_same _ 0xE0 1 (by decide), ?_⟩
  rw [raise_x]
  rfl

theorem exec_refTrip : exec (.clockMonitorTrip false) s = .next (if s.x.ring.state = .holdover then s else raise s 0xE0 0) := by
  refine (if_neg (by rw [notPowered_false h]; decide)).trans ((if_neg (by decide)).trans ?_)
  split <;> rfl

theorem refTrip_raises (hring : s.x.ring.state ≠ .holdover) : ∃ t, exec (.clockMonitorTrip false) s = .next t ∧ OnlyRaised s t 0xE0 0 :=
  ⟨_, (exec_refTrip h).trans (congrArg Host.Outcome.next (if_neg hring)), raise_only s 0xE0 0 (by decide)⟩

theorem refTrip_of_holdover (hring : s.x.ring.state = .holdover) : exec (.clockMonitorTrip false) s = .next s :=
  (exec_refTrip h).trans (congrArg Host.Outcome.next (if_pos hring))

theorem slowClockFail_noted :
    ∃ t, exec .slowClockFail s = .next t ∧ EvtSet t 0xE0 0 ∧ t.x.pwr.slowRc = true ∧ ∀ a, a ≠ addr 0xE0 6 → t.reg a = s.reg a := by
  have hexec : exec .slowClockFail s = .next ((s.modPwr fun v => { v with slowRc := true }).evt 0xE0 0) :=
    if_neg (by rw [notPowered_false h]; decide)
  refine ⟨_, hexec, State.evt_same _ 0xE0 0 (by decide), ?_, fun a ha => State.evt_other _ _ _ a ha⟩
  rw [State.evt_x]
  rfl

end

theorem monitors : Claims.Monitors := fun i _ h =>
  ⟨supplyMonitorTrip_raises h i, pllTrip_raises h, refTrip_raises h, refTrip_of_holdover h, slowClockFail_noted h⟩

end Sys2Proof.Machine

/-! PROOFS. The sequence of BOOT -/

namespace Sys2Proof.Machine

/-! ### A load leaves the device in HOLD or begins BOOT again (R512, R513, R515) -/

/-- The device holds, or its image began BOOT again. -/
def HoldsOrBoots (s : State) : Prop := s.x.dev = .hold ∨ s.x.dev = .boot

theorem HoldsOrBoots.of_stands {s t : State} (h : HoldsOrBoots s) (ht : Stands (s.x.dev, { s.x.pwr with ref := 0 }) t) : HoldsOrBoots t := by
  unfold HoldsOrBoots
  rw [ht.1]
  exact h

theorem sampleStraps_dev (s : State) : (sampleStraps s).x.dev = s.x.dev := by
  unfold sampleStraps set_RG_CFG_POS enablesToStraps set_SRC_CTRL_EN
  dsimp only
  rw [State.setReg_x]
  dsimp only
  rw [State.setReg_x]

/-- The reset values, with what a reset of the device keeps (R516). -/
def afterReset (s : State) (cause : Nat) : State :=
  { State.reset with
    pending := s.pending, free := s.free
    x := { State.reset.x with
      dev := .boot
      store := { State.reset.x.store with mem := s.x.store.mem }
      larder := { State.reset.x.larder with recs := s.x.larder.recs.map fun v => { v with old := true } }
      pwr := { State.reset.x.pwr with
        straps := s.x.pwr.straps, vstart := s.x.pwr.vstart, vbias := s.x.pwr.vbias, supply := s.x.pwr.supply
        core := true, io := true, rstCause := cause } } }

theorem deviceReset_x (s : State) (cause : Nat) :
    (deviceReset s cause).x = (sampleStraps (keepSticky (cutCheck (cutOff s)) (afterReset (cutCheck (cutOff s)) cause))).x := rfl

theorem deviceReset_dev (s : State) (cause : Nat) : (deviceReset s cause).x.dev = .boot := by
  obtain ⟨r, c, hx⟩ := keepSticky_x (cutCheck (cutOff s)) (afterReset (cutCheck (cutOff s)) cause)
  rw [deviceReset_x, sampleStraps_dev, hx]
  rfl

section
variable {s : State}

/-- Without a configuration a command of the device in HOLD is refused, begins an entry to SLEEP or resets the device. -/
theorem hookDevice_holdsOrBoots (hdev : s.x.dev = .hold) (hconf : s.x.pwr.conf = false) (l : List (Nat × Nat)) : HoldsOrBoots (hookDevice s l) := by
  have hrun : devRun s = devRefuse s 2 := by simp [devRun, hdev, hconf]
  have hhold : devHold s = devRefuse s 1 := by simp [devHold, hdev]
  unfold hookDevice
  split
  · exact .inl hdev
  · split
    · rw [hrun]
      exact .inl hdev
    · rw [hhold]
      exact .inl hdev
    · refine .inl ?_
      unfold devSleep
      dsimp only
      (repeat' split) <;> exact hdev
    · unfold devReset
      split
      · exact .inr (deviceReset_dev s 4)
      · exact .inl hdev
    · exact .inl hdev

theorem loadUnit_holdsOrBoots (hdev : s.x.dev = .hold) (hconf : s.x.pwr.conf = false) (ws : List StagedWrite) :
    HoldsOrBoots (loadUnit s ws).1 := by
  unfold loadUnit
  split
  · exact .of_stands (.inl hdev) (reportCause_stands (Stands.refl s) _ _)
  · dsimp only
    have hhooked : Stands (s.x.dev, { s.x.pwr with ref := 0 }) (hookAppends (hookUnits s (ws.foldl loadWrite s) (written ws)) (written ws)) :=
      hookAppends_stands (hookUnits_stands (foldl_stands (Stands.refl s) ws loadWrite fun t w ht => loadWrite_stands ht w) s _) _
    generalize hookAppends (hookUnits s (ws.foldl loadWrite s) (written ws)) (written ws) = u at hhooked ⊢
    obtain ⟨hdevu, hpwru⟩ := hhooked
    have hdevice := hookDevice_holdsOrBoots (hdevu.trans hdev) ((congrArg (·.conf) hpwru).trans hconf) (written ws)
    split
    · exact hdevice
    · exact hdevice.of_stands (faultWrites_stands (foldl_stands (Stands.refl _) _ clearSelf fun t w ht => clearSelf_stands ht w) ws)

theorem tryBank_holdsOrBoots (hdev : s.x.dev = .hold) (hconf : s.x.pwr.conf = false) (b : Bool) (r : List Word) : HoldsOrBoots (tryBank s b r) := by
  have hload := loadUnit_holdsOrBoots hdev hconf (entryWrites s (imageEntries s r))
  unfold tryBank
  generalize loadUnit s (entryWrites s (imageEntries s r)) = res at hload ⊢
  obtain ⟨t, ok⟩ := res
  cases ok with
  | true =>
    dsimp only
    split <;> exact hload
  | false => exact hload.of_stands (raise_stands (Stands.refl t) 0x00 1)

theorem bootConfig_holdsOrBoots (hdev : s.x.dev = .hold) : HoldsOrBoots (bootConfig s) := by
  unfold bootConfig
  extract_lets m a b l order counted tried
  have htried : HoldsOrBoots tried := by
    refine List.foldlRecOn (motive := HoldsOrBoots) order _ (.inl hdev) fun t ht c _ => ?_
    split
    · exact ht
    next hgo =>
      have hopen : t.x.pwr.conf = false ∧ t.x.dev ≠ .boot := by simpa using hgo
      obtain ⟨hconf, hboot⟩ := hopen
      exact tryBank_holdsOrBoots (ht.resolve_right hboot) hconf c.1 c.2
  clear_value tried
  split
  · exact htried.of_stands (bootRecord_stands (Stands.refl tried))
  · exact htried

/-- Without a valid bank nothing is loaded. -/
theorem bootConfig_noBank {dv : DevState × PwrSt} (h : Stands dv s) (ha : bankImage s.x.store.mem false = none)
    (hb : bankImage s.x.store.mem true = none) : Stands dv (bootConfig s) := by
  unfold bootConfig
  dsimp only
  rw [ha, hb]
  dsimp only [Option.map_none, Option.toList_none, List.nil_append, List.foldl_nil]
  exact stands_ite (bootRecord_stands (modStore_stands h _)) _ (modStore_stands h _)

theorem Stands.dev {d : DevState} {v : PwrSt} (h : Stands (d, v) s) : s.x.dev = d := h.1

theorem Stands.conf {d : DevState} {v : PwrSt} (h : Stands (d, { v with ref := 0 }) s) : s.x.pwr.conf = v.conf := congrArg (·.conf) h.2

/-! ### The sequence of BOOT (R512) -/

theorem rawWrite_mem (s : State) (page off : Nat) (v : Word) : (rawWrite s page off v).x.store.mem = s.x.store.mem := by
  unfold rawWrite
  dsimp only
  split
  · rfl
  · split
    · rfl
    · split
      · rfl
      · rfl
      · rw [State.setReg_x]

theorem calLeg_mem (r : List Word) (s : State) (n : Leg) : (calLeg r s n).x.store.mem = s.x.store.mem := by
  unfold calLeg set_L_TRIM_TRIM
  dsimp only
  split
  · rw [State.modCal_x, State.setReg_x, State.setReg_x, State.setReg_x]
  · rfl

theorem calSource_mem (r : List Word) (s : State) (i : Src) : (calSource r s i).x.store.mem = s.x.store.mem := by
  unfold calSource
  dsimp only
  split
  · rw [State.modCal_x, State.setReg_x]
  · rfl

theorem calRingLine_mem (r : List Word) (s : State) : (calRingLine r s).x.store.mem = s.x.store.mem := by
  unfold calRingLine set_CAL_RING_CELLS
  dsimp only
  split
  · rw [State.modCal_x, State.setReg_x]
  · rfl

theorem bootCal_mem (s : State) : (bootCal s).x.store.mem = s.x.store.mem := by
  unfold bootCal
  split
  · rw [raise_x]
  · dsimp only
    refine (calRingLine_mem _ _).trans ?_
    refine forAll_keeps (P := fun t => t.x.store.mem = s.x.store.mem) ?_ fun t i ht => (calSource_mem _ t i).trans ht
    exact forAll_keeps (P := fun t => t.x.store.mem = s.x.store.mem) rfl fun t n ht => (calLeg_mem _ t n).trans ht

theorem bootList_mem (s : State) (c : ClerkIx) : (bootList s c).x.store.mem = s.x.store.mem := by
  unfold bootList
  split
  · rfl
  · exact List.foldlRecOn (motive := fun t => t.x.store.mem = s.x.store.mem) _ _ rfl fun t ht w _ => (rawWrite_mem t _ _ _).trans ht

end

/-- The supplies of a device that enters HOLD from BOOT. -/
def booted (v : PwrSt) : PwrSt := { v with core := true, io := true, pll := true, stopped := false, holdAt := 0 }

/-- The device enters HOLD from BOOT. -/
def holding (s : State) : State := (setDev s .hold).modPwr booted

theorem holding_stands {d : DevState} {v : PwrSt} {s : State} (h : Stands (d, { v with ref := 0 }) s) :
    Stands (.hold, { booted v with ref := 0 }) (holding s) := by
  obtain ⟨hdev, hpwr, -⟩ := setDev_moves s .hold
  exact ⟨hdev, (congrArg (fun v => { booted v with ref := 0 }) hpwr).trans (congrArg booted h.2)⟩

theorem holding_mem (s : State) : (holding s).x.store.mem = s.x.store.mem := by
  obtain ⟨r, hx⟩ := setDev_x s .hold
  unfold holding
  rw [State.modPwr_x, hx]

theorem bootLedger_mem (s : State) : (bootLedger s).x.store.mem = s.x.store.mem := by
  unfold bootLedger
  dsimp only
  rw [State.modStore_x]

/-- The device in HOLD, its records read, before the configuration load. -/
def recordsRead (s : State) : State := holding (bootLedger ((List.finRange 8).foldl bootList (bootCal s)))

theorem bootSteps_eq (s : State) :
    bootSteps s = if (bootConfig (recordsRead s)).x.dev = .boot then bootConfig (recordsRead s)
      else firstTick (bootCalTrains (bootCal s).x.cal.legOk (adoptPending (bootConfig (recordsRead s)))) := by
  unfold bootSteps recordsRead holding booted
  rfl

theorem recordsRead_mem (s : State) : (recordsRead s).x.store.mem = s.x.store.mem := by
  have hlists : ((List.finRange 8).foldl bootList (bootCal s)).x.store.mem = s.x.store.mem :=
    List.foldlRecOn (motive := fun t => t.x.store.mem = s.x.store.mem) _ _ (bootCal_mem s) fun t ht c _ => (bootList_mem t c).trans ht
  exact (holding_mem _).trans ((bootLedger_mem _).trans hlists)

theorem recordsRead_stands (s : State) : Stands (.hold, { booted s.x.pwr with ref := 0 }) (recordsRead s) :=
  holding_stands (bootLedger_stands (foldl_stands (bootCal_stands (Stands.refl s)) _ bootList fun _ c ht => bootList_stands ht c))

/-- What is loaded is in force, before the first snapshot. -/
def ticked (s : State) : State :=
  lines (ringBoundary (forAll (n := 16) (larderBoundary (forAll (n := 8) (checkpointed
    (forAll (n := 4) (srcBoundary (adoptPending s)) fun s p => batPin s p)) ckBoundary)) tlBoundary))

/-- What stands is the checkpoint. -/
def firstCheckpoint (s : State) : State := { s with ck := s.cp }

theorem firstTick_eq (s : State) : firstTick s = firstCheckpoint (pinsBoundary (published (ticked s))) := by
  unfold firstTick ticked published firstCheckpoint
  rfl

theorem ticked_stands {dv : DevState × PwrSt} {s : State} (h : Stands dv s) : Stands dv (ticked s) := by
  unfold ticked
  simp +contextual (maxDischargeDepth := 30) [h]

theorem published_stands {dv : DevState × PwrSt} {s : State} (h : Stands dv s) : Stands dv (published s) := h

theorem firstCheckpoint_stands {dv : DevState × PwrSt} {s : State} (h : Stands dv s) : Stands dv (firstCheckpoint s) := h

theorem firstTick_stands {dv : DevState × PwrSt} {s : State} (h : Stands dv s) : Stands dv (firstTick s) := by
  rw [firstTick_eq]
  exact firstCheckpoint_stands (pinsBoundary_stands (published_stands (ticked_stands h)))

/-- The first snapshot and the first checkpoint are what stands then. -/
theorem firstCheckpoint_published (s : State) :
    (firstCheckpoint (pinsBoundary (published s))).pub.cp = (firstCheckpoint (pinsBoundary (published s))).cp ∧
      (firstCheckpoint (pinsBoundary (published s))).ck = (firstCheckpoint (pinsBoundary (published s))).cp := ⟨rfl, rfl⟩

theorem firstTick_published (s : State) : (firstTick s).pub.cp = (firstTick s).cp ∧ (firstTick s).ck = (firstTick s).cp := by
  rw [firstTick_eq]
  exact firstCheckpoint_published (ticked s)

section
variable {s : State}

theorem exec_bootComplete (hdev : s.x.dev = .boot) (hvbias : s.x.pwr.vbias = true) : exec .bootComplete s = .next (bootSteps s) :=
  if_pos (by simp [hdev, hvbias])

theorem exec_bootComplete_unsupplied (hvbias : s.x.pwr.vbias = false) : exec .bootComplete s = .next s :=
  if_neg (by simp [hvbias])

/-- The state before the first cycle 0 of HOLD, its configuration loaded. -/
def loaded (s : State) : State := bootCalTrains (bootCal s).x.cal.legOk (adoptPending (bootConfig (recordsRead s)))

theorem loaded_stands {dv : DevState × PwrSt} (h : Stands dv (bootConfig (recordsRead s))) : Stands dv (loaded s) :=
  bootCalTrains_stands (adoptPending_stands h) _

theorem bootSteps_again (h : (bootConfig (recordsRead s)).x.dev = .boot) : bootSteps s = bootConfig (recordsRead s) :=
  (bootSteps_eq s).trans (if_pos h)

theorem bootSteps_done (h : (bootConfig (recordsRead s)).x.dev ≠ .boot) : bootSteps s = firstTick (loaded s) :=
  (bootSteps_eq s).trans (if_neg h)

theorem bootSteps_hold (h : (bootSteps s).x.dev ≠ .boot) :
    (bootSteps s).x.dev = .hold ∧ (bootSteps s).pub.cp = (bootSteps s).cp ∧ (bootSteps s).ck = (bootSteps s).cp := by
  by_cases hagain : (bootConfig (recordsRead s)).x.dev = .boot
  · rw [bootSteps_again hagain] at h
    exact absurd hagain h
  · obtain ⟨hpub, hck⟩ := firstTick_published (loaded s)
    have hhold := (bootConfig_holdsOrBoots (recordsRead_stands s).dev).resolve_right hagain
    rw [bootSteps_done hagain]
    have hticked := firstTick_stands (loaded_stands (Stands.refl (bootConfig (recordsRead s))))
    exact ⟨hticked.dev.trans hhold, hpub, hck⟩

theorem bootSteps_noBank (ha : bankImage s.x.store.mem false = none) (hb : bankImage s.x.store.mem true = none) :
    (bootSteps s).x.dev = .hold ∧ (bootSteps s).x.pwr.conf = s.x.pwr.conf := by
  have hconfig := bootConfig_noBank (recordsRead_stands s) (by rw [recordsRead_mem]; exact ha) (by rw [recordsRead_mem]; exact hb)
  have hticked := firstTick_stands (loaded_stands hconfig)
  rw [bootSteps_done (by rw [hconfig.dev]; decide)]
  exact ⟨hticked.dev, hticked.conf⟩

end

theorem supplyAndBoot : Claims.SupplyAndBoot := fun _ =>
  ⟨exec_powerDown_carried, fun h hlost => ⟨_, exec_powerDown_lost h hlost, powerLost_off _⟩, exec_vbiasGood_on, exec_vbiasGood_off,
    fun hdev hvbias => ⟨_, exec_bootComplete hdev hvbias, bootSteps_hold, bootSteps_noBank⟩,
    fun _ hvbias => exec_bootComplete_unsupplied hvbias,
    fun hdev hauto hage hwait => ⟨autorunEntry_runs hdev hauto hage hwait, autorunEntry_refused hdev hauto hage hwait⟩⟩

/-- Settles O54: supplies, boot, AUTORUN and the monitors. -/
theorem supplyBootMonitors : Obligations.SupplyBootMonitors := ⟨supplyAndBoot, monitors⟩

end Sys2Proof.Machine
